-- ==== Sys2Proof/Word.lean ====
section
/-!
DEFINITION. The word types of the FLC-6408 model and their plainest arithmetic: bytes, cell time, and
fixed-length tables read and written by index.
Registers that software reads as packed words are encoded to bytes by Machine/Operands.lean; inside the
machine a quantity is an Int or a Nat whose width stands in its field's docstring, because every rule of
the manual evaluates it exactly and narrows it once (R52, R121, R161).
-/
namespace Sys2Proof

/-- One byte of a frame, payload or register. -/
abbrev Byte := BitVec 8

/-- A string of bytes, byte 0 first (R4: multi-byte fields are little-endian). -/
abbrev Bytes := List Byte

/-- Cell time in units of 1/64 ns, the resolved fraction of R37. -/
abbrev Time := Nat

/-- Read entry `i` of a fixed table; the default value stands outside it. -/
def vrd {α : Type} {n : Nat} [Inhabited α] (v : Vector α n) (i : Nat) : α :=
  v.toArray.toList.getD i default

/-- Write entry `i` of a fixed table; outside it nothing changes. -/
def vwr {α : Type} {n : Nat} (v : Vector α n) (i : Nat) (x : α) : Vector α n :=
  v.setIfInBounds i x

/-- Change entry `i` of a fixed table by `f`. -/
def vmd {α : Type} {n : Nat} [Inhabited α] (v : Vector α n) (i : Nat) (f : α → α) : Vector α n :=
  vwr v i (f (vrd v i))

/-- Apply `f` to every entry of a list with its position, counted from `k`. -/
def mapFrom {α β : Type} (f : Nat → α → β) : Nat → List α → List β
  | _, [] => []
  | k, x :: xs => f k x :: mapFrom f (k + 1) xs

theorem length_mapFrom {α β : Type} (f : Nat → α → β) (k : Nat) (l : List α) :
    (mapFrom f k l).length = l.length := by
  induction l generalizing k with
  | nil => rfl
  | cons x xs ih => simp [mapFrom, ih]

/-- Apply `f` to every entry of a fixed table with its index. -/
def vmapI {α : Type} {n : Nat} (v : Vector α n) (f : Nat → α → α) : Vector α n :=
  ⟨⟨mapFrom f 0 v.toArray.toList⟩, by
    rw [List.size_toArray, length_mapFrom]
    exact v.size_toArray⟩

/-- The entries of a fixed table in order. -/
def vlist {α : Type} {n : Nat} (v : Vector α n) : List α := v.toArray.toList

/-- Read a list at a position; the default value stands beyond its end. -/
def lget {α : Type} [Inhabited α] (l : List α) (i : Nat) : α := l.getD i default

/-- The bytes of a natural number, least significant first, `n` of them (R4). -/
def leBytes : Nat → Nat → Bytes
  | 0, _ => []
  | n + 1, v => BitVec.ofNat 8 v :: leBytes n (v / 256)

/-- The number whose little-endian bytes are given (R4). -/
def ofLe : Bytes → Nat
  | [] => 0
  | b :: bs => b.toNat + 256 * ofLe bs

/-- `n` bytes from offset `o`, or as many as there are. -/
def slice (b : Bytes) (o n : Nat) : Bytes := (b.drop o).take n

/-- The unsigned little-endian field of `n` bytes at offset `o`. -/
def uAt (b : Bytes) (o n : Nat) : Nat := ofLe (slice b o n)

/-- Two's complement reading of the low `w` bits of `v`. -/
def toSigned (w v : Nat) : Int :=
  if v % 2 ^ w < 2 ^ (w - 1) then (v % 2 ^ w : Nat) else (v % 2 ^ w : Nat) - (2 : Int) ^ w

/-- Two's complement encoding of `v` in `w` bits. -/
def ofSigned (w : Nat) (v : Int) : Nat := (v % (2 : Int) ^ w).toNat

/-- The signed little-endian field of `n` bytes at offset `o`. -/
def sAt (b : Bytes) (o n : Nat) : Int := toSigned (8 * n) (uAt b o n)

/-- A Boolean as a bit. -/
def bit (b : Bool) : Nat := if b then 1 else 0

end Sys2Proof
end

