-- ==== Sys2Proof/Syntax.lean ====
section
/-!
DEFINITION. The commands of the FLC-6408: one constructor for each row of spec/opcode_table.json, in its order, those
with operands first (Lean compiles at most 245 constructors with fields, and these come to 218). Each docstring names
the row and the rules the row cites. An operand `ch` is the mailbox channel a host command comes from; `t` is a stamp
in cell time, 1/64 ns; the other operands are the fields of the command's table, or what the outside world brings with
the event.
-/
namespace Sys2Proof

/-- An edge of a pin: its instant and its direction. -/
structure PinEdge where
  at_ : Nat
  rising : Bool
  deriving DecidableEq, Repr

/-- The copy a Mirror record belongs to: its cycle, and the stamp at which its last byte came (14 R403, R404). -/
structure CopyRx where
  cycle : Nat
  at_ : Nat
  deriving DecidableEq, Repr

/-- A command, by its row. -/
inductive Instr where
  /-- CONTROL_CYCLE_EVENT (R14). `late` lists the axes whose lanes acknowledged a staged change at or after the control-cycle start. -/
  | controlCycleEvent (late : List Nat)
  /-- PLAN_PERIOD_EVENT (R18). -/
  | planPeriodEvent (arm : Nat)
  /-- OUTBOUND_LAUNCH (R285). `missed` lists the axes whose current loop missed this deadline. -/
  | outboundLaunch (missed : List Nat)
  /-- LATCH (R16). `overrun` lists the axes whose position and velocity loops missed this deadline. -/
  | latch (overrun : List Nat)
  /-- SSM_PUBLISH (R232). `late`: the evaluation was not complete; `divFail`, `flip`: what channel C found wrong (index of a coded result, its error). -/
  | ssmPublish (late : Bool) (divFail : Bool) (flip : List (Nat × Int))
  /-- SOLVE_DEADLINE (R201). -/
  | solveDeadline (arm : Nat)
  /-- SOLVE_COMPLETE (R202). `t` is the end of the solve and `iter` how many iterations it had done; `order` and `lanes` are the order of summation and the MAC lanes it used, on which nothing depends (R194). -/
  | solveComplete (arm t iter order lanes : Nat)
  /-- TILE_ERROR (R208). -/
  | tileError (tile t : Nat)
  /-- LANE_SPARE_TAKEOVER (R63). -/
  | laneSpareTakeover (axis : Nat)
  /-- SHUTDOWN_END (R31). `kind`: 0 scope, 1 tile of an arm, 2 cell-bus channel, 3 pairing, 4 port. -/
  | shutdownEnd (kind idx : Nat)
  /-- PPS_IN_EDGE (R55). `width`: how long the level after the edge stays, 1/64 ns. -/
  | ppsInEdge (edge : PinEdge) (width : Nat)
  /-- ROVER_PARALLEL_END (R44). `diff` is the largest difference of the two stamps, 1/64 ns. -/
  | roverParallelEnd (rover : Nat) (diff : Int)
  /-- INTERPOLATOR_CAL_DONE (R43). `counts` are the 64 counts of the code-density test. -/
  | interpolatorCalDone (ts : Nat) (counts : List Nat)
  /-- INBOUND_CYCLE_FRAME (R289). `t` is the stamp of the frame start, `tEnd` the instant its last symbol arrived. -/
  | inboundCycleFrame (port t tEnd : Nat) (codeErr : Bool) (bytes : Bytes)
  /-- DISCOVERY_FRAME (R299). -/
  | discoveryFrame (port t : Nat) (bytes : Bytes)
  /-- DL_SYMBOL_LOCK (R298). -/
  | dlSymbolLock (port : Nat)
  /-- DL_SYMBOL_LOCK_LOST (R298). -/
  | dlSymbolLockLost (port : Nat)
  /-- PORT_READY (R298). -/
  | portReady (port : Nat)
  /-- PORT_RECOVERED (R298). -/
  | portRecovered (port : Nat)
  /-- LINK_FAULT (R310). -/
  | linkFault (port : Nat)
  /-- STAGE_NO_RESPONSE (R314). -/
  | stageNoResponse (port : Nat)
  /-- SPARE_PORT_MOVE (R313). -/
  | sparePortMove (port : Nat)
  /-- STEP_EDGE (R87). `low` and `high`: time the input was low before and high after the edge, 1/64 ns; `stable`: the direction input met its times. -/
  | stepEdge (pair t low high : Nat) (stable dir : Bool)
  /-- STEP_FINAL_SEGMENT (R87). -/
  | stepFinalSegment (axis : Nat)
  /-- GPIO_EDGE (R40). -/
  | gpioEdge (pin t : Nat) (level : Bool)
  /-- STALL_IMMINENT (R112). -/
  | stallImminent (axis : Nat)
  /-- HOLD_DELAY_EXPIRY (R110). -/
  | holdDelayExpiry (axis : Nat)
  /-- COIL_FAULT (R117). -/
  | coilFault (axis : Nat)
  /-- PHASE_SUM (R119). -/
  | phaseSum (axis : Nat)
  /-- BUS_UNDERVOLT (R125). -/
  | busUndervolt (axis : Nat)
  /-- SAMPLE_LOST (R125). -/
  | sampleLost (axis : Nat)
  /-- FOLLOWING_ERROR (R144). -/
  | followingError (axis : Nat)
  /-- LANE_OVERRUN_REPEAT (R26). -/
  | laneOverrunRepeat (axis : Nat)
  /-- HARD_STOP_DETECTED (R97). -/
  | hardStopDetected (axis : Nat)
  /-- INJECTION_RUN_END (R151). `scope` 0–7 is an arm, 8 + n auxiliary axis n. -/
  | injectionRunEnd (scope : Nat)
  /-- FRF_ANALYSIS_DONE (R155). `scope` as above. -/
  | frfAnalysisDone (scope : Nat)
  /-- CAPTURE_END (R153). -/
  | captureEnd (cap : Nat)
  /-- TRACE_OVERFLOW (R154). -/
  | traceOverflow (cap : Nat)
  /-- CAPTURE_AREA_FREE (R392). -/
  | captureAreaFree (cap : Nat)
  /-- LIST_STALE (R222). -/
  | listStale (sensor : Nat)
  /-- SSM_XCHK (R219). -/
  | ssmXchk (arm : Nat)
  /-- VERDICT_FALL_CLEAR (R231). -/
  | verdictFallClear (arm : Nat)
  /-- STOP_REQUEST_RELEASE (R233). -/
  | stopRequestRelease (arm : Nat)
  /-- STANDSTILL (R241). -/
  | standstill (arm : Nat)
  /-- TORQUE_BUILD_END (R252). `scope` 0–7 is an arm, 8 + n auxiliary axis n. -/
  | torqueBuildEnd (scope : Nat)
  /-- BK_SETTLE_CHECK (R249). `fbh` and `fbl` are the readback levels. -/
  | bkSettleCheck (pair : Nat) (fbh fbl : Bool)
  /-- BRAKE_SWITCH (R249). -/
  | brakeSwitch (pair : Nat)
  /-- BK_RELEASE_END (R252). -/
  | bkReleaseEnd (scope : Nat)
  /-- BK_ENGAGE_END (R253). -/
  | bkEngageEnd (scope : Nat)
  /-- BRAKE_TEST_STEP_END (R255). -/
  | brakeTestStepEnd (arm : Nat)
  /-- BRAKE_TEST_DUE (R258). -/
  | brakeTestDue (arm : Nat)
  /-- BRAKE_TEST_OVERDUE (R258). -/
  | brakeTestOverdue (arm : Nat)
  /-- TEST_PULSE (R260). -/
  | testPulse (k : Nat)
  /-- SAFE_INPUT_EDGE (R260). -/
  | safeInputEdge (i t : Nat) (level : Bool)
  /-- SI_DEMAND (R261). -/
  | siDemand (i : Nat)
  /-- DISCREPANCY (R262). -/
  | discrepancy (pair : Nat)
  /-- SI_FAULT_CLEAR (R263). -/
  | siFaultClear (i : Nat)
  /-- STO_CONFIRM_CHECK (R266). -/
  | stoConfirmCheck (arm : Nat)
  /-- CHECK_VALUE_RECOMPUTE (R247). `ok`: the copy gave its check value again. -/
  | checkValueRecompute (ok : Bool)
  /-- LOCKOUT_END (R275). -/
  | lockoutEnd (id : Nat)
  /-- CB_FRAME_RECEIVED (R325). `t` is the SOF stamp; `bytes` header, payload and CRC. -/
  | cbFrameReceived (ch t : Nat) (codeErr : Bool) (bytes : Bytes)
  /-- SLOT_WINDOW_CLOSE (R340). -/
  | slotWindowClose (slot : Nat)
  /-- VALUE_LATCH (R339). -/
  | valueLatch (slot : Nat)
  /-- TTC_FRAME_TRANSMIT (R326). -/
  | ttcFrameTransmit (slot : Nat)
  /-- COLDSTART_WATCH_END (R332). `clean`: the only activity was the own frame, received clean. -/
  | coldstartWatchEnd (clean : Bool)
  /-- COLDSTART_FRAME (R333). -/
  | coldstartFrame (ch t : Nat) (bytes : Bytes)
  /-- CHANNEL_DISABLED (R342). -/
  | channelDisabled (ch : Nat)
  /-- LINK_UP (R475). -/
  | linkUp (width speed : Nat)
  /-- CONVENTIONAL_RESET (R356). `kind`: 0 PERST#, 1 hot reset. -/
  | conventionalReset (kind : Nat)
  /-- BAR2_READ (R353). -/
  | bar2Read (off len : Nat)
  /-- BAR2_READ_ABORT (R353). -/
  | bar2ReadAbort (off : Nat)
  /-- BAR2_WRITE (R354). -/
  | bar2Write (off : Nat)
  /-- POWER_STATE_WRITE (R355). -/
  | powerStateWrite (d3 : Bool)
  /-- DOORBELL (R363). `t` is the doorbell stamp. -/
  | doorbell (ch v t : Nat)
  /-- RSP_ACK (R363). -/
  | rspAck (ch v : Nat)
  /-- MAILBOX_RAM_WRITE (R365). `collide`: the firmware wrote the same word in the same handshake. -/
  | mailboxRamWrite (off : Nat) (bytes : Bytes) (collide : Bool)
  /-- REQUEST_TAKEN (R364). -/
  | requestTaken (ch : Nat)
  /-- EVSTAT_CLEAR (R358). `again` are the bits an event sets in the same handshake. -/
  | evstatClear (n mask again : Nat)
  /-- EVMASK_WRITE (R358). -/
  | evmaskWrite (n mask : Nat)
  /-- MSIX_UNMASK (R358). `what`: 0 vector mask of `vec` cleared, 1 function mask cleared, 2 Bus Master Enable set. -/
  | msixUnmask (what vec : Nat)
  /-- READ_CLEAR_ACCESS (R5). -/
  | readClearAccess (off : Nat)
  /-- REGISTER_WRITE (R5). `space`: 0 BAR0, 1 configuration space, 2 lock words, 3 ARB_REQCFG. -/
  | registerWrite (space off val : Nat)
  /-- LEASE_EXPIRY (R371). -/
  | leaseExpiry (ch : Nat)
  /-- OPEN_SESSION (R369). -/
  | openSession (ch nonce leaseMs : Nat) (force : Bool)
  /-- CLOSE_SESSION (R371). -/
  | closeSession (ch : Nat)
  /-- KEEPALIVE (R369). -/
  | keepalive (ch : Nat)
  /-- TICKET_STATUS (R370). -/
  | ticketStatus (ch ticket : Nat)
  /-- CANCEL_TICKET (R381). -/
  | cancelTicket (ch ticket : Nat)
  /-- SET_LEASE (R371). -/
  | setLease (ch leaseMs : Nat)
  /-- GET_IDENTITY (R2). -/
  | getIdentity (ch : Nat)
  /-- GET_HEALTH (R465). -/
  | getHealth (ch : Nat)
  /-- READ_BLOCK (R382). -/
  | readBlock (ch block index : Nat)
  /-- CLEAR_BLOCK (R382). -/
  | clearBlock (ch block index : Nat)
  /-- GET_FAULT (R377). -/
  | getFault (ch : Nat)
  /-- OPEN_SET (R373). -/
  | openSet (ch part base : Nat)
  /-- WRITE_SEG (R373). -/
  | writeSeg (ch off : Nat) (bulk : Bytes)
  /-- CLOSE_SET (R492). -/
  | closeSet (ch : Nat)
  /-- CONFIRM (R275). -/
  | confirm (ch check eng : Nat) (pass : Bytes)
  /-- COMMIT (R276). -/
  | commit (ch slot : Nat)
  /-- FLASH_WRITE_DONE (R374). -/
  | flashWriteDone (ok : Bool)
  /-- ABORT_SET (R373). -/
  | abortSet (ch : Nat)
  /-- READ_PARAM (R383). -/
  | readParam (ch src pid inst sub : Nat)
  /-- GET_SET_INFO (R273). -/
  | getSetInfo (ch : Nat)
  /-- READ_SET (R272). -/
  | readSet (ch src part off : Nat)
  /-- WRITE_PARAM (R385). -/
  | writeParam (ch pid inst sub : Nat) (val : Bytes)
  /-- MOVE (R74). -/
  | move (ch axis way : Nat) (target : Int)
  /-- JOG (R76). -/
  | jog (ch axis dir : Nat)
  /-- STOP (R76). -/
  | stop (ch axis : Nat)
  /-- SET_LIMITS (R77). -/
  | setLimits (ch axis mask v a d j : Nat)
  /-- GEAR (R90). -/
  | gear (ch axis master source align : Nat) (num : Int) (den : Nat) (pA mA : Int)
  /-- STEP_FOLLOW (R87). -/
  | stepFollow (ch axis pair invert : Nat)
  /-- HOME (R387). -/
  | home (ch axis method dir gpio hasPos : Nat) (setPos homePos : Int)
  /-- GET_AXIS (R16). -/
  | getAxis (ch axis : Nat)
  /-- GET_MOVE_PLAN (R75). -/
  | getMovePlan (ch axis : Nat)
  /-- CLEAR_AXIS_FLAGS (R99). -/
  | clearAxisFlags (ch axis mask : Nat)
  /-- STAGE_READ (R314). -/
  | stageRead (ch port addr : Nat)
  /-- DL_RESET (R312). -/
  | dlReset (ch ports : Nat)
  /-- ENABLE (R252). `scope` as the SCOPE field. -/
  | enable (ch scope : Nat)
  /-- DISABLE (R30). -/
  | disable (ch scope : Nat)
  /-- FAULT_ACK (R270). -/
  | faultAck (ch scope : Nat)
  /-- ENTER_PLANNED (R71). -/
  | enterPlanned (ch scope : Nat)
  /-- LEAVE_PLANNED (R205). -/
  | leavePlanned (ch scope : Nat)
  /-- SET_PATH (R388). -/
  | setPath (ch scope : Nat) (bulk : Bytes)
  /-- HANDOVER (R389). -/
  | handover (ch scope target value : Nat)
  /-- ACCEPT_HANDOVER (R372). -/
  | acceptHandover (ch scope : Nat)
  /-- RECLAIM (R372). -/
  | reclaim (ch scope : Nat)
  /-- GET_ARM (R372). -/
  | getArm (ch scope : Nat)
  /-- GET_RESULT (R214). -/
  | getResult (ch arm : Nat)
  /-- GET_PLAN (R213). -/
  | getPlan (ch arm slot : Nat)
  /-- GET_SIZING (R211). -/
  | getSizing (ch arm : Nat)
  /-- GET_VERDICT (R243). -/
  | getVerdict (ch arm : Nat)
  /-- GET_SSM_STAT (R243). -/
  | getSsmStat (ch : Nat)
  /-- RESUME (R233). -/
  | resume (ch arm : Nat)
  /-- STOP_TEST (R390). -/
  | stopTest (ch arm : Nat)
  /-- GET_STOP_TEST (R241). -/
  | getStopTest (ch arm : Nat)
  /-- GET_OBJECTS (R236). -/
  | getObjects (ch : Nat)
  /-- CLEAR_SSM_FLAGS (R243). -/
  | clearSsmFlags (ch : Nat)
  /-- BRAKE_TEST (R257). -/
  | brakeTest (ch arm : Nat)
  /-- ENTER_SERVICE (R277). -/
  | enterService (ch eng : Nat) (pass : Bytes)
  /-- LEAVE_SERVICE (R277). -/
  | leaveService (ch : Nat)
  /-- GET_SAFETY (R280). -/
  | getSafety (ch : Nat)
  /-- CLEAR_SAFETY_FLAGS (R280). -/
  | clearSafetyFlags (ch : Nat)
  /-- SET_ENGINEER (R391). -/
  | setEngineer (ch authId targetId : Nat) (authPass newPass : Bytes)
  /-- REMOVE_ENGINEER (R391). -/
  | removeEngineer (ch authId targetId : Nat) (authPass : Bytes)
  /-- READ_AUDIT (R391). -/
  | readAudit (ch first : Nat)
  /-- SET_TIME_OF_DAY (R50). -/
  | setTimeOfDay (ch seconds : Nat)
  /-- MODE_CHANGE (R336). -/
  | modeChange (ch mode : Nat)
  /-- CHANNEL_ENABLE (R342). -/
  | channelEnable (ch cb : Nat)
  /-- CHANNEL_DISABLE (R342). -/
  | channelDisable (ch cb : Nat)
  /-- APPLY_CALIBRATION (R347). -/
  | applyCalibration (ch : Nat)
  /-- WRITE_VALUE (R339). -/
  | writeValue (ch value : Nat) (data : Bytes)
  /-- READ_VALUE (R340). -/
  | readValue (ch value : Nat)
  /-- GET_TTC (R349). -/
  | getTtc (ch : Nat)
  /-- CLEAR_TTC (R349). -/
  | clearTtc (ch : Nat)
  /-- GET_CALIBRATION (R346). -/
  | getCalibration (ch cb : Nat)
  /-- GET_PAIR (R427). -/
  | getPair (ch : Nat)
  /-- CASTLE (R419). -/
  | castle (ch : Nat)
  /-- PAIR_BEGIN (R423). -/
  | pairBegin (ch : Nat)
  /-- PAIR_CONFIRM (R423). -/
  | pairConfirm (ch check eng : Nat) (pass : Bytes)
  /-- UNPAIR (R425). -/
  | unpair (ch : Nat)
  /-- START_CAPTURE (R153). -/
  | startCapture (ch axis kind div count sel : Nat)
  /-- STOP_CAPTURE (R153). -/
  | stopCapture (ch cap : Nat)
  /-- START_INJECTION (R150). -/
  | startInjection (ch axis point signal prbsN amp clkDiv s len m x y : Nat) (bins : List Nat)
  /-- STOP_INJECTION (R151). -/
  | stopInjection (ch arm : Nat)
  /-- GET_FRF (R156). -/
  | getFrf (ch axis first count : Nat)
  /-- GET_LIFECYCLE (R463). -/
  | getLifecycle (ch : Nat)
  /-- RETIRE (R463). -/
  | retire (ch eng key : Nat) (pass : Bytes)
  /-- SELF_TEST (R456). -/
  | selfTest (ch unit index : Nat)
  /-- HEARTBEAT_RECEIVED (R402). `mask` are the lanes that brought it, `t` the stamp of TS40. -/
  | heartbeatReceived (mask t : Nat) (bytes : Bytes)
  /-- MIRROR_ACK (R401). -/
  | mirrorAck (seq : Nat) (good : Bool)
  /-- MIRROR_ACK_TIMEOUT (R401). -/
  | mirrorAckTimeout (seq : Nat)
  /-- SYSTEM_RECORD (R403). Bit k of `sto` is STO_OUT of arm k and of `disabled` its DISABLED state; of each arm, `stops` are the stop in force and its trigger, `plans` the owner, OUTCOME and FALLBACK_N. -/
  | systemRecord (copy : CopyRx) (epoch sto disabled : Nat) (levels : List Nat) (stops : List (Nat × Nat)) (plans : List (Nat × Nat × Nat))
  /-- MIRROR_COPY_COMPLETE (R406). `axes` are the mirrored reference and feedback of A0 on; `skip` the axes R406 leaves out. -/
  | mirrorCopyComplete (copy : CopyRx) (axes : List (Int × Int)) (skip : List Nat)
  /-- STAGE_RECORD (R405). The command as its opcode and payload, for the control-cycle start `at_`. -/
  | stageRecord (at_ op : Nat) (payload bulk : Bytes)
  /-- PLAN_RECORD (R403). -/
  | planRecord (arm : Nat) (bytes : Bytes)
  /-- DELTA (R403). -/
  | delta (addr : Nat) (bytes : Bytes)
  /-- PARAM_RECORD (R423). -/
  | paramRecord (off : Nat) (bytes : Bytes) (last : Bool)
  /-- HELLO (R422). -/
  | hello (t serial nonce role epoch check : Nat) (proof : Bytes)
  /-- TAKEOVER_RECORD (R412). -/
  | takeoverRecord (t : Nat)
  /-- CASTLE_PREP (R419). -/
  | castlePrep (b : Nat)
  /-- CASTLE_ACK (R419). -/
  | castleAck (b : Nat)
  /-- PAIR_SECRET (R423). -/
  | pairSecret (secret : Bytes)
  /-- WARM_REQ (R406). -/
  | warmReq (arm : Nat)
  /-- MIRROR_LANE_IN_SERVICE (R400). -/
  | mirrorLaneInService (lane : Nat)
  /-- PAIR_COMMIT_EFFECT (R424). `acked`: the Shadow acknowledged the last byte. -/
  | pairCommitEffect (acked : Bool)
  /-- MIR_PEER_ENG_CHANGE (R409). -/
  | mirPeerEngChange (high : Bool)
  /-- LEDGER_REQUEST (R435). `err`: 0 none, 1 a single-bit error, 2 an uncorrectable one in the word. -/
  | ledgerRequest (req addr len : Nat) (write : Bool) (data : Bytes) (err : Nat)
  /-- LEDGER_BACKOFF_EXPIRY (R437). -/
  | ledgerBackoffExpiry (req bank : Nat)
  /-- HOLD_CUT (R438). -/
  | holdCut (req bank : Nat)
  /-- SIDEBAND_MASK (R438). -/
  | sidebandMask (req : Nat) (on : Bool)
  /-- PLY_TABLE_WRITE (R440). `kind`: 0 ply table, 1 background ranking. -/
  | plyTableWrite (kind : Nat) (entries : List Nat)
  /-- PLY_TABLE_ADOPT (R440). -/
  | plyTableAdopt (bank : Nat)
  /-- LOCK_ACQUIRE (R443). -/
  | lockAcquire (req lock t : Nat)
  /-- LOCK_RELEASE (R443). -/
  | lockRelease (req lock t : Nat)
  /-- LOCK_LEASE_EXPIRY (R443). -/
  | lockLeaseExpiry (lock : Nat)
  /-- CORRECTED_WRITEBACK (R432). -/
  | correctedWriteback (bank : Nat)
  /-- SCRUB (R433). `err` as for a request. -/
  | scrub (err : Nat)
  /-- BANK_FILL_COMPLETE (R434). -/
  | bankFillComplete (bank : Nat)
  /-- TAMPER_N (R448). `held`: time TAMPER_N stayed low, 1/64 ns. -/
  | tamperN (held : Nat)
  /-- TEMPO_MONITOR (R449). `rates` are the replica counts of the last 1 ms, by domain; `tj` in 0.1 °C. -/
  | tempoMonitor (rates : List Nat) (tj : Int)
  /-- VOLTAGE_LOOP (R450). `vout` is READ_VOUT in mV. -/
  | voltageLoop (vout : Nat)
  /-- PMBUS_ALERT (R451). -/
  | pmbusAlert (word : Nat)
  /-- PMBUS_RETRY (R451). -/
  | pmbusRetry (ok : Bool) (vout : Nat)
  /-- UNIT_ERROR (R453). -/
  | unitError (cls idx cause : Nat)
  /-- TARGETED_SELF_TEST_DONE (R453). -/
  | targetedSelfTestDone (cls idx : Nat) (pass : Bool)
  /-- BACKGROUND_SELF_TEST (R457). -/
  | backgroundSelfTest (cls idx : Nat) (pass : Bool)
  /-- SUPPLY_RISE (R472). `i`: 0 VDD_CORE, 1 VDD_SER, 2 VDD_TB, 3 VDD_IO18, 4 VDD_IO33. -/
  | supplyRise (i : Nat)
  /-- SUPPLY_RANGE_FAULT (R476). `i` as for a rise, 5 the junction temperature. -/
  | supplyRangeFault (i : Nat)
  /-- TRIP (R476). `i` as above. -/
  | trip (i : Nat)
  /-- RESET_N (R477). `which`: 0 RESET_N, 1 PWR_GOOD; `held`: pulse length, 1/64 ns. -/
  | resetN (which : Nat) (low : Bool) (held : Nat)
  /-- TEST_PIN (R472). `which`: 0 TEST0, 1 TEST1. -/
  | testPin (which : Nat) (high : Bool)
  /-- INTERNAL_RESET_RELEASE (R474). Times since the last supply rose and since PRESENT_N fell, µs. -/
  | internalResetRelease (sinceSupply sincePresent : Nat)
  /-- ROM_SELF_TEST_END (R458). `failed` lists the units, as class and INDEX. -/
  | romSelfTestEnd (failed : List (Nat × Nat))
  /-- AER_ERROR (R359). -/
  | aerError (unc : Bool) (status : Nat)
  /-- LINK_WIDTH_RATE_CHANGE (R359). -/
  | linkWidthRateChange (width speed : Nat)
  /-- MIRROR_LANE_UP (R400). -/
  | mirrorLaneUp (lane : Nat)
  /-- UART_CTS_N (R484). -/
  | uartCtsN (high : Bool)
  /-- JTAG_INSTRUCTION (R484). -/
  | jtagInstruction (ir : Nat)
  /-- CURRENT_PERIOD_EVENT (R14). -/
  | currentPeriodEvent
  /-- SEPARATION_CYCLE_EVENT (R17). -/
  | separationCycleEvent
  /-- CELL_CYCLE_CLOSE (R334). -/
  | cellCycleClose
  /-- FEEDBACK_CUTOFF (R14). -/
  | feedbackCutoff
  /-- COPY_DEADLINE (R404). -/
  | copyDeadline
  /-- RELABEL (R47). -/
  | relabel
  /-- TIME_OF_DAY_SHIFT (R50). -/
  | timeOfDayShift
  /-- HOLDOVER_ENTRY (R53). -/
  | holdoverEntry
  /-- HOLD_EXCEEDED (R54). -/
  | holdExceeded
  /-- PPS_OUT_RISE (R56). -/
  | ppsOutRise
  /-- PPS_OUT_FALL (R56). -/
  | ppsOutFall
  /-- AUTHORITY_LOST (R306). -/
  | authorityLost
  /-- SAFETY_WATCHDOG (R246). -/
  | safetyWatchdog
  /-- BRAKE_TIMER_SAVE (R258). -/
  | brakeTimerSave
  /-- SERVICE_EXPIRED (R277). -/
  | serviceExpired
  /-- COLDSTART_ENTRY (R328). -/
  | coldstartEntry
  /-- COLDSTART_WAIT_END (R332). -/
  | coldstartWaitEnd
  /-- MODE_CHANGE_REQUEST (R336). -/
  | modeChangeRequest
  /-- LINK_DOWN (R356). -/
  | linkDown
  /-- TB_NOW_FRAC_READ (R59). -/
  | tbNowFracRead
  /-- HEARTBEAT_WINDOW_CLOSE (R402). -/
  | heartbeatWindowClose
  /-- TAKEOVER_DECISION (R413). -/
  | takeoverDecision
  /-- EPOCH_ACK_CHECK (R413). -/
  | epochAckCheck
  /-- PAIR_WAIT_END (R397). -/
  | pairWaitEnd
  /-- SINGLE_AUTHORITY (R396). -/
  | singleAuthority
  /-- SHADOW_JOINING (R398). -/
  | shadowJoining
  /-- SHADOW_READY (R398). -/
  | shadowReady
  /-- CASTLE_BOUNDARY (R419). -/
  | castleBoundary
  /-- CASTLE_EPOCH_CHECK (R420). -/
  | castleEpochCheck
  /-- CASTLE_DUE (R421). -/
  | castleDue
  /-- CASTLE_AUTO_RETRY (R421). -/
  | castleAutoRetry
  /-- CASTLE_OVERDUE (R421). -/
  | castleOverdue
  /-- PAIR_T_EXPIRY (R423). -/
  | pairTExpiry
  /-- JOURNAL_APPEND (R447). -/
  | journalAppend
  /-- JOURNAL_COMPACTION (R447). -/
  | journalCompaction
  /-- TEMPO_WARNING (R452). -/
  | tempoWarning
  /-- PMBUS_VOUT_TIMEOUT (R451). -/
  | pmbusVoutTimeout
  /-- MANUFACTURE_FINAL_TEST (R463). -/
  | manufactureFinalTest
  /-- TEMPERATURE_RECOVERY (R476). -/
  | temperatureRecovery
  /-- PRESENT_N_REMOVAL (R479). -/
  | presentNRemoval
  /-- PRESENT_N_INSERTION (R472). -/
  | presentNInsertion
  /-- FUSE_LOAD_END (R458). -/
  | fuseLoadEnd
  /-- CORE_SELF_TEST_END (R474). -/
  | coreSelfTestEnd
  /-- FW_READY (R474). -/
  | fwReady
  /-- PPSIN_SEEN_EXPIRY (R55). -/
  | ppsinSeenExpiry
  /-- PERST_N_RELEASE (R475). -/
  | perstNRelease
  /-- JOURNAL_ERASE_END (R474). -/
  | journalEraseEnd
  deriving DecidableEq, Repr

end Sys2Proof
end

