-- ==== Sys2Proof/Decode.lean ====
section
/-!
DEFINITION. Decoding. Every row of spec/opcode_table.json has an empty list of fields: the table gives no row any
bits, so no word spells a command (notes/assumptions 1). The words that do carry commands on this hardware, the
mailbox messages of 12 R366, are read by REQUEST_TAKEN (Machine/Request.lean).
-/
namespace Sys2Proof

/-- The command a word of the table's bits spells: none, since the table gives no row bits. -/
def decodeTableWord (nbits w : Nat) : Option Instr :=
  match nbits, w with
  | _, _ => none

end Sys2Proof
end

