-- ==== Sys2Proof/Machine/Crc.lean ====
section
/-!
DEFINITION. CRC-32C (09 R273), SHA-256 and HMAC-SHA-256 (09 R275, 14 R422, 15 R447).
-/
namespace Sys2Proof.Machine

/-- One bit of the reflected CRC-32C register. -/
def crcBit (c : Nat) : Nat := if c % 2 = 1 then Nat.xor (c / 2) 0x82F63B78 else c / 2

/-- One byte into the reflected CRC-32C register. -/
def crcByte (c : Nat) (b : Byte) : Nat :=
  crcBit (crcBit (crcBit (crcBit (crcBit (crcBit (crcBit (crcBit (Nat.xor c b.toNat))))))))

/-- CRC-32C of a string with the initial value `init` (09 R273, 11 R343). -/
def crc32cFrom (init : Nat) (bs : Bytes) : Nat := Nat.xor (bs.foldl crcByte init) 0xFFFFFFFF

/-- CRC-32C: polynomial 0x1EDC6F41 reflected, initial value and final XOR 0xFFFF_FFFF (09 R273). -/
def crc32c (bs : Bytes) : Nat := crc32cFrom 0xFFFFFFFF bs

/-! ### SHA-256 -/

/-- Largest x below 2^n with x^e ≤ v, bit by bit. -/
def intRoot (e v : Nat) : Nat → Nat → Nat
  | 0, x => x
  | n + 1, x => intRoot e v n (if (x + 2 ^ n) ^ e ≤ v then x + 2 ^ n else x)

/-- The first 32 bits of the fractional part of the e-th root of p. -/
def rootBits (e p : Nat) : Nat := intRoot e (p * 2 ^ (32 * e)) 37 0 % 2 ^ 32

/-- Is n, at least 2, divisible by no number from 2 to 17 but itself; below 19² that makes it a prime. -/
def smallPrime (n : Nat) : Bool := (List.range 16).all fun i => n % (i + 2) != 0 || n == i + 2

/-- The first 64 primes. -/
def primes64 : List Nat := ((List.range 312).drop 2).filter smallPrime

/-- Round constants: the cube roots of the first 64 primes. -/
def shaK : List Nat := primes64.map (rootBits 3)

/-- Start value of the eight working words: the square roots of the first 8 primes. -/
def shaInit : List Nat := (primes64.take 8).map (rootBits 2)

/-- Rotate a 32-bit word right. -/
def rotr (n x : Nat) : Nat := x / 2 ^ n + (x % 2 ^ n) * 2 ^ (32 - n)

/-- Big-endian 32-bit words of a string. -/
def beWords : Nat → Bytes → List Nat
  | 0, _ => []
  | n + 1, bs =>
    ((bs.take 4).foldl (fun a b => a * 256 + b.toNat) 0) :: beWords n (bs.drop 4)

/-- `n` big-endian bytes of a number. -/
def beBytes (n v : Nat) : Bytes := (leBytes n v).reverse

/-- Exclusive or of three rotations. -/
def rot3 (i j k x : Nat) : Nat := Nat.xor (rotr i x) (Nat.xor (rotr j x) (rotr k x))

/-- Exclusive or of two rotations and a shift. -/
def mix3 (i j k x : Nat) : Nat := Nat.xor (rotr i x) (Nat.xor (rotr j x) (x / 2 ^ k))

/-- The next word of the message schedule from the words so far, newest first. -/
def shaNext (w : List Nat) : Nat :=
  (mix3 17 19 10 (w.getD 1 0) + w.getD 6 0 + mix3 7 18 3 (w.getD 14 0) + w.getD 15 0) % 2 ^ 32

/-- The eight working words of a round. -/
structure ShaRegs where
  a : Nat
  b : Nat
  c : Nat
  d : Nat
  e : Nat
  f : Nat
  g : Nat
  h : Nat

/-- The working words of a list, and back. -/
def ShaRegs.of (l : List Nat) : ShaRegs := ⟨l.getD 0 0, l.getD 1 0, l.getD 2 0, l.getD 3 0, l.getD 4 0, l.getD 5 0, l.getD 6 0, l.getD 7 0⟩
def ShaRegs.words (r : ShaRegs) : List Nat := [r.a, r.b, r.c, r.d, r.e, r.f, r.g, r.h]

/-- One round with a round constant and a word of the schedule. -/
def ShaRegs.round (r : ShaRegs) (k w : Nat) : ShaRegs :=
  let choice := Nat.xor r.g (r.e &&& Nat.xor r.f r.g)
  let major := (r.a &&& r.b) ||| (r.c &&& (r.a ||| r.b))
  let t := r.h + rot3 6 11 25 r.e + choice + k + w
  { a := (t + rot3 2 13 22 r.a + major) % 2 ^ 32, b := r.a, c := r.b, d := r.c
    e := (r.d + t) % 2 ^ 32, f := r.e, g := r.f, h := r.g }

/-- The rounds of a block: each takes the oldest of the last 16 words and puts the next one in front. -/
def shaRounds : List Nat → List Nat → ShaRegs → ShaRegs
  | [], _, r => r
  | k :: ks, w, r => shaRounds ks ((shaNext w :: w).take 16) (r.round k (w.getD 15 0))

/-- One 64-byte block. -/
def shaBlock (h : List Nat) (blk : Bytes) : List Nat :=
  (h.zip (shaRounds shaK (beWords 16 blk).reverse (ShaRegs.of h)).words).map fun x => (x.1 + x.2) % 2 ^ 32

/-- Blocks of a padded string. -/
def shaBlocks : Nat → List Nat → Bytes → List Nat
  | 0, h, _ => h
  | n + 1, h, bs => shaBlocks n (shaBlock h (bs.take 64)) (bs.drop 64)

/-- SHA-256: the string, a bit 1, zeros and the length in bits fill whole blocks. -/
def sha256 (m : Bytes) : Bytes :=
  let blocks := (m.length + 72) / 64
  let fill := List.replicate (64 * blocks - m.length - 9) 0
  (shaBlocks blocks shaInit (m ++ 0x80 :: fill ++ beBytes 8 (8 * m.length))).flatMap (beBytes 4)

/-- HMAC-SHA-256: the key, hashed where it is longer than a block and filled up to one, in both pads. -/
def hmac256 (key msg : Bytes) : Bytes :=
  let short := if 64 < key.length then sha256 key else key
  let pad (v : Byte) : Bytes := (List.range 64).map fun i => short.getD i 0 ^^^ v
  sha256 (pad 0x5c ++ sha256 (pad 0x36 ++ msg))

end Sys2Proof.Machine
end

