-- ==== Sys2Proof/Config.lean ====
section
/-!
DEFINITION. What one part fixes for itself and what the spec leaves open. Every constant here is opaque: it has no
body, so no proof can see a value of it, and a statement that mentions one holds for every value it could have.
A constant applied to a count gives a free value: the step hands it the count State.fresh and moves on to the next
(notes/assumptions 3).
-/
namespace Sys2Proof

/-- Device Serial Number, fuse bits 63:0 (12 Table 12-1, 16 Table 16-5). -/
opaque Config.serial : BitVec 64

/-- Subsystem vendor ID, fuse bits 79:64 (16 Table 16-5). -/
opaque Config.subsysVid : BitVec 16

/-- Subsystem ID, fuse bits 95:80 (16 Table 16-5). -/
opaque Config.subsysId : BitVec 16

/-- Fused ratio K of critical path to replica of a tempo domain, 16 bits (16 R449, Table 16-5). -/
opaque Config.tempoK : Nat → BitVec 16

/-- Fused derating D at a junction temperature in 0.1 °C, in 2^-16 (16 R449). -/
opaque Config.tempoD : Int → BitVec 16

/-- Fused work W of SSM channels P and C and of the SSV, domains 13 to 15, in replica completions (16 Table 16-1). -/
opaque Config.tempoW : Nat → BitVec 32

/-- Fused R_spec of domains 16 and 18 to 21, in replica completions in 1 ms (16 Table 16-1). -/
opaque Config.tempoSpec : Nat → BitVec 32

/-- The board's core regulator answers VOUT_MODE with linear mode (16 R451). -/
opaque Config.voutLinear : Bool

/-- Free 32-bit words, one for each value the spec leaves open: the low half of DETAIL of a port event (10 R318), session tokens (12
R369), CRCs of requests given without their message (12 R368), the direction between two coincident witness points (07 R188), the
second a PPS_IN edge half-way between two belongs to (02 R50), the gain and phase of a bin within the last place and of H = 0
(05 R156), the datapath of a pool that serves a kernel (06 R166), and where an iteration stops (07 R201). -/
opaque Config.free32 : Nat → BitVec 32

/-- Free bytes drawn by the on-chip entropy source: salts (13 R391) and pairing secrets (14 R423). -/
opaque Config.entropy : Nat → BitVec 256

end Sys2Proof
end

