-- ==== Sys2Proof/Machine/State.lean ====
section
/-!
DEFINITION. The state of the FLC-6408, as plain data: one structure per block, gathered in State, with the
value every field has right after the internal reset is released (State.reset). Each field's docstring gives
its meaning, its width or unit, the chapter and rule of the spec that names it, and its reset value; a mark
(DESIGN CHOICE, PRESUMED) names a value the spec does not give, with its row of notes/assumptions.
Counts and signed words are held as Nat and Int; the operations narrow them where the spec does.
-/
namespace Sys2Proof.Machine

/-- Faults of the model: why a step stops. -/
inductive Fault where
  /-- A command names a unit (a port, an axis, an arm, a lane, a channel, a bank, an input) outside the
  counts of Table 00-1. Raised by every meaning through a bounds test on its operands. Safe: the hardware
  has no such unit, so no run of it is lost. -/
  | noSuchUnit (what : String) (index : Nat)
  deriving DecidableEq, Repr

/-- Refusals of the model. -/
inductive Refusal where
  /-- Raised only by arms of Machine/Dispatch.lean for a row that has no meaning yet. Safe: it stops. -/
  | notModelled (mnemonic : String)
  deriving DecidableEq, Repr

/-- The three states of every function that can be switched (01, enable and shutdown). -/
inductive FnState where
  | disabled | enabled | shuttingDown
  deriving DecidableEq, Repr, Inhabited

/-- Profile modes of an axis (03 Table 03-4, codes of Table 03-7). -/
inductive ProfMode where
  | idle | ptp | planned | stepped | geared | homing
  deriving DecidableEq, Repr, Inhabited

/-- Position status of an axis (03 R96). -/
inductive PosStatus where
  | unreferenced | homed | uncertain
  deriving DecidableEq, Repr, Inhabited

/-- Time-base states (02 Table 02-3). -/
inductive TbState where
  | free | acquiring | locked | holdover
  deriving DecidableEq, Repr, Inhabited

/-- Axis types (03 Table 03-1). -/
inductive AxType where
  | servo | stepper | external | virtual
  deriving DecidableEq, Repr, Inhabited

/-- Cell-time stamp as a consumer holds it (02 Table 02-1). -/
structure Stamp where
  /-- cell time of the edge | 64-bit ns and 6-bit fraction, in 1/64 ns | 02 R37, R38 | 0 -/
  at_ : Time := 0
  /-- interpolator that took the stamp, 0xFF for the 1 ns counter | 8 bit | 02 R38 | 0xFF -/
  src : Nat := 255
  /-- BOUNDARY set by the consuming block | 1 bit | 01 R24, 02 R38 | 0 -/
  boundary : Bool := false
  /-- COARSE, a 1 ns counter stamp | 1 bit | 02 R41 | 0 -/
  coarse : Bool := false
  /-- HOLDOVER, the time base was in HOLDOVER | 1 bit | 02 R38 | 0 -/
  holdover : Bool := false
  deriving DecidableEq, Repr, Inhabited

/-- One interpolator of the time base (02 R40 to R44). -/
structure Interp where
  /-- counts of the last code-density test, one per step | 64 counts of 65 536 | 02 R43 | even widths, DESIGN CHOICE 1 024 each -/
  widths : List Nat := List.replicate 64 1024
  /-- instant of the last calibration | cell time | 02 R43 | 0 -/
  calAt : Time := 0
  /-- retired by health | 1 bit | 16 Table 16-5 | 0 -/
  retired : Bool := false
  /-- suspect and without a rover in its place: its channel is stamped COARSE | 1 bit | 16 Table 16-3 | 0 -/
  away : Bool := false
  deriving DecidableEq, Repr, Inhabited

/-- One roving interpolator's place in its turn (02 R43). -/
structure Rover where
  /-- channel in the present turn | 0–59 | 02 R43 | its own number, DESIGN CHOICE -/
  chan : Nat := 0
  /-- part of the turn: 0 takes over in parallel, 1 stamps alone, 2 hands back in parallel, 3 calibrates itself | 2 bit | 02 R43 | 0 -/
  part : Nat := 0
  /-- start of the parallel period, of a take-over or a hand-back | cell time | 02 R43 | 0 -/
  from_ : Time := 0
  /-- fixed to a channel of its own by health | 1 bit | 02 R43 | 0 -/
  fixed : Bool := false
  deriving DecidableEq, Repr, Inhabited

/-- The time base (chapter 02). -/
structure TbSt where
  /-- TB_CTRL.PPSOUT_ALWAYS | 1 bit | 02 Table 02-7 | 0 -/
  ppsOutAlways : Bool := false
  /-- TB_CTRL.PPSIN_POL | 1 bit | 02 Table 02-7 | 0 -/
  ppsInPol : Bool := false
  /-- TB_CTRL.RELABEL_EN | 1 bit | 02 Table 02-7 | 1 -/
  relabelEn : Bool := true
  /-- TB_CTRL.SRC | 3 bit | 02 Table 02-7 | 0 FREE -/
  src : Nat := 0
  /-- TB_STATUS.STATE | 2 bit | 02 Table 02-8, R39 | FREE -/
  state : TbState := .free
  /-- TB_STATUS.PPSIN_REJ | 8 bit | 02 Table 02-8 | 0 -/
  ppsInRej : Nat := 0
  /-- TB_STATUS.CAL_CHAN | 6 bit | 02 Table 02-8 | 0 -/
  calChan : Nat := 0
  /-- TB_STATUS.CAL_FAULT | 1 bit | 02 Table 02-8 | 0 -/
  calFault : Bool := false
  /-- TB_STATUS.PPSIN_SEEN | 1 bit | 02 Table 02-8, R55 | 0 -/
  ppsInSeen : Bool := false
  /-- TB_STATUS.HOLD_EXCEEDED | 1 bit | 02 Table 02-8, R54 | 0 -/
  holdExceeded : Bool := false
  /-- TB_STATUS.SLEW_FAST | 1 bit | 02 Table 02-8 | 0 -/
  slewFastAct : Bool := false
  /-- frequency term | signed, 2^-40 | 02 R52 | 0 -/
  freq : Int := 0
  /-- slew term | signed, 2^-40 | 02 R52 | 0 -/
  slew : Int := 0
  /-- TB_RATE.RATE | signed 32 bit, 2^-40 | 02 Table 02-10 | 0 -/
  rate : Int := 0
  /-- TB_OFFSET.THETA | signed 32 bit, 1/64 ns | 02 Table 02-11 | 0 -/
  theta : Int := 0
  /-- theta_prev of R52 | signed, 1/64 ns, or none | 02 R52 | none -/
  thetaPrev : Option Int := none
  /-- TB_SLEW.SLEW_FAST | 16 bit, ppm | 02 Table 02-12 | 1 000 -/
  slewFast : Nat := 1000
  /-- TB_SLEW.SLEW_RUN | 16 bit, 0.01 ppm | 02 Table 02-12 | 1 000 -/
  slewRun : Nat := 1000
  /-- TB_HOLD.HOLD_LIMIT | 16 bit, µs | 02 Table 02-12 | 10 -/
  holdLimit : Nat := 10
  /-- TB_HOLD.HOLD_DRIFT | 16 bit, 0.01 ppm | 02 Table 02-12 | 200 -/
  holdDrift : Nat := 200
  /-- TB_PPS.PPSOUT_COMP | signed 16 bit, 1/64 ns | 02 Table 02-13 | 0 -/
  ppsOutComp : Int := 0
  /-- TB_PPS.PPSOUT_WIDTH | 8 bit, 2 ms | 02 Table 02-13 | 50 -/
  ppsOutWidth : Nat := 50
  /-- latched TB_NOW_LO and TB_NOW_HI as one count | 64 bit, ns | 02 R59, Table 02-9 | 0 -/
  nowLatch : Nat := 0
  /-- consecutive measurements with |θ| < 50 ns in ACQUIRING | count | 02 Table 02-3 | 0 -/
  lockRun : Nat := 0
  /-- consecutive cell cycles without a valid θ | count | 02 Table 02-3 | 0 -/
  missRun : Nat := 0
  /-- stamp of the last valid measurement | cell time | 02 R54 | 0 -/
  lastValid : Time := 0
  /-- stamp of the last accepted PPS_IN edge | cell time or none | 02 R55 | none -/
  lastPps : Option Time := none
  /-- recent values of the frequency term with the instant each began, newest first | cell time, 2^-40 | 02 Table 02-3 (mean over 1 s) | one entry (0, 0) -/
  freqHist : List (Time × Int) := [(0, 0)]
  /-- relabel awaiting its 4 ms multiple: due instant, measured θ and its interval τ | cell time, 1/64 ns, 1/64 ns | 02 R47 | none -/
  relabel : Option (Time × Int × Time) := none
  /-- interval τ of the last valid measurement | 1/64 ns | 02 R52 | 0 -/
  lastTau : Time := 0
  /-- time-of-day shift awaiting its 4 ms multiple: due instant and whole seconds | cell time, s | 02 R50 | none -/
  todShift : Option (Time × Int) := none
  /-- level of PPS_OUT | 1 bit | 02 R56, 17 Table 17-3 | 0 -/
  ppsOut : Bool := false
  /-- instant at which PPS_OUT falls | cell time | 02 R56 | 0 -/
  ppsFallAt : Time := 0
  /-- stamp of the last PPS_OUT rising edge by TS43 | stamp | 02 Table 02-2 | none -/
  ppsOutStamp : Option Stamp := none
  /-- the 64 interpolators TS0–TS63 | table | 02 R40 | calibrated at 0 -/
  interp : Vector Interp 64 := Vector.replicate 64 {}
  /-- the four rovers TS60–TS63 | table | 02 R43 | rover i at channel i -/
  rovers : Vector Rover 4 := ⟨#[{ chan := 0 }, { chan := 1 }, { chan := 2 }, { chan := 3 }], rfl⟩
  /-- channel that the next rover to move on takes | 0–59 | 02 R43 | 4 -/
  turn : Nat := 4
  deriving DecidableEq, Repr, Inhabited

/-- Where the cyclic events stand (chapter 01): the next instant at which each rate fires (R10). -/
structure CycSt where
  /-- cell time now, the greatest instant a step has stood at | 1/64 ns | 02 R37, R39 | 0 -/
  now : Time := 0
  /-- start of the current period in progress | cell time | 01 R14 | 0 -/
  tk : Time := 0
  /-- start of the control cycle in progress | cell time | 01 R14 | 0 -/
  t0 : Time := 0
  /-- start of the separation cycle in progress | cell time | 01 R17 | 0 -/
  s0 : Time := 0
  /-- next current-period event | cell time | 01 R10, 02 R39 | 0 -/
  nextTk : Time := 0
  /-- next control-cycle event | cell time | 01 R10, 02 R39 | 0 -/
  nextT0 : Time := 0
  /-- next separation-cycle event | cell time | 01 R10, 02 R39 | 0 -/
  nextS0 : Time := 0
  /-- next cell-cycle close | cell time | 01 R10, 11 R334 | 0 -/
  nextCell : Time := 0
  /-- feedback cut-off of the present period done | 1 bit | 01 R14 | 0 -/
  cutDone : Bool := false
  /-- outbound launch of the present period done | 1 bit | 01 R14 | 0 -/
  launchDone : Bool := false
  /-- generators of the present control cycle have advanced | 1 bit | 01 Table 01-2 | 1 -/
  genDone : Bool := true
  /-- LATCH of the present control cycle done | 1 bit | 01 R16 | 0 -/
  latchDone : Bool := false
  /-- copy deadline of the last control cycle done | 1 bit | 01 R14 | 0 -/
  copyDone : Bool := false
  /-- cycle events running, from internal reset release on | 1 bit | 02 R39, 17 R474 | 1 -/
  running : Bool := true
  deriving DecidableEq, Repr, Inhabited

/-! ### Parameter sets (09 R271 to R273, 13 R383) -/

/-- One serialised parameter record with its value (09 R272). -/
structure ParamRec where
  /-- PID | 16 bit | 13 R383 | – -/
  pid : Nat := 0
  /-- INST | 8 bit | 13 R383 | – -/
  inst : Nat := 0
  /-- SUB | 8 bit | 13 R383 | – -/
  sub : Nat := 0
  /-- value bytes, empty for a parameter without value | LEN bytes | 09 R272, 13 R384 | – -/
  val : Bytes := []
  deriving DecidableEq, Repr, Inhabited

/-- A parameter set: the records that differ from their defaults, in the order of R272. -/
abbrev ParamSet := List ParamRec

/-- One open parameter transaction of a session (12 R373). -/
structure TransSt where
  /-- part: 0 SAFETY, 1 OPERATIONAL | code | 12 R373 | – -/
  part : Nat := 0
  /-- base: 0 COMMITTED, 1 SLOT_A, 2 SLOT_B, 3 EMPTY | code | 13 Table 13-3 | – -/
  base : Nat := 0
  /-- records of the transaction over its base | set | 12 R373 | – -/
  recs : ParamSet := []
  /-- serialised bytes appended by WRITE_SEG so far | bytes | 12 R373 | [] -/
  raw : Bytes := []
  /-- next expected offset | count | 12 R373 | 0 -/
  next : Nat := 0
  /-- closed with success | 1 bit | 12 R373 | 0 -/
  closed : Bool := false
  /-- check value computed at CLOSE_SET | 32 bit | 09 R273 | 0 -/
  check : Nat := 0
  /-- engineer that confirmed the set | ID or none | 09 R275 | none -/
  confirmedBy : Option Nat := none
  /-- change count of the committed set when the transaction was opened | count | 12 R373 | 0 -/
  baseGen : Nat := 0
  deriving DecidableEq, Repr, Inhabited

/-- A flash slot write, waiting or in progress (12 R374). -/
structure FlashWr where
  /-- slot: 1 A, 2 B | code | 13 Table 13-3 | – -/
  slot : Nat := 1
  /-- set written | records | 12 R374 | – -/
  set : ParamSet := []
  /-- check value of its safety part | 32 bit | 12 R374 | – -/
  check : Nat := 0
  /-- part of the COMMIT: 0 SAFETY, 1 OPERATIONAL | code | 13 Table 13-19 | – -/
  part : Nat := 0
  /-- ticket | 32 bit | 12 R374 | – -/
  ticket : Nat := 0
  deriving DecidableEq, Repr, Inhabited

/-- The sets the part keeps. -/
structure SetsSt where
  /-- committed set in force | set | 09 R271 | empty -/
  com : ParamSet := []
  /-- flash slot A | set and check value | 12 R374 | none -/
  slotA : Option (ParamSet × Nat) := none
  /-- flash slot B | set and check value | 12 R374 | none -/
  slotB : Option (ParamSet × Nat) := none
  /-- changes of the committed set | count | 12 R373, 13 R385 | 0 -/
  gen : Nat := 0
  /-- flash slot writes, the one in progress first | – | 12 R374 | [] -/
  flash : List FlashWr := []
  deriving DecidableEq, Repr, Inhabited

/-! ### Chapter 03: lanes and profiles -/

/-- The integer state of a profile generator (03 R70). -/
structure GenSt where
  /-- jerk J | 2^-64 rev per cycle³ | 03 R70 | 0 -/
  j : Int := 0
  /-- acceleration A | signed 64 bit, 2^-64 rev per cycle² | 03 R70 | 0 -/
  a : Int := 0
  /-- twice the velocity V2 | signed 64 bit, 2^-64 rev per cycle | 03 R70 | 0 -/
  v2 : Int := 0
  /-- six times the position P6 | signed 128 bit, 2^-64 rev | 03 R70 | 0 -/
  p6 : Int := 0
  /-- cumulative trim T | 2^-64 rev | 03 R70 | 0 -/
  t : Int := 0
  deriving DecidableEq, Repr, Inhabited

/-- Four active limits in command units (03 Table 03-3). -/
structure Limits where
  /-- VMAX | 2^-16 rev/s | 03 R67 | V_HARD of the set in force -/
  v : Nat := 0
  /-- AMAX | 2^-12 rev/s² | 03 R67 | A_HARD of the set in force -/
  a : Nat := 0
  /-- DMAX | 2^-12 rev/s² | 03 R67 | D_HARD of the set in force -/
  d : Nat := 0
  /-- JMAX | 2^-8 rev/s³ | 03 R67 | J_HARD of the set in force -/
  j : Nat := 0
  deriving DecidableEq, Repr, Inhabited

/-- What a point-to-point command asked for (03 R74, R76). -/
inductive MotionCmd where
  | hold
  | move (target : Int)
  | jog (dir : Int)
  | stop
  deriving DecidableEq, Repr, Inhabited

/-- The plan record of a move (03 R75) with its progress. -/
structure PlanRec where
  /-- start control cycle | cell time | 03 R75 | – -/
  start : Time := 0
  /-- N1 to N7 | control cycles | 03 R74 | – -/
  n : List Nat := []
  /-- the seven jerks | 2^-64 rev per cycle³ | 03 R74 | – -/
  js : List Int := []
  /-- trim W | 2^-64 rev | 03 R74 | – -/
  w : Int := 0
  /-- final position of this leg, none for a jog or a stop | position word | 03 R74 | – -/
  target : Option Int := none
  /-- target of the second leg that follows the rest point | position word | 03 R79 | – -/
  leg2 : Option Int := none
  /-- control cycles of this leg completed | count | 03 R70 | – -/
  k : Nat := 0
  /-- direction of a jog, 0 otherwise | −1, 0, 1 | 03 R76 | – -/
  jogDir : Int := 0
  deriving DecidableEq, Repr, Inhabited

/-- Stepped mode of a lane (03 R86, R87). -/
structure StepSt where
  /-- step-input pair that feeds the axis | 0–7 | 03 R86 | 0 -/
  pair : Nat := 0
  /-- direction inverted by the command | 1 bit | 03 R86 | 0 -/
  invert : Bool := false
  /-- count of steps | signed | 03 R87 | 0 -/
  count : Int := 0
  /-- anchor | position word | 03 R87 | 0 -/
  anchor : Int := 0
  /-- stamp and sign of the previous step | cell time, ±1 | 03 R87 | none -/
  prev : Option (Time × Int) := none
  /-- segment in force: start instant | cell time | 03 R87 | 0 -/
  segT0 : Time := 0
  /-- segment in force: value at its start | exact position | 03 R87 | 0 -/
  segP0 : Rat := 0
  /-- segment in force: end instant | cell time | 03 R87 | 0 -/
  segT1 : Time := 0
  /-- segment in force: goal | position word | 03 R87 | 0 -/
  segP1 : Int := 0
  /-- dt of the last step | 1/64 ns | 03 R87 | 0 -/
  dt : Time := 0
  /-- fastest segment since the last control cycle | 2^-64 rev per cycle | 03 R88 | 0 -/
  top : Int := 0
  /-- the final segment has been started | 1 bit | 03 R87 | 0 -/
  finalDone : Bool := true
  deriving DecidableEq, Repr, Inhabited

/-- Geared mode of a lane (03 R89 to R92). -/
structure GearSt where
  /-- master axis | 0–63 | 03 R89 | 0 -/
  master : Nat := 0
  /-- master source: false REF, true FB | 1 bit | 03 R89 | 0 -/
  srcFb : Bool := false
  /-- ratio numerator N | signed 32 bit | 03 R90 | 0 -/
  num : Int := 0
  /-- ratio denominator D | 32 bit, > 0 | 03 R90 | 1 -/
  den : Nat := 1
  /-- ramp length G | cycles | 03 R90 | 1 -/
  g : Nat := 1
  /-- geared cycles run, n of R90 | count | 03 R90 | 0 -/
  n : Nat := 0
  /-- s_n | signed 128 bit | 03 R90 | 0 -/
  acc : Int := 0
  /-- ALIGN engagement: slave and master positions | position words | 03 R91 | none -/
  align : Option (Int × Int) := none
  /-- generator of the superimposed ALIGN move | R70 state | 03 R91 | none -/
  sup : Option GenSt := none
  /-- plan of the superimposed ALIGN move | R75 record | 03 R91 | none -/
  supPlan : Option PlanRec := none
  /-- position of the superimposed move already added | position word | 03 R91 | 0 -/
  supDone : Int := 0
  /-- the gear is locked | 1 bit | 03 R91 | 0 -/
  locked : Bool := false
  /-- this cycle's slave increment | position word | 03 R133 | 0 -/
  inc : Int := 0
  deriving DecidableEq, Repr, Inhabited

/-- Homing of a lane (03 R97, Table 03-6). -/
structure HomeSt where
  /-- method: 0 SET, 1 INDEX, 2 SWITCH_INDEX, 3 HARD_STOP | code | 03 Table 03-6 | 0 -/
  method : Nat := 0
  /-- search direction | ±1 | 03 R97 | 1 -/
  dir : Int := 1
  /-- phase: 0 search, 1 search for the index beyond the switch, 2 back-off, 3 final motion | code | 03 R97 | 0 -/
  phase : Nat := 0
  /-- feedback position where the search began | position word | 03 R97 | 0 -/
  startPos : Int := 0
  /-- HOME_POS named by the command | position word | 03 R97 | none -/
  homePos : Option Int := none
  /-- homing switch GPIO | 0–15 | 03 R97 | 0 -/
  gpio : Nat := 0
  /-- control cycles with the following error above HOME_FE | count | 03 R97 | 0 -/
  stall : Nat := 0
  /-- mark position latched for relabelling, raw feedback position | position word | 03 R97 | none -/
  mark : Option Int := none
  /-- position the mark becomes: HOME_OFFSET or SET_POS | position word | 03 R97, 13 Table 13-5 | 0 -/
  label : Int := 0
  /-- control cycles with the current at HOME_I and no stall | count | 03 Table 03-6 | 0 -/
  limRun : Nat := 0
  /-- status the sequence will end with | 16 bit | 13 R387 | OK -/
  result : Nat := 0
  /-- ticket of the HOME command | 32 bit | 03 R97, 12 R370 | 0 -/
  ticket : Nat := 0
  /-- lost steps since the search began | count | 04 R115 | 0 -/
  lost : Nat := 0
  deriving DecidableEq, Repr, Inhabited

/-! ### Chapter 04: coil current -/

/-- One edge entry: offset in 1/4 ns and code of Table 04-3 (04 R128). -/
abbrev Edge := Nat × Nat

/-- The model of a phase at the start of the window that is being planned (04 R109). -/
structure ChopBack where
  /-- model current | 2^-16 Q1.15 LSB | 04 R109 | 0 -/
  y : Int := 0
  /-- polarity p | ±1 | 04 R109 | 1, DESIGN CHOICE -/
  p : Int := 1
  /-- present state: 0 SLOW, 1 FAST, 2 ON | code | 04 R109 | SLOW, DESIGN CHOICE -/
  st : Nat := 0
  /-- polarity of the ON state of the model | ±1 | 04 R109 | 1, DESIGN CHOICE -/
  stP : Int := 1
  /-- start of the present state against the window start | 1/4 ns, ≤ 0 | 04 R109 | 0 -/
  tst : Int := 0
  deriving DecidableEq, Repr, Inhabited

/-- One stepper phase's chopper (04 R105 to R108). -/
structure PhaseSt where
  /-- the model before the last plan | – | 04 R109 | idle -/
  back : ChopBack := {}
  /-- slope of the last plan | 2^-16 LSB per 1/4 ns | 04 R106 | 0 -/
  planSlope : Int := 0
  /-- the slopes have started from their nominal values since reset | 1 bit | 04 R105 | 0 -/
  learned : Bool := false
  /-- model current y = p × i | 2^-16 Q1.15 LSB | 04 R105 | 0 -/
  y : Int := 0
  /-- polarity p | ±1 | 04 R105 | 1, DESIGN CHOICE -/
  p : Int := 1
  /-- present state: 0 SLOW, 1 FAST, 2 ON | code | 04 R105 | SLOW, DESIGN CHOICE -/
  st : Nat := 0
  /-- polarity of the ON state of the model | ±1 | 04 R107 | 1, DESIGN CHOICE -/
  stP : Int := 1
  /-- start of the present state t_st against the window start | 1/4 ns, ≤ 0 | 04 R107 | 0 -/
  tst : Int := 0
  /-- last edge before window k − 1, against its start | 1/4 ns, ≤ 0 | 04 R106 | −8 000 -/
  lastEdge : Int := -8000
  /-- slope s_on | 2^-16 LSB per 1/4 ns | 04 R105 | 0 until the first enable gives S_ON_NOM -/
  sOn : Int := 0
  /-- slope s_fast | 2^-16 LSB per 1/4 ns | 04 R105 | 0 until the first enable gives S_FAST_NOM -/
  sFast : Int := 0
  /-- slope s_slow | 2^-16 LSB per 1/4 ns | 04 R105 | 0 until the first enable gives S_SLOW_NOM -/
  sSlow : Int := 0
  /-- edge bias | signed, 1/4 ns | 04 R105 | 0 -/
  bias : Int := 0
  /-- edges of window k − 1, the one whose samples arrive in period k | entries | 04 R100 | [] -/
  winPrev : List Edge := []
  /-- edges of window k, committed | entries | 04 R100 | [] -/
  winCur : List Edge := []
  /-- edges planned for window k + 1 | entries | 04 R100 | [] -/
  winNext : List Edge := []
  /-- state code the phase held when window k − 1 began | code | 04 R128 | SLOW -/
  codePrev : Nat := 0
  /-- thresholds of windows k − 1, k, k + 1 | Q1.15 | 04 R106 | 0, 0, 0 -/
  th : Int × Int × Int := (0, 0, 0)
  /-- polarities of windows k − 1, k, k + 1 | ±1 | 04 R106 | 1, 1, 1 -/
  pol : Int × Int × Int := (1, 1, 1)
  /-- consecutive counted periods with a low ON slope | count | 04 R117 | 0 -/
  coil : Nat := 0
  deriving DecidableEq, Repr, Inhabited

/-- The current path of a lane (chapter 04). -/
structure CurSt where
  /-- stepper phases A and B | table | 04 R105 | idle -/
  phA : PhaseSt := {}
  /-- stepper phase B | – | 04 R105 | idle -/
  phB : PhaseSt := {}
  /-- electrical angle e of the window planned last | 14 bit | 04 R102 | 0 -/
  e : Nat := 0
  /-- electrical angles of windows k − 1 and k − 2 | 14 bit | 06 R173 | 0, 0 -/
  ePrev : Nat × Nat := (0, 0)
  /-- E_OFF | 14 bit | 04 R103 | 0 -/
  eOff : Nat := 0
  /-- E_OFF is to be chosen at the first period after an enable | 1 bit | 04 R103 | 0 -/
  eAlign : Bool := false
  /-- re-alignment to the rotor due in the next current period | 1 bit | 04 R114 | 0 -/
  reAlign : Bool := false
  /-- position on its way back to HOMED after a lost step | 1 bit | 04 R114 | 0 -/
  recover : Bool := false
  /-- consecutive periods with |λ| ≤ STALL_TH while recovering | count | 04 R114 | 0 -/
  recoverRun : Nat := 0
  /-- I_MAG in force | Q1.15 | 04 R111 | 0 -/
  iMag : Int := 0
  /-- lam_f | Q1.15 | 04 R110 | 0 -/
  lamF : Int := 0
  /-- λ of the period | Q1.15 of 180° | 04 R110 | 0 -/
  lam : Int := 0
  /-- LA_VALID | 1 bit | 04 R110 | 0 -/
  laValid : Bool := false
  /-- AT_CEILING of the period | 1 bit | 04 R110 | 0 -/
  atCeil : Bool := false
  /-- HOLD | 1 bit | 04 R110 | 0 -/
  hold : Bool := false
  /-- consecutive periods with e unchanged | count | 04 R110 | 0 -/
  still : Nat := 0
  /-- consecutive periods in which the stall condition held | count | 04 R112 | 0 -/
  stallRun : Nat := 0
  /-- consecutive periods in which it failed | count | 04 R112 | 0 -/
  stallClr : Nat := 0
  /-- edge_err of the last window | 1/4 ns | 04 R106 | 0 -/
  edgeErr : Nat := 0
  /-- centre angle θ of window k − 1 | 16 bit, or none | 04 R118 | none -/
  theta : Option Nat := none
  /-- centre angle θ of window k − 2 | 16 bit, or none | 04 R118 | none -/
  thetaPrev : Option Nat := none
  /-- Δθ in use | signed 16 bit | 04 R118 | 0 -/
  dTheta : Int := 0
  /-- first period after an enable | 1 bit | 04 R118 | 0 -/
  first : Bool := false
  /-- d current measured | Q1.15 | 04 R119 | 0 -/
  id : Int := 0
  /-- q current measured | Q1.15 | 04 R119 | 0 -/
  iq : Int := 0
  /-- d integrator | Q10.30 | 04 R121 | 0 -/
  intD : Int := 0
  /-- q integrator | Q10.30 | 04 R121 | 0 -/
  intQ : Int := 0
  /-- servo leg entries planned for window k + 1: legs a, b, c | entries | 04 R124 | [] -/
  legs : List (List Edge) := [[], [], []]
  /-- servo leg entries committed for window k: legs a, b, c | entries | 04 R125, R109 | [] -/
  legsCur : List (List Edge) := [[], [], []]
  /-- last V_DC at or above V_DC_MIN since the enable | 0.1 V, or none | 04 R125 | none -/
  vdc : Option Nat := none
  /-- consecutive periods with V_DC below V_DC_MIN | count | 04 R125 | 0 -/
  uvRun : Nat := 0
  /-- consecutive periods with an invalid centre or encoder sample | count | 04 R125 | 0 -/
  lostRun : Nat := 0
  /-- consecutive counted periods with a phase sum above 2 048 | count | 04 R119 | 0 -/
  sumRun : Nat := 0
  /-- consecutive missed current-loop deadlines | count | 01 Table 01-4 | 0 -/
  missRun : Nat := 0
  /-- I_REF_SAT of current periods 0 to 3 of the cycle in progress | 4 bits | 04 R120 | 0 -/
  refSat : List Bool := [false, false, false, false]
  /-- U_SAT of current periods 0 to 3 of the cycle in progress | 4 bits | 04 R122 | 0 -/
  uSat : List Bool := [false, false, false, false]
  /-- CHOP_LIMIT, sticky | 1 bit | 04 R108 | 0 -/
  chopLimit : Bool := false
  /-- LOST_STEP, sticky | 1 bit | 04 R113 | 0 -/
  lostStep : Bool := false
  /-- BUS_UNDERVOLT, sticky | 1 bit | 04 R125 | 0 -/
  busUnder : Bool := false
  /-- OVERCURRENT, sticky | 1 bit | 04 R126 | 0 -/
  overCur : Bool := false
  /-- COIL_FAULT, sticky | 1 bit | 04 R117 | 0 -/
  coilFault : Bool := false
  /-- AT_CEILING of current period 0 | 1 bit | 04 R130 | 0 -/
  atCeil0 : Bool := false
  /-- measured d and q current of current period 0 | Q1.15 pair | 05 Table 05-6 | 0, 0 -/
  idq0 : Int × Int := (0, 0)
  /-- DP_KSTAT.EXPR | 8 bit | 06 Table 06-6 | 0 -/
  expr : Nat := 0
  /-- DP_KSTAT.ENC_AMP of current period 0 | 1 bit | 06 R171 | 0 -/
  encAmpBad : Bool := false
  /-- a CURRENT-class kernel of the period gave NaN | 1 bit | 06 R177 | 0 -/
  kNan : Bool := false
  /-- DP_KSTAT.ENC_SLIP of current period 0 | 1 bit | 06 R172 | 0 -/
  encSlip : Bool := false
  /-- DP_KSTAT.AMP of current period 0 | 16 bit | 06 Table 06-6 | 0 -/
  amp : Nat := 0
  deriving DecidableEq, Repr, Inhabited

/-! ### Chapter 05: loops -/

/-- One direct-form-I biquad with error feedback (05 R140). -/
structure BiquadSt where
  /-- x1 | Q1.15 | 05 R140 | 0 -/
  x1 : Int := 0
  /-- x2 | Q1.15 | 05 R140 | 0 -/
  x2 : Int := 0
  /-- y1 | Q1.15 | 05 R140 | 0 -/
  y1 : Int := 0
  /-- y2 | Q1.15 | 05 R140 | 0 -/
  y2 : Int := 0
  /-- carry r | 0–32 767 | 05 R140 | 0 -/
  r : Int := 0
  /-- EN as last run | 1 bit | 05 R140 | 0 -/
  en : Bool := false
  deriving DecidableEq, Repr, Inhabited

/-- The committed state and the signals of the position and velocity loops (chapter 05). -/
structure LoopSt where
  /-- velocity integrator | Q10.30 | 05 R138 | 0 -/
  integ : Int := 0
  /-- NOTCH1 states | – | 05 R140 | 0 -/
  notch1 : BiquadSt := {}
  /-- NOTCH2 states | – | 05 R140 | 0 -/
  notch2 : BiquadSt := {}
  /-- LOWPASS states | – | 05 R140 | 0 -/
  lowpass : BiquadSt := {}
  /-- filters start from their first input at the next run | 1 bit | 05 R140, R148 | 0 -/
  filtInit : Bool := false
  /-- p_fb(n − 1) | position word, none before the first cycle after an enable | 05 R134 | none -/
  pfbPrev : Option Int := none
  /-- stepper position trim c | position word | 05 R142 | 0 -/
  corr : Int := 0
  /-- FE_COUNT | saturating at 65 535 | 05 R144 | 0 -/
  feCount : Nat := 0
  /-- command sent: i_q_ref, v_ref or torque | Q1.15 | 05 Table 05-1 | 0 -/
  cmd : Int := 0
  /-- e_p | signed 64 bit | 05 R132 | 0 -/
  ep : Int := 0
  /-- e_q | Q1.15 | 05 R137 | 0 -/
  eq : Int := 0
  /-- v_ref | Q1.15 | 05 R137 | 0 -/
  vref : Int := 0
  /-- v_fb | Q1.15 | 05 R134 | 0 -/
  vfb : Int := 0
  /-- e_v | Q1.15 | 05 R138 | 0 -/
  ev : Int := 0
  /-- u_pi | Q1.15 | 05 R138 | 0 -/
  upi : Int := 0
  /-- output of notch 1 | Q1.15 | 05 R138 | 0 -/
  n1 : Int := 0
  /-- output of notch 2 | Q1.15 | 05 R138 | 0 -/
  n2 : Int := 0
  /-- u_lp | Q1.15 | 05 R138 | 0 -/
  ulp : Int := 0
  /-- v_ff | Q1.15 | 05 R134 | 0 -/
  vff : Int := 0
  /-- a_ff | Q1.15 | 05 R134 | 0 -/
  aff : Int := 0
  /-- injection sample in the loops' outputs | Q1.15 | 05 R150 | 0 -/
  inj : Int := 0
  /-- injection sample of the control cycle that runs, not yet added | Q1.15, none without a run | 05 R150 | none -/
  injCyc : Option Int := none
  /-- FOLLOWING_ERROR, sticky | 1 bit | 05 R144 | 0 -/
  feFault : Bool := false
  /-- LOOP_NAN, sticky | 1 bit | 05 R136 | 0 -/
  nan : Bool := false
  /-- CORR_LIMIT of the cycle | 1 bit | 05 R142 | 0 -/
  corrLimit : Bool := false
  /-- INJ_ACTIVE of the cycle | 1 bit | 05 Table 05-10 | 0 -/
  injAct : Bool := false
  /-- FB_HOLD of the cycle | 1 bit | 05 R146 | 0 -/
  fbHold : Bool := false
  /-- INT_FROZEN of the cycle | 1 bit | 05 R139 | 0 -/
  frozen : Bool := false
  /-- FE_WARN of the cycle | 1 bit | 05 R144 | 0 -/
  feWarn : Bool := false
  /-- the cycle's outputs were held (R145, R146, R136) | 1 bit | 05 R153 | 0 -/
  held : Bool := false
  /-- OVERRUN of the cycle | 1 bit | 01 Table 01-4 | 0 -/
  overrun : Bool := false
  /-- consecutive overruns | count | 01 Table 01-4 | 0 -/
  overRun : Nat := 0
  /-- held cycles whose generator update is still owed | count | 05 R145 | 0 -/
  owed : Nat := 0
  deriving DecidableEq, Repr, Inhabited

/-- Feedback of an axis, from its encoder samples (05 R132, 06 R172). -/
structure FbSt where
  /-- position in signal periods of the last valid sample | 2^-24 period | 06 R172 | none -/
  periods : Option Int := none
  /-- feedback position after homing relabels | position word | 05 R132 | 0 -/
  pos : Int := 0
  /-- relabel offset added to the raw load-side position | position word | 03 R97 | 0 -/
  offset : Int := 0
  /-- the encoder sample of the present period is valid | 1 bit | 04 R125, 06 R171 | 0 -/
  valid : Bool := false
  /-- the encoder sample of current period 0 was valid | 1 bit | 05 R146 | 0 -/
  valid0 : Bool := false
  /-- position of current period 0 for the loops | position word | 05 R132 | 0 -/
  pos0 : Int := 0
  /-- a valid feedback has arrived since reset or reboot | 1 bit | 03 R96 | 0 -/
  seen : Bool := false
  /-- external drive's saturation flag in the last frame | 1 bit | 10 Table 10-4 | 0 -/
  extSat : Bool := false
  /-- external drive's saturation flag of current periods 0 to 3 of the cycle in progress | 4 bits | 05 R143 | 0 -/
  extSats : List Bool := [false, false, false, false]
  /-- ABS_OK of the last frame | 1 bit | 10 Table 10-4 | 0 -/
  absOk : Bool := false
  /-- measured velocity or torque of an external drive | Q1.15 | 10 R295 | 0 -/
  extMeas : Int := 0
  deriving DecidableEq, Repr, Inhabited

/-- The flags of AX_STAT that the lane keeps (03 Table 03-7). -/
structure AxFlags where
  /-- AVAILABLE | 1 bit | 03 Table 03-7 | 0 -/
  available : Bool := false
  /-- STEP_SLIPPED | 1 bit | 03 Table 03-7 | 0 -/
  stepSlipped : Bool := false
  /-- STEP_GLITCH, sticky | 1 bit | 03 Table 03-7 | 0 -/
  stepGlitch : Bool := false
  /-- TARGET_REACHED | 1 bit | 03 R75 | 0 -/
  targetReached : Bool := false
  /-- REVERSAL_PLANNED | 1 bit | 03 R79 | 0 -/
  reversal : Bool := false
  /-- OVERSHOOT_PLANNED | 1 bit | 03 R79 | 0 -/
  overshoot : Bool := false
  /-- TARGET_CLIPPED | 1 bit | 03 R81 | 0 -/
  clipped : Bool := false
  /-- DECEL_RAISED | 1 bit | 03 R78 | 0 -/
  decelRaised : Bool := false
  /-- SOFT_LIMIT_STOP | 1 bit | 03 R95 | 0 -/
  softStop : Bool := false
  /-- STEP_OVERRATE, sticky | 1 bit | 03 R88 | 0 -/
  stepOver : Bool := false
  /-- STEP_OVERRATE count | 16 bit, saturating | 03 R88 | 0 -/
  overCount : Nat := 0
  /-- GEAR_SLIPPED | 1 bit | 03 R92 | 0 -/
  gearSlipped : Bool := false
  /-- GEAR_RAMPING | 1 bit | 03 R90 | 0 -/
  gearRamping : Bool := false
  /-- PLAN_FALLBACK | 1 bit | 03 R84 | 0 -/
  planFallback : Bool := false
  /-- STALL_IMMINENT | 1 bit | 04 R112 | 0 -/
  stall : Bool := false
  /-- HOME_FAILED, sticky | 1 bit | 03 Table 03-7 | 0 -/
  homeFailed : Bool := false
  deriving DecidableEq, Repr, Inhabited

/-- What a lane holds between control cycles and gives back on a held cycle (05 R145). -/
structure AxHeld where
  /-- generator | – | 05 R145 | 0 -/
  gen : GenSt := {}
  /-- move plan | – | 05 R145 | none -/
  plan : Option PlanRec := none
  /-- gear state | – | 05 R145 | none -/
  gear : Option GearSt := none
  /-- stepped mode | – | 05 R145 | idle -/
  step : StepSt := {}
  /-- profile mode | code | 05 R145 | IDLE -/
  mode : ProfMode := .idle
  /-- motion command | – | 05 R145 | hold -/
  cmd : MotionCmd := .hold
  /-- last reference increment | position word | 05 R145 | 0 -/
  lastInc : Int := 0
  /-- falling cap | – | 05 R145 | none -/
  cap : Option (Int × Int) := none
  /-- the plan is the stop at a soft limit under the hard limits | 1 bit | 05 R145 | 0 -/
  hardEnd : Bool := false
  /-- flags | – | 05 R145 | 0 -/
  flags : AxFlags := {}
  /-- wrap of the cycle | position word | 05 R145 | 0 -/
  shift : Int := 0
  /-- reference | position word | 05 R145 | 0 -/
  refP : Int := 0
  /-- previous reference | position word | 05 R145 | 0 -/
  refPrev : Int := 0
  deriving DecidableEq, Repr, Inhabited

/-- One logical axis with the lane state that serves it (chapters 03 to 06). -/
structure AxisSt where
  /-- STATE of AX_STAT | 2 bit | 03 Table 03-7 | DISABLED -/
  fn : FnState := .disabled
  /-- MODE of AX_STAT | 4 bit | 03 Table 03-7 | IDLE -/
  mode : ProfMode := .idle
  /-- POS_STATUS of AX_STAT | 2 bit | 03 R96 | UNREFERENCED -/
  pos : PosStatus := .unreferenced
  /-- generator state | – | 03 R70 | 0 -/
  gen : GenSt := {}
  /-- move plan in force | record | 03 R75 | none -/
  plan : Option PlanRec := none
  /-- last plan record formed, for GET_MOVE_PLAN | record | 03 R75 | none -/
  lastPlan : Option PlanRec := none
  /-- motion command the plan in force answers | – | 03 R77 | hold -/
  cmd : MotionCmd := .hold
  /-- active limits | command units | 03 R67 | hard limits of the set -/
  lim : Limits := {}
  /-- stepped mode | – | 03 R87 | idle -/
  step : StepSt := {}
  /-- geared mode | – | 03 R90 | none -/
  gear : Option GearSt := none
  /-- homing sequence | – | 03 R97 | none -/
  home : Option HomeSt := none
  /-- reference computed in the present control cycle, p_ref(n) | position word | 03 R70 | 0 -/
  refP : Int := 0
  /-- reference of the previous control cycle, p_ref(n − 1) | position word | 04 R102 | 0 -/
  refPrev : Int := 0
  /-- last reference increment of a control cycle | position word | 03 R71 | 0 -/
  lastInc : Int := 0
  /-- control-cycle start at which a command last set the profile mode | cell time | 03 R73 | 0 -/
  modeAt : Time := 0
  /-- the plan in force is the stop at a soft limit under D_HARD and J_HARD | 1 bit | 03 R95 | 0 -/
  hardEnd : Bool := false
  /-- reference and predecessor released to the current path at the last LATCH | position words | 01 R15 | 0, 0 -/
  rel : Int × Int := (0, 0)
  /-- stepper trim released at the last LATCH | position word | 05 R142 | 0 -/
  relCorr : Int := 0
  /-- loop command released at the last LATCH | Q1.15 | 01 R15 | 0 -/
  relCmd : Int := 0
  /-- current-point injection sample released at the last LATCH | Q1.15 | 05 Table 05-3, 01 R15 | 0 -/
  relInj : Int := 0
  /-- position added to the reference by a modulo wrap of the cycle, not yet released | position word | 03 R66 | 0 -/
  shift : Int := 0
  /-- master increments of the cycle in progress and of held ones | position words | 03 R89, 05 R145 | [] -/
  dms : List Int := []
  /-- velocity and deceleration of the falling cap of a safety speed limit in GEARED or STEPPED | per cycle, or none | 03 R93 | none -/
  cap : Option (Int × Int) := none
  /-- feed-forward velocity v_c of the cycle | 2^-64 rev per cycle | 05 R133 | 0 -/
  vc : Int := 0
  /-- feed-forward acceleration a_c of the cycle | 2^-64 rev per cycle² | 05 R133 | 0 -/
  ac : Int := 0
  /-- snapshot positions (reference, feedback) of the last LATCH | position words | 01 R16 | 0, 0 -/
  snap : Int × Int := (0, 0)
  /-- snapshot positions of the LATCH before | position words | 03 R89 | 0, 0 -/
  snapPrev : Int × Int := (0, 0)
  /-- safety speed limit in force for the axis | 2^-16 rev/s, or none | 03 R93 | none -/
  slim : Option Nat := none
  /-- effective velocity limit of the plan in force | 2^-16 rev/s | 03 R93 | 0 -/
  vEff : Nat := 0
  /-- flags | – | 03 Table 03-7 | 0 -/
  flags : AxFlags := {}
  /-- feedback | – | 05 R132 | none -/
  fb : FbSt := {}
  /-- current path | – | chapter 04 | 0 -/
  cur : CurSt := {}
  /-- loops | – | chapter 05 | 0 -/
  loop : LoopSt := {}
  /-- state to return to if the cycle is held | – | 05 R145 | 0 -/
  held : AxHeld := {}
  /-- torque command of the slot: STO bit of its descriptor | 1 bit | 10 Table 10-2 | 1 -/
  sto : Bool := true
  /-- the reference lay beyond a soft limit in the last control cycle | 1 bit | 03 R95 | 0 -/
  softCross : Bool := false
  /-- LA_GV and LA_GT in use since the last enable | gains (M, E) | 06 Table 06-4 | (0, 0), (0, 0) -/
  laGain : (Nat × Nat) × (Nat × Nat) := ((0, 0), (0, 0))
  deriving DecidableEq, Repr, Inhabited

/-! ### Chapter 06: datapaths -/

/-- One complex multiply-accumulate datapath (06 R159, Table 06-5). -/
structure DpSt where
  /-- ACC_R | signed 40 bit, Q10.30 | 06 R159 | 0 -/
  accR : Int := 0
  /-- ACC_I | signed 40 bit, Q10.30 | 06 R159 | 0 -/
  accI : Int := 0
  /-- NaN tag of ACC_R | 1 bit | 06 R159 | 0 -/
  nanR : Bool := false
  /-- NaN tag of ACC_I | 1 bit | 06 R159 | 0 -/
  nanI : Bool := false
  /-- EXPR | 8 bit | 06 R159 | 0 -/
  expr : Nat := 0
  /-- last NORM result | 0–39 | 06 Table 06-1 | 0 -/
  norm : Nat := 0
  /-- DP_STAT.SAT_COUNT | 8 bit | 06 Table 06-5 | 0 -/
  satCount : Nat := 0
  /-- DP_STAT.NAN_COUNT | 8 bit | 06 Table 06-5 | 0 -/
  nanCount : Nat := 0
  /-- DP_STAT.RETIRED | 1 bit | 06 Table 06-5 | 0 -/
  retired : Bool := false
  /-- DP_STAT.DP_SAT | 1 bit | 06 Table 06-5 | 0 -/
  sat : Bool := false
  /-- DP_STAT.DP_NAN | 1 bit | 06 Table 06-5 | 0 -/
  nan : Bool := false
  deriving DecidableEq, Repr, Inhabited

/-- One physical lane (03 R62, R63). -/
structure LaneSt where
  /-- logical axis served | 0–63 or none | 03 R62 | lane n + ⌊n/16⌋ serves An -/
  axis : Option Nat := none
  /-- axis it takes over at the next control-cycle start | 0–63 or none | 01 R28 | none -/
  next : Option Nat := none
  deriving DecidableEq, Repr, Inhabited

/-! ### Chapter 10: drive links -/

/-- Counters of DLC_PORTERR (10 Table 10-13). -/
structure PortErr where
  /-- CRC | 8 bit | 10 Table 10-13 | 0 -/
  crc : Nat := 0
  /-- CODE | 8 bit | 10 Table 10-13 | 0 -/
  code : Nat := 0
  /-- WINDOW | 8 bit | 10 Table 10-13 | 0 -/
  window : Nat := 0
  /-- SEQ | 8 bit | 10 Table 10-13 | 0 -/
  seq : Nat := 0
  /-- FORMAT | 8 bit | 10 Table 10-13 | 0 -/
  format : Nat := 0
  /-- MISSING | 8 bit | 10 Table 10-13 | 0 -/
  missing : Nat := 0
  /-- EXTRA | 8 bit | 10 Table 10-13 | 0 -/
  extra : Nat := 0
  /-- MISMATCH | 8 bit | 10 Table 10-13 | 0 -/
  mismatch : Nat := 0
  deriving DecidableEq, Repr, Inhabited

/-- Port states (10 Table 10-6). -/
inductive PortState where
  | down | linking | mismatch | syncing | ready | faulted
  deriving DecidableEq, Repr, Inhabited

/-- One drive-link port (chapter 10). -/
structure PortSt where
  /-- DLC_PORTSTAT.STATE | 4 bit | 10 Table 10-12 | DOWN -/
  state : PortState := .down
  /-- AUTH_HERE, CONTEND, STALE_EPOCH, HOLDING, HOLD_EXPIRED, THIS_B of the last inbound frame | 6 bits | 10 Table 10-12 | 0 -/
  inFlags : List Bool := [false, false, false, false, false, false]
  /-- LINK_FAULT, sticky | 1 bit | 10 Table 10-12 | 0 -/
  linkFault : Bool := false
  /-- REBOOTED, sticky | 1 bit | 10 Table 10-12 | 0 -/
  rebooted : Bool := false
  /-- BAD_RUN | 0–3 | 10 Table 10-12 | 0 -/
  badRun : Nat := 0
  /-- consecutive good frames in SYNCING or FAULTED | count | 10 Table 10-6 | 0 -/
  goodRun : Nat := 0
  /-- DELAY in force | 16 bit, 1/4 ns | 10 R287 | 0 -/
  delay : Nat := 0
  /-- last 64 round-trip times RTT = 2 D, newest first | 1/64 ns | 10 R287 | [] -/
  dHist : List Int := []
  /-- period index at which DELAY last changed | count | 10 R287 | 0 -/
  delayAt : Nat := 0
  /-- counters | – | 10 Table 10-13 | 0 -/
  err : PortErr := {}
  /-- frame accepted for the present period: stamp and bytes | – | 10 R289 | none -/
  rx : Option (Stamp × Bytes) := none
  /-- a frame arrived in the present window | 1 bit | 10 R310 | 0 -/
  got : Bool := false
  /-- cause of the present period's bad frame: 0 none, 1 CRC, 2 CODE, 3 WINDOW, 4 SEQ, 5 FORMAT | code | 10 R310 | 0 -/
  cause : Nat := 0
  /-- the present period's frame is a good frame | 1 bit | 10 R298 | 0 -/
  good : Bool := false
  /-- last good CYCLE frame that fed a cut-off | bytes | 10 R294 | [] -/
  lastRx : Bytes := []
  /-- BOOT of the stage | 8 bit, or none | 10 R303 | none -/
  boot : Option Nat := none
  /-- EPOCH_ACK of the last frame | 32 bit | 10 R305 | 0 -/
  epochAck : Nat := 0
  /-- discovery body of the matched stage | 32 bytes | 10 R301 | none -/
  disc : Option Bytes := none
  /-- symbol lock on the receive pair | 1 bit | 10 Table 10-6 | 0 -/
  lock : Bool := false
  /-- consecutive periods with STALE_EPOCH or a foreign CONTEND | count | 10 R306 | 0 -/
  staleRun : Nat := 0
  /-- last frame launched | bytes | 10 R285 | [] -/
  tx : Bytes := []
  /-- launch instant of the last outbound frame | cell time | 10 R287 | 0 -/
  txAt : Time := 0
  /-- RESET to be sent at the next launch | 1 bit | 10 R312 | 0 -/
  resetDue : Bool := false
  /-- the stage's authority is on its other port: only LISTEN frames here | 1 bit | 14 R396 | 0 -/
  listen : Bool := false
  /-- the first EPOCH_ACK since the port left DOWN is still to be judged | 1 bit | 14 R396 | 0 -/
  ackDue : Bool := false
  /-- outstanding stage READ: channel, tag, address, and 0 until it is sent, then 1 + periods waited | – | 10 R314 | none -/
  ctl : Option (Nat × Nat × Nat × Nat) := none
  /-- answer of the last stage READ: 0 none, 1 data, 2 STAGE_NO_RESPONSE; its data | code, 32 bit | 10 R314 | (0, 0) -/
  ctlAns : Nat × Nat := (0, 0)
  /-- SEQ of the request on that channel whose response waits for the answer | 32 bit or none | 13 R378, 10 R314 | none -/
  ctlSeq : Option Nat := none
  /-- next CTL_TAG | 8 bit, never 0 | 10 Table 10-3 | 1 -/
  ctlTag : Nat := 1
  /-- transceiver retired by health | 1 bit | 10 R313 | 0 -/
  retired : Bool := false
  /-- spare port that serves this port | 0–35 or none | 10 R313 | none -/
  spare : Option Nat := none
  /-- first current period after a relabel: SEQ is not judged | 1 bit | 10 R297 | 0 -/
  seqFree : Bool := false
  /-- HOLDING reported in the last frame, for the first-report event | 1 bit | 10 R318 | 0 -/
  wasHolding : Bool := false
  deriving DecidableEq, Repr, Inhabited

/-- The drive-link controller (chapter 10). -/
structure DlSt where
  /-- the 36 ports | table | 10 | DOWN -/
  ports : Vector PortSt 36 := Vector.replicate 36 {}
  /-- the unit holds motion authority | 1 bit | 10 R305 | 0 -/
  authority : Bool := false
  /-- EPOCH in force | 32 bit | 10 R305, 14 Table 14-9 | 0 -/
  epoch : Nat := 0
  /-- authority lost: only LISTEN frames | 1 bit | 10 R306 | 0 -/
  lost : Bool := false
  /-- epoch to be in force from the next current period, 0 none | 32 bit | 14 R396 | 0 -/
  epochNext : Nat := 0
  /-- authority lost from the next current period on | 1 bit | 10 R306 | 0 -/
  lostNext : Bool := false
  /-- spare select codes on the GPIO lines of the four entries | 3 bit each | 10 R313 | 0 -/
  spareSel : List Nat := [0, 0, 0, 0]
  deriving DecidableEq, Repr, Inhabited

/-! ### Chapter 07: solver -/

/-- A published plan as the lanes evaluate it (07 R213); its bytes stand in the Ledger's plan slots. -/
structure PlanData where
  /-- T_S of knot 0 | cell time | 07 Table 07-6 | – -/
  ts : Time := 0
  /-- GEN | 32 bit | 07 Table 07-6 | – -/
  gen : Nat := 0
  /-- KNOT_M | 16 bit | 07 Table 07-6 | – -/
  knotM : Nat := 1
  /-- N | 8 bit | 07 Table 07-6 | – -/
  n : Nat := 0
  /-- joints | 8 bit | 07 Table 07-6 | – -/
  joints : Nat := 0
  /-- knots in order, each a list of (q, ω) per joint | position words | 07 R213 | – -/
  knots : List (List (Int × Int)) := []
  /-- tile that produced it | 4 bit | 07 Table 07-6 | – -/
  tile : Nat := 0
  /-- WITHDRAWN | 1 bit | 07 R202 | – -/
  withdrawn : Bool := false
  /-- STATIC | 1 bit | 07 R187 | – -/
  static : Bool := false
  /-- capsules per knot, each the six coordinates of its endpoints in 2^-20 m of the cell frame | 32 bit | 07 R213 | – -/
  caps : List (List (List Int)) := []
  deriving DecidableEq, Repr, Inhabited

/-- A stop along the plan in progress (07 R205). -/
structure AlongSt where
  /-- evaluation time τ in control cycles after knot 0 | exact | 07 R205 | – -/
  tau : Rat := 0
  /-- cycle c of the stop | count | 07 R205 | – -/
  c : Nat := 0
  /-- length C of the stop | cycles | 07 R205 | – -/
  total : Nat := 1
  deriving DecidableEq, Repr, Inhabited

/-- A solver word in the format Qm.(32 − m) of its class, with the saturation of the store that made it (07 R194, R196). -/
structure QW where
  /-- the word; −2^31 is NaN | 32 bit, signed | 07 R194 | – -/
  w : Int := 0
  /-- m of its class | 1–31 | 07 Table 07-3 | – -/
  m : Nat := 1
  /-- its store saturated | 1 bit | 07 R196 | – -/
  sat : Bool := false
  deriving DecidableEq, Repr, Inhabited

/-- A coupling or penumbra row of one knot, linearised (07 Table 07-1). -/
structure QRow where
  /-- gᵀJ per joint | JAC words | 07 R188 | – -/
  coef : List QW := []
  /-- d at q̄ | DIST word | 07 R188 | – -/
  d : QW := {}
  /-- D_SEP + JACOBI_MARGIN, or S_PEN | DIST word | 07 Table 07-1 | – -/
  bound : QW := {}
  /-- lower bound of gᵀJ q | DIST word | 07 Table 07-1 | – -/
  lb : QW := {}
  /-- the row is active | 1 bit | 07 R188, R190 | – -/
  active : Bool := false
  deriving DecidableEq, Repr, Inhabited

/-- The inputs of a solve at one knot (07 R185, R186). -/
structure QKnot where
  /-- path reference r per joint, as offset from q_A | POS words | 07 R185 | – -/
  r : List QW := []
  /-- path rate per joint | VEL words | 07 R185 | – -/
  rd : List QW := []
  /-- q̄ per joint, as offset from q_A | POS words | 07 R186 | – -/
  qb : List QW := []
  /-- gravity torque along q̄ per joint | TRQ words | 07 R186 | – -/
  bias : List QW := []
  /-- the 8 coupling rows, none at knot 0 | – | 07 R188 | – -/
  coup : List QRow := []
  /-- the 4 penumbra rows, none at knot 0 | – | 07 R190 | – -/
  pen : List QRow := []
  deriving DecidableEq, Repr, Inhabited

/-- Everything a solve works on once it is admitted and linearised (07 R185 to R190, Table 07-2). -/
structure QpIn where
  /-- joints n | 1–12 | 07 R186 | – -/
  n : Nat := 0
  /-- knot intervals N | 4–32 | 07 R183 | – -/
  nk : Nat := 0
  /-- knot step in control cycles; Δ is this × 62.5 µs | 32–256 | 07 R183 | – -/
  knotM : Nat := 1
  /-- m of each class, in the order of Table 07-3 | 1–31 each | 07 R198 | – -/
  fmt : List Nat := []
  /-- ALPHA_N | 1/16 | 07 R191 | – -/
  alphaN : Nat := 0
  /-- W_N | 1–64 | 07 R185 | – -/
  wN : Nat := 1
  /-- PIVOT_EXP | 16–30 | 07 R197 | – -/
  pivotExp : Nat := 24
  /-- ρ | HESS word | 07 R191 | – -/
  rho : QW := {}
  /-- σ | HESS word | 07 R191 | – -/
  sigma : QW := {}
  /-- W_SL | HESS word | 07 R185 | – -/
  wSl : QW := {}
  /-- W_SQ | HESS word | 07 R185 | – -/
  wSq : QW := {}
  /-- W_Q per joint | HESS words | 07 R185 | – -/
  wq : List QW := []
  /-- W_V per joint | HESS words | 07 R185 | – -/
  wv : List QW := []
  /-- W_A per joint | HESS words | 07 R185 | – -/
  wa : List QW := []
  /-- velocity of x_0 per joint | VEL words | 07 R184 | – -/
  v0 : List QW := []
  /-- lower position bound per joint | POS words | 07 Table 07-1 | – -/
  lo : List QW := []
  /-- upper position bound per joint | POS words | 07 Table 07-1 | – -/
  hi : List QW := []
  /-- velocity bound per joint | VEL words | 07 Table 07-1 | – -/
  vb : List QW := []
  /-- acceleration bound per joint | ACC words | 07 Table 07-1 | – -/
  ab : List QW := []
  /-- I_J per joint | 2^-16 kg·m² | 07 Table 07-8 | – -/
  ij : List Nat := []
  /-- TAU_MAX per joint | TRQ words | 07 Table 07-1 | – -/
  tau : List QW := []
  /-- RES_TOL | DIST word | 07 R193 | – -/
  resTol : QW := {}
  /-- knots 0 to N | – | 07 R183 | – -/
  knots : List QKnot := []
  deriving DecidableEq, Repr, Inhabited

/-- Inputs, state and slacks of one knot, or one value for each of them: z, a candidate or a right-hand side (07 R191). -/
structure ZKnot where
  /-- positions | POS words | 07 R191 | – -/
  q : List QW := []
  /-- velocities | VEL words | 07 R191 | – -/
  v : List QW := []
  /-- accelerations, none at knot N | ACC words | 07 R191 | – -/
  a : List QW := []
  /-- slacks of the penumbra rows, none at knot 0 | DIST words | 07 R191 | – -/
  s : List QW := []
  deriving DecidableEq, Repr, Inhabited

/-- One value for each constraint row of one knot: w or y (07 R191, Table 07-1). -/
structure WKnot where
  /-- position box, none at knot 0 | POS words | 07 Table 07-1 | – -/
  q : List QW := []
  /-- velocity box, none at knot 0 | VEL words | 07 Table 07-1 | – -/
  v : List QW := []
  /-- acceleration box, none at knot N | ACC words | 07 Table 07-1 | – -/
  a : List QW := []
  /-- torque rows, none at knot N | TRQ words | 07 Table 07-1 | – -/
  t : List QW := []
  /-- coupling rows, none at knot 0 | DIST words | 07 Table 07-1 | – -/
  c : List QW := []
  /-- penumbra rows, none at knot 0 | DIST words | 07 Table 07-1 | – -/
  p : List QW := []
  /-- slacks against 0, none at knot 0 | DIST words | 07 Table 07-1 | – -/
  s : List QW := []
  deriving DecidableEq, Repr, Inhabited

/-- z, w and y of a solve, which start the next one (07 R192). -/
structure WarmSt where
  /-- z of knots 0 to N | words | 07 R192 | – -/
  z : List ZKnot := []
  /-- w of knots 0 to N | words | 07 R192 | – -/
  w : List WKnot := []
  /-- y of knots 0 to N | DUAL words | 07 R192 | – -/
  y : List WKnot := []
  deriving DecidableEq, Repr, Inhabited

/-- A solve in progress (07 R183, R191). -/
structure SolveSt where
  /-- plan-period start p0 | cell time | 07 R183 | – -/
  p0 : Time := 0
  /-- tile that runs it | 0–8 | 07 R208 | – -/
  tile : Nat := 0
  /-- initial state (q, ω) per joint | position words | 07 R184 | – -/
  x0 : List (Int × Int) := []
  /-- ADMM_K that governs it | count | 07 R191, R215 | – -/
  admmK : Nat := 24
  /-- POS_TOL that governs it | position word | 07 R193, R215 | – -/
  posTol : Int := 0
  /-- VMAX in force per joint | 2^-40 rev per control cycle | 07 R193 | – -/
  wMax : List Int := []
  /-- acceleration box per joint | 2^-40 rev per control cycle² | 07 R193 | – -/
  aBox : List Int := []
  /-- position of the arm's carrier | position word | 08 R223 | 0 -/
  carrier : Int := 0
  /-- an admission check failed | 1 bit | 07 R199 | 0 -/
  range : Bool := false
  /-- its inputs, latched and linearised | – | 07 Table 07-2 | – -/
  inp : QpIn := {}
  /-- its results are not to be published (the tile is shutting down) | 1 bit | 07 R203 | – -/
  mute : Bool := false
  /-- a hardware error of the tile has struck it | 1 bit | 07 Table 07-4, 15 R439 | 0 -/
  tileErr : Bool := false
  /-- ended with an outcome | 1 bit | 07 R200 | – -/
  done : Bool := false
  deriving DecidableEq, Repr, Inhabited

/-- QT_RESULT (07 Table 07-7). -/
structure QtResult where
  /-- ELAPSED | 32 bit, ns | 07 Table 07-7 | 0 -/
  elapsed : Nat := 0
  /-- ITER | 8 bit | 07 Table 07-7 | 0 -/
  iter : Nat := 0
  /-- DISCARDED | 8 bit | 07 Table 07-7 | 0 -/
  discarded : Nat := 0
  /-- SAT_COUNT | 8 bit | 07 Table 07-7 | 0 -/
  satCount : Nat := 0
  /-- FALLBACK_N | 8 bit | 07 Table 07-7 | 0 -/
  fallbackN : Nat := 0
  /-- RES_MAX | 32 bit | 07 Table 07-7 | 0 -/
  resMax : Nat := 0
  /-- STAGE | 8 bit | 07 Table 07-7 | 0xFF -/
  stage : Nat := 255
  /-- TILE | 4 bit | 07 Table 07-7 | per arm -/
  tile : Nat := 0
  /-- OUTCOME | 4 bit | 07 Table 07-7 | 0 -/
  outcome : Nat := 0
  deriving DecidableEq, Repr, Inhabited

/-- One tracked object as the SSM hands it to a tile (07 R190, 08 R236). -/
structure PenObj where
  /-- endpoints (x0, y0, z0, x1, y1, z1) | L = 2^-24 m | 08 R236 | – -/
  pos : List Int := []
  /-- r_eff | µm | 08 R236 | – -/
  rEff : Nat := 0
  /-- S_PEN | µm | 08 R236 | – -/
  sPen : Nat := 0
  deriving DecidableEq, Repr, Inhabited

/-- The planner of one arm (chapter 07). -/
structure PlannerSt where
  /-- tile that serves the arm | 0–8 or none | 07 R208 | QTi serves arm i -/
  tile : Option Nat := none
  /-- tile the arm moves to at the next plan-period start | 0–8 or none | 07 R208 | none -/
  tileNext : Option Nat := none
  /-- the arm is in planned motion or entering it | 1 bit | 03 Table 03-4 | 0 -/
  planned : Bool := false
  /-- control-cycle start at which ENTER_PLANNED took effect | cell time | 13 Table 13-6 | 0 -/
  enterAt : Time := 0
  /-- plan in force | record | 07 R184 | none -/
  cur : Option PlanData := none
  /-- published plan awaiting its t_s | record | 07 R202 | none -/
  next : Option PlanData := none
  /-- record other arms use: last published, STATIC ones included | record | 07 R187, R202 | none -/
  shown : Option PlanData := none
  /-- record shown before, for a withdrawal | record | 07 R202 | none -/
  shownPrev : Option PlanData := none
  /-- GEN of each plan slot | 32 bit each | 07 R213 | 0, 0 -/
  gens : Nat × Nat := (0, 0)
  /-- solve in progress | – | 07 R191 | none -/
  solve : Option SolveSt := none
  /-- result record | – | 07 R214 | Table 07-7 -/
  res : QtResult := {}
  /-- stop along the plan | – | 07 R205 | none -/
  along : Option AlongSt := none
  /-- the next plan-period start is the first multiple of the period from here on | cell time | 01 R10, R18 | 0 -/
  nextP0 : Time := 0
  /-- plan-period start named by the last event whose work has not begun | cell time or none | 01 R11, R18 | none -/
  begun : Option Time := none
  /-- PATH_REF in force: per sample, joint positions and velocities | position words | 07 R185, 13 R388 | [] -/
  path : List (List (Int × Int)) := []
  /-- PATH_REF being written, the other buffer | position words | 07 R185 | none -/
  pathNext : Option (List (List (Int × Int))) := none
  /-- cell time of PATH_REF sample 0 | ns | 13 R388 | 0 -/
  pathT : Nat := 0
  /-- cell time of the buffer being written | ns | 13 R388 | 0 -/
  pathTNext : Nat := 0
  /-- final z, w and y of the last solve that ended OK since planned motion was entered | record | 07 R192 | none -/
  warm : Option WarmSt := none
  /-- the same of the solve before it, for a plan the lanes refuse | record | 07 R192, R202 | none -/
  warmPrev : Option WarmSt := none
  /-- objects published by the SSM | up to 4 | 07 R190 | [] -/
  pen : List PenObj := []
  /-- tile function state, switched with its arm | 2 bit | 01 Table 01-6 | DISABLED -/
  tileFn : FnState := .disabled
  /-- GEN of SET_PATH, the arm's accepted paths | count | 13 R388 | 0 -/
  pathGen : Nat := 0
  deriving DecidableEq, Repr, Inhabited

/-- One solver tile (07 R208, 16 Table 16-3). -/
structure TileSt where
  /-- arm served | 0–7 or none | 07 R208 | tile i serves arm i -/
  arm : Option Nat := none
  /-- output area, knots and residuals: every word reads 0x8000_0000 after a failed solve | 1 bit | 07 R200 | 0 -/
  outNan : Bool := false
  deriving DecidableEq, Repr, Inhabited

/-! ### Chapter 08: separation monitor -/

/-- One tracked object (08 Table 08-2). -/
structure ObjSt where
  /-- endpoints, both equal for a POINT | six coordinates in 2^-20 m | 08 Table 08-2 | – -/
  pos : List Int := [0, 0, 0, 0, 0, 0]
  /-- RADIUS | µm | 08 Table 08-2 | – -/
  radius : Nat := 0
  /-- the sensor's own object number | 8 bit | 08 Table 08-2 | – -/
  id : Nat := 0
  /-- coordinates already in L (FIELD object) | 1 bit | 08 R221 | – -/
  inL : Bool := false
  deriving DecidableEq, Repr, Inhabited

/-- A list handed over at a separation-cycle start: T_M, fault flag, objects (08 R221). -/
structure SensFrame where
  /-- T_M | cell time, ns | 08 Table 08-1 | – -/
  tm : Nat := 0
  /-- SENS_FAULT | 1 bit | 08 Table 08-1 | – -/
  fault : Bool := false
  /-- records | – | 08 Table 08-2 | – -/
  objs : List ObjSt := []
  /-- reception stamp | stamp | 01 R19, R24 | – -/
  rx : Stamp := {}
  deriving DecidableEq, Repr, Inhabited

/-- One safety sensor (08 R220 to R222, 11 R343, R344). -/
structure SensorSt where
  /-- list in force, FIELD object until the first accepted frame | – | 08 R221 | none -/
  list : Option SensFrame := none
  /-- frames accepted and waiting for the next separation-cycle start | – | 01 R19 | [] -/
  wait : List SensFrame := []
  /-- stale at the last evaluation | 1 bit | 08 R222 | 0 -/
  stale : Bool := false
  /-- age at the present separation-cycle start | ns | 08 R222 | 0 -/
  age : Nat := 0
  /-- SEQ_last of the black channel | 16 bit or none | 11 R344 | none -/
  seq : Option Nat := none
  /-- the last frame set a SEQ base: the next must pass all four checks | 1 bit | 11 R344 | 0 -/
  based : Bool := false
  /-- RESYNC, SEQ bases set | 8 bit, saturating | 11 Table 11-9 | 0 -/
  cResync : Nat := 0
  /-- SCRC failures | 8 bit, saturating | 11 Table 11-9 | 0 -/
  cScrc : Nat := 0
  /-- identity failures | 8 bit, saturating | 11 Table 11-9 | 0 -/
  cId : Nat := 0
  /-- sequence failures | 8 bit, saturating | 11 Table 11-9 | 0 -/
  cSeq : Nat := 0
  /-- time failures | 8 bit, saturating | 11 Table 11-9 | 0 -/
  cTime : Nat := 0
  /-- frames refused for COUNT, T_M or TYPE; no register shows the count | saturating at 255, DESIGN CHOICE | 08 R221 | 0 -/
  cRefused : Nat := 0
  deriving DecidableEq, Repr, Inhabited

/-- SSM_VERDICT (08 Table 08-9). -/
structure Verdict where
  /-- D_MIN | signed 32 bit, µm; none: 0x8000_0000 | 08 Table 08-9 | none -/
  dMin : Option Int := none
  /-- S_P | 32 bit, µm | 08 Table 08-9 | 0 -/
  sp : Nat := 0
  /-- OBJ | 8 bit | 08 Table 08-9 | 0xFF -/
  obj : Nat := 255
  /-- CAP | 8 bit | 08 Table 08-9 | 0xFF -/
  cap : Nat := 255
  /-- CLASS | 4 bit | 08 Table 08-9 | 8 -/
  cls : Nat := 8
  /-- VERDICT | 2 bit | 08 Table 08-9 | 3 NOT_MONITORED -/
  pub : Nat := 3
  /-- RAW | 2 bit | 08 Table 08-9 | 3 NOT_MONITORED -/
  raw : Nat := 3
  /-- STALE | 1 bit | 08 Table 08-9 | 0 -/
  stale : Bool := false
  /-- HELD_POS | 1 bit | 08 Table 08-9 | 0 -/
  held : Bool := false
  /-- MISS | 1 bit | 08 Table 08-9 | 0 -/
  miss : Bool := false
  deriving DecidableEq, Repr, Inhabited

/-- Measurement of a stop (08 R241). -/
structure StopMeas where
  /-- trigger | cell time | 08 R241 | – -/
  trig : Time := 0
  /-- class at the last evaluation before the trigger | 1–8 | 08 R241 | – -/
  cls : Nat := 8
  /-- path of every capsule endpoint since the trigger | L | 08 R241 | – -/
  sums : List Nat := []
  /-- path at the first evaluation of the present standstill run | L | 08 R241 | – -/
  sAt : Nat := 0
  /-- a stop test, with its ticket | 32 bit or none | 13 R390 | – -/
  ticket : Option Nat := none
  /-- a stop of any kind but a test | 1 bit | 08 R241 | – -/
  real : Bool := true
  deriving DecidableEq, Repr, Inhabited

/-- One arm in the SSM (chapter 08). -/
structure SsmArm where
  /-- safe positions of the joints, then of the carrier | position words or none | 08 R217 | [] -/
  qs : List (Option Int) := []
  /-- safe positions of the previous separation cycle | position words or none | 08 R227, R228 | [] -/
  qsPrev : List (Option Int) := []
  /-- consecutive held cycles per joint | counts | 08 R218 | [] -/
  held : List Nat := []
  /-- consecutive separation cycles with every joint and the carrier valid | count | 08 R218 | 0 -/
  validRun : Nat := 0
  /-- UMBRA forced until two valid cycles | 1 bit | 08 R218 | 1 -/
  forced : Bool := true
  /-- consecutive separation cycles with a cross-check difference, per joint, then the carrier | counts to 3 | 08 R219 | [] -/
  xchk : List Nat := []
  /-- capsule endpoints of the last evaluation, two per capsule | L | 08 R241 | none -/
  endsPrev : Option (List (List Int)) := none
  /-- a joint has been held since the last evaluation before the present one, or in it | 1 bit | 08 R228 | 0 -/
  heldSince : Bool := false
  /-- verdict record | – | 08 Table 08-9 | Table 08-9 -/
  v : Verdict := {}
  /-- STOP_REQ | 1 bit | 08 Table 08-9 | 0 -/
  stopReq : Bool := false
  /-- SLS_REQ | 1 bit | 08 Table 08-9 | 0 -/
  slsReq : Bool := false
  /-- consecutive raw CLEAR evaluations | count | 08 R231 | 0 -/
  clearRun : Nat := 0
  /-- consecutive evaluations other than UMBRA at standstill | count | 08 R233 | 0 -/
  resumeRun : Nat := 0
  /-- class κ of the last evaluation | 1–8 | 08 R227 | 8 -/
  cls : Nat := 8
  /-- joint speeds |Δq_s| of the last evaluation | position words per 250 µs | 09 R267 | [] -/
  speeds : List Nat := []
  /-- consecutive evaluations below the standstill tolerance | count | 08 R241 | 0 -/
  stillRun : Nat := 0
  /-- s0 of the first evaluation of that run | cell time | 08 R241 | 0 -/
  stillAt : Time := 0
  /-- safe positions at the first evaluation of that run | position words | 09 R268 | [] -/
  stillQ : List (Option Int) := []
  /-- stop under measurement | – | 08 R241 | none -/
  meas : Option StopMeas := none
  /-- last measurement: T µs, S µm, class, trigger in ns | – | 13 Table 13-7 | (0, 0, 0, 0) -/
  lastStop : Nat × Nat × Nat × Nat := (0, 0, 0, 0)
  /-- a stop exceeded its table since the table was confirmed | 1 bit | 08 R241 | 0 -/
  tableBad : Bool := false
  deriving DecidableEq, Repr, Inhabited

/-- The separation monitor (chapter 08). -/
structure SsmSt where
  /-- arms | table | 08 | Table 08-9 -/
  arms : Vector SsmArm 8 := Vector.replicate 8 {}
  /-- sensors | table | 08 R220 | none -/
  sensors : Vector SensorSt 16 := Vector.replicate 16 {}
  /-- CODED_MISMATCH | 1 bit | 08 Table 08-10 | 0 -/
  coded : Bool := false
  /-- the last evaluation ended in a coded mismatch | 1 bit | 08 R238 | 0 -/
  codedNow : Bool := false
  /-- XCHK_FAIL | 1 bit | 08 Table 08-10 | 0 -/
  xchkFail : Bool := false
  /-- QUOTA_REJ | 1 bit | 08 Table 08-10 | 0 -/
  quotaRej : Bool := false
  /-- STAMP_REJ | 1 bit | 08 Table 08-10 | 0 -/
  stampRej : Bool := false
  /-- STOP_EXCEEDED | 1 bit | 08 Table 08-10 | 0 -/
  stopExc : Bool := false
  /-- OBJ_COUNT | 7 bit | 08 Table 08-10 | 0 -/
  objCount : Nat := 0
  /-- consecutive verdict deadline misses | count | 01 R26 | 0 -/
  missRun : Nat := 0
  /-- the present separation cycle has been published | 1 bit | 01 R17 | 1 -/
  published : Bool := true
  deriving DecidableEq, Repr, Inhabited

/-! ### Chapter 09: safety supervisor -/

/-- Monitored stop kinds (09 Table 09-10, STOP). -/
inductive StopKind where
  | none | f1 | f2 | prot1 | prot2 | estop0 | estop1 | sos
  deriving DecidableEq, Repr, Inhabited

/-- A speed or stop envelope under supervision (09 R267, R269). -/
structure Envelope where
  /-- trigger stamp | cell time | 09 R267 | – -/
  trig : Time := 0
  /-- v0 of each joint, then the carrier | position words per 250 µs | 09 R267 | – -/
  v0 : List Nat := []
  deriving DecidableEq, Repr, Inhabited

/-- Where an enable or a disable of a scope stands (09 R252, R253). -/
inductive SeqSt where
  | idle
  /-- torque building since the stamp -/
  | building (te : Time)
  /-- brakes releasing since the switches closed -/
  | releasing (te : Time) (closed : Time)
  /-- enabled and released -/
  | running
  /-- stopping, waiting for standstill -/
  | stopping
  /-- switches open, waiting for BK_ENGAGE -/
  | engaging (opened : Time)
  /-- engagement brake test running -/
  | testing
  /-- torque removed, waiting for the DISABLED conditions -/
  | ending (offAt : Time)
  deriving DecidableEq, Repr, Inhabited

/-- One fault scope: an arm 0–7, or auxiliary axis n at 8 + n (01 R33, 09). -/
structure ScopeSt where
  /-- function state | 2 bit | 01 R29 to R31 | DISABLED -/
  fn : FnState := .disabled
  /-- fault level in force: 0 none, 1 F1, 2 F2 | 2 bit | 01 R33 | 0 -/
  level : Nat := 0
  /-- status of the reaction in force | 16 bit | 04 R491 | OK -/
  status : Nat := 0
  /-- priority of that status within its period | rank | 04 R491 | 0 -/
  rank : Nat := 0
  /-- the reaction in force began in this current period | cell time | 04 R491 | 0 -/
  statusAt : Time := 0
  /-- the cause is still present: not acknowledged | 1 bit | 01 R33 | 0 -/
  ackDue : Bool := false
  /-- control-cycle start at which a pending controlled stop begins | cell time or none | 01 R33, R36 | none -/
  stopAt : Option Time := none
  /-- stop in force | 3 bit | 09 Table 09-10 | none -/
  stop : StopKind := .none
  /-- stop envelope | – | 09 R267 | none -/
  env : Option Envelope := none
  /-- positions at standstill of a category 2 stop | position words | 09 R268 | none -/
  sos : Option (List Int) := none
  /-- SLS orders in force: source (0 SSM, 1 + i input i) and ratio /256 | – | 09 R269 | [] -/
  sls : List (Nat × Nat) := []
  /-- SLS envelope and its ratio | – | 09 R269 | none -/
  slsEnv : Option (Envelope × Nat) := none
  /-- protective stop requests by source (0 SSM, 1 + i input i) with category | – | 09 Table 09-4 | [] -/
  prot : List (Nat × Nat) := []
  /-- requests held at standstill: consecutive evaluations with the demand gone, per source | counts | 09 Table 09-4 | [] -/
  protRun : List (Nat × Nat) := []
  /-- sequence of enable and shutdown | – | 09 R252, R253 | idle -/
  seq : SeqSt := .idle
  /-- stop started by a disable or session end | 1 bit | 09 R257 | 0 -/
  byDisable : Bool := false
  /-- standstill judged by the lanes of an unmonitored scope: consecutive separation cycles | count | 09 R267 | 0 -/
  still : Nat := 0
  /-- ENVELOPE_FAIL | 1 bit | 09 Table 09-10 | 0 -/
  envFail : Bool := false
  /-- owner: none, channel 0–3, or a bound cell-bus value | – | 12 R372 | none -/
  owner : Option Nat := none
  /-- bound cell-bus value that owns the scope | value number or none | 13 R389 | none -/
  bound : Option Nat := none
  /-- handover offered: to channel 0–3 | – | 12 R372 | none -/
  offer : Option Nat := none
  /-- STO confirmation expected at this instant | cell time or none | 09 R266 | none -/
  confirmAt : Option Time := none
  /-- last fault reaction that found the scope DISABLED: its instant and status | cell time, 16 bit | 01 R32 | none -/
  faultAt : Option (Time × Nat) := none
  deriving DecidableEq, Repr, Inhabited

/-- A brake test in progress (09 R255). -/
structure BrakeTest where
  /-- t_b | cell time | 09 R255 | – -/
  tb : Time := 0
  /-- step: 0 apply, 1 ramp up, 2 hold +, 3 reverse, 4 hold −, 5 ramp back, 6 release | code | 09 Table 09-3 | – -/
  step : Nat := 0
  /-- start of the step | cell time | 09 Table 09-3 | – -/
  at_ : Time := 0
  /-- i_hold of each braked axis | (axis, Q1.15) | 09 R255 | – -/
  iHold : List (Nat × Int) := []
  /-- loop states to resume from | (axis, loop state) | 09 R255 | – -/
  loops : List (Nat × LoopSt) := []
  /-- safe positions at t_b | position words | 09 R255 | – -/
  anchor : List (Option Int) := []
  /-- in-place test: ends with the release step | 1 bit | 09 Table 09-3 | – -/
  inPlace : Bool := true
  /-- ticket of the command | 32 bit | 13 Table 13-8 | – -/
  ticket : Nat := 0
  /-- TEST_CLAMPED | 1 bit | 09 R255 | – -/
  clamped : Bool := false
  /-- axis that slipped | 0–63 or none | 09 R256 | – -/
  slip : Option Nat := none
  /-- current at which a ramp-back begins | (axis, Q1.15) | 09 R256 | – -/
  iFrom : List (Nat × Int) := []
  /-- aborted by a takeover: only the ramp-back and the release step are left | 1 bit | 14 R416 | 0 -/
  aborted : Bool := false
  deriving DecidableEq, Repr, Inhabited

/-- One brake circuit, pair k (09 R248 to R259). -/
structure BrakeSt where
  /-- HS_CMD, BK_HSk pad | 1 bit | 09 R248, Table 09-10 | 0 -/
  hs : Bool := false
  /-- LS_CMD, BK_LSk pad | 1 bit | 09 R248, Table 09-10 | 0 -/
  ls : Bool := false
  /-- FBH, readback | 1 bit | 09 Table 09-10 | 0 -/
  fbh : Bool := false
  /-- FBL, readback | 1 bit | 09 Table 09-10 | 0 -/
  fbl : Bool := false
  /-- instant of the last command change | cell time | 09 R249 | 0 -/
  changedAt : Time := 0
  /-- the readback check of the last change is still due | 1 bit | 09 R249 | 0 -/
  checkDue : Bool := false
  /-- instant since which readback and command differ | cell time or none | 09 R249 | none -/
  diffAt : Option Time := none
  /-- BRAKE_SWITCH latched | 1 bit | 09 R249 | 0 -/
  switchBad : Bool := false
  /-- BRAKE_FAILED latched | 1 bit | 09 R256 | 0 -/
  failed : Bool := false
  /-- an apply command fell in this current period | cell time or none | 09 R254 | none -/
  appliedAt : Option Time := none
  /-- test timer: released time since the last PASS | 1/64 ns | 09 R258 | from the secure region, 0 when empty -/
  timer : Time := 0
  /-- value of the timer in the secure region | s | 09 R258 | 0 -/
  saved : Nat := 0
  /-- instant up to which the timer has been counted | cell time | 09 R258 | 0 -/
  countedAt : Time := 0
  /-- LAST_TEST | 2 bit | 09 Table 09-10 | 0 -/
  lastTest : Nat := 0
  /-- TEST_CLAMPED | 1 bit | 09 Table 09-10 | 0 -/
  clamped : Bool := false
  /-- TEST_DUE | 1 bit | 09 Table 09-10 | 0 -/
  due : Bool := false
  /-- TEST_OVERDUE | 1 bit | 09 Table 09-10 | 0 -/
  overdue : Bool := false
  /-- test in progress | – | 09 R255 | none -/
  test : Option BrakeTest := none
  /-- STO output k high: torque permitted | 1 bit | 09 R265, Table 09-10 | 0 -/
  stoOut : Bool := false
  /-- STO_NO_CONFIRM | 1 bit | 09 R266 | 0 -/
  noConfirm : Bool := false
  /-- port that did not confirm | 0–35 | 09 Table 09-12 | 0 -/
  noConfPort : Nat := 0
  deriving DecidableEq, Repr, Inhabited

/-- One safe input (09 R260 to R263). -/
structure SafeIn where
  /-- pad level | 1 bit | 09 R260 | 0 -/
  level : Bool := false
  /-- stamp of the last edge, COARSE | cell time | 09 R260 | 0 -/
  edgeAt : Time := 0
  /-- BOUNDARY of that stamp at the edges of the test windows | 1 bit | 01 R24, R25 | 0 -/
  edgeBound : Bool := false
  /-- DEMAND | 1 bit | 09 Table 09-11 | 1 -/
  demand : Bool := true
  /-- stamp of the last change of DEMAND | cell time or none | 09 R264 | none -/
  demandAt : Option Time := none
  /-- SI_FAULT | 1 bit | 09 Table 09-11 | 0 -/
  fault : Bool := false
  /-- stamp of the last change of SI_FAULT | cell time or none | 09 R264 | none -/
  faultAt : Option Time := none
  /-- instant since which every test window has passed | cell time | 09 R263 | 0 -/
  passAt : Time := 0
  /-- the input stayed low through its present low window | 1 bit | 09 R260 | 1 -/
  lowOk : Bool := true
  /-- the input stayed high through its high window | 1 bit | 09 R260 | 1 -/
  highOk : Bool := true
  deriving DecidableEq, Repr, Inhabited

/-- One input pair (09 R262). -/
structure PairIn where
  /-- DISCREPANCY | 1 bit | 09 Table 09-11 | 0 -/
  disc : Bool := false
  /-- stamp of the last change of DISCREPANCY | cell time or none | 09 R264 | none -/
  discAt : Option Time := none
  /-- instant since which the two inputs disagree | cell time or none | 09 R262 | none -/
  diffAt : Option Time := none
  /-- both inputs have been in demand together since the latch | 1 bit | 09 R262 | 0 -/
  both : Bool := false
  deriving DecidableEq, Repr, Inhabited

/-- Operating modes (09 Table 09-6). -/
inductive OpMode where
  | uncommissioned | commissioned | service
  deriving DecidableEq, Repr, Inhabited

/-- SSV_CONFIRM (09 Table 09-7). -/
structure ConfirmRec where
  /-- CHECK | 32 bit | 09 Table 09-7 | 0 -/
  check : Nat := 0
  /-- CELL_TIME | 64 bit, ns | 09 Table 09-7 | 0 -/
  time : Nat := 0
  /-- ENGINEER | 32 bit | 09 Table 09-7 | 0 -/
  eng : Nat := 0
  /-- SLOT | 8 bit | 09 Table 09-7 | 0 -/
  slot : Nat := 0
  deriving DecidableEq, Repr, Inhabited

/-- One engineer of the secure region (09 R275, 15 Table 15-10). -/
structure Engineer where
  /-- engineer ID | 32 bit | 09 R275 | – -/
  id : Nat := 0
  /-- salt | 16 bytes | 09 R275 | – -/
  salt : Bytes := []
  /-- SHA-256 of salt and passcode | 32 bytes | 09 R275 | – -/
  hash : Bytes := []
  /-- consecutive PASSCODE_BAD results | count | 09 R275 | 0 -/
  fails : Nat := 0
  /-- end of the lockout | cell time or none | 09 R275 | none -/
  lockedTo : Option Time := none
  deriving DecidableEq, Repr, Inhabited

/-- One SSV_AUDIT record (13 R391, Table 13-11). -/
structure AuditRec where
  /-- CELL_TIME | 64 bit, ns | 13 Table 13-11 | 0 -/
  time : Nat := 0
  /-- NUMBER | 32 bit | 13 Table 13-11 | 0 -/
  number : Nat := 0
  /-- ENGINEER | 32 bit | 13 Table 13-11 | 0 -/
  eng : Nat := 0
  /-- CHECK | 32 bit | 13 Table 13-11 | 0 -/
  check : Nat := 0
  /-- OPCODE | 16 bit | 13 Table 13-11 | 0 -/
  opcode : Nat := 0
  /-- STATUS | 16 bit | 13 Table 13-11 | 0 -/
  status : Nat := 0
  /-- TARGET | 32 bit | 13 Table 13-11 | 0 -/
  target : Nat := 0
  deriving DecidableEq, Repr, Inhabited

/-- The safety supervisor (chapter 09). -/
structure SsvSt where
  /-- fault scopes | 8 arms and 64 auxiliary axes | 01 R33 | DISABLED -/
  scopes : Vector ScopeSt 72 := Vector.replicate 72 {}
  /-- brake circuits and STO outputs | table | 09 R248, R265 | applied, STO low -/
  brakes : Vector BrakeSt 8 := Vector.replicate 8 {}
  /-- safe inputs | table | 09 R260 | in demand -/
  si : Vector SafeIn 16 := Vector.replicate 16 {}
  /-- input pairs | table | 09 R262 | 0 -/
  pairs : Vector PairIn 8 := Vector.replicate 8 {}
  /-- TP levels | 8 bits | 09 R260, Table 09-11 | 0 until the first pulse row, per 17 Table 17-3 -/
  tp : Vector Bool 8 := Vector.replicate 8 false
  /-- start of the last pulse of each TP | cell time | 09 R260 | 0 -/
  tpAt : Vector Time 8 := Vector.replicate 8 0
  /-- MODE | 2 bit | 09 Table 09-6 | UNCOMMISSIONED -/
  mode : OpMode := .uncommissioned
  /-- confirmation record in force | – | 09 Table 09-7 | none -/
  conf : Option ConfirmRec := none
  /-- SSV's and SSM's copies of the safety set still match their check value | 1 bit | 09 R247 | 1 -/
  copyOk : Bool := true
  /-- end of SERVICE | cell time | 09 R277 | 0 -/
  serviceTo : Time := 0
  /-- engineers | up to 32 | 13 R391 | [] -/
  eng : List Engineer := []
  /-- audit log, the last 4 096 records, oldest first | list | 13 R391, 15 Table 15-10 | [] -/
  audit : List AuditRec := []
  /-- number of the next audit record since the last wipe | 32 bit | 13 Table 13-11 | 0 -/
  auditNext : Nat := 0
  /-- F3 in force | 1 bit | 01 R33 | 0 -/
  f3 : Bool := false
  /-- F3 lies inside the safety channel | 1 bit | 09 R245 | 0 -/
  f3Inside : Bool := false
  /-- status of the F3 cause | 16 bit | 13 Table 13-2 | 0 -/
  f3Status : Nat := 0
  /-- stamp of the F3 | cell time | 13 Table 13-2 | 0 -/
  f3At : Stamp := {}
  /-- FAULT_N asserted | 1 bit | 01 Table 01-7, 17 Table 17-3 | 1 until FW_READY -/
  faultN : Bool := true
  /-- the last current-period event the watchdog saw | cell time | 09 R246 | 0 -/
  wdAt : Time := 0
  deriving DecidableEq, Repr, Inhabited
/-! ### Chapter 11: cell bus -/

/-- TTC node states (11 Table 11-5, codes of Table 11-13). -/
inductive TtcState where
  | off | listen | coldstart | integrating | active | passive | standby
  deriving DecidableEq, Repr, Inhabited

/-- One transmit value (11 R339). -/
structure TxVal where
  /-- value number | 0–511 | 11 R339 | – -/
  num : Nat := 0
  /-- payload as last written | bytes | 11 R339 | [] -/
  data : Bytes := []
  /-- FRESH | 1 bit | 11 R339 | 0 -/
  fresh : Bool := false
  /-- staging stamp of the last write | cell time | 11 R339 | 0 -/
  at_ : Time := 0
  /-- a write stamped at or after AP − 2 µs, waiting for the next slot | payload and stamp or none | 11 R339 | none -/
  later : Option (Bytes × Time) := none
  /-- payload latched for the slot | bytes | 11 R339 | [] -/
  out : Bytes := []
  /-- AGE latched for the slot | 8 bit | 11 R339 | 255 -/
  age : Nat := 255
  /-- session that produced it: channel 0–3, 4 none | code | 12 Table 12-16 | 4 -/
  by_ : Nat := 4
  deriving DecidableEq, Repr, Inhabited

/-- One receive value: TTC_RXVAL with its stamp and payload (11 R340, Table 11-10). -/
structure RxVal where
  /-- value number | 0–511 | 11 R340 | – -/
  num : Nat := 0
  /-- AGE | 8 bit | 11 Table 11-10 | 255 -/
  age : Nat := 255
  /-- SENDER | 5 bit | 11 Table 11-10 | 0 -/
  sender : Nat := 0
  /-- NEVER | 1 bit | 11 Table 11-10 | 1 -/
  never : Bool := true
  /-- NO_SLOT | 1 bit | 11 Table 11-10 | 0 -/
  noSlot : Bool := false
  /-- CYCLE of the stored frame | 32 bit | 11 Table 11-10 | 0 -/
  cycle : Nat := 0
  /-- stamp of reception | TB_STAMP | 11 Table 11-10 | 0 -/
  stamp : Stamp := {}
  /-- stored payload, LEN bytes | bytes | 11 Table 11-10 | [] -/
  data : Bytes := []
  /-- the stored frame is waiting for its consumer | 1 bit | 01 R19, 13 R389 | 0 -/
  new : Bool := false
  deriving DecidableEq, Repr, Inhabited

/-- TTC_CHERR of one channel (11 Table 11-14). -/
structure CbErr where
  /-- CODE | 8 bit | 11 Table 11-14 | 0 -/
  code : Nat := 0
  /-- CRC | 8 bit | 11 Table 11-14 | 0 -/
  crc : Nat := 0
  /-- WINDOW | 8 bit | 11 Table 11-14 | 0 -/
  window : Nat := 0
  /-- FORMAT | 8 bit | 11 Table 11-14 | 0 -/
  format : Nat := 0
  /-- MODE | 8 bit | 11 Table 11-14 | 0 -/
  mode : Nat := 0
  /-- CYCLE | 8 bit | 11 Table 11-14 | 0 -/
  cycle : Nat := 0
  /-- SCHED | 8 bit | 11 Table 11-14 | 0 -/
  sched : Nat := 0
  /-- MISSING | 8 bit | 11 Table 11-14 | 0 -/
  missing : Nat := 0
  deriving DecidableEq, Repr, Inhabited

/-- One cell-bus channel (11 R342). -/
structure CbChan where
  /-- CHA or CHB of TTC_STAT | 2 bit | 11 Table 11-13, R342 | DISABLED -/
  fn : FnState := .disabled
  /-- counters | – | 11 Table 11-14 | 0 -/
  err : CbErr := {}
  /-- E90 raised in this cycle | 1 bit | 11 R350 | 0 -/
  rejSeen : Bool := false
  /-- own CALIB launch stamps of the previous and the present cycle | 1/64 ns or 0 | 11 R345 | 0, 0 -/
  calTx : Nat × Nat := (0, 0)
  /-- stamp of the last own SOF edge by TS38 or TS39 | stamp | 11 R321, 02 R40 | none -/
  txStamp : Option Stamp := none
  /-- last frame sent: header, payload, CRC | bytes | 11 R321 | [] -/
  tx : Bytes := []
  /-- interval in which the driver is on for the last frame sent, as the transmit timer bounds it | cell times | 11 R322 | 0, 0 -/
  drive : Nat × Nat := (0, 0)
  /-- instant the channel's shutdown began | cell time | 11 R342 | 0 -/
  offAt : Time := 0
  deriving DecidableEq, Repr, Inhabited

/-- What a node saw of one accepted or nearly accepted frame in the cycle in progress (11 R328 to R337). -/
structure CbSeen where
  /-- slot matched | 0–511 | 11 R325 | – -/
  slot : Nat := 0
  /-- channel | 0 A, 1 B | 11 R325 | – -/
  ch : Nat := 0
  /-- SENDER | 0–31 | 11 Table 11-1 | – -/
  sender : Nat := 0
  /-- the slot carries SYNC | 1 bit | 11 Table 11-4 | – -/
  sync : Bool := false
  /-- accepted | 1 bit | 11 R325 | – -/
  ok : Bool := true
  /-- it passed every check other than WINDOW | 1 bit | 11 R330 | – -/
  vote : Bool := true
  /-- RX_VEC | 32 bit | 11 R324 | – -/
  rxVec : Nat := 0
  /-- MC_OP and MC_MODE | codes | 11 Table 11-1 | – -/
  mc : Nat × Nat := (0, 0)
  /-- deviation from the expected SOF | signed, 1/64 ns | 11 R334 | – -/
  dev : Int := 0
  /-- TYPE | code | 11 Table 11-1 | – -/
  typ : Nat := 2
  deriving DecidableEq, Repr, Inhabited

/-- Delay calibration toward one sender on one channel (11 R345 to R347). -/
structure CalSt where
  /-- last CAL_N samples, newest first | 1/64 ns | 11 R346 | [] -/
  samples : List Nat := []
  /-- MEASURED | 16 bit, 1/64 ns, or none | 11 R346 | none -/
  measured : Option Nat := none
  /-- measured value last reported by E93 | 1/64 ns or none | 11 R347 | none -/
  told : Option Nat := none
  /-- IN_USE, moved from DELAY_INIT | 16 bit, 1/64 ns, or none while DELAY_INIT stands | 11 R347 | none -/
  inUse : Option Nat := none
  /-- own reception stamps of this sender's CALIB frame in the previous and the present cycle | 1/64 ns or 0 | 11 R345 | 0, 0 -/
  rx : Nat × Nat := (0, 0)
  deriving DecidableEq, Repr, Inhabited

/-- A mode change under way at the node (11 R336, R337). -/
structure ModeChg where
  /-- own request waiting or sent: mode and ticket | – | 11 R336 | none -/
  want : Option (Nat × Nat) := none
  /-- mode whose REQUEST is sent in this cycle | 0–15 or none | 11 R336 | none -/
  sending : Option Nat := none
  /-- answer of this cycle: 2 ECHO or 3 REFUSE, with its mode | – | 11 R337 | none -/
  answer : Option (Nat × Nat) := none
  /-- S, the senders of the request cycle | node list | 11 R337 | [] -/
  members : List Nat := []
  /-- cycles in which requests are still ignored | count | 11 R337 | 0 -/
  quiet : Nat := 0
  /-- an MC_OP other than NONE was sent or accepted in the last cycle | 1 bit | 11 R336 | 0 -/
  busyLast : Bool := false
  deriving DecidableEq, Repr, Inhabited

/-- The cell bus, TTC (chapter 11). -/
structure TtcSt where
  /-- set whose cell-bus parameters are in force, adopted at the last boundary | set | 11 R348 | empty -/
  ps : ParamSet := []
  /-- STATE | 4 bit | 11 Table 11-13 | OFF -/
  state : TtcState := .off
  /-- MODE | 4 bit | 11 Table 11-13 | 0 -/
  mode : Nat := 0
  /-- length of the cell cycle in force, taken with the mode | 1/64 ns | 01 R12, 11 R326 | 1 ms -/
  len : Time := 64000000
  /-- PASS_CAUSE | 2 bit | 11 Table 11-13 | 0 -/
  passCause : Nat := 0
  /-- SYNC_LOW | 1 bit | 11 Table 11-13 | 0 -/
  syncLow : Bool := false
  /-- SYNC_COUNT | 5 bit | 11 Table 11-13 | 0 -/
  syncCount : Nat := 0
  /-- channels A and B | table | 11 R319, R342 | DISABLED -/
  ch : Vector CbChan 2 := Vector.replicate 2 {}
  /-- transmit values written since reset | by number | 11 R339 | [] -/
  tx : List TxVal := []
  /-- receive values stored since reset | by number | 11 R340 | [] -/
  rx : List RxVal := []
  /-- receive values as handed to their consumers at the last control-cycle start | by number | 01 R19, 11 R340 | [] -/
  rxOut : List RxVal := []
  /-- start of the cell cycle in progress | cell time | 11 R326 | 0 -/
  t0 : Time := 0
  /-- frames seen in the cycle in progress | – | 11 R330 to R337 | [] -/
  seen : List CbSeen := []
  /-- slots matched by a frame in the cycle in progress, accepted or not | slot numbers | 11 R325 | [] -/
  matched : List Nat := []
  /-- slots whose window has closed in the cycle in progress | slot numbers | 11 R340 | [] -/
  closed : List Nat := []
  /-- own slots transmitted in the cycle in progress | slot numbers | 11 R330 | [] -/
  sent : List Nat := []
  /-- a frame was rejected in the cycle in progress | 1 bit | 11 R331 | 0 -/
  anyBad : Bool := false
  /-- a COLDSTART frame arrived in the cycle in progress | 1 bit | 11 R331 | 0 -/
  coldSeen : Bool := false
  /-- sync frames received and how many of them failed MODE or SCHED | counts | 11 Table 11-5 | 0, 0 -/
  syncBad : Nat × Nat := (0, 0)
  /-- RX_VEC to send, of the previous cycle | 32 bit | 11 R324 | 0 -/
  rxVec : Nat := 0
  /-- consecutive lost votes | count | 11 R330 | 0 -/
  lostVotes : Nat := 0
  /-- consecutive cycles of mode failure | count | 11 Table 11-5 | 0 -/
  modeBad : Nat := 0
  /-- consecutive cycles without an accepted frame of another node | count | 11 Table 11-5 | 0 -/
  alone : Nat := 0
  /-- cycles spent in PASSIVE | count | 11 Table 11-5 | 0 -/
  passCycles : Nat := 0
  /-- θ of the last cycle, none where it was not valid | 1/64 ns | 11 R334 | none -/
  theta : Option Int := none
  /-- the last cycle was full valid | 1 bit | 11 R331 | 0 -/
  full : Bool := false
  /-- stamp of the last traffic on an enabled channel | cell time | 11 Table 11-5 | 0 -/
  trafficAt : Time := 0
  /-- cold start: 0 none, 1 waiting, 2 watching | code | 11 R332 | 0 -/
  csPhase : Nat := 0
  /-- end of the cold-start wait or watch | cell time | 11 R332 | 0 -/
  csDue : Time := 0
  /-- cold-start attempts made | 0–8 | 11 R333 | 0 -/
  csTries : Nat := 0
  /-- cell cycle from which a started node goes ACTIVE | cell time or none | 11 R332 | none -/
  csGo : Option Time := none
  /-- mode change | – | 11 R336 | none -/
  mc : ModeChg := {}
  /-- calibration, channel A then B, one entry a sender | table | 11 R346 | 0 -/
  cal : Vector CalSt 64 := Vector.replicate 64 {}
  /-- APPLY_CALIBRATION accepted: delays in use move | 1 bit | 11 R347 | 0 -/
  applying : Bool := false
  /-- authority has been held while CALIB slots were in force: the delays are the unit's own | 1 bit | 11 R329 | 0 -/
  calOwn : Bool := false
  /-- delays in use of the other unit of the pair, as its records carry them | 2 x 32, 1/64 ns or none | 11 R329, 14 R403 | none -/
  calPeer : List (Option Nat) := []
  /-- unit may transmit from this cell-cycle boundary after authority gained | cell time | 11 R329, 14 R413 | 0 -/
  authFrom : Time := 0
  deriving DecidableEq, Repr, Inhabited

/-! ### Chapter 12: host interface -/

/-- A stored request and response of a session (12 R368). -/
structure StoredRsp where
  /-- SEQ | 32 bit | 12 R368 | – -/
  seq : Nat := 0
  /-- CRC of the request | 32 bit | 12 R368 | – -/
  crc : Nat := 0
  /-- response opcode | 16 bit | 12 R366 | – -/
  opcode : Nat := 0
  /-- response payload | bytes | 12 R366 | [] -/
  payload : Bytes := []
  /-- bulk data of the response | bytes | 12 R367 | [] -/
  bulk : Bytes := []
  deriving DecidableEq, Repr, Inhabited

/-- A response as a command leaves it: status, payload fields after STATUS, bulk data (12 R366, 13 R375). -/
structure Rsp where
  /-- STATUS | 16 bit | 13 R393 | – -/
  status : Nat := 0
  /-- payload from byte 4 | bytes | 13 R375 | [] -/
  body : Bytes := []
  /-- bulk data | bytes | 12 R367 | [] -/
  bulk : Bytes := []
  deriving DecidableEq, Repr, Inhabited

/-- A request whose response waits until its change governs (13 R378). -/
structure WaitRsp where
  /-- SEQ of the request | 32 bit | 12 R368 | – -/
  seq : Nat := 0
  /-- CRC of the request | 32 bit | 12 R368 | – -/
  crc : Nat := 0
  /-- OPCODE | 16 bit | 12 R366 | – -/
  opcode : Nat := 0
  /-- response index, none for a command given without its ring slot | 16 bit | 12 R362 | none -/
  idx : Option Nat := none
  deriving DecidableEq, Repr, Inhabited

/-- One mailbox channel with its session (12 R362 to R373). -/
structure ChanSt where
  /-- REQ_PROD | 16 bit | 12 Table 12-7 | 0 -/
  reqProd : Nat := 0
  /-- REQ_CONS | 16 bit | 12 Table 12-7 | 0 -/
  reqCons : Nat := 0
  /-- RSP_PROD | 16 bit | 12 Table 12-7 | 0 -/
  rspProd : Nat := 0
  /-- RSP_ACK | 16 bit | 12 Table 12-7 | 0 -/
  rspAck : Nat := 0
  /-- posted requests not yet taken: index after the doorbell, its stamp | 16 bit, cell time | 02 R41, 12 R364 | [] -/
  posts : List (Nat × Time) := []
  /-- HIF_LEASE.STATE OPEN | 1 bit | 12 Table 12-8 | 0 -/
  open_ : Bool := false
  /-- TOKEN | 32 bit, never 0 | 12 R369 | 0 -/
  token : Nat := 0
  /-- the channel's last 16 tokens, newest first | 32 bit each | 12 R369 | [] -/
  tokens : List Nat := []
  /-- NONCE of the opening | 32 bit | 12 R369 | 0 -/
  nonce : Nat := 0
  /-- the session has had a request since its opening | 1 bit | 12 R369 | 0 -/
  used : Bool := false
  /-- lease | ms | 12 R369 | 0 -/
  leaseMs : Nat := 0
  /-- last renewal instant | cell time | 12 R371 | 0 -/
  renewAt : Time := 0
  /-- expected sequence number E | 32 bit | 12 R368 | 0 -/
  expect_ : Nat := 0
  /-- last 16 executed requests with their responses, newest first | – | 12 R368 | [] -/
  stored : List StoredRsp := []
  /-- requests whose responses wait, oldest first | – | 13 R378 | [] -/
  wait : List WaitRsp := []
  /-- the session is a mirrored one of the pair while this unit holds no authority | 1 bit | 14 R415 | 0 -/
  mirrored : Bool := false
  /-- opening response | – | 12 R369 | none -/
  opened : Option Rsp := none
  /-- parameter transaction | – | 12 R373 | none -/
  trans : Option TransSt := none
  /-- response of the last command executed on the channel | – | 12 R366 | OK, empty -/
  rsp : Rsp := {}
  deriving DecidableEq, Repr, Inhabited

/-- A ticket (12 R370). -/
structure TicketSt where
  /-- number | 32 bit, counted from 1 | 12 R370 | – -/
  num : Nat := 0
  /-- channel whose session started it | 0–3 | 13 Table 13-1 | – -/
  ch : Nat := 0
  /-- that session's token | 32 bit | 13 R381 | – -/
  token : Nat := 0
  /-- OPCODE | 16 bit | 13 Table 13-1 | – -/
  opcode : Nat := 0
  /-- STATE: 0 RUNNING, 1 DONE, 2 FAILED, 3 CANCELLED | code | 13 Table 13-1 | 0 -/
  state : Nat := 0
  /-- PROGRESS | 8 bit | 12 R370 | 0 -/
  progress : Nat := 0
  /-- FINAL | 16 bit | 13 Table 13-1 | 0 -/
  final : Nat := 0
  /-- cancel asked for, effective at the next cancel point | 1 bit | 13 R381 | 0 -/
  cancel : Bool := false
  deriving DecidableEq, Repr, Inhabited

/-- One MSI-X table entry (12 Table 12-1). -/
structure MsixEnt where
  /-- message address | 64 bit | 12 Table 12-1 | 0 -/
  addr : Nat := 0
  /-- message data | 32 bit | 12 Table 12-1 | 0 -/
  data : Nat := 0
  /-- vector mask | 1 bit | 12 Table 12-1 | 1 -/
  mask : Bool := true
  deriving DecidableEq, Repr, Inhabited

/-- The host interface, HIF (chapter 12). -/
structure HifSt where
  /-- HIF_STATUS.BAR2_ABORT | 8 bit | 12 Table 12-4 | 0 -/
  bar2Abort : Nat := 0
  /-- HIF_STATUS.BAR2_WR | 8 bit | 12 Table 12-4 | 0 -/
  bar2Wr : Nat := 0
  /-- HIF_STATUS.FW_READY | 1 bit | 12 Table 12-4 | 0 -/
  fwReady : Bool := false
  /-- HIF_HOTPLUG.LINK_DOWNS | 8 bit | 12 Table 12-5 | 0 -/
  linkDowns : Nat := 0
  /-- HIF_HOTPLUG.SPEED | 1, 2 or 3 | 12 Table 12-5 | 0 while no link is up, DESIGN CHOICE -/
  speed : Nat := 0
  /-- HIF_HOTPLUG.WIDTH | 1 or 2 | 12 Table 12-5 | 0 while no link is up, DESIGN CHOICE -/
  width : Nat := 0
  /-- HIF_HOTPLUG.RESET_SEEN | 1 bit | 12 Table 12-5 | 1 -/
  resetSeen : Bool := true
  /-- HIF_COLLISION.DB_BAD | 4 bit | 12 Table 12-6 | 0 -/
  dbBad : Nat := 0
  /-- HIF_COLLISION.ACK_BAD | 4 bit | 12 Table 12-6 | 0 -/
  ackBad : Nat := 0
  /-- HIF_COLLISION.COLLIDE | 4 bit | 12 Table 12-6 | 0 -/
  collide : Nat := 0
  /-- HIF_EVSTAT0–3 as one number, bit i event Ei | 128 bit | 12 Table 12-9 | 0 -/
  evstat : Nat := 0
  /-- HIF_EVMASK0–3 as one number | 128 bit | 12 Table 12-9 | all 1 -/
  evmask : Nat := 2 ^ 128 - 1
  /-- HIF_EVMAP, one byte a source | 128 × 5 bit | 12 Table 12-9 | s >> 2 -/
  evmap : List Nat := (List.range 128).map (· / 4)
  /-- MSI-X table | 32 entries | 12 Table 12-1 | 0, masked -/
  msix : Vector MsixEnt 32 := Vector.replicate 32 {}
  /-- MSI-X PBA | 32 bit | 12 Table 12-1, R358 | 0 -/
  pba : Nat := 0
  /-- vectors pending | 32 bit | 12 R358 | 0 -/
  vpend : Nat := 0
  /-- MSI-X messages sent, one count a vector | counts | 12 R358 | 0 -/
  sent : Vector Nat 32 := Vector.replicate 32 0
  /-- Bus Master Enable | 1 bit | 12 R352 | 0 -/
  busMaster : Bool := false
  /-- MSI-X Enable | 1 bit | 12 Table 12-1 | 0 -/
  msixEn : Bool := false
  /-- MSI-X function mask | 1 bit | 12 Table 12-1 | 0 -/
  funcMask : Bool := false
  /-- the function is in D3hot | 1 bit | 12 R355 | 0 -/
  d3 : Bool := false
  /-- the link is up, LINK_LED | 1 bit | 12 R351, 17 Table 17-8 | 0 -/
  linkUp : Bool := false
  /-- BAR0 base | 32 bit | 12 Table 12-1 | 0 -/
  bar0 : Nat := 0
  /-- BAR2 and BAR3 base | 64 bit | 12 Table 12-1 | 0 -/
  bar2 : Nat := 0
  /-- AER correctable status seen | 32 bit | 12 Table 12-1, R359 | 0 -/
  aerCor : Nat := 0
  /-- AER uncorrectable status seen | 32 bit | 12 Table 12-1, R359 | 0 -/
  aerUnc : Nat := 0
  /-- link training must start by this instant | cell time or none | 17 R475 | none -/
  trainBy : Option Time := none
  /-- mailbox RAM, BAR0 offset and byte of every byte that is not 0 | 60 KiB | 12 Table 12-2, R356 | all 0 -/
  ram : List Host.Cell := []
  /-- data of the last host read of the function | bytes | 12 R353, R354 | [] -/
  readData : Bytes := []
  /-- the last host read completed with Completer Abort | 1 bit | 12 R353 | 0 -/
  readAbort : Bool := false
  /-- channels 0–3 | table | 12 R362 | closed -/
  ch : Vector ChanSt 4 := Vector.replicate 4 {}
  /-- the 64 most recent tickets and every running one, newest first | – | 12 R370 | [] -/
  tickets : List TicketSt := []
  /-- number of the next ticket | 32 bit | 12 R370 | 1 -/
  ticketNext : Nat := 1
  /-- LOG_NEXT | 32 bit | 12 R359, Table 12-10 | 0 -/
  logNext : Nat := 0
  /-- SNAP_GEN | 64 bit | 12 R361, Table 12-10 | 0 -/
  snapGen : Nat := 0
  /-- channel the firmware serves next | 0–3 | 12 R364 | 0 -/
  turn : Nat := 0
  deriving DecidableEq, Repr, Inhabited

/-! ### Chapter 13: firmware work in progress -/

/-- A command staged for a control-cycle start (01 R20, 03 R72, 12 Table 12-16). -/
inductive StagedCmd where
  /-- MOVE: way and target (13 Table 13-5) -/
  | move (way : Nat) (target : Int)
  | jog (dir : Int)
  | stop
  /-- SET_LIMITS: mask and the four limits -/
  | setLimits (mask v a d j : Nat)
  | gear (master : Nat) (fb align : Bool) (num : Int) (den : Nat) (pA mA : Int)
  | stepFollow (pair : Nat) (invert : Bool)
  | home (method : Nat) (dir : Int) (gpio : Nat) (setPos homePos : Option Int) (ticket : Nat)
  | enable
  | disable (status : Nat)
  | enterPlanned
  | leavePlanned
  | stopTest (ticket : Nat)
  | resume
  | brakeTest (ticket : Nat)
  | inject
  | chanEnable (cb : Nat)
  | chanDisable (cb : Nat)
  deriving DecidableEq, Repr, Inhabited

/-- One staged command. -/
structure Staged where
  /-- staging stamp, with BOUNDARY for the control cycle it is assigned to | stamp | 01 R20, R24, 03 R73 | – -/
  stamp : Stamp := {}
  /-- control-cycle start of the effect | cell time | 01 R20, R21 | – -/
  at_ : Time := 0
  /-- scope: 0–7 arm, 8 + n auxiliary axis n, 72 none | index | 01 R33 | 72 -/
  scope : Nat := 72
  /-- axis | 0–63, 64 none | 13 Table 13-5 | 64 -/
  axis : Nat := 64
  /-- sender: channel 0–3, 4 cell bus, 5 the controller | code | 12 R372 | 5 -/
  by_ : Nat := 5
  /-- SEQ of the request on channel `by_` whose response waits for the effect | 32 bit or none | 13 R378 | none -/
  rsp : Option Nat := none
  /-- SEQ of the STAGE record that carries it to the Shadow | 32 bit or none | 14 R405 | none -/
  ref : Option Nat := none
  /-- the command | – | chapter 13 | – -/
  cmd : StagedCmd := .stop
  deriving DecidableEq, Repr, Inhabited

/-- A committed set that waits for its control-cycle start (12 R373, 13 R385, 14 R424). -/
structure StagedSet where
  /-- control-cycle start | cell time | 12 R373 | – -/
  at_ : Time := 0
  /-- the set | records | 12 R373 | – -/
  recs : ParamSet := []
  /-- confirmation record that comes with it | record or none | 09 R276 | none -/
  conf : Option ConfirmRec := none
  /-- part: 0 SAFETY, 1 OPERATIONAL | code | 12 R373 | 1 -/
  part : Nat := 1
  /-- channel and SEQ of the request whose response waits for the effect | – | 13 R378 | none -/
  rsp : Option (Nat × Nat) := none
  /-- SEQ of the STAGE record that carries a WRITE_PARAM to the Shadow | 32 bit or none | 14 R405 | none -/
  ref : Option Nat := none
  /-- ticket of a COMMIT that names a flash slot | 32 bit or none | 12 R374 | none -/
  ticket : Option Nat := none
  deriving DecidableEq, Repr, Inhabited

/-- One trace capture (05 R153, 13 R392). -/
structure CapSt where
  /-- axis | 0–63 | 05 R153 | – -/
  axis : Nat := 0
  /-- false ONESHOT, true RING | 1 bit | 13 Table 13-15 | – -/
  ring : Bool := false
  /-- D | 1–256 | 05 R153 | – -/
  div : Nat := 1
  /-- samples of a ONESHOT, POST of a RING | count | 13 Table 13-15 | – -/
  count : Nat := 0
  /-- selected signal codes in order | list | 05 Table 05-6 | – -/
  sel : List Nat := []
  /-- AREA, byte offset in the trace region | bytes | 13 R392 | – -/
  area : Nat := 0
  /-- SIZE with the header | bytes | 13 R392 | – -/
  size : Nat := 0
  /-- samples stored | count | 05 R153 | 0 -/
  n : Nat := 0
  /-- control cycles since the start | count | 05 R153 | 0 -/
  cyc : Nat := 0
  /-- stamp of sample 0 | stamp or none | 05 R153 | none -/
  first : Option Stamp := none
  /-- room behind the header for the result of an injection run | bytes | 05 R156 | 0 -/
  extra : Nat := 0
  /-- samples left after the trigger of a RING | count or none | 05 R153 | none -/
  post : Option Nat := none
  /-- stopped | 1 bit | 05 R153 | 0 -/
  stopped : Bool := false
  /-- instant of the stop | cell time | 13 R392 | 0 -/
  stopAt : Time := 0
  /-- end status: OK or TRACE_OVERFLOW | 16 bit | 05 R154 | 0 -/
  status : Nat := 0
  /-- read by GET_FRF or through BAR2 since the stop | 1 bit | 13 R392 | 0 -/
  read : Bool := false
  /-- the area may be taken by another capture | 1 bit | 13 R392 | 0 -/
  free : Bool := false
  /-- session that started it: channel, token | – | 13 R380 | 0, 0 -/
  by_ : Nat × Nat := (0, 0)
  deriving DecidableEq, Repr, Inhabited

/-- One frequency-response bin, AX_FRF (05 Table 05-9). -/
structure FrfBin where
  /-- bin k | 16 bit | 05 Table 05-9 | – -/
  bin : Nat := 0
  /-- bytes of AX_FRF | bytes | 05 Table 05-9 | – -/
  bytes : Bytes := []
  deriving DecidableEq, Repr, Inhabited

/-- A frequency-response result of an axis (05 R152, R156, 13 R392). -/
structure FrfRes where
  /-- stamp of sample 0 | stamp | 13 R392 | – -/
  at_ : Stamp := {}
  /-- L | cycles | 13 R392 | – -/
  len : Nat := 0
  /-- M | 1–16 | 13 R392 | – -/
  m : Nat := 0
  /-- REC_DROPPED | 8 bit | 05 R152 | – -/
  dropped : Nat := 0
  /-- X and Y signal codes | codes | 13 R392 | – -/
  xy : Nat × Nat := (0, 0)
  /-- bins in list order | – | 05 R156 | – -/
  bins : List FrfBin := []
  deriving DecidableEq, Repr, Inhabited

/-- An injection run of an arm or of an auxiliary axis (05 R149 to R152). -/
structure InjSt where
  /-- axis | 0–63 | 13 Table 13-15 | – -/
  axis : Nat := 0
  /-- POINT: 0 POSITION, 1 VELOCITY, 2 TORQUE, 3 CURRENT | code | 05 Table 05-3 | – -/
  point : Nat := 0
  /-- SIGNAL: 0 SINE_SWEEP, 1 MULTISINE, 2 PRBS | code | 05 Table 05-4 | – -/
  signal : Nat := 0
  /-- PRBS_N | 7–16 | 05 Table 05-5 | – -/
  prbsN : Nat := 0
  /-- AMP, A | Q1.15 | 05 R149 | – -/
  amp : Nat := 0
  /-- CLK_DIV | 1–16 | 05 Table 05-4 | – -/
  clkDiv : Nat := 1
  /-- S | records | 05 R151 | – -/
  s : Nat := 0
  /-- L | cycles | 05 Table 05-4 | – -/
  len : Nat := 0
  /-- M | 1–16 | 05 R151 | – -/
  m : Nat := 1
  /-- X and Y signal codes | codes | 05 R155 | – -/
  xy : Nat × Nat := (0, 0)
  /-- bins | list | 05 Table 05-4 | [] -/
  bins : List Nat := []
  /-- stamp of the first cycle's start | stamp | 05 R150 | – -/
  start : Stamp := {}
  /-- the run's first control cycle has come | 1 bit | 05 R150 | 0 -/
  begun : Bool := false
  /-- sample index i | count | 05 R150 | 0 -/
  i : Nat := 0
  /-- PRBS shift register | n bits | 05 R150 | all ones -/
  shift : Nat := 0
  /-- phase accumulator of the sweep | 32 bit | 05 Table 05-4 | 0 -/
  phase : Nat := 0
  /-- table of the multisine | Q1.15 list | 05 Table 05-4 | [] -/
  table : List Int := []
  /-- (x, y, held) of every cycle run, newest first | Q1.15 | 05 R155 | [] -/
  recs : List (Int × Int × Bool) := []
  /-- ticket | 32 bit | 13 Table 13-15 | – -/
  ticket : Nat := 0
  /-- its capture | 0–15 | 05 R153 | – -/
  cap : Nat := 0
  /-- session that started it: channel, token | – | 05 R151 | – -/
  by_ : Nat × Nat := (0, 0)
  /-- running | 1 bit | 05 R150 | 1 -/
  running : Bool := true
  /-- ended early with this status: OK, or the cause of R151 | 16 bit | 05 R151 | 0 -/
  cause : Nat := 0
  /-- the end has been reported and the analysis is pending | 1 bit | 05 R151, R155 | 0 -/
  analyse : Bool := false
  deriving DecidableEq, Repr, Inhabited

/-- One step-input pair: GPIO 2p is step, 2p + 1 direction (03 R86). -/
structure PairSt where
  /-- axis that follows it | 0–63 or none | 03 R86 | none -/
  axis : Option Nat := none
  deriving DecidableEq, Repr, Inhabited

/-- One GPIO input (02 Table 02-2, 03 R97). -/
structure GpioSt where
  /-- level | 1 bit | 02 Table 02-2 | 0 -/
  level : Bool := false
  /-- stamp of the last edge | stamp or none | 02 Table 02-2 | none -/
  edge : Option Stamp := none
  deriving DecidableEq, Repr, Inhabited

/-- Firmware work in progress (chapters 03, 05, 13). -/
structure FwSt where
  /-- staged commands, oldest first | – | 01 R20, 03 R73 | [] -/
  staged : List Staged := []
  /-- committed sets waiting for their effect, oldest first | – | 12 R373 | [] -/
  setNext : List StagedSet := []
  /-- captures | 16 | 13 R392 | none -/
  caps : Vector (Option CapSt) 16 := Vector.replicate 16 none
  /-- injection runs of the scopes | 72 | 05 R149 | none -/
  inj : Vector (Option InjSt) 72 := Vector.replicate 72 none
  /-- last frequency-response result of each axis | 64 | 05 R156 | none -/
  frf : Vector (Option FrfRes) 64 := Vector.replicate 64 none
  /-- step-input pairs | 8 | 03 R86 | none -/
  pairs : Vector PairSt 8 := Vector.replicate 8 {}
  /-- GPIO pins | 16 | 02 Table 02-2 | low -/
  gpio : Vector GpioSt 16 := Vector.replicate 16 {}
  /-- control-cycle start a RESET of the ports takes effect, with the port mask | cell time, 36 bit | 10 R312 | none -/
  dlReset : Option (Time × Nat) := none
  /-- UNPAIR staged for this control-cycle start | cell time or none | 14 R425 | none -/
  unpairAt : Option Time := none
  deriving DecidableEq, Repr, Inhabited

/-! ### Chapter 14: Shadow unit and Mirror link -/

/-- Roles of a unit (14 R395, codes of Table 14-3). -/
inductive Role where
  | single | active | shadow | deposed
  deriving DecidableEq, Repr, Inhabited

/-- Shadow states (14 Table 14-1, codes of Table 14-3). -/
inductive ShState where
  | absent | joining | tracking | ready
  deriving DecidableEq, Repr, Inhabited

/-- One Mirror lane (14 R400). -/
structure MLane where
  /-- symbol lock | 1 bit | 14 R400 | 0 -/
  lock : Bool := false
  /-- consecutive good heartbeats | count to 64 | 14 R400 | 0 -/
  good : Nat := 0
  /-- in service | 1 bit | 14 R400, Table 14-3 | 0 -/
  inService : Bool := false
  deriving DecidableEq, Repr, Inhabited

/-- A Mirror frame sent and not yet acknowledged (14 R401). -/
structure MFrame where
  /-- SEQ | 32 bit | 14 Table 14-2 | – -/
  seq : Nat := 0
  /-- TYPE | 8 bit | 14 Table 14-2 | – -/
  typ : Nat := 0
  /-- CYCLE | 32 bit | 14 Table 14-2 | – -/
  cycle : Nat := 0
  /-- ADDR | 32 bit | 14 Table 14-2 | – -/
  addr : Nat := 0
  /-- payload length | 0–4 096 | 14 Table 14-2 | – -/
  len : Nat := 0
  /-- instant it was sent last | cell time | 14 R401 | – -/
  at_ : Time := 0
  /-- resends so far | 0–2 | 14 R401 | 0 -/
  tries : Nat := 0
  /-- deadline of its record, none where Table 14-4 names none | cell time | 14 Table 14-4 | none -/
  due : Option Time := none
  deriving DecidableEq, Repr, Inhabited

/-- Arm part of a mirrored SYSTEM record that the outputs need (14 R403, R411). -/
structure SysArm where
  /-- STO_OUT of the arm | 1 bit | 14 R411 | 0 -/
  stoOut : Bool := false
  /-- fault level | 0–3 | 14 Table 14-4 | 0 -/
  level : Nat := 0
  /-- the arm is DISABLED | 1 bit | 14 R411 | 1 -/
  disabled : Bool := true
  /-- channel or bound value that owns it | code or none | 14 Table 14-4 | none -/
  owner : Option Nat := none
  /-- OUTCOME of its last solve, and FALLBACK_N | codes | 14 Table 14-4 | 0, 0 -/
  plan : Nat × Nat := (0, 0)
  /-- stop in force and its trigger | code, cell time | 14 R411 | none -/
  stop : StopKind := .none
  /-- trigger stamp of the envelope | cell time | 09 R267 | 0 -/
  trig : Time := 0
  deriving DecidableEq, Repr, Inhabited

/-- A mirrored SYSTEM record as the receiver keeps it (14 R403). -/
structure SysRec where
  /-- CYCLE it belongs to | 32 bit | 14 Table 14-2 | – -/
  cycle : Nat := 0
  /-- epoch | 32 bit | 14 Table 14-4 | 0 -/
  epoch : Nat := 0
  /-- arms | 8 | 14 R411 | STO -/
  arms : List SysArm := []
  deriving DecidableEq, Repr, Inhabited

/-- A Castling under way (14 R419, R420). -/
structure CastleSt where
  /-- boundary B | cell time | 14 R419 | – -/
  b : Time := 0
  /-- CASTLE_ACK received | 1 bit | 14 R419 | 0 -/
  acked : Bool := false
  /-- the boundary has passed, the new epoch is awaited | 1 bit | 14 R420 | 0 -/
  done : Bool := false
  /-- ticket, 0 for an automatic Castling | 32 bit | 14 R421 | 0 -/
  ticket : Nat := 0
  /-- this unit is the outgoing one | 1 bit | 14 R419 | 1 -/
  outgoing : Bool := true
  /-- epoch the incoming unit takes at B | 32 bit | 14 R419 | – -/
  epoch : Nat := 0
  deriving DecidableEq, Repr, Inhabited

/-- The Mirror link controller and the pair (chapter 14). -/
structure MlcSt where
  /-- ROLE | 2 bit | 14 R395, Table 14-9 | SINGLE -/
  role : Role := .single
  /-- SHADOW | 2 bit | 14 Table 14-9 | ABSENT -/
  shadow : ShState := .absent
  /-- CAUSE | 3 bit | 14 Table 14-9 | 0 -/
  cause : Nat := 0
  /-- lanes ML0–ML4 | 5 | 14 R400 | out of service -/
  lanes : Vector MLane 5 := Vector.replicate 5 {}
  /-- PEER_CHECK | 32 bit | 14 Table 14-9 | 0 -/
  peerCheck : Nat := 0
  /-- instant of the last successful Castling, as an age in ms kept at an instant | ms, cell time | 14 R421 | 0, 0 -/
  castleAge : Nat × Time := (0, 0)
  /-- ENG, own MIR_ENG | 1 bit | 14 R410, Table 14-9 | 0 -/
  eng : Bool := false
  /-- PEER_ENG | 1 bit | 14 Table 14-9 | 0 -/
  peerEng : Bool := false
  /-- STALE_COUNT | 8 bit | 14 Table 14-9 | 0 -/
  staleCount : Nat := 0
  /-- MISMATCH_COUNT | 8 bit | 14 Table 14-9 | 0 -/
  mismatchCount : Nat := 0
  /-- STALE_RUN | 8 bit | 14 R404 | 0 -/
  staleRun : Nat := 0
  /-- STALE of the last cycle | 1 bit | 14 Table 14-3 | 0 -/
  stale : Bool := false
  /-- MISMATCH of the last comparison | 1 bit | 14 Table 14-3 | 0 -/
  mismatch : Bool := false
  /-- consecutive clean control cycles | count | 14 Table 14-1 | 0 -/
  clean : Nat := 0
  /-- consecutive missed heartbeats | count | 14 R402 | 0 -/
  missRun : Nat := 0
  /-- a valid heartbeat arrived in the window of the present control cycle | 1 bit | 14 R402 | 0 -/
  hbGot : Bool := false
  /-- control-cycle start whose window closes next | cell time | 14 R402 | 0 -/
  hbT0 : Time := 0
  /-- own stamp of the last heartbeat sent by TS41, and of the one before | 1/64 ns | 14 R402 | 0, 0 -/
  hbTx : Nat × Nat := (0, 0)
  /-- own stamp of the last first reception by TS40, and of the one before | 1/64 ns | 14 R402 | 0, 0 -/
  hbRx : Nat × Nat := (0, 0)
  /-- MLC_HB sent last | 24 bytes | 14 Table 14-3 | [] -/
  hbOut : Bytes := []
  /-- HELLO sent last: serial, nonce, role, epoch, check value in force, pairing proof | 96 bytes | 14 Table 14-4 | [] -/
  helloOut : Bytes := []
  /-- θ of the heartbeats since the last cell-cycle close, in a Shadow | signed, 1/64 ns, or none | 02 R50, R54, 14 R402 | none -/
  hbTheta : Option Int := none
  /-- last 64 delay values, newest first | 1/64 ns | 14 R402 | [] -/
  delays : List Nat := []
  /-- MIR_DELAY | 1/64 ns | 14 R402 | 0 -/
  delay : Nat := 0
  /-- last heartbeat of the peer: role, shadow, cause, F3, SAFE_FAIL, epoch | – | 14 Table 14-3 | none -/
  peerHb : Option (Role × ShState × Nat × Bool × Bool × Nat) := none
  /-- F3 of the Shadow seen: ABSENT until it is reset | 1 bit | 14 Table 14-1 | 0 -/
  peerF3 : Bool := false
  /-- SEQ of the next frame sent | 32 bit | 14 Table 14-2 | 0 -/
  seqTx : Nat := 0
  /-- frames awaiting an ACK, oldest first | – | 14 R401 | [] -/
  unacked : List MFrame := []
  /-- records of the present control cycle that arrived whole: SYSTEM, AXIS | 2 bits | 14 R404 | 0, 0 -/
  got : Bool × Bool := (false, false)
  /-- a SYSTEM or AXIS frame of the cycle could not be resent in time | 1 bit | 14 R401 | 0 -/
  incomplete : Bool := false
  /-- latest mirrored SYSTEM record | – | 14 R411 | none -/
  sys : Option SysRec := none
  /-- own state of the arms at the end of the present control cycle, which the mirrored one is compared with | – | 14 R406 | none -/
  sysOwn : Option SysRec := none
  /-- arms whose mirrored state differed from the own one in the present control cycle | 8 bits | 14 R406, R407 | 0 -/
  armBad : Nat := 0
  /-- consecutive control cycles without a complete SYSTEM record | count | 14 R411 | 0 -/
  sysMiss : Nat := 0
  /-- outputs of arm k applied by this unit's own judgement | 8 bits | 14 R411 | 0 -/
  ownApply : Nat := 0
  /-- latest mirrored AXIS record | (reference, feedback) words | 14 R403 | [] -/
  axis : List (Int × Int) := []
  /-- arms whose governing plan is lacking: comparison suspended | 8 bits | 14 R404 | 0 -/
  planLack : Nat := 0
  /-- arms whose warm start is awaited | 8 bits | 14 R406 | 0 -/
  warmLack : Nat := 0
  /-- HELLO of the peer: serial, nonce, role, epoch, check value | – | 14 Table 14-4 | none -/
  peer : Option (Nat × Nat × Role × Nat × Nat) := none
  /-- own nonce in HELLO | 16 bytes as a number | 14 R422 | 0 -/
  nonce : Nat := 0
  /-- continuous valid HELLOs since | cell time or none | 14 Table 14-1 | none -/
  helloSince : Option Time := none
  /-- stamp of the last valid HELLO | cell time | 14 Table 14-1 | 0 -/
  helloAt : Time := 0
  /-- pairing proof verified | 1 bit | 14 R422 | 0 -/
  proof : Bool := false
  /-- PAIR_WAIT ends | cell time or none | 14 R397 | none -/
  waitEnd : Option Time := none
  /-- in PAIR_WAIT a HELLO reported authority | 1 bit | 14 R397 | 0 -/
  peerAuth : Bool := false
  /-- in PAIR_WAIT a port saw its stage commanded on the other port | 1 bit | 14 R397 | 0 -/
  otherAuth : Bool := false
  /-- pairing secret | 32 bytes or none | 14 R422 | none -/
  secret : Option Bytes := none
  /-- paired peer serial | 64 bit | 14 R422 | 0 -/
  pairSerial : Nat := 0
  /-- PAIR_BEGIN transfer: ticket, bytes sent | – | 14 R422 | none -/
  transfer : Option (Nat × Nat) := none
  /-- transfer done: PAIR_CONFIRM accepted until | cell time or none | 14 R423 | none -/
  pairBy : Option Time := none
  /-- PARAM data received by a joining Shadow | bytes | 14 R423 | [] -/
  paramRx : Bytes := []
  /-- Castling | – | 14 R419 | none -/
  castle : Option CastleSt := none
  /-- a Castling has been reported due | 1 bit | 14 R421 | 0 -/
  castleDue : Bool := false
  /-- CASTLE_OVERDUE | 1 bit | 14 R421 | 0 -/
  overdue : Bool := false
  /-- next automatic retry | cell time | 14 R421 | 0 -/
  retryAt : Time := 0
  /-- the next clean cycle makes the new Shadow READY | 1 bit | 14 R419 | 0 -/
  castled : Bool := false
  /-- GEN of the last PLAN record of each arm | 8 x 32 bit | 14 R404 | [] -/
  planGen : List Nat := []
  /-- a trigger of Table 14-6 has come: instant of the decision | cell time or none | 14 R412 | none -/
  tkDue : Option Time := none
  /-- takeover: T_tk, from which CMD frames go out | cell time or none | 14 R413 | none -/
  tk : Option Time := none
  /-- the epoch acknowledgement of a takeover is still to be checked | 1 bit | 14 R413 | 0 -/
  ackDue : Bool := false
  /-- a COMMIT waits for the Shadow: limit instant, acknowledged | cell time, 1 bit | 14 R424 | none -/
  commitWait : Option (Time × Bool) := none
  /-- UNPAIR: the Shadow's outputs fall at this instant | cell time or none | 14 R425 | none -/
  unpairing : Option Time := none
  deriving DecidableEq, Repr, Inhabited

/-! ### Chapter 15: Ledger -/

/-- One requester of the arbiter: ARB_REQCFG and ARB_STAT (15 Tables 15-3, 15-4). -/
structure ReqSt where
  /-- SB_EN | 1 bit | 15 Table 15-3 | 1 -/
  sbEn : Bool := true
  /-- GH_EN | 1 bit | 15 Table 15-3 | 1 -/
  ghEn : Bool := true
  /-- GH_LIMIT | 11 bit, 1–1 024 | 15 Table 15-3 | 16 -/
  ghLimit : Nat := 16
  /-- HOLD_CUTS | 8 bit | 15 Table 15-4 | 0 -/
  holdCuts : Nat := 0
  /-- K_MAX | 4 bit, 0–10 | 15 Table 15-4 | 0 -/
  kMax : Nat := 0
  /-- MASKED | 1 bit | 15 Table 15-4 | 0 -/
  masked : Bool := false
  /-- PROT_VIOL | 1 bit | 15 Table 15-4 | 0 -/
  protViol : Bool := false
  deriving DecidableEq, Repr, Inhabited

/-- A request presented to a bank (15 R435). -/
structure LReq where
  /-- requester | 0–20 | 15 Table 15-11 | – -/
  req : Nat := 0
  /-- byte address of the word | multiple of 8 | 15 R429 | – -/
  addr : Nat := 0
  /-- bytes written, [] for a read | up to 8 | 15 R431 | [] -/
  data : Bytes := []
  /-- byte offset of a partial write | 0–7 | 15 R431 | 0 -/
  off : Nat := 0
  /-- write | 1 bit | 15 R431 | 0 -/
  write : Bool := false
  /-- loss count k | 0–10 | 15 R437 | 0 -/
  k : Nat := 0
  /-- ply of the bank in which it presents again | count | 15 R437 | 0 -/
  again : Nat := 0
  deriving DecidableEq, Repr, Inhabited

/-- The ply table after reset (15 R441). -/
def plyReset : List Nat := (List.range 64).map fun i =>
  if i % 2 = 0 then 10 + i / 2 % 4
  else if i % 8 = 1 then 14
  else if i % 16 = 3 then 15
  else if i % 16 = 11 then 0
  else if i % 8 = 5 then 1 + i / 8
  else 255

/-- One logical bank: LDG_BANKMAP, LDG_BANKSTAT, its plies and its arbiter (15 R429 to R440). -/
structure BankSt where
  /-- PHYS | 6 bit, 0–33 | 15 Table 15-1 | its own number -/
  phys : Nat := 0
  /-- FILLING | 1 bit | 15 Table 15-1 | 0 -/
  filling : Bool := false
  /-- spare being filled | 0–33 | 15 R434 | 0 -/
  fillTo : Nat := 0
  /-- CORR | 16 bit | 15 Table 15-5 | 0 -/
  corr : Nat := 0
  /-- UNCORR | 8 bit | 15 Table 15-5 | 0 -/
  uncorr : Nat := 0
  /-- CLAIM | 16 bit | 15 Table 15-5 | 0 -/
  claim : Nat := 0
  /-- plies counted, idle ones included | count | 15 R435 | 0 -/
  plies : Nat := 0
  /-- plies granted to the compute class, and all plies, in the present millisecond | counts | 15 Table 15-5 | 0, 0 -/
  used : Nat × Nat := (0, 0)
  /-- instant the present millisecond began | cell time | 15 Table 15-5 | 0 -/
  msAt : Time := 0
  /-- owner the grant is parked on | 0–20 | 15 R435 | 0, DESIGN CHOICE -/
  owner : Nat := 0
  /-- plies the grant in force has been held | count | 15 R438 | 0 -/
  run : Nat := 0
  /-- the grant in force spans consecutive plies | 1 bit | 15 R435 | 0 -/
  span : Bool := false
  /-- requests waiting or backing off | – | 15 R437 | [] -/
  waiting : List LReq := []
  /-- corrected words to write back, byte addresses | – | 15 R432 | [] -/
  fix : List Nat := []
  /-- ply table in force in the bank, requester numbers or 0xFF | 64 entries | 15 R440, R441 | the table of R441 -/
  tbl : List Nat := plyReset
  /-- a staged table waits for the bank's next wrap | 1 bit | 15 R440 | 0 -/
  due : Bool := false
  deriving DecidableEq, Repr, Inhabited

/-- LDG_LOCK (15 Table 15-6). -/
structure LockSt where
  /-- STATE: 0 FREE, 1 HELD, 2 BROKEN | 2 bit | 15 Table 15-6 | 0 -/
  state : Nat := 0
  /-- RELEASE_BAD | 2 bit | 15 Table 15-6 | 0 -/
  relBad : Nat := 0
  /-- LEASE | 16 bit, µs | 15 Table 15-6 | 0 -/
  lease : Nat := 0
  /-- OWNER | 5 bit | 15 Table 15-6 | 0 -/
  owner : Nat := 0
  /-- acquisition stamp | cell time | 15 R443 | 0 -/
  at_ : Time := 0
  deriving DecidableEq, Repr, Inhabited

/-- What the secure region holds beside the structures of the SSV and the pair (15 R446, Table 15-10). -/
structure SecureImg where
  /-- confirmation record | – | 15 Table 15-10 | none -/
  conf : Option ConfirmRec := none
  /-- committed safety set | records | 15 Table 15-10 | [] -/
  set : ParamSet := []
  /-- engineer table | – | 15 Table 15-10 | [] -/
  eng : List Engineer := []
  /-- audit log | – | 15 Table 15-10 | [] -/
  audit : List AuditRec := []
  /-- number of the next audit record | 32 bit | 13 Table 13-11 | 0 -/
  auditNext : Nat := 0
  /-- brake-test timers | s | 15 Table 15-10, 09 R258 | 0 -/
  timers : List Nat := List.replicate 8 0
  /-- time since the last Castling | ms | 15 Table 15-10, 14 R421 | 0 -/
  castle : Nat := 0
  /-- pairing secret | 32 bytes or none | 15 Table 15-10 | none -/
  secret : Option Bytes := none
  /-- paired peer serial | 64 bit | 15 Table 15-10 | 0 -/
  serial : Nat := 0
  deriving DecidableEq, Repr, Inhabited

/-- The Ledger (chapter 15). -/
structure LdgSt where
  /-- data bytes that are not 0, by address, rising | 8 MiB | 15 R429 | all 0, DESIGN CHOICE -/
  mem : List Host.Cell := []
  /-- word addresses with a detected uncorrectable error | byte addresses | 15 R432 | [] -/
  bad : List Nat := []
  /-- logical banks 0–31 | table | 15 R429 | bank b is physical bank b -/
  banks : Vector BankSt 32 := ⟨((List.range 32).map fun b => { phys := b : BankSt }).toArray, by simp⟩
  /-- requesters 0–31 | table | 15 R436 | Tables 15-3, 15-4 -/
  reqs : Vector ReqSt 32 := Vector.replicate 32 {}
  /-- ply table in force: requester number or 0xFF | 64 entries | 15 R441 | the table of R441 -/
  table : List Nat := plyReset
  /-- ply table staged, which each bank adopts at its own wrap | 64 entries or none | 15 R440 | none -/
  staged : Option (List Nat) := none
  /-- background ranking, highest first | 32 numbers | 15 R441 | the ranking of R441 -/
  rank : List Nat := [15, 14, 10, 11, 12, 13, 1, 2, 3, 4, 5, 6, 7, 8, 9, 0, 20, 17, 16, 18, 19,
    21, 22, 23, 24, 25, 26, 27, 28, 29, 30, 31]
  /-- lock words | 64 | 15 R443 | FREE -/
  locks : Vector LockSt 64 := Vector.replicate 64 {}
  /-- code the last acquire returned | 0–3 | 15 Table 15-7 | 0 -/
  acq : Nat := 0
  /-- data the last granted read delivered, none for an error | bytes | 15 R432 | none -/
  readData : Option Bytes := none
  /-- protection matrix LDG_PROT.ACCESS: codes of classes 0–9 in each region | 16 × 10 codes | 15 Table 15-9 | as shipped -/
  access : List (List Nat) := [
    [2, 0, 0, 0, 0, 0, 2, 0, 0, 1], [2, 1, 1, 1, 1, 1, 2, 0, 0, 1], [2, 0, 0, 0, 0, 0, 2, 0, 0, 1],
    [2, 0, 0, 0, 2, 0, 1, 0, 0, 1], [2, 1, 0, 2, 1, 0, 1, 0, 0, 1], [0, 0, 0, 2, 1, 0, 0, 0, 0, 1],
    [2, 1, 2, 1, 1, 0, 1, 0, 0, 1], [2, 2, 0, 0, 0, 0, 2, 0, 0, 1], [1, 2, 1, 0, 0, 0, 2, 1, 0, 1],
    [1, 1, 1, 1, 1, 0, 2, 0, 0, 1], [1, 0, 0, 0, 0, 0, 0, 2, 0, 1], [1, 0, 0, 0, 0, 0, 1, 0, 0, 2],
    [2, 0, 0, 1, 0, 2, 2, 0, 0, 1], [2, 0, 0, 0, 0, 0, 0, 1, 0, 1], [2, 0, 1, 0, 0, 0, 0, 1, 2, 1],
    [2, 0, 0, 0, 2, 0, 2, 0, 0, 0]]
  /-- LDG_PROT.SEC_SIZE | 4 bit, 64 KiB units | 15 Table 15-8 | 4 -/
  secSize : Nat := 4
  /-- LDG_PROT.LOCK | 16 bit | 15 Table 15-8 | 0x0038 -/
  lock : Nat := 0x0038
  /-- requesters whose present unit of work misses its deadline after a Ledger error | 32 bits | 15 R439 | 0 -/
  spoiled : Nat := 0
  /-- scrubber's next word | byte address | 15 R433 | 0 -/
  scrubAt : Nat := 0
  /-- scrub corrections of the last 24 h: word, instant | – | 16 Table 16-3 | [] -/
  scrubHist : List (Nat × Time) := []
  /-- WIPE_CAUSE of the secure region | code | 15 R448 | 0 -/
  wipeCause : Nat := 0
  /-- journal generation | count | 15 Table 15-10 | 0 -/
  journalGen : Nat := 0
  /-- journal in flash: what a replay restores | image or none | 15 R447 | none -/
  journal : Option SecureImg := none
  /-- records appended to the journal since its last image | count | 15 R447 | 0 -/
  journalRecs : Nat := 0
  /-- wipe count under which the journal was sealed | count | 15 R447 | 0 -/
  journalKey : Nat := 0
  /-- changes of the region not yet appended | 1 bit | 15 R447 | 0 -/
  journalDue : Bool := false
  /-- the old journal is being erased after a wipe | 1 bit | 17 R474 | 0 -/
  erasing : Bool := false
  /-- replayed image waiting for the end of start-up | image or none | 17 R474 | none -/
  replay : Option SecureImg := none
  deriving DecidableEq, Repr, Inhabited

/-! ### Chapter 16: health, voltage, fuses -/

/-- Unit states (16 Table 16-2, codes of Table 16-10). -/
inductive UState where
  | inService | spare | suspect | retired
  deriving DecidableEq, Repr, Inhabited

/-- One unit of Table 16-3. -/
structure UnitSt where
  /-- CLASS | 0–9 | 16 Table 16-10 | – -/
  cls : Nat := 0
  /-- INDEX | unit | 16 Table 16-10 | – -/
  idx : Nat := 0
  /-- STATE | 2 bit | 16 Table 16-10 | IN_SERVICE, SPARE for the spares -/
  st : UState := .inService
  /-- instants of its Glints, newest first | cell times | 16 Table 16-2 | [] -/
  glints : List Time := []
  /-- SERVES | 7 bit, 0x7F none | 16 Table 16-10 | its own number, 0x7F for spares -/
  serves : Nat := 127
  /-- what it served before it became SUSPECT | 7 bit, 0x7F none | 16 Table 16-2 | 0x7F -/
  served : Nat := 127
  /-- suspect by a SELF_TEST command with this ticket; its state before | – | 16 R456 | none -/
  cmdTest : Option (Nat × UState) := none
  /-- the unit's work had nowhere to move | 1 bit | 16 Table 16-2 | 0 -/
  stuck : Bool := false
  /-- instant of the last completed background test | cell time | 16 R457 | 0 -/
  tested : Time := 0
  deriving DecidableEq, Repr, Inhabited

/-- The fuses (16 R461, Table 16-5). -/
structure FuseSt where
  /-- RETIRED_GRP | 8 bit | 16 Table 16-6 | 0 -/
  retiredGrp : Nat := 0
  /-- FIELD_GRP | 8 bit | 16 Table 16-6 | 0xFF, DESIGN CHOICE: a part in FIELD -/
  fieldGrp : Nat := 255
  /-- repair records 0–95, a burned record as its 32 bits | list in record order | 16 R459 | [] -/
  repairs : List Nat := []
  /-- wipe-count bits burned | 0–64 | 15 R447 | 0 -/
  wipes : Nat := 0
  /-- the root key has been fused | 1 bit | 15 R447 | 1 -/
  rootKey : Bool := true
  deriving DecidableEq, Repr, Inhabited

/-- Health, the voltage loop and the tempo monitor (chapter 16). -/
structure HltSt where
  /-- VDD_MV commanded | 16 bit, mV | 16 Table 16-8 | 850 -/
  vdd : Nat := 850
  /-- TJ | signed 16 bit, 0.1 °C | 16 Table 16-8 | 0 -/
  tj : Int := 0
  /-- margins of the domains | 22 × Q1.15 | 16 Table 16-9 | 0 -/
  margins : List Int := List.replicate 22 0
  /-- MARGIN_MIN | Q1.15 | 16 Table 16-8 | 0 -/
  marginMin : Int := 0
  /-- MARGIN_DOM | 5 bit | 16 Table 16-8 | 0 -/
  marginDom : Nat := 0
  /-- LOW of the domains | 22 bits | 16 Table 16-9 | 0 -/
  low : Nat := 0
  /-- MISS_PROJECTED of the domains | 22 bits | 16 Table 16-9 | 0 -/
  missProj : Nat := 0
  /-- TEMPO_WARNING | 1 bit | 16 Table 16-8 | 0 -/
  tempoWarn : Bool := false
  /-- iterations at VDD_MAX below M_LOW | count | 16 R452 | 0 -/
  warnRun : Nat := 0
  /-- iterations at or above M_LOW | count | 16 R452 | 0 -/
  okRun : Nat := 0
  /-- high_run | count | 16 R450 | 0 -/
  highRun : Nat := 0
  /-- a VOUT_COMMAND waits for its READ_VOUT, given at | cell time or none | 16 R450 | none -/
  voutWait : Option Time := none
  /-- PMBUS_FAIL | 1 bit | 16 Table 16-8 | 0 -/
  pmbusFail : Bool := false
  /-- consecutive bad PMBus transactions | count | 16 R451 | 0 -/
  pmbusBad : Nat := 0
  /-- SEAL_EXHAUSTED | 1 bit | 16 Table 16-8 | 0 -/
  sealEx : Bool := false
  /-- units, in class and INDEX order | list | 16 R453 | Table 16-2 -/
  units : List UnitSt := []
  /-- POOL_LOW raised for the classes, bit 10 for repair records | 11 bits | 16 R454 | 0 -/
  poolLow : Nat := 0
  /-- POOL_EXHAUSTED raised for the classes | 11 bits | 16 R454 | 0 -/
  poolEx : Nat := 0
  /-- ports whose spare slice is in use | 41 bits | 16 Table 16-8 | 0 -/
  slices : Nat := 0
  /-- fuses | – | 16 R461 | a shipped part -/
  fuses : FuseSt := {}
  /-- THERM_N asserted | 1 bit | 17 R489 | 0 -/
  therm : Bool := false
  deriving DecidableEq, Repr, Inhabited

/-! ### Chapter 17: power, start-up, pins -/

/-- Start-up phases (17 Table 17-4). -/
inductive Boot where
  | reset | fuseLoad | cores | rom | replay | ready
  deriving DecidableEq, Repr, Inhabited

/-- Power, reset pins and the pins that no other chapter holds (chapter 17). -/
structure PwrSt where
  /-- where start-up stands | code | 17 Table 17-4 | waiting for fuse load, right after the release -/
  boot : Boot := .fuseLoad
  /-- internal reset held | 1 bit | 17 R472 | 0, just released -/
  held : Bool := false
  /-- t_r | cell time | 17 R472 | 0 -/
  tr : Time := 0
  /-- supplies above RANGE low: VDD_CORE, VDD_SER, VDD_TB, VDD_IO18, VDD_IO33 | 5 bits | 17 R472 | all up -/
  supply : Vector Bool 5 := Vector.replicate 5 true
  /-- PWR_GOOD | 1 bit | 17 R472 | 1 -/
  pwrGood : Bool := true
  /-- RESET_N | 1 bit | 17 R472 | 1 -/
  resetN : Bool := true
  /-- PRESENT_N | 1 bit | 17 R472, R479 | 0 -/
  presentN : Bool := false
  /-- PRESENT_N has been low for 10 ms | 1 bit | 17 R472 | 1 -/
  seated : Bool := true
  /-- TEST0 | 1 bit | 17 R472 | 0 -/
  test0 : Bool := false
  /-- TEST1 | 1 bit | 17 R472 | 0 -/
  test1 : Bool := false
  /-- the junction temperature RANGE condition holds | 1 bit | 17 R476 | 0 -/
  tempOut : Bool := false
  /-- a tamper or TRIP event is latched: wipe cause 1–3, 0 none | code | 15 R448, 17 R474 | 0 -/
  tamper : Nat := 0
  /-- PERST_N | 1 bit | 12 R356, 17 R475 | 1, DESIGN CHOICE -/
  perstN : Bool := true
  /-- CLKREQ_N driven low | 1 bit | 17 Table 17-8 | 0 -/
  clkreq : Bool := false
  /-- UART_CTS_N | 1 bit | 17 Table 17-8 | 0, DESIGN CHOICE -/
  ctsN : Bool := false
  /-- event-log lines waiting in the 4 KiB UART buffer: record number | list | 17 Table 17-8 | [] -/
  uart : List Nat := []
  /-- lines dropped since the last line sent | count | 17 Table 17-8 | 0 -/
  uartDrop : Nat := 0
  /-- event-log lines sent | count | 17 Table 17-8 | 0 -/
  uartSent : Nat := 0
  /-- JTAG instruction in force | IEEE 1149.1 code by name | 17 Table 17-8 | IDCODE -/
  jtag : Nat := 1
  /-- data register the instruction selects: IDCODE 0x1640_8DE3, or 0 for BYPASS | 32 bit | 17 Table 17-8 | IDCODE -/
  jtagDr : Nat := 0x16408DE3
  /-- a removal has been judged | 1 bit | 17 R479 | 0 -/
  removed : Bool := false
  deriving DecidableEq, Repr, Inhabited

/-! ### The whole state -/

/-- Unit classes with their counts, in class order (16 Table 16-3). -/
def unitCounts : List Nat := [68, 16, 9, 34, 3, 5, 41, 36, 60, 8]

/-- Is the unit a spare after reset: the 17th lane of each group (03 R63), tile QT8 (07 R208), banks 32 and 33
(15 R429), the third Jorzel core and the fifth Mirror lane (16 Table 16-3). -/
def unitSpare (cls idx : Nat) : Bool :=
  (cls == 0 && idx % 17 == 16) || (cls == 2 && idx == 8) || (cls == 3 && 32 ≤ idx) ||
  (cls == 4 && idx == 2) || (cls == 5 && idx == 4)

/-- SERVES after reset: the axis, arm, bank, port or lane of the unit, 0x7F for a spare (16 Table 16-10). -/
def unitServes (cls idx : Nat) : Nat :=
  if unitSpare cls idx then 127
  else if cls = 0 then idx - idx / 17
  else if cls = 1 then idx / 4
  else idx

/-- The units after reset, in class and INDEX order (16 Table 16-2, R465); behind them the four rovers TS60 to TS63, which are the
pool of class 8 (16 Table 16-3). -/
def unitsAtReset : List UnitSt :=
  ((List.range 10).map fun c => (List.range (unitCounts.getD c 0)).map fun i =>
    ({ cls := c, idx := i, st := if unitSpare c i then .spare else .inService, serves := unitServes c i } : UnitSt)).flatten
    ++ (List.range 4).map fun r => ({ cls := 8, idx := 60 + r, st := .spare } : UnitSt)

/-- The FLC-6408 with the commands that wait for it. -/
structure State where
  /-- commands waiting, first in first out (the model's own field) | list | – | [] -/
  pending : List Instr := []
  /-- free values drawn so far (the model's own field) | count | – | 0, DESIGN CHOICE -/
  fresh : Nat := 0
  /-- time base | structure | chapter 02 | as its fields -/
  tb : TbSt := {}
  /-- cyclic events | structure | chapter 01 | as its fields -/
  cyc : CycSt := {}
  /-- parameter sets | structure | 09 R271 | empty -/
  sets : SetsSt := {}
  /-- axes A0–A63 | 64 | chapters 03 to 06 | as its fields -/
  axes : Vector AxisSt 64 := Vector.replicate 64 {}
  /-- physical lanes | 68 | 03 R62, R63 | group g lane l serves axis 16g + l, every 17th is spare -/
  lanes : Vector LaneSt 68 := ⟨((List.range 68).map fun i =>
    { axis := if i % 17 = 16 then none else some (i - i / 17) : LaneSt }).toArray, by simp⟩
  /-- datapaths | 16 | 06 R159 | 0 -/
  dps : Vector DpSt 16 := Vector.replicate 16 {}
  /-- drive links | structure | chapter 10 | as its fields -/
  dl : DlSt := {}
  /-- planners of the arms | 8 | chapter 07 | tile i serves arm i -/
  planners : Vector PlannerSt 8 := ⟨((List.range 8).map fun i =>
    { tile := some i, res := { tile := i } : PlannerSt }).toArray, by simp⟩
  /-- solver tiles | 9 | 07 R208 | tile i serves arm i, QT8 spare -/
  tiles : Vector TileSt 9 := ⟨((List.range 9).map fun i =>
    { arm := if i < 8 then some i else none : TileSt }).toArray, by simp⟩
  /-- separation monitor | structure | chapter 08 | as its fields -/
  ssm : SsmSt := {}
  /-- safety supervisor | structure | chapter 09 | as its fields -/
  ssv : SsvSt := {}
  /-- cell bus | structure | chapter 11 | as its fields -/
  ttc : TtcSt := {}
  /-- host interface | structure | chapter 12 | as its fields -/
  hif : HifSt := {}
  /-- firmware work in progress | structure | chapter 13 | as its fields -/
  fw : FwSt := {}
  /-- Mirror link and pair | structure | chapter 14 | as its fields -/
  mlc : MlcSt := {}
  /-- Ledger | structure | chapter 15 | as its fields -/
  ldg : LdgSt := {}
  /-- health | structure | chapter 16 | as its fields -/
  hlt : HltSt := { units := unitsAtReset }
  /-- power and pins | structure | chapter 17 | as its fields -/
  pwr : PwrSt := {}
  deriving DecidableEq, Repr

/-- The machine right after its internal reset is released: every register at its reset value, cell time 0,
time base FREE (02 R39, 17 R474), and no command waiting. -/
def State.reset : State := {}

end Sys2Proof.Machine
end

