-- ==== Sys2Proof/Machine/Flags.lean ====
section
/-!
DEFINITION. Saturation, rounding and counting: the narrowing steps that decide the controller's flags
(02 R52, 05 R135, 06 R160 to R164), and the saturating counters of its status registers.
-/
namespace Sys2Proof.Machine

/-- Clamp to [lo, hi]. -/
def clampI (lo hi v : Int) : Int := max lo (min hi v)

/-- Sum of a list. -/
def isum (l : List Int) : Int := l.foldl (· + ·) 0

/-- sat() of 06 R162: 0x8001 to 0x7FFF. -/
def sat (v : Int) : Int := clampI (-32767) 32767 v

/-- sat40() of 06 R160: ±(2^39 − 1). -/
def sat40 (v : Int) : Int := clampI (-(2 ^ 39 - 1)) (2 ^ 39 - 1) v

/-- The not-a-number code 0x8000 of a Q1.15 word (06 R159). -/
def nan16 : Int := -32768

/-- Arithmetic shift right: floor of v / 2^s. -/
def asr (v : Int) (s : Nat) : Int := v / (2 : Int) ^ s

/-- Shift left. -/
def shl (v : Int) (s : Nat) : Int := v * (2 : Int) ^ s

/-- Floor of a quotient, 0 for a zero divisor. -/
def fdiv (a b : Int) : Int := if b < 0 then (-a) / (-b) else a / b

/-- Ceiling of a quotient by a positive divisor. -/
def cdiv (a b : Int) : Int := -((-a) / b)

/-- Quotient rounded toward zero. -/
def tdiv (a b : Int) : Int := Int.tdiv a b

/-- Nearest integer, halves away from zero, of n / d with d > 0 (02 R52, 03 R69). -/
def roundHA (n d : Int) : Int :=
  if n ≥ 0 then (2 * n + d) / (2 * d) else -((2 * (-n) + d) / (2 * d))

/-- Nearest integer, halves toward zero, of n / d with d > 0 (02 R47). -/
def roundHZ (n d : Int) : Int :=
  if n ≥ 0 then (2 * n + d - 1) / (2 * d) else -((2 * (-n) + d - 1) / (2 * d))

/-- Wrap to a signed word of w bits. -/
def wrapS (w : Nat) (v : Int) : Int := toSigned w (ofSigned w v)

/-- A saturating increment. -/
def incSat (lim n : Nat) : Nat := if n < lim then n + 1 else lim

/-- Integer square root by bits, `k` of them from the top. -/
def isqrtBits (v : Nat) : Nat → Nat → Nat
  | 0, r => r
  | k + 1, r =>
    let c := r + 2 ^ k
    if c * c ≤ v then isqrtBits v k c else isqrtBits v k r

/-- ⌊√v⌋ for v < 2^(2·300). -/
def isqrt (v : Nat) : Nat := if v < 2 ^ 80 then isqrtBits v 40 0 else isqrtBits v 300 0

/-- ⌊√v⌋ of an integer, 0 below 0. -/
def isqrtI (v : Int) : Int := (isqrt v.toNat : Nat)

/-- Leading redundant sign bits of a w-bit value (06 R164), by the number of bits its magnitude needs. -/
def redundant (w : Nat) (v : Int) : Nat :=
  let m := (if v ≥ 0 then v else -v - 1).toNat
  if m = 0 then w - 1 else w - 2 - Nat.log2 m

/-- nrs of 06 R164 for a 40-bit accumulator. -/
def nrs (v : Int) : Nat := redundant 40 v

/-- nrs16 of 06 R164. -/
def nrs16 (v : Int) : Nat := redundant 16 v

/-- Wrap a position difference of a modulo axis into (−M/2, M/2] (05 R132); M = 0 is a linear axis. -/
def wrapMod (m d : Int) : Int :=
  if m = 0 then d else
  let r := d % m
  if 2 * r > m then r - m else r

/-- Wrap a position of a modulo axis into [0, M) (03 R66). -/
def wrapPos (m p : Int) : Int := if m = 0 then p else p % m

/-- Ceiling of log2 of n / d with n, d > 0, as an integer (07 R198). -/
def clog2 (n d : Nat) : Int :=
  if n > d then ((List.range 300).findIdx (fun k => decide (n ≤ d * 2 ^ k)) : Nat)
  else -(((List.range 300).findIdx (fun k => decide (n * 2 ^ (k + 1) > d)) : Nat) : Int)

end Sys2Proof.Machine
end

