-- ==== Sys2Proof/Machine/Params.lean ====
section
/-!
DEFINITION. The parameters of the controller: the PID blocks of 13 Table 13-4 with the width, range, default
and part of every parameter, and the accessors that read a set.
A parameter of a table that serves axes, arms, ports, inputs or sensors takes that number as INST; the SSM
values V_HUMAN, AGE_LIMIT and STOP_FACTOR and the SSV values given once take INST 0 (DEDUCED, notes/assumptions/7).
-/
namespace Sys2Proof.Machine

/-- What INST counts for a parameter (13 Table 13-4). -/
inductive InstKind where
  | one | axis | arm | port | input | sensor | mode
  deriving DecidableEq, Repr, Inhabited

/-- Number of instances of a kind. -/
def InstKind.count : InstKind → Nat
  | .one => 1 | .axis => 64 | .arm => 8 | .port => 36 | .input => 16 | .sensor => 16 | .mode => 16

/-- Defaults: a number, bytes of a composite, none, or derived from other parameters. -/
inductive PDflt where
  | num (v : Int) | raw (b : Bytes) | unset | derived
  deriving DecidableEq, Repr, Inhabited

/-- One parameter: its PID, instances, width, sign, range, default and part. -/
structure PDef where
  pid : Nat
  inst : InstKind
  subs : Nat
  width : Nat
  signed : Bool
  safety : Bool
  lo : Int
  hi : Int
  dflt : PDflt
  deriving DecidableEq, Repr, Inhabited

namespace Pid
def TYPE := 0x01
def ARM := 0x02
def JOINT := 0x03
def ENC_SIDE := 0x04
def ENC_PERIODS := 0x05
def HOME_OFFSET := 0x08
def HOME_TRAVEL := 0x09
def HOME_BACKOFF := 0x0A
def VMAX := 0x10
def V_HARD := 0x11
def AMAX := 0x12
def DMAX := 0x13
def A_HARD := 0x14
def D_HARD := 0x15
def JMAX := 0x16
def J_HARD := 0x17
def SOFT_LO := 0x18
def SOFT_HI := 0x19
def MODULUS := 0x1A
def LOAD_PER_REV := 0x1B
def PLAN_TOL := 0x1C
def STEP_INC := 0x1D
def STEP_DTMIN := 0x1E
def STEP_DT0 := 0x1F
def STEP_IDLE := 0x20
def GEAR_RAMP := 0x21
def HOME_V := 0x22
def HOME_I := 0x23
def HOME_FE := 0x24
def STEPS := 0x40
def MOTOR_N := 0x41
def MOTOR_D := 0x42
def T_OFF := 0x43
def T_BLANK := 0x44
def FD_FRAC := 0x45
def S_ON_NOM := 0x46
def S_FAST_NOM := 0x47
def S_SLOW_NOM := 0x48
def I_FLOOR := 0x49
def I_CEIL := 0x4A
def I_HOLD := 0x4B
def K_LOAD := 0x4C
def LA_SHIFT := 0x4D
def LA_EMIN := 0x4E
def STALL_TH := 0x4F
def STALL_N := 0x50
def HOLD_DELAY := 0x51
def I_STEP := 0x52
def POLE_PAIRS := 0x53
def THETA_OFF := 0x54
def KP_I := 0x55
def KI_I := 0x56
def L_D := 0x57
def L_Q := 0x58
def PSI_PM := 0x59
def ID_REF := 0x5A
def I_MAX := 0x5B
def U_LIM := 0x5C
def MIN_PULSE := 0x5D
def V_DC_MIN := 0x5E
def I_TRIP := 0x5F
def PE_SHIFT := 0x80
def VEL_FS := 0x81
def KP := 0x82
def KVFF := 0x83
def KV := 0x84
def KI := 0x85
def KAFF := 0x86
def NOTCH1 := 0x87
def NOTCH2 := 0x88
def LOWPASS := 0x89
def INTEG_PRELOAD := 0x8A
def FE_LIMIT := 0x8B
def FE_TIME := 0x8C
def EXT_MODE := 0x8D
def T_LIM := 0x8E
def KS_M := 0x8F
def CORR_MAX_US := 0x90
def INJ_MAX := 0x91
def ENC_AMP_MIN := 0xC0
def ENC_AMP_MAX := 0xC1
def R_PH := 0xC2
def L_PH := 0xC3
def LA_GV := 0xC4
def LA_GT := 0xC5
def PLAN_PERIOD := 0x100
def HORIZON_N := 0x101
def KNOT_M := 0x102
def ADMM_K := 0x103
def ALPHA_N := 0x104
def RHO := 0x105
def SIGMA := 0x106
def W_Q := 0x107
def W_V := 0x108
def W_A := 0x109
def W_N := 0x10A
def W_SL := 0x10B
def W_SQ := 0x10C
def PIVOT_EXP := 0x10D
def FALLBACK_DEPTH := 0x10E
def D_SEP := 0x10F
def A_CART := 0x110
def DIST_ACTIVE := 0x111
def COUPLE_LIST := 0x112
def I_J := 0x113
def G := 0x114
def PHI := 0x115
def TAU_MAX := 0x116
def WS_RADIUS := 0x117
def POS_TOL := 0x118
def RES_TOL := 0x119
def QFMT := 0x11A
def V_HUMAN := 0x140
def AGE_LIMIT := 0x141
def STOP_FACTOR := 0x142
def SSM_EN := 0x143
def PROT_STOP := 0x144
def RESTART := 0x145
def PEN_MARGIN := 0x146
def PEN_RATIO := 0x147
def PEN_HOLD := 0x148
def RESUME_HOLD := 0x149
def Z_R := 0x14A
def V_CAP_MAX := 0x14B
def XCHK_TOL := 0x14C
def SSM_QOFF := 0x14D
def DH_THETA := 0x14E
def DH_ALPHA := 0x14F
def DH_A := 0x150
def DH_D := 0x151
def JTYPE := 0x152
def BASE := 0x153
def TOOL := 0x154
def CARRIER := 0x155
def CAR_DIR := 0x156
def CAR_POINT := 0x157
def CAPSULE := 0x158
def STOP_TABLE := 0x159
def OBJ_QUOTA := 0x15A
def C_INTR := 0x15B
def Z_D := 0x15C
def FIELD := 0x15D
def BK_SETTLE := 0x180
def BK_ENGAGE := 0x181
def BK_RELEASE := 0x182
def TORQUE_BUILD := 0x183
def BK_TEST_I := 0x184
def BK_TEST_T := 0x185
def BK_SLIP := 0x186
def BK_INTERVAL := 0x187
def BK_GRACE := 0x188
def ENGAGE_TEST := 0x189
def BK_OUT := 0x18A
def STO_OUT := 0x18B
def SS_DECEL := 0x18C
def MON_DELAY := 0x18D
def SOS_TOL := 0x18E
def TP_PERIOD := 0x18F
def TP_WIDTH := 0x190
def TP_DELAY := 0x191
def SI_FILTER := 0x192
def SI_DISC := 0x193
def SI_FUNC := 0x194
def SI_MODE := 0x195
def SI_TP := 0x196
def SI_ARMS := 0x197
def ESTOP_CAT := 0x198
def GUARD_CAT := 0x199
def SI_SLS_RATIO := 0x19A
def SERVICE_T := 0x19B
def LOCK_N := 0x19C
def LOCK_T := 0x19D
def PORT_EN := 0x1C0
def POS_CODE := 0x1C1
def SERIAL := 0x1C2
def KIND0 := 0x1C3
def KIND1 := 0x1C4
def AXIS0 := 0x1C5
def AXIS1 := 0x1C6
def ABS0 := 0x1C7
def ABS1 := 0x1C8
def HOLD_N := 0x1C9
def SPARE_PORT := 0x1CA
def SPARE_LIST := 0x1CB
def SPARE_SEL := 0x1CC
def CB_EN := 0x200
def NODE_ID := 0x201
def CH_EN_A := 0x202
def CH_EN_B := 0x203
def COLDSTART_EN := 0x204
def STARTUP_MODE := 0x205
def ACCEPT_W := 0x206
def PROP_MAX := 0x207
def CORR_LIMIT := 0x208
def SYNC_MIN := 0x209
def PASSIVE_MIN := 0x20A
def CAL_N := 0x20B
def DELAY_INIT := 0x20C
def BIND_AGE := 0x20D
def MODE := 0x20E
def SLOT := 0x20F
def SAFE_ID := 0x210
def CONN := 0x211
def SAFE_SEED := 0x212
def SENS_VALUE := 0x213
def SEQ_WIN := 0x214
def SAFE_TMAX := 0x215
def TB_PPSOUT_ALWAYS := 0x240
def TB_PPSIN_POL := 0x241
def TB_RELABEL_EN := 0x242
def TB_SRC := 0x243
def TB_SLEW_FAST := 0x244
def TB_SLEW_RUN := 0x245
def TB_HOLD_LIMIT := 0x246
def TB_HOLD_DRIFT := 0x247
def TB_PPSOUT_COMP := 0x248
def TB_PPSOUT_WIDTH := 0x249
def PAIR_EN := 0x280
def PAIR_WAIT := 0x281
def HB_WIN := 0x282
def STALE_MAX := 0x283
def READY_MIN := 0x284
def DET_DEBOUNCE := 0x285
def CASTLE_INTERVAL := 0x286
def CASTLE_LEAD := 0x287
def CASTLE_AUTO := 0x288
def PAIR_T := 0x289
def M_LOW := 0x2C0
def M_HIGH := 0x2C1
def VDD_MAX := 0x2C2
def PMBUS_ADDR := 0x2C3
def GLINT_LIMIT := 0x2C4
def GLINT_WINDOW := 0x2C5
def SELFTEST_PERIOD := 0x2C6
end Pid

/-- A numeric parameter: instances, width, sign, part, range, default. -/
def pnum (pid : Nat) (inst : InstKind) (width : Nat) (signed safety : Bool) (lo hi : Int)
    (d : PDflt) (subs : Nat := 1) : PDef :=
  { pid := pid, inst := inst, subs := subs, width := width, signed := signed, safety := safety,
    lo := lo, hi := hi, dflt := d }

/-- A composite parameter, `width` bytes, whose parts its own chapter checks. -/
def praw (pid : Nat) (inst : InstKind) (width : Nat) (safety : Bool) (d : PDflt) (subs : Nat := 1) : PDef :=
  { pid := pid, inst := inst, subs := subs, width := width, signed := false, safety := safety,
    lo := 0, hi := (2 : Int) ^ (8 * width) - 1, dflt := d }

/-- Largest signed value of `w` bits. -/
def maxS (w : Nat) : Int := (2 : Int) ^ (w - 1) - 1

/-- Smallest signed value of `w` bits. -/
def minS (w : Nat) : Int := -((2 : Int) ^ (w - 1))

/-- Largest unsigned value of `w` bits. -/
def maxU (w : Nat) : Int := (2 : Int) ^ w - 1

/-- A gain (M, E) as stored: M (2), E (1), res (1) (13 R384). -/
def gainBytes (m e : Nat) : Bytes := leBytes 2 m ++ leBytes 1 e ++ leBytes 1 0

/-- The disabled AX_BIQUAD of 05 Table 05-9, 12 bytes with bit 0 first. -/
def biquadOff : Bytes := leBytes 2 0 ++ leBytes 2 0 ++ leBytes 2 0 ++ leBytes 2 0 ++ leBytes 2 0 ++ leBytes 2 16384

/-- Axis definition (03 Table 03-8). -/
def defsAxis : List PDef := [
  pnum Pid.TYPE .axis 1 false true 0 3 (.num 3),
  pnum Pid.ARM .axis 1 false true 0 15 (.num 15),
  pnum Pid.JOINT .axis 1 false true 0 11 (.num 0),
  pnum Pid.ENC_SIDE .axis 1 false true 0 1 (.num 0),
  pnum Pid.ENC_PERIODS .axis 4 false true 0 (2 ^ 20) (.num 0),
  pnum Pid.HOME_OFFSET .axis 8 true false (-(2 : Int) ^ 63) (maxS 64) (.num 0),
  pnum Pid.HOME_TRAVEL .axis 8 true false (2 ^ 20) (2 ^ 62) (.num (2 ^ 40)),
  pnum Pid.HOME_BACKOFF .axis 8 true false 0 (2 ^ 38) (.num (2 ^ 34))]

/-- Motion parameters (03 Table 03-3). -/
def defsMotion : List PDef := [
  pnum Pid.VMAX .axis 4 false false 65536 262144000 .derived,
  pnum Pid.V_HARD .axis 4 false true 65536 262144000 .unset,
  pnum Pid.AMAX .axis 4 false false 1 (2 ^ 30) .derived,
  pnum Pid.DMAX .axis 4 false false 1 (2 ^ 30) .derived,
  pnum Pid.A_HARD .axis 4 false true 1 (2 ^ 30) .unset,
  pnum Pid.D_HARD .axis 4 false true 1 (2 ^ 30) .unset,
  pnum Pid.JMAX .axis 4 false false 1 4294967040 .derived,
  pnum Pid.J_HARD .axis 4 false true 1 4294967040 .unset,
  pnum Pid.SOFT_LO .axis 8 true true (minS 64) (maxS 64) (.num (minS 64)),
  pnum Pid.SOFT_HI .axis 8 true true (minS 64) (maxS 64) (.num (maxS 64)),
  pnum Pid.MODULUS .axis 8 true true 0 (2 ^ 60) (.num 0),
  pnum Pid.LOAD_PER_REV .axis 4 false true 1 (2 ^ 31) (.num 1000000),
  pnum Pid.PLAN_TOL .axis 8 true false 0 (2 ^ 30) (.num (2 ^ 16)),
  pnum Pid.STEP_INC .axis 8 true false (-(2 : Int) ^ 36) (2 ^ 36) .unset,
  pnum Pid.STEP_DTMIN .axis 4 false false 1000 1000000000 (.num 1000),
  pnum Pid.STEP_DT0 .axis 4 false false 1000 1000000000 (.num 1000000),
  pnum Pid.STEP_IDLE .axis 4 false false 1000 1000000000 (.num 10000000),
  pnum Pid.GEAR_RAMP .axis 2 false false 0 65535 (.num 1600),
  pnum Pid.HOME_V .axis 4 false false 1 262144000 .derived,
  pnum Pid.HOME_I .axis 1 false false 5 100 (.num 25),
  pnum Pid.HOME_FE .axis 8 true false (2 ^ 10) (2 ^ 36) (.num (2 ^ 30))]

/-- Current-path parameters (04 Table 04-4). -/
def defsCurrent : List PDef := [
  pnum Pid.STEPS .axis 2 false false 4 65532 (.num 200),
  pnum Pid.MOTOR_N .axis 2 false true 1 65535 (.num 1),
  pnum Pid.MOTOR_D .axis 2 false true 1 65535 (.num 1),
  pnum Pid.T_OFF .axis 4 false false 2000 160000 (.num 20000),
  pnum Pid.T_BLANK .axis 2 false false 400 8000 (.num 3200),
  pnum Pid.FD_FRAC .axis 1 false false 0 16 (.num 4),
  pnum Pid.S_ON_NOM .axis 4 true false 1 (maxS 32) .unset,
  pnum Pid.S_FAST_NOM .axis 4 true false (minS 32) (-1) .unset,
  pnum Pid.S_SLOW_NOM .axis 4 true false (minS 32) 0 .unset,
  pnum Pid.I_FLOOR .axis 2 false false 0 32767 (.num 8192),
  pnum Pid.I_CEIL .axis 2 false false 0 32767 (.num 26214),
  pnum Pid.I_HOLD .axis 2 false false 0 32767 (.num 8192),
  pnum Pid.K_LOAD .axis 2 false false 0 65535 (.num 8192),
  pnum Pid.LA_SHIFT .axis 1 false false 0 6 (.num 3),
  pnum Pid.LA_EMIN .axis 2 false false 1 1024 (.num 4),
  pnum Pid.STALL_TH .axis 2 false false 0 16384 (.num 14564),
  pnum Pid.STALL_N .axis 1 false false 1 255 (.num 8),
  pnum Pid.HOLD_DELAY .axis 2 false false 0 65535 (.num 6400),
  pnum Pid.I_STEP .axis 2 false false 1 32767 (.num 512),
  pnum Pid.POLE_PAIRS .axis 1 false false 1 64 (.num 4),
  pnum Pid.THETA_OFF .axis 2 false false 0 65535 (.num 0),
  pnum Pid.KP_I .axis 2 false false 0 32767 (.num 2048),
  pnum Pid.KI_I .axis 2 false false 0 32767 (.num 64),
  pnum Pid.L_D .axis 2 false false 1 65535 .unset,
  pnum Pid.L_Q .axis 2 false false 1 65535 .unset,
  pnum Pid.PSI_PM .axis 4 false false 0 (2 ^ 24) .unset,
  pnum Pid.ID_REF .axis 2 true false (-32767) 0 (.num 0),
  pnum Pid.I_MAX .axis 2 false false 1 32767 (.num 26214),
  pnum Pid.U_LIM .axis 2 false false 1 32767 (.num 31129),
  pnum Pid.MIN_PULSE .axis 2 false false 0 8000 (.num 800),
  pnum Pid.V_DC_MIN .axis 2 false false 1 65535 (.num 100),
  pnum Pid.I_TRIP .axis 2 false false 1 32767 (.num 30000)]

/-- Loop parameters (05 Table 05-8) and kernel parameters (06 Table 06-4). -/
def defsLoop : List PDef := [
  pnum Pid.PE_SHIFT .axis 1 false false 0 48 (.num 16),
  pnum Pid.VEL_FS .axis 4 false false 65536 2097152000 .derived,
  praw Pid.KP .axis 4 false (.raw (gainBytes 2400 0)),
  praw Pid.KVFF .axis 4 false (.raw (gainBytes 16384 1)),
  praw Pid.KV .axis 4 false (.raw (gainBytes 16384 1)),
  praw Pid.KI .axis 4 false (.raw (gainBytes 256 0)),
  praw Pid.KAFF .axis 4 false (.raw (gainBytes 0 0)),
  praw Pid.NOTCH1 .axis 12 false (.raw biquadOff),
  praw Pid.NOTCH2 .axis 12 false (.raw biquadOff),
  praw Pid.LOWPASS .axis 12 false (.raw biquadOff),
  pnum Pid.INTEG_PRELOAD .axis 2 true false (-32767) 32767 (.num 0),
  pnum Pid.FE_LIMIT .axis 8 true false 1 (2 ^ 38) (.num (2 ^ 30)),
  pnum Pid.FE_TIME .axis 2 false false 1 65535 (.num 160),
  pnum Pid.EXT_MODE .axis 1 false false 0 1 (.num 0),
  pnum Pid.T_LIM .axis 2 false false 1 32767 (.num 26214),
  pnum Pid.KS_M .axis 2 false false 0 65535 (.num 4096),
  pnum Pid.CORR_MAX_US .axis 2 false false 0 16384 (.num 4096),
  pnum Pid.INJ_MAX .axis 2 false false 0 32767 (.num 8192),
  pnum Pid.ENC_AMP_MIN .axis 2 false false 1 32766 (.num 6554),
  pnum Pid.ENC_AMP_MAX .axis 2 false false 2 32767 (.num 32767),
  pnum Pid.R_PH .axis 2 false false 1 65535 .unset,
  pnum Pid.L_PH .axis 2 false false 1 65535 .unset,
  praw Pid.LA_GV .axis 4 false .unset,
  praw Pid.LA_GT .axis 4 false .unset]

/-- Planner parameters (07 Table 07-8). -/
def defsPlanner : List PDef := [
  pnum Pid.PLAN_PERIOD .arm 2 false false 500 2000 (.num 1000),
  pnum Pid.HORIZON_N .arm 1 false false 4 32 (.num 16),
  pnum Pid.KNOT_M .arm 2 false false 32 256 (.num 64),
  pnum Pid.ADMM_K .arm 1 false false 8 64 (.num 24),
  pnum Pid.ALPHA_N .arm 1 false false 0 12 (.num 8),
  pnum Pid.RHO .arm 4 true false 1 (maxS 32) .unset,
  pnum Pid.SIGMA .arm 4 true false 1 (maxS 32) .unset,
  pnum Pid.W_Q .arm 4 true false 0 (maxS 32) .unset 12,
  pnum Pid.W_V .arm 4 true false 0 (maxS 32) .unset 12,
  pnum Pid.W_A .arm 4 true false 1 (maxS 32) .unset 12,
  pnum Pid.W_N .arm 1 false false 1 64 (.num 8),
  pnum Pid.W_SL .arm 4 true false 0 (maxS 32) .unset,
  pnum Pid.W_SQ .arm 4 true false 1 (maxS 32) .unset,
  pnum Pid.PIVOT_EXP .arm 1 false false 16 30 (.num 24),
  pnum Pid.FALLBACK_DEPTH .arm 1 false false 1 32 (.num 8),
  pnum Pid.D_SEP .arm 2 false false 0 1000 (.num 50),
  pnum Pid.A_CART .arm 2 false false 1 500 (.num 50),
  pnum Pid.DIST_ACTIVE .arm 2 false false 0 5000 (.num 500),
  praw Pid.COUPLE_LIST .arm 2 false (.raw [0xFF, 0xFF]) 24,
  pnum Pid.I_J .arm 4 false false 0 (maxU 32) .unset 12,
  pnum Pid.G .arm 4 true false (minS 32) (maxS 32) .unset 12,
  pnum Pid.PHI .arm 8 true false (minS 64) (maxS 64) .unset 12,
  pnum Pid.TAU_MAX .arm 4 false false 1 (maxU 32) .unset 12,
  pnum Pid.WS_RADIUS .arm 2 false false 100 20000 .unset,
  pnum Pid.POS_TOL .arm 8 true false 0 (2 ^ 36) (.num (2 ^ 20)),
  pnum Pid.RES_TOL .arm 4 false false 0 100000 (.num 1000),
  praw Pid.QFMT .arm 11 true .derived]

/-- SSM parameters (08 Table 08-8). -/
def defsSsm : List PDef := [
  pnum Pid.V_HUMAN .one 2 false true 500 3000 (.num 1600),
  pnum Pid.AGE_LIMIT .one 2 false true 1000 20000 (.num 4000),
  pnum Pid.STOP_FACTOR .one 2 false true 282 1024 (.num 307),
  pnum Pid.SSM_EN .arm 1 false true 0 1 (.num 0),
  pnum Pid.PROT_STOP .arm 1 false true 1 2 (.num 1),
  pnum Pid.RESTART .arm 1 false true 0 1 (.num 1),
  pnum Pid.PEN_MARGIN .arm 2 false true 0 5000 (.num 500),
  pnum Pid.PEN_RATIO .arm 1 false true 1 255 (.num 64),
  pnum Pid.PEN_HOLD .arm 2 false true 0 10000 (.num 100),
  pnum Pid.RESUME_HOLD .arm 2 false true 0 10000 (.num 500),
  pnum Pid.Z_R .arm 2 false true 0 1000 .unset,
  pnum Pid.V_CAP_MAX .arm 2 false true 1 20000 .unset,
  pnum Pid.XCHK_TOL .arm 8 true true (2 ^ 10) (2 ^ 32) (.num (2 ^ 24)),
  pnum Pid.SSM_QOFF .arm 8 true true (minS 64) (maxS 64) (.num 0) 12,
  pnum Pid.DH_THETA .arm 4 false true 0 (maxU 32) (.num 0) 12,
  pnum Pid.DH_ALPHA .arm 4 false true 0 (maxU 32) (.num 0) 12,
  pnum Pid.DH_A .arm 4 true true (minS 32) (maxS 32) (.num 0) 12,
  pnum Pid.DH_D .arm 4 true true (minS 32) (maxS 32) (.num 0) 12,
  pnum Pid.JTYPE .arm 1 false true 0 1 (.num 0) 12,
  praw Pid.BASE .arm 24 true (.raw (List.replicate 24 0)),
  praw Pid.TOOL .arm 24 true (.raw (List.replicate 24 0)),
  pnum Pid.CARRIER .arm 1 false true 0 255 (.num 255),
  praw Pid.CAR_DIR .arm 12 true (.raw (List.replicate 12 0)),
  praw Pid.CAR_POINT .arm 12 true (.raw (List.replicate 12 0)),
  praw Pid.CAPSULE .arm 32 true (.raw (List.replicate 32 0)) 24,
  praw Pid.STOP_TABLE .arm 8 true .unset 8,
  pnum Pid.OBJ_QUOTA .sensor 1 false true 0 64 (.num 0),
  pnum Pid.C_INTR .sensor 2 false true 0 5000 .unset,
  pnum Pid.Z_D .sensor 2 false true 0 5000 .unset,
  praw Pid.FIELD .sensor 32 true .unset]

/-- SSV parameters (09 Table 09-5). -/
def defsSsv : List PDef := [
  pnum Pid.BK_SETTLE .one 1 false true 1 50 (.num 2),
  pnum Pid.BK_ENGAGE .one 2 false true 10 1000 (.num 60),
  pnum Pid.BK_RELEASE .one 2 false true 10 1000 (.num 80),
  pnum Pid.TORQUE_BUILD .one 1 false true 5 200 (.num 20),
  pnum Pid.BK_TEST_I .axis 2 false true 1 32767 .unset,
  pnum Pid.BK_TEST_T .one 2 false true 50 2000 (.num 200),
  pnum Pid.BK_SLIP .one 8 true true (2 ^ 10) (2 ^ 32) (.num (2 ^ 28)),
  pnum Pid.BK_INTERVAL .one 4 false true 600 86400 (.num 28800),
  pnum Pid.BK_GRACE .one 2 false true 0 7200 (.num 1800),
  pnum Pid.ENGAGE_TEST .one 1 false true 0 1 (.num 1),
  pnum Pid.BK_OUT .axis 1 false true 0 255 (.num 255),
  pnum Pid.STO_OUT .axis 1 false true 0 255 (.num 255),
  pnum Pid.SS_DECEL .axis 4 false true 1 (2 ^ 30) .unset,
  pnum Pid.MON_DELAY .one 2 false true 0 500 (.num 20),
  pnum Pid.SOS_TOL .one 8 true true (2 ^ 10) (2 ^ 32) (.num (2 ^ 28)),
  pnum Pid.TP_PERIOD .one 1 false true 2 100 (.num 10),
  pnum Pid.TP_WIDTH .one 2 false true 100 2000 (.num 400),
  pnum Pid.TP_DELAY .one 2 false true 10 500 (.num 100),
  pnum Pid.SI_FILTER .one 2 false true 200 50000 (.num 2000),
  pnum Pid.SI_DISC .one 2 false true 10 1000 (.num 100),
  pnum Pid.SI_FUNC .input 1 false true 0 4 (.num 4),
  pnum Pid.SI_MODE .input 1 false true 0 2 (.num 0),
  pnum Pid.SI_TP .input 1 false true 0 7 .derived,
  pnum Pid.SI_ARMS .input 1 false true 0 255 (.num 0),
  pnum Pid.ESTOP_CAT .one 1 false true 0 1 (.num 0),
  pnum Pid.GUARD_CAT .one 1 false true 1 2 (.num 1),
  pnum Pid.SI_SLS_RATIO .one 1 false true 1 255 (.num 64),
  pnum Pid.SERVICE_T .one 1 false true 1 24 (.num 8),
  pnum Pid.LOCK_N .one 1 false true 3 10 (.num 5),
  pnum Pid.LOCK_T .one 1 false true 1 60 (.num 10)]

/-- Drive-link port parameters (10 Table 10-11); a spare entry e takes INST 0 and SUB e (DEDUCED, 7). -/
def defsPort : List PDef := [
  pnum Pid.PORT_EN .port 1 false true 0 1 (.num 0),
  pnum Pid.POS_CODE .port 2 false true 0 65535 .unset,
  pnum Pid.SERIAL .port 8 false true 0 (maxU 64) (.num 0),
  pnum Pid.KIND0 .port 1 false true 0 4 (.num 0),
  pnum Pid.KIND1 .port 1 false true 0 4 (.num 0),
  pnum Pid.AXIS0 .port 1 false true 0 63 .unset,
  pnum Pid.AXIS1 .port 1 false true 0 63 .unset,
  pnum Pid.ABS0 .port 1 false true 0 1 (.num 0),
  pnum Pid.ABS1 .port 1 false true 0 1 (.num 0),
  pnum Pid.HOLD_N .port 1 false true 8 128 (.num 16),
  pnum Pid.SPARE_PORT .one 1 false true 0 255 (.num 255) 4,
  praw Pid.SPARE_LIST .one 7 true (.raw (List.replicate 7 0xFF)) 4,
  praw Pid.SPARE_SEL .one 3 true (.raw (List.replicate 3 0xFF)) 4]

/-- Cell-bus parameters (11 Table 11-12). -/
def defsCell : List PDef := [
  pnum Pid.CB_EN .one 1 false false 0 1 (.num 0),
  pnum Pid.NODE_ID .one 1 false false 0 31 .unset,
  pnum Pid.CH_EN_A .one 1 false false 0 1 (.num 1),
  pnum Pid.CH_EN_B .one 1 false false 0 1 (.num 1),
  pnum Pid.COLDSTART_EN .one 1 false false 0 1 (.num 0),
  pnum Pid.STARTUP_MODE .one 1 false false 0 15 (.num 0),
  pnum Pid.ACCEPT_W .one 2 false false 20 1000 (.num 100),
  pnum Pid.PROP_MAX .one 2 false false 0 500 (.num 200),
  pnum Pid.CORR_LIMIT .one 2 false false 5 1000 (.num 50),
  pnum Pid.SYNC_MIN .one 1 false false 1 15 (.num 2),
  pnum Pid.PASSIVE_MIN .one 1 false false 1 255 (.num 8),
  pnum Pid.CAL_N .one 2 false false 16 1024 (.num 256),
  pnum Pid.DELAY_INIT .one 2 false false 0 65535 (.num 0) 64,
  pnum Pid.BIND_AGE .one 1 false false 1 255 (.num 3),
  praw Pid.MODE .mode 4 false (.raw (leBytes 4 2)),
  praw Pid.SLOT .mode 512 false (.raw (List.replicate 512 0)) 8,
  pnum Pid.SAFE_ID .sensor 4 false true 0 (maxU 32) .unset,
  pnum Pid.CONN .sensor 2 false true 0 65535 .unset,
  pnum Pid.SAFE_SEED .sensor 4 false true 0 (maxU 32 - 1) .unset,
  pnum Pid.SENS_VALUE .sensor 2 false true 0 511 .unset,
  pnum Pid.SEQ_WIN .sensor 1 false false 1 64 (.num 8),
  pnum Pid.SAFE_TMAX .sensor 2 false false 100 4000 (.num 1000)]

/-- Time-base, pair and health parameters (02 Tables 02-7 to 02-13, 14 Table 14-8, 16 Table 16-12). -/
def defsUnit : List PDef := [
  pnum Pid.TB_PPSOUT_ALWAYS .one 1 false false 0 1 (.num 0),
  pnum Pid.TB_PPSIN_POL .one 1 false false 0 1 (.num 0),
  pnum Pid.TB_RELABEL_EN .one 1 false false 0 1 (.num 1),
  pnum Pid.TB_SRC .one 1 false false 0 4 (.num 0),
  pnum Pid.TB_SLEW_FAST .one 2 false false 1 1000 (.num 1000),
  pnum Pid.TB_SLEW_RUN .one 2 false false 1 2000 (.num 1000),
  pnum Pid.TB_HOLD_LIMIT .one 2 false false 1 65535 (.num 10),
  pnum Pid.TB_HOLD_DRIFT .one 2 false false 1 65535 (.num 200),
  pnum Pid.TB_PPSOUT_COMP .one 2 true false (-32768) 32767 (.num 0),
  pnum Pid.TB_PPSOUT_WIDTH .one 1 false false 1 250 (.num 50),
  pnum Pid.PAIR_EN .one 1 false true 0 1 (.num 0),
  pnum Pid.PAIR_WAIT .one 2 false false 50 5000 (.num 200),
  pnum Pid.HB_WIN .one 2 false false 200 2000 (.num 1000),
  pnum Pid.STALE_MAX .one 1 false false 2 16 (.num 2),
  pnum Pid.READY_MIN .one 4 false false 1600 160000 (.num 16000),
  pnum Pid.DET_DEBOUNCE .one 2 false false 10 1000 (.num 100),
  pnum Pid.CASTLE_INTERVAL .one 1 false false 1 168 (.num 168),
  pnum Pid.CASTLE_LEAD .one 1 false false 1 48 (.num 24),
  pnum Pid.CASTLE_AUTO .one 1 false false 0 1 (.num 1),
  pnum Pid.PAIR_T .one 1 false false 1 60 (.num 10),
  pnum Pid.M_LOW .one 1 false false 13 128 (.num 64),
  pnum Pid.M_HIGH .one 1 false false 26 192 (.num 102),
  pnum Pid.VDD_MAX .one 2 false false 800 920 (.num 920),
  pnum Pid.PMBUS_ADDR .one 1 false false 8 0x77 (.num 0x40),
  pnum Pid.GLINT_LIMIT .one 1 false false 1 15 (.num 3),
  pnum Pid.GLINT_WINDOW .one 2 false false 1 365 (.num 30),
  pnum Pid.SELFTEST_PERIOD .one 1 false false 1 168 (.num 24)]

/-- Every parameter, in ascending PID (13 Table 13-4). -/
def paramDefs : List PDef :=
  defsAxis ++ defsMotion ++ defsCurrent ++ defsLoop ++ defsPlanner ++ defsSsm ++ defsSsv ++ defsPort
    ++ defsCell ++ defsUnit

/-- The definition a PID names, if a block defines it. -/
def findDef (pid : Nat) : Option PDef := paramDefs.find? (fun d => d.pid == pid)

/-- The record of a set for one parameter instance, if it differs from the default. -/
def findRec (ps : ParamSet) (pid inst sub : Nat) : Option ParamRec :=
  ps.find? (fun r => r.pid == pid && r.inst == inst && r.sub == sub)

/-- Order of R272: ascending (PID, INST, SUB). -/
def recKey (r : ParamRec) : Nat := r.pid * 65536 + r.inst * 256 + r.sub

/-- Put a record into a set at its place, replacing the one it names. -/
def putRec (r : ParamRec) : ParamSet → ParamSet
  | [] => [r]
  | q :: qs =>
    if recKey r < recKey q then r :: q :: qs
    else if recKey r = recKey q then r :: qs
    else q :: putRec r qs

/-- The stored bytes of a number of `w` bytes. -/
def numBytes (w : Nat) (v : Int) : Bytes := leBytes w (ofSigned (8 * w) v)

/-- Read a stored number (13 R384). -/
def numOf (d : PDef) (b : Bytes) : Int :=
  if d.signed then toSigned (8 * d.width) (ofLe b) else (ofLe b : Nat)

/-- A stored value of a set, none when it holds no record or an empty one. -/
def stored (ps : ParamSet) (d : PDef) (inst sub : Nat) : Option Bytes :=
  match findRec ps d.pid inst sub with
  | some r => if r.val.isEmpty then none else some r.val
  | none => none

/-- A parameter that has its own number or a plain default. -/
def prmPlain (ps : ParamSet) (pid inst sub : Nat) : Option Int :=
  match findDef pid with
  | none => none
  | some d =>
    match stored ps d inst sub with
    | some b => some (numOf d b)
    | none => match d.dflt with
      | .num v => if findRec ps pid inst sub = none then some v else none
      | _ => none

/-- A numeric parameter of a set with its defaults, those that follow other parameters included
(03 Table 03-3, 05 Table 05-8, 09 Table 09-5). -/
def prm (ps : ParamSet) (pid inst sub : Nat) : Option Int :=
  match prmPlain ps pid inst sub with
  | some v => some v
  | none =>
    if pid = Pid.VMAX then prmPlain ps Pid.V_HARD inst 0
    else if pid = Pid.AMAX then prmPlain ps Pid.A_HARD inst 0
    else if pid = Pid.DMAX then prmPlain ps Pid.D_HARD inst 0
    else if pid = Pid.JMAX then prmPlain ps Pid.J_HARD inst 0
    else if pid = Pid.HOME_V then (prmPlain ps Pid.V_HARD inst 0).map (· / 16)
    else if pid = Pid.VEL_FS then (prmPlain ps Pid.V_HARD inst 0).map (fun v => cdiv (5 * v) 4)
    else if pid = Pid.SI_TP then some ((inst % 8 : Nat) : Int)
    else none

/-- A numeric parameter, 0 where it has no value. -/
def prmI (ps : ParamSet) (pid inst : Nat) (sub : Nat := 0) : Int := (prm ps pid inst sub).getD 0

/-- A numeric parameter as a natural number, 0 where it has no value. -/
def prmN (ps : ParamSet) (pid inst : Nat) (sub : Nat := 0) : Nat := (prmI ps pid inst sub).toNat

/-- Type of an axis. -/
def axType (ps : ParamSet) (n : Nat) : AxType :=
  match prmN ps Pid.TYPE n with
  | 0 => .servo | 1 => .stepper | 2 => .external | _ => .virtual

/-- Arm of an axis, none for an auxiliary axis. -/
def axArm (ps : ParamSet) (n : Nat) : Option Nat :=
  let a := prmN ps Pid.ARM n
  if a < 8 then some a else none

/-- Fault scope of an axis: its arm 0–7, or 8 + n for auxiliary axis n (01 R33). -/
def axScope (ps : ParamSet) (n : Nat) : Nat :=
  match axArm ps n with | some a => a | none => 8 + n

/-- Axes of a scope, by joint index. -/
def scopeAxes (ps : ParamSet) (sc : Nat) : List Nat :=
  if sc < 8 then
    let l := (List.range 64).filter (fun n => axArm ps n == some sc)
    (List.range 12).flatMap (fun j => l.filter (fun n => prmN ps Pid.JOINT n == j))
  else if sc < 72 && (axArm ps (sc - 8)).isNone then [sc - 8] else []

/-- Joints of an arm, in joint order. -/
def armAxes (ps : ParamSet) (k : Nat) : List Nat := scopeAxes ps k

/-! ### Class formats (07 R198) -/

/-- π to 50 decimals, for bounds whose logarithm is rounded up (07 Table 07-3). -/
def piRat : Rat := (314159265358979323846264338327950288419716939937510 : Rat) / (10 ^ 50 : Nat)

/-- Largest of a list of rationals, 0 of none. -/
def rmax (l : List Rat) : Rat := l.foldl max 0

/-- m of a class with bound B (07 R198). -/
def formatOf (b : Rat) : Nat := (1 + max 0 (clog2 (2 * b).num.toNat b.den)).toNat

/-- The class formats of an arm in the order of Table 07-3. Weights, ρ and σ are HESS words, valued in the stored HESS
format, or the smallest one where none is stored (07 R198; DEDUCED, notes/assumptions 45). -/
def classFormats (ps : ParamSet) (k : Nat) : List Nat :=
  let axes := armAxes ps k
  let n : Rat := (axes.length : Nat)
  let js := List.range axes.length
  let nn := prmN ps Pid.HORIZON_N k
  let dl : Rat := (prmN ps Pid.KNOT_M k : Rat) / 16000
  let ax (pid : Nat) : List Rat := axes.map fun a => (prmI ps pid a : Rat)
  let jt (pid : Nat) : List Rat := js.map fun j => (prmI ps pid k j : Rat)
  let bPos := rmax (ax Pid.VMAX) / 65536 * nn * dl
  let bVel := rmax (ax Pid.V_HARD) / 65536
  let bAcc := rmax (ax Pid.A_HARD ++ ax Pid.D_HARD) / 4096
  let bTrq := rmax (jt Pid.TAU_MAX) / 65536
  let ws : Rat := (prmN ps Pid.WS_RADIUS k : Rat) / 1000
  let bJac := 2 * piRat * ws
  let hm := match (findDef Pid.QFMT).bind (fun d => stored ps d k 0) with | some b => (lget b 6).toNat | none => 1
  let one : Rat := 1 / ((2 ^ (32 - hm) : Nat) : Rat)
  let sigma := one * prmI ps Pid.SIGMA k
  let rho := one * prmI ps Pid.RHO k
  let wMax := one * rmax (jt Pid.W_Q ++ jt Pid.W_V ++ jt Pid.W_A)
  let wMin := one * ((jt Pid.W_A).foldl min ((jt Pid.W_A).headD 0))
  let ij := rmax ((jt Pid.I_J).map fun i => (i / 65536) * (i / 65536))
  let h := wMax * prmN ps Pid.W_N k + sigma + rho * (1 + ij + 12 * bJac * bJac)
  let bRic := 3 * n * h * ((List.range (nn + 1)).map fun (t : Nat) => (1 : Rat) + (t : Rat) * t * dl * dl).foldl (· + ·) 0
  let bDiag := h + 2 * n * bRic * (dl ^ 2 + dl ^ 4 / 4)
  let bFact := max bDiag ((n + 4) * (h + 2 * n * bRic * (dl + dl * dl / 2) * (1 + dl))) / (sigma + wMin)
  let bDual := 6 * n * h * rmax [bPos, bVel, bAcc, bTrq, 2 * ws]
  [bPos, bVel, bAcc, bTrq, 2 * ws, bJac, h, bRic, bDiag, bFact, bDual].map formatOf

/-- The planner parameters without a default all have values, so that the formats can be computed (07 Table 07-8). -/
def plannerSet (ps : ParamSet) (k : Nat) : Bool :=
  let js := List.range (armAxes ps k).length
  !js.isEmpty && [Pid.RHO, Pid.SIGMA, Pid.W_SL, Pid.W_SQ, Pid.WS_RADIUS].all (fun p => (prm ps p k 0).isSome)
    && [Pid.W_Q, Pid.W_V, Pid.W_A, Pid.I_J, Pid.G, Pid.PHI, Pid.TAU_MAX].all (fun p => js.all fun j => (prm ps p k j).isSome)

/-- m of a solver class of an arm: POS 0, VEL 1, ACC 2, TRQ 3, DIST 4, JAC 5, HESS 6, RIC 7, DIAG 8, FACT 9, DUAL 10. -/
def classM (ps : ParamSet) (k c : Nat) : Nat :=
  match (findDef Pid.QFMT).bind (fun d => stored ps d k 0) with
  | some b => (lget b c).toNat
  | none => lget (classFormats ps k) c

/-! ### Values as bytes -/

/-- The bytes of a parameter with its default, none where it has no value. -/
def prmB (ps : ParamSet) (pid inst sub : Nat) : Option Bytes :=
  match findDef pid with
  | none => none
  | some d =>
    match stored ps d inst sub with
    | some b => some b
    | none => match d.dflt with
      | .raw b => if findRec ps pid inst sub = none then some b else none
      | .derived =>
        if pid = Pid.QFMT then
          if plannerSet ps inst && (findRec ps pid inst sub).isNone then some ((classFormats ps inst).map (BitVec.ofNat 8)) else none
        else (prm ps pid inst sub).map (numBytes d.width)
      | _ => (prm ps pid inst sub).map (numBytes d.width)

/-- The bytes of a composite parameter, zeros where it has no value. -/
def prmR (ps : ParamSet) (pid inst : Nat) (sub : Nat := 0) : Bytes := (prmB ps pid inst sub).getD []

/-- A gain (M, E) parameter (13 R384). -/
def prmG (ps : ParamSet) (pid inst : Nat) : Nat × Nat :=
  let b := prmR ps pid inst
  (uAt b 0 2, uAt b 2 1)

/-- An encoder is fitted. -/
def hasEnc (ps : ParamSet) (n : Nat) : Bool := prmN ps Pid.ENC_PERIODS n != 0

/-- The drive-link slot (port, slot) that serves an axis, if the set names one. -/
def axSlot (ps : ParamSet) (n : Nat) : Option (Nat × Nat) :=
  ((List.range 36).flatMap (fun p =>
    (if prmN ps Pid.PORT_EN p == 1 && prmN ps Pid.KIND0 p != 0 && prm ps Pid.AXIS0 p 0 == some (n : Int)
      then [(p, 0)] else [])
    ++ (if prmN ps Pid.PORT_EN p == 1 && prmN ps Pid.KIND1 p != 0 && prm ps Pid.AXIS1 p 0 == some (n : Int)
      then [(p, 1)] else []))).head?

/-- The set says the encoder of an axis is absolute (03 R96, 10 Table 10-11). -/
def encAbs (ps : ParamSet) (n : Nat) : Bool :=
  match axSlot ps n with
  | some (p, 0) => prmN ps Pid.ABS0 p == 1
  | some (p, _) => prmN ps Pid.ABS1 p == 1
  | none => false

/-- Axes served by a port, with their slot and kind. -/
def portAxes (ps : ParamSet) (p : Nat) : List (Nat × Nat × Nat) :=
  if prmN ps Pid.PORT_EN p != 1 then [] else
  (match prm ps Pid.AXIS0 p 0 with
    | some a => if prmN ps Pid.KIND0 p != 0 then [(0, prmN ps Pid.KIND0 p, a.toNat)] else []
    | none => [])
  ++ (match prm ps Pid.AXIS1 p 0 with
    | some a => if prmN ps Pid.KIND1 p != 0 then [(1, prmN ps Pid.KIND1 p, a.toNat)] else []
    | none => [])

end Sys2Proof.Machine
end

