-- ==== Sys2Proof/Machine/Operands.lean ====
section
/-!
DEFINITION. Operand forms: the status codes of 13 Table 13-18, cell-time stamps (02 R38), the window rule of
01 R24 and R25, and the fields of inbound drive-link frames (10 Tables 10-3 to 10-5, 10-8).
-/
namespace Sys2Proof.Machine

/-! Status codes (13 Table 13-18). -/
namespace Sts
def OK : Nat := 0x0000
def ACCEPTED : Nat := 0x0001
def BAD_LENGTH : Nat := 0x0101
def BAD_EXTENT : Nat := 0x0102
def BAD_CRC : Nat := 0x0103
def BAD_SESSION : Nat := 0x0104
def SEQ_ERROR : Nat := 0x0105
def SEQ_REUSED : Nat := 0x0106
def UNKNOWN_OPCODE : Nat := 0x0107
def BAD_PAYLOAD : Nat := 0x0108
def SESSION_BUSY : Nat := 0x0109
def SESSION_FORCED : Nat := 0x010A
def SESSION_CLOSED : Nat := 0x010B
def LEASE_EXPIRED : Nat := 0x010C
def TICKETS_FULL : Nat := 0x010D
def UNKNOWN_TICKET : Nat := 0x010E
def NOT_OWNER : Nat := 0x010F
def RESOURCE_BUSY : Nat := 0x0110
def NO_HANDOVER : Nat := 0x0111
def NO_CANCEL_POINT : Nat := 0x0112
def CANCELLED : Nat := 0x0113
def DEVICE_F3 : Nat := 0x0201
def NO_AUTHORITY : Nat := 0x0202
def OUT_OF_RANGE : Nat := 0x0203
def ABOVE_HARD_LIMIT : Nat := 0x0204
def BUSY_SHUTDOWN : Nat := 0x0205
def WRONG_MODE : Nat := 0x0206
def NOT_CONFIRMED : Nat := 0x0207
def TIME_IN_USE : Nat := 0x0208
def FAULT_PRESENT : Nat := 0x0209
def SET_BUSY : Nat := 0x0301
def SEG_ORDER : Nat := 0x0302
def SET_TOO_LARGE : Nat := 0x0303
def BASE_CHANGED : Nat := 0x0304
def TXN_OPEN : Nat := 0x0305
def NO_TXN : Nat := 0x0306
def CHECK_MISMATCH : Nat := 0x0307
def PASSCODE_BAD : Nat := 0x0308
def LOCKED_OUT : Nat := 0x0309
def ARM_ENABLED : Nat := 0x030A
def AXIS_ENABLED : Nat := 0x030B
def SAFETY_PARAM : Nat := 0x030C
def UNKNOWN_PID : Nat := 0x030D
def UNSTABLE_FILTER : Nat := 0x030E
def SOLVE_TOO_LONG : Nat := 0x030F
def STOP_TABLE_ORDER : Nat := 0x0310
def SI_TP_SAME : Nat := 0x0311
def SSM_NOT_ABSOLUTE : Nat := 0x0312
def BELOW_SAFE_DECEL : Nat := 0x0313
def FLASH_FAILED : Nat := 0x0314
def AXIS_MOVING : Nat := 0x0401
def AXIS_STOPPING : Nat := 0x0402
def TARGET_OUT_OF_RANGE : Nat := 0x0403
def AXIS_UNREFERENCED : Nat := 0x0404
def GEAR_LOOP : Nat := 0x0405
def HOME_NOT_FOUND : Nat := 0x0406
def HOME_NO_STOP : Nat := 0x0407
def NOT_AVAILABLE : Nat := 0x0408
def STAGE_NO_RESPONSE : Nat := 0x0409
def PLAN_LIMIT : Nat := 0x040A
def STEP_OVERSPEED : Nat := 0x040B
def GEAR_OVERSPEED : Nat := 0x040C
def SOFT_LIMIT_CROSSED : Nat := 0x040D
def LOST_STEP : Nat := 0x040E
def ENC_INVALID : Nat := 0x040F
def COIL_FAULT : Nat := 0x0410
def PHASE_SUM : Nat := 0x0411
def BUS_UNDERVOLT : Nat := 0x0412
def SAMPLE_LOST : Nat := 0x0413
def OVERCURRENT : Nat := 0x0414
def LOOP_NAN : Nat := 0x0415
def FOLLOWING_ERROR : Nat := 0x0416
def STAGE_REBOOT : Nat := 0x0417
def LINK_FAULT : Nat := 0x0418
def LOOP_OVERRUN : Nat := 0x0419
def BRAKES_ENGAGED : Nat := 0x0501
def CELLBUS_STALE : Nat := 0x0502
def FALLBACK_STOP : Nat := 0x0503
def SSM_UMBRA : Nat := 0x0701
def SSM_XCHK : Nat := 0x0702
def SSM_CODED : Nat := 0x0703
def SSM_DEADLINE : Nat := 0x0704
def STOP_TABLE_INVALID : Nat := 0x0705
def SSM_NOT_MONITORED : Nat := 0x0706
def SI_DEMAND : Nat := 0x0801
def BRAKE_SWITCH : Nat := 0x0802
def BRAKE_FAILED : Nat := 0x0803
def BRAKE_TEST_DUE : Nat := 0x0804
def BRAKE_TEST_OVERDUE : Nat := 0x0805
def STO_NO_CONFIRM : Nat := 0x0806
def STOP_NOT_PROGRESSING : Nat := 0x0807
def SOS_VIOLATED : Nat := 0x0808
def SLS_EXCEEDED : Nat := 0x0809
def ESTOP : Nat := 0x080A
def SI_FAULT : Nat := 0x080B
def DISCREPANCY : Nat := 0x080C
def NO_ENABLE_INPUT : Nat := 0x080D
def SERVICE_EXPIRED : Nat := 0x080E
def SAFETY_WATCHDOG : Nat := 0x080F
def SET_ALTERED : Nat := 0x0810
def MC_MISSING_ECHO : Nat := 0x0901
def MC_REFUSED : Nat := 0x0902
def MC_DEFERRED_LOST : Nat := 0x0903
def CB_NOT_CONFIGURED : Nat := 0x0904
def AUTHORITY_LOST : Nat := 0x0A01
def NO_SHADOW : Nat := 0x0A02
def SHADOW_NOT_READY : Nat := 0x0A03
def PAIR_MISMATCH : Nat := 0x0A04
def NO_VALID_RECORD : Nat := 0x0B01
def TRACE_OVERFLOW : Nat := 0x0B02
def INJ_INTERRUPTED : Nat := 0x0B03
def WRONG_LIFECYCLE : Nat := 0x0C01
def SELFTEST_FAILED : Nat := 0x0C02
def TEMPO_WARNING : Nat := 0x0C03
def POOL_LOW : Nat := 0x0C04
def POOL_EXHAUSTED : Nat := 0x0C05
end Sts


/-- Outcome k of 07 Table 07-4 as a status (13 R393). -/
def outcomeStatus (k : Nat) : Nat := if k = 0 then Sts.OK else 0x0600 + k

/-! ### Stamps and windows -/

/-- One nanosecond in 1/64 ns. -/
def ns : Time := 64
/-- One microsecond in 1/64 ns. -/
def us : Time := 64000
/-- One millisecond in 1/64 ns. -/
def ms : Time := 64000000
/-- One second in 1/64 ns. -/
def sec : Time := 64000000000
/-- The current period, 15.625 µs (00 Table 00-1). -/
def tCur : Time := 1000000
/-- The control cycle, 62.5 µs. -/
def tCtl : Time := 4000000
/-- The separation cycle, 250 µs. -/
def tSep : Time := 16000000
/-- Feedback cut-off offset, 4.000 µs (01 Table 01-2). -/
def tCut : Time := 256000
/-- Outbound launch offset, 10.000 µs. -/
def tLaunch : Time := 640000
/-- LATCH offset, 15.625 µs. -/
def tLatch : Time := 1000000
/-- SSM publication offset, 125 µs. -/
def tPub : Time := 8000000

/-- TB_STAMP as 16 bytes (02 Table 02-1); the two low fraction bits are 0 (R37). -/
def Stamp.bytes (s : Stamp) : Bytes :=
  leBytes 16 ((s.at_ % 64) * 4 + (s.at_ / 64 % 2 ^ 64) * 2 ^ 8 + bit s.holdover * 2 ^ 112
    + bit s.coarse * 2 ^ 113 + bit s.boundary * 2 ^ 114 + (s.src % 256) * 2 ^ 120)

/-- Uncertainty of a stamp: 1/64 ns, or 1 ns for a COARSE stamp (01 R24, 02 R41). -/
def stampUnit (coarse : Bool) : Time := if coarse then ns else 1

/-- A stamp of the 1 ns counter (02 R41). -/
def coarse (t : Time) : Time := t / ns * ns

/-- A stamp lies at or after a window close, under R24 and Table 01-3: stamp plus one unit reaches it. -/
def atOrAfter (t : Time) (u : Time) (close : Time) : Bool := decide (t + u ≥ close)

/-- BOUNDARY at a window edge: stamp minus and plus one unit fall on different sides (01 R24). -/
def boundaryAt (t : Time) (u : Time) (edge : Time) : Bool := decide (t < edge + u) && decide (t + u ≥ edge)

/-- A stamp belongs to the window [a, b): R24 at both edges (01 R25). -/
def inWindow (t : Time) (u : Time) (a b : Time) : Bool := atOrAfter t u a && !atOrAfter t u b

/-- Index of the contiguous window of length `p` that a stamp is assigned to (01 R24). -/
def windowOf (p : Time) (t : Time) (u : Time) : Nat := (t + u) / p

/-- Control-cycle start at which a staged command takes effect (01 R20 under R24): the start after the control
cycle whose window the COARSE stamp is assigned to. -/
def effectStart (stamp : Time) : Time := (windowOf tCtl stamp ns + 1) * tCtl

/-- Next multiple of `p` that lies after `t`. -/
def nextAfter (p t : Time) : Time := (t / p + 1) * p

/-- Least multiple of `p` at or after `t`. -/
def nextAt (p t : Time) : Time := (t + p - 1) / p * p

/-! ### Inbound drive-link frames -/

/-- Header length of an inbound frame (10 R294). -/
def inHdrLen : Nat := 32

/-- Slot payload size by KIND (10 R295). -/
def slotSize : Nat → Nat
  | 1 => 144 | 2 => 216 | 3 => 20 | 4 => 20 | _ => 0

/-- TYPE of an inbound frame. -/
def inType (b : Bytes) : Nat := uAt b 0 1
/-- Flag bits [15:8] of an inbound header: THIS_B, AUTH_B, AUTH_NONE, STALE_EPOCH, CONTEND, HOLDING, HOLD_EXPIRED. -/
def inFlag (b : Bytes) (i : Nat) : Bool := (uAt b 1 1).testBit i
def inThisB (b : Bytes) : Bool := inFlag b 0
def inAuthB (b : Bytes) : Bool := inFlag b 1
def inAuthNone (b : Bytes) : Bool := inFlag b 2
def inStale (b : Bytes) : Bool := inFlag b 3
def inContend (b : Bytes) : Bool := inFlag b 4
def inHolding (b : Bytes) : Bool := inFlag b 5
def inHoldExp (b : Bytes) : Bool := inFlag b 6
def inSeq (b : Bytes) : Nat := uAt b 2 2
def inEpochAck (b : Bytes) : Nat := uAt b 4 4
def inTurn (b : Bytes) : Nat := uAt b 8 2
def inVdc (b : Bytes) : Nat := uAt b 10 2
def inTemp (b : Bytes) : Int := sAt b 12 1
def inFlt (b : Bytes) : Nat := uAt b 13 1
def inBoot (b : Bytes) : Nat := uAt b 14 1
def inCtlTag (b : Bytes) : Nat := uAt b 15 1
def inCtlRsp (b : Bytes) : Nat := uAt b 16 4
/-- SLOT0_STAT or SLOT1_STAT (10 Table 10-4). -/
def inSlotStat (b : Bytes) (slot : Nat) : Nat := uAt b (20 + 4 * slot) 4

/-- Axis-slot data of one CYCLE frame (10 R295, R296). -/
structure SlotIn where
  kind : Nat := 0
  stat : Nat := 0
  streams : List (List Int) := []
  centre : List Int := []
  s : Int := nan16
  c : Int := nan16
  qcnt : Int := 0
  idxS : Int := nan16
  idxC : Int := nan16
  idxQ : Int := 0
  ext : Int := 0
  vdc : Nat := 0
  deriving DecidableEq, Repr, Inhabited

def SlotIn.stoAct (x : SlotIn) : Bool := x.stat.testBit 0
def SlotIn.extSat (x : SlotIn) : Bool := x.stat.testBit 1
def SlotIn.idx (x : SlotIn) : Bool := x.stat.testBit 2
def SlotIn.absOk (x : SlotIn) : Bool := x.stat.testBit 3
def SlotIn.trip (x : SlotIn) : Bool := x.stat.testBit 4
def SlotIn.ns (x : SlotIn) : Nat := x.stat / 256 % 256

/-- `n` signed 16-bit words from offset `o`. -/
def words16 (b : Bytes) (o : Nat) : Nat → List Int
  | 0 => []
  | n + 1 => sAt b o 2 :: words16 b (o + 2) n

/-- The encoder block at an offset put into a slot record (10 Table 10-5). -/
def SlotIn.withEnc (x : SlotIn) (b : Bytes) (o : Nat) : SlotIn :=
  { x with s := sAt b o 2, c := sAt b (o + 2) 2, qcnt := sAt b (o + 4) 4, idxS := sAt b (o + 8) 2,
           idxC := sAt b (o + 10) 2, idxQ := sAt b (o + 12) 4 }

/-- Read one slot of a CYCLE frame at payload offset `o` (10 R295). -/
def readSlot (b : Bytes) (o kind slot : Nat) : SlotIn :=
  let x : SlotIn := { kind := kind, stat := inSlotStat b slot, vdc := inVdc b }
  match kind with
  | 1 => { x with streams := [words16 b o 32, words16 b (o + 64) 32] }.withEnc b (o + 128)
  | 2 => { x with streams := [words16 b o 32, words16 b (o + 64) 32, words16 b (o + 128) 32],
                  centre := words16 b (o + 192) 3 }.withEnc b (o + 200)
  | 3 | 4 => { x with ext := sAt b (o + 16) 2 }.withEnc b o
  | _ => x

/-- Length the header and kinds of a CYCLE frame imply: header, payload, CRC (10 R284, R295). -/
def cycleLen (k0 k1 : Nat) : Nat := inHdrLen + slotSize k0 + slotSize k1 + 4

/-- DISCOVERY body fields (10 Table 10-8). -/
def discI_FS (body : Bytes) (slot : Nat) : Nat := uAt body (12 + 2 * slot) 2
def discBits (body : Bytes) : Nat := uAt body 16 1
def discAbs (body : Bytes) (slot : Nat) : Bool := (discBits body).testBit slot
def discKind (body : Bytes) (slot : Nat) : Nat :=
  if slot = 0 then discBits body / 4 % 8 else discBits body / 32 % 8
def discProto (body : Bytes) : Nat := uAt body 17 1
def discPos (body : Bytes) : Nat := uAt body 18 2
def discSerial (body : Bytes) : Nat := uAt body 24 8

/-- Samples of a stream in window index q with their offset in 1/4 ns (10 R286, 04 R101). -/
def sampleTimes (q n : Nat) : List Int :=
  (List.range n).map (fun i => (((500 - 125 * q) % 500 * 4 + 2000 * i : Nat) : Int))

/-- Number of samples in window index q (10 Table 10-4). -/
def sampleCount (q : Nat) : Nat := if q = 0 then 32 else 31

end Sys2Proof.Machine
end

