-- ==== Sys2Proof/Machine/Profile.lean ====
section
/-!
DEFINITION. Point-to-point profiles (chapter 03, R69 to R81): limits in per-cycle units, the seven-phase
jerk-limited plan formed in rational arithmetic, its integer jerks and trim, and the integer generator that
runs it. Durations that are irrational are resolved to 2^-96 and a duration within 2^-48 of a whole count is
that count (DEDUCED, notes/assumptions/12). Phases 1 to 3 end with zero acceleration (condition (a) of R74).
-/
namespace Sys2Proof.Machine

/-- Exact limits in units of 2^-64 rev per cycle, cycle² and cycle³ (03 R69 before rounding). -/
structure RLim where
  v : Rat
  a : Rat
  d : Rat
  j : Rat
  deriving DecidableEq, Repr, Inhabited

/-- Velocity in 2^-64 rev per cycle from 2^-16 rev/s. -/
def vUnit (u : Nat) : Rat := ((u * 2 ^ 48 : Nat) : Rat) / 16000

/-- Acceleration in 2^-64 rev per cycle² from 2^-12 rev/s². -/
def aUnit (u : Nat) : Rat := ((u * 2 ^ 52 : Nat) : Rat) / 256000000

/-- Jerk in 2^-64 rev per cycle³ from 2^-8 rev/s³. -/
def jUnit (u : Nat) : Rat := ((u * 2 ^ 56 : Nat) : Rat) / 4096000000000

/-- The exact limits of command-unit limits. -/
def rlim (l : Limits) : RLim := { v := vUnit l.v, a := aUnit l.a, d := aUnit l.d, j := jUnit l.j }

/-- Velocity limit as the lane holds it: nearest integer, halves away from zero (03 R69). -/
def vLane (u : Nat) : Int := roundHA (u * 2 ^ 48 : Nat) 16000

/-- Acceleration limit as the lane holds it (03 R69). -/
def aLane (u : Nat) : Int := roundHA (u * 2 ^ 52 : Nat) 256000000

/-- Jerk limit as the lane holds it (03 R69). -/
def jLane (u : Nat) : Int := roundHA (u * 2 ^ 56 : Nat) 4096000000000

/-- Absolute value of a rational. -/
def rabs (x : Rat) : Rat := if x < 0 then -x else x

/-- Rational square root, floor at 2^-96. -/
def rsqrt (x : Rat) : Rat :=
  if x ≤ 0 then 0 else ((isqrt (x * (2 ^ 192 : Nat)).floor.toNat : Nat) : Rat) / (2 ^ 96 : Nat)

/-- Kinematic state: acceleration, velocity, position. -/
structure Kin where
  a : Rat
  v : Rat
  p : Rat
  deriving DecidableEq, Repr, Inhabited

/-- Constant jerk `j` for a time `t`. -/
def Kin.run (s : Kin) (j t : Rat) : Kin :=
  { a := s.a + j * t
    v := s.v + s.a * t + j * t * t / 2
    p := s.p + s.v * t + s.a * t * t / 2 + j * t * t * t / 6 }

/-- The three phases (jerk, duration) that bring (a0, v0) to (0, v1): time-optimal under the jerk limit and
`acc` when speed rises, `dec` when it falls, for motion in the positive direction. -/
def vChange (a0 v0 v1 acc dec j : Rat) : List (Rat × Rat) :=
  let vs := v0 + a0 * rabs a0 / (2 * j)
  if v1 = vs then
    if a0 = 0 then [(0, 0), (0, 0), (0, 0)]
    else if a0 > 0 then [(-j, a0 / j), (0, 0), (0, 0)] else [(j, -a0 / j), (0, 0), (0, 0)]
  else
    let s : Rat := if v1 > vs then 1 else -1
    let lim := if v1 > vs then acc else dec
    let b := s * a0
    let dv := s * (v1 - v0)
    let ap2 := j * dv + b * b / 2
    if ap2 ≤ lim * lim then
      let ap := rsqrt ap2
      [(s * j, if ap > b then (ap - b) / j else 0), (0, 0), (-(s * j), ap / j)]
    else
      let up := lim ≥ b
      let dv1 := if up then (lim * lim - b * b) / (2 * j) else (b * b - lim * lim) / (2 * j)
      let t2 := (dv - dv1 - lim * lim / (2 * j)) / lim
      [(if up then s * j else -(s * j), rabs (lim - b) / j), (0, if t2 > 0 then t2 else 0), (-(s * j), lim / j)]

/-- Run a list of phases. -/
def runPhases (s : Kin) (ph : List (Rat × Rat)) : Kin := ph.foldl (fun s x => s.run x.1 x.2) s

/-- Distance covered by going from (a0, v0) to rest through a cruise velocity vp with no cruise. -/
def distVia (a0 v0 vp : Rat) (l : RLim) : Rat :=
  (runPhases (runPhases ⟨a0, v0, 0⟩ (vChange a0 v0 vp l.a l.d l.j)) (vChange 0 vp 0 l.a l.d l.j)).p

/-- Distance covered by stopping directly. -/
def distStop (a0 v0 : Rat) (l : RLim) : Rat :=
  (runPhases ⟨a0, v0, 0⟩ (vChange a0 v0 0 l.a l.d l.j)).p

/-- Bisection: the greatest grid value (in 2^-64) below `hi` at which `f` does not exceed `x`; f rises. -/
def bisectUp (f : Rat → Rat) (x : Rat) : Nat → Nat → Nat → Nat
  | 0, lo, _ => lo
  | k + 1, lo, hi =>
    if hi ≤ lo + 1 then lo
    else
      let m := (lo + hi) / 2
      if f ((m : Rat) / (2 ^ 64 : Nat)) ≤ x then bisectUp f x k m hi else bisectUp f x k lo m

/-- Bisection: the least grid value above `lo` at which `f` does not exceed `x`; f falls. -/
def bisectDown (f : Rat → Rat) (x : Rat) : Nat → Nat → Nat → Nat
  | 0, _, hi => hi
  | k + 1, lo, hi =>
    if hi ≤ lo + 1 then hi
    else
      let m := (lo + hi) / 2
      if f ((m : Rat) / (2 ^ 64 : Nat)) ≤ x then bisectDown f x k lo m else bisectDown f x k m hi

/-- Phases 5 to 7 that come to rest `x` ahead under the least peak deceleration, `l.d` at most (03 R78); none where `l.d` does
not stop there. -/
def restPhases (a0 v0 x : Rat) (l : RLim) : Option (List (Rat × Rat)) :=
  if distStop a0 v0 l > x then none
  else if distStop a0 v0 l = x then some (vChange a0 v0 0 l.a l.d l.j)
  else
    let hi := (l.d * (2 ^ 64 : Nat)).ceil.toNat
    let d : Rat := (bisectDown (fun d => distStop a0 v0 { l with d := d }) x 200 0 hi : Nat) / (2 ^ 64 : Nat)
    some (vChange a0 v0 0 l.a d l.j)

/-- Number of control cycles of an exact or resolved duration (03 R74 step 2). -/
def cyclesOf (t : Rat) : Nat :=
  let n := (t + 1 / 2).floor
  if rabs (t - n) * (2 ^ 48 : Nat) ≤ 1 then n.toNat else t.ceil.toNat

/-! ### Step 3: jerks for whole cycle counts -/

/-- A quantity that is affine in the unknown jerks: constant first. -/
abbrev Aff := List Rat

/-- Sum of affine quantities. -/
def Aff.add : Aff → Aff → Aff
  | [], y => y
  | x, [] => x
  | a :: x, b :: y => (a + b) :: Aff.add x y

/-- Multiple of an affine quantity. -/
def Aff.scale (c : Rat) (x : Aff) : Aff := x.map (c * ·)

/-- One phase of N cycles with an affine jerk. -/
def affRun (n : Nat) (j : Aff) (s : Aff × Aff × Aff) : Aff × Aff × Aff :=
  let t : Rat := (n : Rat)
  let (a, v, p) := s
  (Aff.add a (Aff.scale t j),
   Aff.add v (Aff.add (Aff.scale t a) (Aff.scale (t * t / 2) j)),
   Aff.add p (Aff.add (Aff.scale t v) (Aff.add (Aff.scale (t * t / 2) a) (Aff.scale (t * t * t / 6) j))))

/-- Gaussian elimination on rows [c1, …, cm, rhs]. -/
def gauss : Nat → List (List Rat) → Option (List Rat)
  | 0, _ => some []
  | m + 1, rows =>
    match rows.find? (fun r => r.headD 0 != 0) with
    | none => none
    | some piv =>
      let p := piv.headD 0
      let rest := (rows.erase piv).map (fun r =>
        (Aff.add r (Aff.scale (-(r.headD 0) / p) piv)).drop 1)
      match gauss m rest with
      | none => none
      | some xs =>
        let tail := piv.drop 1
        let rhs := tail.getLastD 0
        let s := (tail.dropLast.zip xs).foldl (fun acc x => acc + x.1 * x.2) 0
        some ((rhs - s) / p :: xs)

/-- Present jerk phases among 1, 3, 5, 7. -/
def jerkPhases (n : List Nat) : List Nat := [0, 2, 4, 6].filter (fun i => lget n i != 0)

/-- Affine state after each phase. -/
def affPath (n : List Nat) (s : Kin) : List (Aff × Aff × Aff) :=
  let js := jerkPhases n
  let unit (i : Nat) : Aff := 0 :: js.map (fun k => if k = i then 1 else 0)
  ((List.range 7).foldl (fun (acc : List (Aff × Aff × Aff) × (Aff × Aff × Aff)) i =>
      let j := if i % 2 = 0 && lget n i != 0 then unit i else [0]
      let s' := affRun (lget n i) j acc.2
      (acc.1 ++ [s'], s')) ([], ([s.a], [s.v], [s.p]))).1

/-- A condition "quantity = value" as a row of the linear system with m unknowns. -/
def affRow (m : Nat) (q : Aff) (v : Rat) : List Rat :=
  ((List.range m).map (fun i => q.getD (i + 1) 0)) ++ [v - q.headD 0]

/-- The jerks of the present phases, as many conditions as jerks, in the order (a) to (d) of R74. -/
def solveJerks (n : List Nat) (s : Kin) (vEnd : Rat) (target : Option Rat) : Option (List Rat) :=
  let js := jerkPhases n
  let m := js.length
  let path := affPath n s
  let (a3, _, _) := path.getD 2 ([], [], [])
  let (a7, v7, p7) := path.getD 6 ([], [], [])
  let rows :=
    (if lget n 0 != 0 || lget n 2 != 0 then [affRow m a3 0] else [])
    ++ (if lget n 4 != 0 || lget n 6 != 0 then [affRow m a7 0] else [])
    ++ [affRow m v7 vEnd]
    ++ (match target with | some p => [affRow m p7 p] | none => [])
  gauss m (rows.take m)

/-- Solve, lengthening any phase whose jerk exceeds the limit (03 R74 step 3). -/
def fitJerks (s : Kin) (vEnd : Rat) (target : Option Rat) (jmax : Rat) : Nat → List Nat → List Nat × List Rat
  | 0, n => (n, [])
  | k + 1, n =>
    let js := jerkPhases n
    match solveJerks n s vEnd target with
    | none => fitJerks s vEnd target jmax k (n.mapIdx (fun i c => if js.contains i then c + 1 else c))
    | some xs =>
      let ovr := (js.zip xs).filter (fun x => rabs x.2 > jmax)
      if ovr.isEmpty then (n, (List.range 7).map (fun i =>
          match (js.zip xs).find? (fun x => x.1 == i) with | some x => x.2 | none => 0))
      else fitJerks s vEnd target jmax k
        (n.mapIdx (fun i c => if ovr.any (fun x => x.1 == i) then c + 1 else c))

/-! ### The integer generator (03 R70) -/

/-- Rational rounded toward zero. -/
def rtrunc (x : Rat) : Int := if x ≥ 0 then x.floor else x.ceil

/-- `n` cycles of constant jerk `j` in closed form. -/
def GenSt.runN (g : GenSt) (j : Int) (n : Nat) : GenSt :=
  let t : Int := n
  { g with
    j := j
    a := g.a + j * t
    v2 := g.v2 + 2 * g.a * t + j * t * t
    p6 := g.p6 + 3 * g.v2 * t + 3 * g.a * t * t + j * t * t * t }

/-- One control cycle of R70 without the trim. -/
def GenSt.cycle (g : GenSt) (j : Int) : GenSt :=
  { g with
    j := j
    a := g.a + j
    v2 := g.v2 + 2 * g.a + j
    p6 := g.p6 + 3 * g.v2 + 3 * g.a + j }

/-- Total cycles of a plan. -/
def PlanRec.total (p : PlanRec) : Nat := p.n.foldl (· + ·) 0

/-- Cycles of phases 1 to i. -/
def PlanRec.upTo (p : PlanRec) (i : Nat) : Nat := (p.n.take i).foldl (· + ·) 0

/-- The jerk of cycle k of a plan. -/
def PlanRec.jerkAt (p : PlanRec) (k : Nat) : Int :=
  match (List.range 7).find? (fun i => k < p.upTo (i + 1)) with
  | some i => lget p.js i
  | none => 0

/-- trim_total(n) = ⌊n × W / N⌋ (03 R74 step 4). -/
def PlanRec.trim (p : PlanRec) (n : Nat) : Int :=
  if p.total = 0 then 0 else (n : Int) * p.w / (p.total : Int)

/-- Joint position word of a generator state (03 R70). -/
def GenSt.ref (g : GenSt) : Int := (g.p6 + 6 * g.t) / (6 * 2 ^ 24)

/-- Position word to P6. -/
def p6Of (p : Int) : Int := 6 * 2 ^ 24 * p

/-- One control cycle of a plan on a generator: the state after it and the plan with its count (03 R70). -/
def planCycle (p : PlanRec) (g : GenSt) : PlanRec × GenSt :=
  let k := p.k
  if k ≥ p.total then ({ p with k := k + 1 }, (g.cycle 0)) else
  let g1 := g.cycle (p.jerkAt k)
  let a0 := (k + 1 = p.upTo 3 && (lget p.n 0 + lget p.n 2 != 0))
    || (k + 1 = p.total && (lget p.n 4 + lget p.n 6 != 0))
  let g2 := { g1 with a := if a0 then 0 else g1.a, t := p.trim (k + 1) }
  let g3 : GenSt :=
    if k + 1 = p.total && p.jogDir = 0 then
      match p.target with
      | some q => { j := 0, a := 0, v2 := 0, p6 := p6Of q, t := 0 }
      | none => { g2 with j := 0, a := 0, v2 := 0, t := 0 }
    else g2
  ({ p with k := k + 1 }, g3)

/-- The untrimmed end of a plan, settings A := 0 included (03 R74 step 4). -/
def planEnd (p : PlanRec) (g : GenSt) : GenSt :=
  (List.range 7).foldl (fun g i =>
    let g' := g.runN (lget p.js i) (lget p.n i)
    if i = 2 && (lget p.n 0 + lget p.n 2 != 0) then { g' with a := 0 } else g') g

/-- Build the plan record from resolved durations, in the mirrored frame of direction `dir`. -/
def buildPlan (start : Time) (g : GenSt) (dir : Int) (ph : List (Rat × Rat)) (cruise : Rat) (vEnd : Rat)
    (target : Option Int) (jmax : Rat) (jog : Bool) : PlanRec :=
  let s : Kin := { a := (dir * g.a : Int), v := (dir * g.v2 : Int) / 2, p := (dir * g.p6 : Int) / 6 }
  let d (i : Nat) : Rat := (ph.getD i (0, 0)).2
  let n0 := [cyclesOf (d 0), cyclesOf (d 1), cyclesOf (d 2), cyclesOf cruise, cyclesOf (d 3), cyclesOf (d 4),
    cyclesOf (d 5)]
  let tg := target.map (fun q => ((dir * (p6Of q) : Int) : Rat) / 6)
  let (n, js) := fitJerks s vEnd tg jmax 4096 n0
  let p : PlanRec := { start := start, n := n, js := (List.range 7).map (fun i => dir * rtrunc (js.getD i 0)),
                       target := target, jogDir := if jog then dir else 0 }
  match target with
  | none => p
  | some q => { p with w := tdiv (p6Of q - (planEnd p g).p6) 6 }

/-- Direction of motion of a generator state: sign of velocity, or of acceleration at zero velocity. -/
def motionDir (g : GenSt) : Int := if g.v2 > 0 then 1 else if g.v2 < 0 then -1 else if g.a > 0 then 1 else if g.a < 0 then -1 else 0

/-- Flags a plan sets (03 Table 03-5). -/
structure PlanFlags where
  raised : Bool := false
  reversal : Bool := false
  overshoot : Bool := false
  clipped : Bool := false
  deriving DecidableEq, Repr, Inhabited

/-- Fold the trim into the position (03 R77). -/
def GenSt.fold (g : GenSt) : GenSt := { g with p6 := g.p6 + 6 * g.t, t := 0 }

/-- Plan of a stop under deceleration `l.d`, phases 5 to 7 (03 R76). -/
def planStop (start : Time) (g : GenSt) (l : RLim) : PlanRec :=
  let dir := if motionDir g = 0 then 1 else motionDir g
  let ph := vChange ((dir * g.a : Int)) ((dir * g.v2 : Int) / 2) 0 l.a l.d l.j
  buildPlan start g dir ([(0, 0), (0, 0), (0, 0)] ++ ph) 0 0 none l.j false

/-- Plan of a jog in direction `dir`, phases 1 to 4 (03 R76); a jog against the motion first stops. -/
def planJog (start : Time) (g : GenSt) (dir : Int) (l : RLim) : PlanRec :=
  let ph := vChange ((dir * g.a : Int)) ((dir * g.v2 : Int) / 2) l.v l.a l.d l.j
  buildPlan start g dir ph 0 l.v none l.j true

/-- Rest point of a stop. -/
def restPoint (p : PlanRec) (g : GenSt) : Int := ({ planEnd p g with t := 0 }).ref

/-- Plan of a move to a target ahead that stops under `l.d` or, needing more, under D_need ≤ `dHard`; none when
even D_HARD overshoots (03 R74, R78). The flag tells whether D_used exceeds DMAX. The peak velocity is sought from the one that
the present acceleration leads to; where the axis already brakes too hard for that, the least deceleration that stops at the
target takes its place (DEDUCED, notes/assumptions 12). -/
def planAhead (start : Time) (g : GenSt) (dir : Int) (target : Int) (l : RLim) (dHard : Rat) :
    Option (PlanRec × Bool) :=
  let a0 : Rat := ((dir * g.a : Int))
  let v0 : Rat := ((dir * g.v2 : Int)) / 2
  let x : Rat := ((dir * (p6Of target - g.p6) : Int) : Rat) / 6
  let vs := v0 + a0 * rabs a0 / (2 * l.j)
  let none3 : List (Rat × Rat) := [(0, 0), (0, 0), (0, 0)]
  let plan (ph : List (Rat × Rat)) (cruise : Rat) : PlanRec := buildPlan start g dir ph cruise 0 (some target) l.j false
  let via (v : Rat) : List (Rat × Rat) := vChange a0 v0 v l.a l.d l.j ++ vChange 0 v 0 l.a l.d l.j
  if distStop a0 v0 l ≤ x then
    let hi := (l.v * (2 ^ 64 : Nat)).ceil.toNat
    if distVia a0 v0 l.v l ≤ x then some (plan (via l.v) ((x - distVia a0 v0 l.v l) / l.v), false)
    else if 0 < vs ∧ vs ≤ l.v then
      if distVia a0 v0 vs l ≤ x then
        let lo := (vs * (2 ^ 64 : Nat)).floor.toNat
        let m := bisectUp (fun v => distVia a0 v0 v l) x 200 lo hi
        some (plan (via (if m = lo then vs else (m : Rat) / (2 ^ 64 : Nat))) 0, false)
      else some (plan (none3 ++ (restPhases a0 v0 x l).getD none3) 0, false)
    else
      let vp : Rat := (bisectUp (fun v => distVia a0 v0 v l) x 200 0 hi : Nat) / (2 ^ 64 : Nat)
      some (plan (if vp = 0 then none3 ++ vChange a0 v0 0 l.a l.d l.j else via vp) 0, false)
  else if dHard ≤ l.d then none
  else (restPhases a0 v0 x { l with d := dHard }).map fun ph => (plan (none3 ++ ph) 0, true)

/-- Plan of phases 5 to 7 that comes to rest exactly at a limit ahead under `l`: in whole cycles it ends at or before the limit, so
that the trim runs with the motion and the reference never passes it; none where `l` does not stop there (DEDUCED,
notes/assumptions 13). `aim` is the distance the phases are formed for. -/
def planRestAt (start : Time) (g : GenSt) (dir limit : Int) (l : RLim) : Nat → Rat → Option PlanRec
  | 0, _ => none
  | k + 1, aim =>
    match restPhases ((dir * g.a : Int)) (((dir * g.v2 : Int)) / 2) aim l with
    | none => none
    | some ph =>
      let p := buildPlan start g dir ([(0, 0), (0, 0), (0, 0)] ++ ph) 0 0 (some limit) l.j false
      if dir * p.w ≥ 0 then some p
      else some ((planRestAt start g dir limit l k (aim - (p.w.natAbs : Int))).getD p)

/-- Distance to a position in the direction of motion, 2^-64 rev. -/
def roomTo (g : GenSt) (dir limit : Int) : Rat := ((dir * (p6Of limit - g.p6) : Int) : Rat) / 6

/-- What a planner needs of an axis: active and hard limits, and the soft limits where they are active. -/
structure PlanEnv where
  lim : RLim
  aHard : Rat
  dHard : Rat
  jHard : Rat
  soft : Option (Int × Int)
  deriving DecidableEq, Repr, Inhabited

/-- Stop under D_HARD and J_HARD exactly at a soft limit, or as soon as possible where that fails (03 R81). -/
def planClip (start : Time) (g : GenSt) (env : PlanEnv) (limit : Int) : PlanRec :=
  let dir := motionDir g
  let l : RLim := { env.lim with d := env.dHard, j := env.jHard }
  if dir = 0 then planStop start g l
  else (planRestAt start g dir limit l 16 (roomTo g dir limit)).getD (planStop start g l)

/-- Soft limit in a direction. -/
def softOf (env : PlanEnv) (dir : Int) : Option Int := env.soft.map (fun x => if dir ≥ 0 then x.2 else x.1)

/-- A position lies beyond the soft limits. -/
def beyondSoft (env : PlanEnv) (p : Int) : Bool :=
  match env.soft with | none => false | some (lo, hi) => p < lo || p > hi

/-- Plan of a move from any state (03 R74, R77 to R81, Table 03-5). R81 clips an overshoot; a reversal whose rest point lies beyond
a soft limit is not clipped (DEDUCED, notes/assumptions 13). -/
def planMove (start : Time) (g0 : GenSt) (target : Int) (env : PlanEnv) : PlanRec × PlanFlags :=
  let g := g0.fold
  let x := p6Of target - g.p6
  let dir := motionDir g
  if dir = 0 then
    match planAhead start g (if x ≥ 0 then 1 else -1) target env.lim env.dHard with
    | some (p, r) => (p, { raised := r })
    | none => ({ start := start, n := List.replicate 7 0, js := List.replicate 7 0, target := some target }, {})
  else if dir * x < 0 then
    ({ planStop start g env.lim with leg2 := some target }, { reversal := true })
  else
    match planAhead start g dir target env.lim env.dHard with
    | some (p, r) => (p, { raised := r })
    | none =>
      let p := planStop start g { env.lim with d := env.dHard }
      match softOf env dir with
      | some lim => if beyondSoft env (restPoint p g) then (planClip start g env lim, { clipped := true })
        else ({ p with leg2 := some target }, { overshoot := true })
      | none => ({ p with leg2 := some target }, { overshoot := true })

/-- Plan of any point-to-point command (03 R74 to R77). A jog against the motion stops first and reports REVERSAL_PLANNED with its
plan (DEDUCED, notes/assumptions 13). -/
def planCmd (start : Time) (g0 : GenSt) (c : MotionCmd) (env : PlanEnv) : PlanRec × PlanFlags :=
  let g := g0.fold
  match c with
  | .hold | .stop => (planStop start g env.lim, {})
  | .jog dir => if motionDir g = -dir then (planStop start g env.lim, { reversal := true })
    else (planJog start g dir env.lim, {})
  | .move t => planMove start g t env

/-- The stop under `l` from a state passes a limit in the direction of motion (03 R94, R95). A stop in whole control cycles (R74)
may take half a cycle of travel more for each of its three phases (DEDUCED, notes/assumptions 13). -/
def stopPasses (g : GenSt) (l : RLim) (limit : Int) : Bool :=
  let dir := motionDir g
  if dir = 0 then false else
  let v : Rat := ((dir * g.v2 : Int)) / 2
  distStop ((dir * g.a : Int)) v l + 3 * v / 2 > roomTo g.fold dir limit

/-! ### Stepped and geared modes -/

/-- Value of the segment in force at an instant (03 R87). -/
def StepSt.at (s : StepSt) (t : Time) : Rat :=
  if t ≥ s.segT1 then (s.segP1 : Rat)
  else if t ≤ s.segT0 then s.segP0
  else s.segP0 + ((s.segP1 : Rat) - s.segP0) * (((t - s.segT0 : Nat) : Rat) / ((s.segT1 - s.segT0 : Nat) : Rat))

/-- Position counted so far (03 R86). -/
def StepSt.counted (s : StepSt) (inc : Int) : Int := s.anchor + s.count * inc

/-- The final segment of R87. -/
def StepSt.final (s : StepSt) (inc : Int) : StepSt :=
  match s.prev with
  | none => s
  | some (tp, _) =>
    { s with segP0 := s.at (tp + 2 * s.dt), segT0 := tp + 2 * s.dt, segP1 := s.counted inc,
             segT1 := tp + 3 * s.dt, finalDone := true }

/-- The segment in force at an instant while no further step comes (03 R87). -/
def StepSt.inForce (s : StepSt) (inc : Int) (t : Time) : StepSt :=
  match s.prev with
  | some (tp, _) => if !s.finalDone && decide (tp + 2 * s.dt ≤ t) then s.final inc else s
  | none => s

/-- One step of R87 with its stamp, sign and the axis's STEP parameters (ns); tells whether it was over-rate. -/
def StepSt.onStep (s : StepSt) (t : Time) (sg : Int) (inc : Int) (dtMin dt0 idle : Nat) : StepSt × Bool :=
  let count := s.count + sg
  let near := match s.prev with | some (tp, _) => decide (t - tp ≤ idle * 64) | none => false
  let tp := match s.prev with | some (x, _) => x | none => 0
  let sp := match s.prev with | some (_, x) => x | none => 0
  let ovr := near && decide (t - tp < dtMin * 64)
  let dt := if near then max (t - tp) (dtMin * 64) else dt0 * 64
  let reversal := near && sg != sp
  let goal := s.anchor + (if reversal then count else count - sg) * inc
  ({ s with count := count, prev := some (t, sg), segP0 := (s.inForce inc t).at t, segT0 := t, segP1 := goal, segT1 := t + dt,
            dt := dt, finalDone := false }, ovr)

/-- One geared cycle with master increment dm (03 R90): the state and the slave increment. -/
def GearSt.cycle (g : GearSt) (dm : Int) : GearSt × Int :=
  let n := g.n + 1
  let k := min n g.g
  let acc := g.acc + g.num * k * dm
  let den : Int := (g.den : Int) * g.g
  let inc := fdiv acc den - fdiv g.acc den
  ({ g with n := n, acc := acc, inc := inc }, inc)

/-- Slave position that corresponds to a master position (03 R91). -/
def GearSt.aligned (g : GearSt) (pa ma m : Int) : Int := pa + fdiv ((m - ma) * g.num) g.den

end Sys2Proof.Machine
end

