-- ==== Sys2Proof/Machine/Ops.lean ====
section
/-!
DEFINITION. The named operations over State that the meanings share: the bounds test on a command's indices, access
to axes, scopes and pins, Ledger memory (15 R429), the status words of an axis (03 Table 03-7, 04 Table 04-5,
05 Table 05-10), raising an event (12 R358, R359), tickets (12 R370), brakes and STO (09 R249, R265), the fault
reactions F1 to F3 (01 R33 to R36, 09 R265, 04 R491), staging (01 R20, 03 R73) and free values.
-/
namespace Sys2Proof.Machine

/-- Outcome type of every meaning. -/
abbrev Out := Host.Outcome State Fault Refusal

/-- Run a meaning on a unit that exists; otherwise stop (Fault.noSuchUnit). -/
def onUnit (what : String) (i n : Nat) (r : Out) : Out := if i < n then r else .fault (.noSuchUnit what i)

/-! ### Access -/

/-- Axis n. -/
def State.ax (s : State) (n : Nat) : AxisSt := vrd s.axes n
/-- Change axis n. -/
def State.mdAx (s : State) (n : Nat) (f : AxisSt → AxisSt) : State := { s with axes := vmd s.axes n f }
/-- Change every axis of a list. -/
def State.mdAxes (s : State) (l : List Nat) (f : AxisSt → AxisSt) : State :=
  { s with axes := vmapI s.axes fun i a => if l.contains i then f a else a }
/-- Scope k: arm 0–7, auxiliary axis n at 8 + n. -/
def State.sc (s : State) (k : Nat) : ScopeSt := vrd s.ssv.scopes k
/-- Change scope k. -/
def State.mdSc (s : State) (k : Nat) (f : ScopeSt → ScopeSt) : State :=
  { s with ssv := { s.ssv with scopes := vmd s.ssv.scopes k f } }
/-- Brake circuit and STO output k. -/
def State.bk (s : State) (k : Nat) : BrakeSt := vrd s.ssv.brakes k
/-- Change brake circuit k. -/
def State.mdBk (s : State) (k : Nat) (f : BrakeSt → BrakeSt) : State :=
  { s with ssv := { s.ssv with brakes := vmd s.ssv.brakes k f } }
/-- Port p. -/
def State.port (s : State) (p : Nat) : PortSt := vrd s.dl.ports p
/-- Change port p. -/
def State.mdPort (s : State) (p : Nat) (f : PortSt → PortSt) : State :=
  { s with dl := { s.dl with ports := vmd s.dl.ports p f } }
/-- SSM arm k. -/
def State.ssmArm (s : State) (k : Nat) : SsmArm := vrd s.ssm.arms k
/-- Change SSM arm k. -/
def State.mdSsmArm (s : State) (k : Nat) (f : SsmArm → SsmArm) : State :=
  { s with ssm := { s.ssm with arms := vmd s.ssm.arms k f } }
/-- Planner of arm k. -/
def State.plr (s : State) (k : Nat) : PlannerSt := vrd s.planners k
/-- Change the planner of arm k. -/
def State.mdPlr (s : State) (k : Nat) (f : PlannerSt → PlannerSt) : State :=
  { s with planners := vmd s.planners k f }
/-- Mailbox channel c. -/
def State.chan (s : State) (c : Nat) : ChanSt := vrd s.hif.ch c
/-- Change mailbox channel c. -/
def State.mdChan (s : State) (c : Nat) (f : ChanSt → ChanSt) : State :=
  { s with hif := { s.hif with ch := vmd s.hif.ch c f } }

/-- The parameter set in force. -/
def State.ps (s : State) : ParamSet := s.sets.com
/-- Axes of a scope, by the set in force. -/
def State.scAxes (s : State) (k : Nat) : List Nat := scopeAxes s.ps k
/-- Scope of an axis. -/
def State.axSc (s : State) (n : Nat) : Nat := axScope s.ps n
/-- SUBJECT of a scope: arm number, or 0x40 + n of auxiliary axis n (13 Table 13-7). -/
def scopeSubject (k : Nat) : Nat := if k < 8 then k else 0x40 + (k - 8)
/-- Cell time moves on to a stamp, never back. -/
def State.upTo (s : State) (t : Time) : State := { s with cyc := { s.cyc with now := max s.cyc.now t } }
/-- Draw one free value: the count it is a value of. -/
def State.drawn (s : State) (n : Nat := 1) : State := { s with fresh := s.fresh + n }

/-! ### Ledger bytes -/

/-- The cells a string of bytes occupies from an address on, without those that read 0. -/
def cellsOf : Nat → Bytes → List Host.Cell
  | _, [] => []
  | a, b :: bs => if b = 0 then cellsOf (a + 1) bs else (a, b) :: cellsOf (a + 1) bs

/-- Write bytes at an address: the cells below, the new ones, the cells beyond (15 R431). -/
def memWrite (m : List Host.Cell) (a : Nat) (b : Bytes) : List Host.Cell :=
  m.filter (fun c => decide (c.1 < a)) ++ cellsOf a b ++ m.filter (fun c => decide (a + b.length ≤ c.1))

/-- The byte at an address; one that is not listed reads 0. -/
def memByte (m : List Host.Cell) (a : Nat) : Byte :=
  match m.find? (fun c => c.1 == a) with | some c => c.2 | none => 0

/-- Bytes of a rising cell list from an address on. -/
def cellsRead : Nat → Nat → List Host.Cell → Bytes
  | 0, _, _ => []
  | n + 1, a, [] => 0 :: cellsRead n (a + 1) []
  | n + 1, a, c :: cs => if c.1 = a then c.2 :: cellsRead n (a + 1) cs else 0 :: cellsRead n (a + 1) (c :: cs)

/-- `n` bytes from an address on. -/
def memRead (m : List Host.Cell) (a n : Nat) : Bytes :=
  cellsRead n a (m.filter fun c => decide (a ≤ c.1) && decide (c.1 < a + n))

/-- Canonical form: addresses strictly rising, no byte 0 listed. -/
def memWf : List Host.Cell → Bool
  | [] => true
  | [c] => c.2 != 0
  | c :: d :: r => c.2 != 0 && decide (c.1 < d.1) && memWf (d :: r)

/-- Write bytes into the Ledger. -/
def State.ldgWrite (s : State) (a : Nat) (b : Bytes) : State :=
  { s with ldg := { s.ldg with mem := memWrite s.ldg.mem a b } }

/-- The spoiled work of a requester is taken up: its bit of `spoiled` goes down (15 R439). -/
def State.unspoil (r : Nat) (s : State) : State :=
  if s.ldg.spoiled.testBit r then { s with ldg := { s.ldg with spoiled := s.ldg.spoiled - 2 ^ r } } else s

/-- Start of the Ledger regions that hold bytes here (15 Table 15-2). -/
def regPlans : Nat := 0x002F0000
/-- Snapshot buffer 0, behind the index page and its 64 KiB (15 Table 15-2); buffer 1 follows. -/
def regSnapshot : Nat := 0x00390000
def regLog : Nat := 0x004C0000
def regTrace : Nat := 0x005C0000
def regSecure : Nat := 0x007C0000

/-! Places of the mirrored tables inside their regions (DESIGN CHOICE, notes/assumptions 74). -/
/-- Line of the session of channel c. -/
def ledSession (c : Nat) : Nat := 64 * c
/-- Line of a ticket. -/
def ledTicket (num : Nat) : Nat := 0x400 + 32 * (num % 256)
/-- Line of a stored response of channel c. -/
def ledStored (c seq : Nat) : Nat := 0x3000 + 64 * (16 * c + seq % 16)
/-- Header line of the sets in force. -/
def ledCommitted : Nat := 0x20000
/-- Header line of the warm start of arm k. -/
def ledWarm (k : Nat) : Nat := 0x280000 + 0xE000 * k
/-- Line of transmit value v. -/
def ledTx (v : Nat) : Nat := 0x3C0000 + 64 * v
/-- Delays in use of the cell bus. -/
def ledDelay : Nat := 0x3C8000

/-! ### Status words of an axis -/

/-- Code of a function state (03 Table 03-7). -/
def FnState.code : FnState → Nat
  | .disabled => 0 | .enabled => 1 | .shuttingDown => 2

/-- Code of a profile mode (03 Table 03-7). -/
def ProfMode.code : ProfMode → Nat
  | .idle => 0 | .ptp => 1 | .planned => 2 | .stepped => 3 | .geared => 4 | .homing => 5

/-- Code of a position status (03 Table 03-7). -/
def PosStatus.code : PosStatus → Nat
  | .unreferenced => 0 | .homed => 1 | .uncertain => 2

/-- AX_STAT (03 Table 03-7). -/
def AxisSt.stat (a : AxisSt) : Nat :=
  a.mode.code * 2 ^ 28 + a.pos.code * 2 ^ 26 + a.fn.code * 2 ^ 24 + bit a.flags.available * 2 ^ 23
    + bit a.flags.stepSlipped * 2 ^ 17 + bit a.flags.stepGlitch * 2 ^ 16 + bit a.loop.overrun * 2 ^ 15
    + bit a.flags.targetReached * 2 ^ 14 + bit a.flags.reversal * 2 ^ 13 + bit a.flags.overshoot * 2 ^ 12
    + bit a.flags.clipped * 2 ^ 11 + bit a.flags.decelRaised * 2 ^ 10 + bit a.flags.softStop * 2 ^ 9
    + bit a.flags.stepOver * 2 ^ 8 + bit a.flags.gearSlipped * 2 ^ 7 + bit a.flags.gearRamping * 2 ^ 6
    + bit a.flags.planFallback * 2 ^ 5 + bit a.slim.isSome * 2 ^ 4 + bit a.flags.stall * 2 ^ 3
    + bit a.flags.homeFailed * 2 ^ 2

/-- Flags of AX_ISTAT [15:0] (04 Table 04-5). -/
def AxisSt.istatFlags (a : AxisSt) : Nat :=
  bit a.cur.coilFault * 2 ^ 11 + bit a.cur.overCur * 2 ^ 10 + bit a.cur.busUnder * 2 ^ 9
    + bit (lget a.cur.uSat 0) * 2 ^ 8 + bit (lget a.cur.refSat 0) * 2 ^ 7 + bit a.cur.chopLimit * 2 ^ 6
    + bit a.cur.lostStep * 2 ^ 5 + bit a.cur.laValid * 2 ^ 4 + bit a.cur.hold * 2 ^ 3 + bit a.cur.atCeil0 * 2 ^ 2
    + bit a.flags.stall * 2

/-- Flags of AX_LSTAT [15:0] (05 Table 05-10). -/
def AxisSt.lstatFlags (a : AxisSt) : Nat :=
  bit a.loop.feFault * 2 ^ 7 + bit a.loop.nan * 2 ^ 6 + bit a.loop.corrLimit * 2 ^ 5 + bit a.loop.injAct * 2 ^ 4
    + bit a.loop.fbHold * 2 ^ 3 + bit a.loop.frozen * 2 ^ 2 + bit a.loop.feWarn * 2

/-! ### Lanes -/

/-- Lane that serves an axis (03 R63). -/
def State.laneOf (s : State) (n : Nat) : Option Nat :=
  (List.range 68).find? fun i => (vrd s.lanes i).axis == some n

/-- Cluster of the lane that serves an axis. -/
def State.clusterOf (s : State) (n : Nat) : Nat := ((s.laneOf n).getD (n + n / 16)) / 17

/-! ### Events -/

/-- The stamp of an event: the 1 ns counter (02 R41). -/
def State.nowStamp (s : State) : Stamp :=
  { at_ := s.cyc.now / ns * ns, src := 255, coarse := true, holdover := decide (s.tb.state = .holdover) }

/-- The stamp of now, assigned to a window of the contiguous sequence of length `p`: BOUNDARY where one unit either way leads to
different windows (01 R24). -/
def State.assigned (s : State) (p : Time) : Stamp :=
  let st := s.nowStamp
  { st with boundary := boundaryAt st.at_ ns (windowOf p st.at_ ns * p) }

/-- The stamp of an edge at time t on an interpolator channel (02 R38, R40, R43): by its own interpolator, by the rover that
stamps alone for it or is handing it back (R44: the stamp delivered is that of the one that held the channel before), or COARSE where it has neither (16 Table 16-3, class 8). -/
def State.stampOf (s : State) (c t : Nat) : Stamp :=
  let h := decide (s.tb.state = .holdover)
  match (List.range 4).find? fun r => (vrd s.tb.rovers r).chan == c && ((vrd s.tb.rovers r).fixed || (vrd s.tb.rovers r).part == 1 || (vrd s.tb.rovers r).part == 2) with
  | some r => { at_ := t, src := 60 + r, holdover := h }
  | none => if (vrd s.tb.interp c).retired || (vrd s.tb.interp c).away then { at_ := t / ns * ns, src := 255, coarse := true, holdover := h }
            else { at_ := t, src := c, holdover := h }

/-- HIF_EVREC (12 Table 12-12). -/
def eventBytes (st : Stamp) (ev status subject seq dHi dLo : Nat) : Bytes :=
  leBytes 1 ev ++ leBytes 4 seq ++ leBytes 1 subject ++ leBytes 2 status ++ leBytes 4 dLo ++ leBytes 4 dHi ++ st.bytes

/-- Vectors pending: a source mapped to the vector has its status bit 1 and its mask bit 0 (12 R358). -/
def HifSt.pendSet (h : HifSt) : Nat :=
  (List.range 128).foldl
    (fun acc i => if h.evstat.testBit i && !h.evmask.testBit i then acc ||| 2 ^ (lget h.evmap i % 32) else acc) 0

/-- Nothing prevents the message of a vector: MSI-X is enabled, its function mask and the vector's mask are 0 and
Bus Master Enable is 1 (12 R352, R358). -/
def HifSt.mayPost (h : HifSt) (v : Nat) : Bool :=
  h.msixEn && !h.funcMask && h.busMaster && !(vrd h.msix v).mask

/-- A vector's pending rises: its message is sent, or its PBA bit is set (12 R358). -/
def HifSt.rise (h : HifSt) (v : Nat) : HifSt :=
  if h.mayPost v then { h with sent := vmd h.sent v (· + 1), pba := h.pba &&& (2 ^ 32 - 1 - 2 ^ v) }
  else { h with pba := h.pba ||| 2 ^ v }

/-- Bring the vectors up to date with status, mask and map; vectors of `force` rise even if pending already. -/
def HifSt.settle (h : HifSt) (force : Nat := 0) : HifSt :=
  let p := h.pendSet
  (List.range 32).foldl
    (fun h v => if p.testBit v && (!h.vpend.testBit v || force.testBit v) then h.rise v else h) { h with vpend := h.vpend }
    |> fun h => { h with vpend := p }

/-- Messages held in the PBA go out once nothing prevents them (12 R358). -/
def HifSt.flush (h : HifSt) : HifSt :=
  (List.range 32).foldl (fun h v => if h.pba.testBit v && h.mayPost v then
      { h with sent := vmd h.sent v (· + 1), pba := h.pba &&& (2 ^ 32 - 1 - 2 ^ v) } else h) h

/-- Length of one text line of the UART output (17 Table 17-8 gives the line one record; PRESUMED 128 bytes,
notes/assumptions 43). -/
def uartLine : Nat := 128

/-- Output one event-log line on the UART: buffered while CTS_N is high, dropped and counted beyond 4 KiB
(17 Table 17-8). -/
def PwrSt.uartPut (p : PwrSt) (seq : Nat) : PwrSt :=
  if !p.ctsN then { p with uartSent := p.uartSent + 1, uartDrop := 0 }
  else if (p.uart.length + 1) * uartLine ≤ 4096 then { p with uart := p.uart ++ [seq] }
  else { p with uartDrop := p.uartDrop + 1 }

/-- Raise event E`ev`: append its record to the event log, advance LOG_NEXT, set its status bit and bring the vectors
up to date (12 R358, R359). -/
def raiseEv (ev status subject dHi dLo : Nat) (s : State) : State :=
  let n := s.hif.logNext
  let b := eventBytes s.nowStamp ev status subject n dHi dLo
  { s with
    ldg := { s.ldg with mem := memWrite s.ldg.mem (regLog + 32 * (n % 32768)) b }
    hif := ({ s.hif with logNext := (n + 1) % 2 ^ 32, evstat := s.hif.evstat ||| 2 ^ ev }).settle
    pwr := s.pwr.uartPut n }

/-- Raise the event of axis n with a status (13 Table 13-19). -/
def raiseAxis (n status : Nat) (s : State) : State :=
  let a := s.ax n
  raiseEv n status n a.stat (a.istatFlags * 2 ^ 16 + a.lstatFlags) s

/-- Raise the event of an arm with a status and the low half of its DETAIL (13 Table 13-19). -/
def raiseArm (k status dLo : Nat) (s : State) : State :=
  let gen := match (s.plr k).cur with | some p => p.gen | none => 0
  raiseEv (64 + k) status k gen dLo s

/-- Raise the event of a scope: the arm's or the auxiliary axis's. -/
def raiseScope (k status : Nat) (s : State) : State :=
  if k < 8 then raiseArm k status 0 s else raiseAxis (k - 8) status s

/-- Raise E96 + ⌊p / 5⌋ for port p with the cause or new state (10 R318); R318 lays out no low half of DETAIL, which is a
free value. -/
def raisePort (p status dHi : Nat) (s : State) : State :=
  raiseEv (96 + p / 5) status p dHi (Config.free32 s.fresh).toNat s.drawn

/-- Raise E120 + c (13 Table 13-19): ticket, opcode, progress and kind. -/
def raiseChan (c status ticket opcode progress kind : Nat) (s : State) : State :=
  raiseEv (120 + c) status c ticket (opcode * 2 ^ 16 + progress * 2 ^ 8 + kind) s

/-! ### Records sent on the Mirror link (14 R401, R403) -/

/-- Send a record on the Mirror link: it takes the next frame number (14 R401). -/
def mirSend (typ cycle addr len : Nat) (due : Option Time) (s : State) : State :=
  { s with mlc := { s.mlc with
      seqTx := (s.mlc.seqTx + 1) % 2 ^ 32
      unacked := s.mlc.unacked ++ [{ seq := s.mlc.seqTx, typ := typ, cycle := cycle, addr := addr, len := len,
                                     at_ := s.cyc.now, due := due }] } }

/-- A pair whose Shadow takes STAGE and DELTA records: TRACKING or READY (14 R405, R406). -/
def State.copied (s : State) : Bool :=
  decide (s.mlc.role = .active) && (decide (s.mlc.shadow = .tracking) || decide (s.mlc.shadow = .ready))

/-- Changed lines of a mirrored region cross as DELTA, in frames of at most 4 096 bytes (14 R403, Tables 14-2, 14-4); `addr` is the
Ledger address of the first. -/
def mirDelta (addr len : Nat) (s : State) : State :=
  if !s.copied then s
  else
    let n := (len + 63) / 64 * 64
    (List.range ((n + 4095) / 4096)).foldl (fun s i =>
      mirSend 0x08 (s.cyc.t0 / tCtl % 2 ^ 32) (addr + 4096 * i) (min 4096 (n - 4096 * i)) none s) s

/-! ### Tickets -/

/-- Running tickets of a session. -/
def HifSt.running (h : HifSt) (ch token : Nat) : Nat :=
  (h.tickets.filter fun t => t.state == 0 && t.ch == ch && t.token == token).length

/-- Keep the 64 most recent tickets and every running one (12 R370). -/
def trimTickets (l : List TicketSt) : List TicketSt :=
  l.take 64 ++ (l.drop 64).filter (fun t => t.state == 0)

/-- Start a ticket on a channel: its number and the state (12 R370). -/
def newTicket (ch opcode : Nat) (s : State) : Nat × State :=
  let n := s.hif.ticketNext
  (n, mirDelta (ledTicket n) 32 { s with hif := { s.hif with
      ticketNext := n + 1
      tickets := trimTickets ({ num := n, ch := ch, token := (s.chan ch).token, opcode := opcode } :: s.hif.tickets) } })

/-- End a running ticket with a state and a final status, and raise E120 + c (12 R370, 13 R381). -/
def endTicket (num state final : Nat) (s : State) : State :=
  match s.hif.tickets.find? (fun t => t.num == num && t.state == 0) with
  | none => s
  | some t =>
    raiseChan t.ch final num t.opcode 255 1 (mirDelta (ledTicket num) 32 { s with hif := { s.hif with
      tickets := s.hif.tickets.map fun x => if x.num == num then { x with state := state, final := final, progress := 255 } else x } })

/-- Progress of a running ticket (12 R370). -/
def progressTicket (num p : Nat) (s : State) : State :=
  match s.hif.tickets.find? (fun t => t.num == num && t.state == 0) with
  | none => s
  | some t =>
    raiseChan t.ch Sts.OK num t.opcode p 0 (mirDelta (ledTicket num) 32 { s with hif := { s.hif with
      tickets := s.hif.tickets.map fun x => if x.num == num then { x with progress := p } else x } })

/-- DONE with OK, or FAILED with the status (13 R381). -/
def finishTicket (num status : Nat) (s : State) : State :=
  endTicket num (if status = Sts.OK then 1 else 2) status s

/-! ### Brakes and STO -/

/-- Brake pair of an arm k, or of an auxiliary axis (09 R248, R250). -/
def brakeOf (ps : ParamSet) (k : Nat) : Option Nat :=
  if k < 8 then some k else (prm ps Pid.BK_OUT (k - 8) 0).bind fun v => if 0 ≤ v ∧ v < 8 then some v.toNat else none

/-- STO output of a scope (09 R265). -/
def stoOf (ps : ParamSet) (k : Nat) : Option Nat :=
  if k < 8 then some k else (prm ps Pid.STO_OUT (k - 8) 0).bind fun v => if 0 ≤ v ∧ v < 8 then some v.toNat else none

/-- Every scope, arms first. -/
def allScopes : List Nat := List.range 72

/-- Scopes whose axes STO output k serves. -/
def stoServes (ps : ParamSet) (k : Nat) : List Nat := allScopes.filter fun c => stoOf ps c == some k

/-- Scopes whose brakes hang on pair k. -/
def brakeServes (ps : ParamSet) (k : Nat) : List Nat := allScopes.filter fun c => brakeOf ps c == some k

/-- Time the brakes of a pair have been released, counted up to now (09 R258). -/
def BrakeSt.count (b : BrakeSt) (now : Time) : BrakeSt :=
  { b with timer := if b.hs && b.ls then b.timer + (now - max b.countedAt b.changedAt) else b.timer, countedAt := now }

/-- The unit drives its brake and STO outputs by its own decisions; those of a unit without authority in a pair follow the
mirrored record (14 R411, R417). -/
def State.drives (s : State) : Bool := decide (s.mlc.role = .single) || decide (s.mlc.role = .active)

/-- Both switches of pair k open (09 R249); nothing changes when they are open already. -/
def cutPair (k : Nat) (s : State) : State :=
  s.mdBk k fun b =>
    if b.hs || b.ls then
      { b.count s.cyc.now with hs := false, ls := false, changedAt := s.cyc.now, checkDue := true, diffAt := none, appliedAt := some s.cyc.tk }
    else { b with appliedAt := some s.cyc.tk }

/-- Apply pair k (09 R249). -/
def openPair (k : Nat) (s : State) : State := if s.drives then cutPair k s else s

/-- STO output o takes a level (09 R265). -/
def putSto (o : Nat) (on : Bool) (s : State) : State :=
  if s.drives then s.mdBk o fun b => { b with stoOut := on } else s

/-- Both switches of pair k close, unless an apply fell in the same current period (09 R249, R254). -/
def joinPair (k : Nat) (s : State) : State :=
  s.mdBk k fun b =>
    if b.appliedAt == some s.cyc.tk then b
    else if b.hs && b.ls then b
    else { b with hs := true, ls := true, changedAt := s.cyc.now, checkDue := true, diffAt := none }

/-- Release pair k (09 R249, R254). -/
def closePair (k : Nat) (s : State) : State := if s.drives then joinPair k s else s

/-- A unit without authority applies the outputs of arm k by its own judgement: E111 KIND 2 (14 R411, Table 14-10). -/
def ownApply (k : Nat) (s : State) : State :=
  if s.drives then s
  else
    let s' := (cutPair k s).mdBk k fun b => { b with stoOut := false }
    if s.mlc.ownApply.testBit k then s'
    else raiseEv 111 Sts.OK k 0 2 { s' with mlc := { s'.mlc with ownApply := s'.mlc.ownApply ||| 2 ^ k } }

/-- Set or clear the STO bit of the axes of a scope (09 R265). -/
def setStoBits (k : Nat) (on : Bool) (s : State) : State := s.mdAxes (s.scAxes k) fun a => { a with sto := on }

/-! ### Fault reactions -/

/-- Close of scopes under F2: scopes that share a brake pair or an STO output with one of them and are not DISABLED
join (09 R250, R265). -/
def f2Spread (s : State) : Nat → List Nat → List Nat
  | 0, l => l
  | n + 1, l =>
    let more := allScopes.filter fun c =>
      !l.contains c && decide ((s.sc c).fn ≠ .disabled) && l.any fun d =>
        (brakeOf s.ps c).isSome && brakeOf s.ps c == brakeOf s.ps d ||
        (stoOf s.ps c).isSome && stoOf s.ps c == stoOf s.ps d
    if more.isEmpty then l else f2Spread s n (l ++ more)

/-- End of an injection run by a cause other than its length (05 R151): the run stops; INJECTION_RUN_END reports it. -/
def endInjection (k cause : Nat) (s : State) : State :=
  { s with fw := { s.fw with inj := vmd s.fw.inj k fun i => i.map fun r =>
      if r.running then { r with running := false, cause := cause } else r } }

/-- A RING capture of an axis of the scope is triggered by the arm's first F1 or F2 (05 R153). -/
def triggerCaptures (k : Nat) (s : State) : State :=
  { s with fw := { s.fw with caps := vmapI s.fw.caps fun _ c => c.map fun r =>
      if r.ring && !r.stopped && r.post.isNone && s.axSc r.axis == k then { r with post := some r.count } else r } }

/-- A homing search of the scope's axes ends FAILED with the status of the fault (13 R387). -/
def failHoming (k status : Nat) (s : State) : State :=
  (s.scAxes k).foldl (fun s n =>
    match (s.ax n).home with
    | none => s
    | some h =>
      finishTicket h.ticket status
        (s.mdAx n fun a => { a with home := none, mode := .ptp, flags := { a.flags with homeFailed := true } })) s

/-- A brake test of the scope ends ABORTED (09 R256). -/
def abortBrakeTest (k : Nat) (s : State) : State :=
  match brakeOf s.ps k with
  | none => s
  | some b =>
    match (s.bk b).test with
    | none => s
    | some t =>
      raiseEv 82 Sts.OK b 0 (3 + 0xFF * 2 ^ 8)
        (endTicket t.ticket 2 Sts.CANCELLED (s.mdBk b fun x => { x with test := none, lastTest := 3 }))

/-- Byte address of a plan slot (07 R213, 12 Table 12-3). -/
def slotAddr (k slot : Nat) : Nat := regPlans + 0x10000 * k + 0x8000 * slot

/-- A published plan that does not govern is flagged WITHDRAWN; other arms use the record before (07 R202). -/
def withdraw (k : Nat) (s : State) : State :=
  let r := s.plr k
  match r.next with
  | none => s
  | some p =>
    let slot := if r.gens.1 = p.gen then 0 else 1
    let s := s.ldgWrite (slotAddr k slot + 13) (leBytes 1 (bit p.static + 2))
    s.mdPlr k fun r => { r with next := none, shown := r.shownPrev }

/-- The solver tile of an arm begins to shut down (07 R203, 01 Table 01-6). -/
def tileShut (k : Nat) (s : State) : State :=
  if 8 ≤ k ∨ (s.plr k).tileFn ≠ .enabled then s
  else (withdraw k s).mdPlr k fun r => { r with
    tileFn := .shuttingDown, solve := r.solve.map fun v => { v with mute := true } }

/-- The SSM measures a stop of an arm from its trigger on (08 R241); one under way is carried on. -/
def beginMeas (k : Nat) (t : Time) (ticket : Option Nat) (s : State) : State :=
  if 8 ≤ k then s
  else s.mdSsmArm k fun a => { a with
    meas := match a.meas with
      | some m => some { m with real := m.real || ticket.isNone, ticket := m.ticket.or ticket }
      | none => some { trig := t, cls := a.cls, ticket := ticket, real := ticket.isNone }
    stillRun := if a.meas.isSome then a.stillRun else 0 }

/-- What every fault of a scope ends besides its motion. -/
def faultSides (k status : Nat) (s : State) : State :=
  tileShut k (abortBrakeTest k (failHoming k status (triggerCaptures k (endInjection k status s))))

/-- F1 of a scope (01 Table 01-7, R24, R36): the controlled stop begins at the start after the control cycle its stamp belongs to. A reaction in
progress is not replaced by a lower one (01 R35); a DISABLED scope has nothing to stop. -/
def faultF1 (k status rank : Nat) (s : State) : State :=
  let c := s.sc k
  if c.fn = .disabled then s.mdSc k fun c => { c with faultAt := some (s.cyc.now, status) }
  else if c.level ≠ 0 then
    if c.level = 1 && c.statusAt == s.cyc.tk && decide (rank < c.rank) then
      s.mdSc k fun c => { c with status := status, rank := rank }
    else s
  else
    let at_ := effectStart s.cyc.now
    let s := beginMeas k at_ none (faultSides k status s)
    let s := s.mdSc k fun c => { c with
      level := 1, status := status, rank := rank, statusAt := s.cyc.tk, ackDue := true, fn := .shuttingDown,
      stopAt := some at_, stop := .f1,
      env := some { trig := s.cyc.now, v0 := if k < 8 then (s.ssmArm k).speeds else [] }, still := 0, byDisable := false,
      seq := .stopping }
    let s := s.mdAxes (s.scAxes k) fun a => { a with fn := if a.fn = .enabled then .shuttingDown else a.fn }
    raiseEv 85 status (scopeSubject k) 0 1 s

/-- F2 reaction of one scope: torque off and brakes applied in the same current period (01 Table 01-7, 09 R265). -/
def f2One (k status rank : Nat) (s : State) : State :=
  let c := s.sc k
  let cut (s : State) : State :=
    let s := setStoBits k true s
    let s := match stoOf s.ps k with | some o => putSto o false s | none => s
    match brakeOf s.ps k with | some b => openPair b s | none => s
  if c.level ≥ 2 then
    let s := cut s
    if c.statusAt == s.cyc.tk && decide (rank < c.rank) then s.mdSc k fun c => { c with status := status, rank := rank }
    else s
  else
    let s := beginMeas k s.cyc.now none (faultSides k status (cut s))
    let s := if k < 8 then s.mdPlr k fun r => { r with planned := false, cur := none, along := none, warm := none } else s
    let s := s.mdSc k fun c => { c with
      level := 2, status := status, rank := rank, statusAt := s.cyc.tk, ackDue := true, fn := .shuttingDown,
      stopAt := none, stop := .f2, env := none, sos := none, seq := .ending s.cyc.now, byDisable := false,
      confirmAt := some (s.cyc.now + 2 * tCur) }
    let s := s.mdAxes (s.scAxes k) fun a =>
      { a with fn := if a.fn = .disabled then .disabled else .shuttingDown, plan := none, cmd := .hold,
               gen := { p6 := p6Of a.refP } }
    raiseEv 85 status (scopeSubject k) 0 2 s

/-- F2 of a scope, with every scope that loses its torque or its brakes with it. -/
def faultF2 (k status rank : Nat) (s : State) : State :=
  if (s.sc k).fn = .disabled then s.mdSc k fun c => { c with faultAt := some (s.cyc.now, status) }
  else (f2Spread s 72 [k]).foldl (fun s c => f2One c status rank s) s

/-- F2 of several scopes. -/
def faultF2s (ks : List Nat) (status rank : Nat) (s : State) : State := ks.foldl (fun s k => faultF2 k status rank s) s

/-- Fault at a level on a scope, causes without a rank of R491 counting as "any other". -/
def faultAt (level k status : Nat) (s : State) : State :=
  if level = 1 then faultF1 k status 7 s else faultF2 k status 7 s

/-- Code of a TTC state (11 Table 11-13). -/
def TtcState.code : TtcState → Nat
  | .off => 0 | .listen => 1 | .coldstart => 2 | .integrating => 3 | .active => 4 | .passive => 5 | .standby => 6

/-- The TTC takes a state; a change raises E88 with the new state as its cause data (11 R328). -/
def ttcTo (st : TtcState) (s : State) : State :=
  if s.ttc.state = st then s
  else raiseEv 88 Sts.OK (prmN s.ttc.ps Pid.NODE_ID 0) 0 st.code { s with ttc := { s.ttc with state := st } }

/-- The TTC stops transmitting when the unit gives up authority, a frame in progress included (11 Table 11-5, R329, 01 R34); a cold
start ends in LISTEN (DEDUCED, notes/assumptions 34). -/
def ttcDrop (s : State) : State :=
  let s := { s with ttc := { s.ttc with ch := vmapI s.ttc.ch fun _ c => { c with drive := (c.drive.1, min c.drive.2 s.cyc.now) } } }
  if s.ttc.state = .active ∨ s.ttc.state = .passive then ttcTo .standby s
  else if s.ttc.state = .coldstart then
    ttcTo .listen { s with ttc := { s.ttc with csPhase := 0, csTries := 0, csGo := none, trafficAt := s.cyc.now } }
  else s

/-- Bits of a predicate on 0 to n − 1. -/
def maskBy (n : Nat) (p : Nat → Bool) : Nat := ((List.range n).filter p).foldl (fun w i => w + 2 ^ i) 0

/-- Mirror lanes in service as a mask (14 Table 14-9). -/
def MlcSt.laneMask (m : MlcSt) : Nat := maskBy 5 fun i => (vrd m.lanes i).inService

/-- A Mirror lane leaves service: E110 KIND 1 (14 R400, Table 14-10). -/
def laneOut (i : Nat) (s : State) : State :=
  let was := (vrd s.mlc.lanes i).inService
  let s := { s with mlc := { s.mlc with lanes := vmd s.mlc.lanes i fun l => { l with inService := false, good := 0 } } }
  if was then raiseEv 110 Sts.OK i s.mlc.laneMask 1 s else s

/-- The unit gives up motion: no CMD frames, no cell-bus transmission (01 R34, 14 R395); its sessions stand as mirrored
ones (14 R415). -/
def dropAuthority (s : State) : State :=
  ttcDrop { s with
    dl := { s.dl with authority := false, lost := true }
    hif := { s.hif with ch := vmapI s.hif.ch fun _ c => { c with mirrored := c.open_ } } }

/-! ### The Shadow state (14 R398) -/

/-- Code of a role (14 Table 14-3). -/
def Role.code : Role → Nat | .single => 0 | .active => 1 | .shadow => 2 | .deposed => 3
/-- Code of a Shadow state (14 Table 14-3). -/
def ShState.code : ShState → Nat | .absent => 0 | .joining => 1 | .tracking => 2 | .ready => 3

/-- A redundancy event of Castling, E108: 0 due, 1 started, 2 done, 3 failed (14 Table 14-10). -/
def raiseCastle (status port b kind : Nat) (s : State) : State := raiseEv 108 status port (b / ms % 2 ^ 32) kind s

/-- A Castling ends without success (14 R420). -/
def castleFail (status port : Nat) (s : State) : State :=
  match s.mlc.castle with
  | none => s
  | some c =>
    let s := raiseCastle status port c.b 3 { s with mlc := { s.mlc with castle := none } }
    if c.ticket = 0 then s else finishTicket c.ticket status s

/-- The Shadow may take part in a Castling (14 R419). -/
def castleReady (s : State) : Bool :=
  decide (s.mlc.shadow = .ready) || (decide (s.mlc.shadow = .tracking) && s.mlc.cause == 6)

/-- The Shadow state becomes another one, with its cause: E105; the pair counters start at 0 with TRACKING (14 R398, R427). A
Castling whose boundary lies ahead does not survive the Shadow's leaving READY (14 R420). -/
def shadowTo (st : ShState) (cause : Nat) (s : State) : State :=
  let m := s.mlc
  let s' := { s with mlc := { m with
    shadow := st, cause := cause, clean := if st = m.shadow then m.clean else 0
    staleCount := if st = .tracking && decide (m.shadow ≠ .tracking) then 0 else m.staleCount
    mismatchCount := if st = .tracking && decide (m.shadow ≠ .tracking) then 0 else m.mismatchCount } }
  let s' := if s'.mlc.role = .active && !castleReady s' && !(match m.castle with | some c => c.done | none => true)
    then castleFail Sts.SHADOW_NOT_READY 0xFF s' else s'
  if m.shadow = st then s'
  else
    let serial := match m.peer with | some p => p.1 | none => m.pairSerial
    raiseEv 105 Sts.OK 0 (serial % 2 ^ 32) (m.shadow.code * 2 ^ 30 + st.code * 2 ^ 28 + cause * 2 ^ 25) s'

/-- The safety state of the arms as a SYSTEM record carries it (14 Table 14-4). -/
def State.ownSys (s : State) : SysRec :=
  { cycle := s.cyc.t0 / tCtl % 2 ^ 32, epoch := s.dl.epoch
    arms := (List.range 8).map fun k =>
      { stoOut := (s.bk k).stoOut, level := (s.sc k).level, disabled := decide ((s.sc k).fn = .disabled), stop := (s.sc k).stop
        owner := (s.sc k).owner, plan := ((s.plr k).res.outcome, (s.plr k).res.fallbackN)
        trig := match (s.sc k).env with | some e => e.trig | none => 0 } }

/-- The unit becomes DEPOSED: until the new active unit's records come its own last SYSTEM record is the latest one
(14 R395, R418). -/
def depose (s : State) : State :=
  shadowTo .absent 0 { s with mlc := { s.mlc with
      role := .deposed, sys := some s.ownSys, sysMiss := 0, tk := none } }

/-- F3 (01 Table 01-7, R34): FAULT_N asserted; outside the safety channel with a READY Shadow the unit hands over,
otherwise every arm and auxiliary axis goes to F2. -/
def faultF3 (inside : Bool) (status : Nat) (s : State) : State :=
  let first := !s.ssv.f3
  let s := { s with ssv := { s.ssv with
      f3 := true, f3Inside := s.ssv.f3Inside || inside, faultN := true,
      f3Status := if first then status else s.ssv.f3Status, f3At := if first then s.nowStamp else s.ssv.f3At } }
  let hand := !inside && decide (s.mlc.role = .active) && decide (s.mlc.shadow = .ready)
  let s := if first then raiseEv 85 status 0xFF 0 3 s else s
  let s := if first then castleFail Sts.DEVICE_F3 0xFF s else s
  if hand then
    let s := mirSend 0x0A 0 0 0 none (dropAuthority s)
    raiseEv 104 status 0 s.dl.epoch (3 * 2 ^ 30 + status) (depose s)
  else
    let s := faultF2s allScopes status 7 s
    if inside then (List.range 8).foldl (fun s k => ownApply k s) s else s

/-! ### Staging -/

/-- Control-cycle start at which a command staged now takes effect (01 R20); while STAGE records await their
acknowledgement the barrier of 14 R405 is settled by CONTROL_CYCLE_EVENT. -/
def State.effectAt (s : State) : Time := effectStart s.cyc.now

/-- A STAGE record has not been acknowledged (14 R405). -/
def unackedRef (s : State) (ref : Option Nat) : Bool :=
  s.copied && match ref with | some r => s.mlc.unacked.any (fun f => f.seq == r) | none => false

/-- Put a staged command in its place, with its STAGE record where the Shadow takes one (01 R20, 14 R403, R405). -/
def stagePut (g : Staged) (s : State) : State :=
  let put (g : Staged) (s : State) : State := { s with fw := { s.fw with staged := s.fw.staged ++ [g] } }
  if s.copied then put { g with ref := some s.mlc.seqTx } (mirSend 0x06 (g.at_ / tCtl % 2 ^ 32) 0 64 (some g.at_) s) else put g s

/-- A scope is SHUTTING_DOWN, or the solver tile that is switched with it (01 R29, Table 01-6). -/
def State.shutting (s : State) (k : Nat) : Bool :=
  decide ((s.sc k).fn = .shuttingDown) || (decide (k < 8) && decide ((s.plr k).tileFn = .shuttingDown))

/-- An arm that is not DISABLED. -/
def State.busy (s : State) (k : Nat) : Bool := decide ((s.sc k).fn ≠ .disabled)

/-- Some arm or auxiliary axis is ENABLED or SHUTTING_DOWN. -/
def State.anyBusy (s : State) : Bool := allScopes.any s.busy

/-- Some arm or auxiliary axis is ENABLED. -/
def State.anyEnabled (s : State) : Bool := allScopes.any fun k => decide ((s.sc k).fn = .enabled)

end Sys2Proof.Machine
end

