-- ==== Sys2Proof/Machine/Mail.lean ====
section
/-!
DEFINITION. Messages in the mailbox RAM (12 R362 to R367): where a channel's slots and bulk area lie, the bytes of a
message, writing a response, and the answer to a request whose response waited for its effect (13 R378).
-/
namespace Sys2Proof.Machine

/-- BAR0 offset of a channel's part of the mailbox RAM (12, "Mailbox rings"). -/
def chanBase (c : Nat) : Nat := 0x1000 + 0x3C00 * c
/-- BAR0 offset of the slot of request index n (12 R362). -/
def reqSlot (c n : Nat) : Nat := chanBase c + 256 * (n % 16)
/-- BAR0 offset of the slot of response index n (12 R362). -/
def rspSlot (c n : Nat) : Nat := chanBase c + 0x1000 + 256 * (n % 16)
/-- BAR0 offset of a channel's bulk area (12 R367). -/
def bulkBase (c : Nat) : Nat := chanBase c + 0x2000

/-- Write bytes into the mailbox RAM. -/
def ramPut (off : Nat) (b : Bytes) (s : State) : State := { s with hif := { s.hif with ram := memWrite s.hif.ram off b } }

/-- The 16 header bytes of HIF_MSGHDR (12 Table 12-14) with a CRC field. -/
def msgHeader (len flags op token seq crc : Nat) : Bytes :=
  leBytes 1 len ++ leBytes 1 flags ++ leBytes 2 op ++ leBytes 4 token ++ leBytes 4 seq ++ leBytes 4 crc

/-- CRC of a message (12 R366): over the header with a CRC field of 0 and the payload. -/
def msgCrc (len flags op token seq : Nat) (payload : Bytes) : Nat :=
  crc32c (msgHeader len flags op token seq 0 ++ payload)

/-- A message: header and payload (12 R366). -/
def message (flags op token seq : Nat) (payload : Bytes) : Bytes :=
  msgHeader payload.length flags op token seq (msgCrc payload.length flags op token seq payload) ++ payload

/-- Bulk descriptor of an extent (12 R367). -/
def bulkDesc (off : Nat) (b : Bytes) : Bytes := leBytes 2 off ++ leBytes 2 b.length ++ leBytes 4 (crc32c b)

/-- Write response n of a channel: its bulk data into the extent of the request, cut to the extent's length, its slot,
and then RSP_PROD past n (12 R364, R366, R367). -/
def writeRsp (c n op token seq : Nat) (dup : Bool) (ext : Option (Nat × Nat)) (r : Rsp) (s : State) : State :=
  let st := leBytes 2 r.status ++ leBytes 2 0
  let d : Option (Nat × Bytes) := match ext with
    | some (o, l) => if r.bulk.isEmpty then none else some (o, r.bulk.take l)
    | none => none
  let s := match d with | some (o, b) => ramPut (bulkBase c + o) b s | none => s
  let payload := st ++ (match d with | some (o, b) => bulkDesc o b | none => []) ++ r.body
  let flags := 2 + bit dup * 4 + bit d.isSome
  (ramPut (rspSlot c n) (message flags op token seq payload) s).mdChan c fun x => { x with rspProd := (n + 1) % 2 ^ 16 }

/-- Keep the last 16 executed requests of a session (12 R368). -/
def keepRsp (x : StoredRsp) (l : List StoredRsp) : List StoredRsp := (x :: l).take 16

/-- Store the response to an executed request (12 R368); in a pair its DELTA, with the session's, goes out before it is written
(14 R415). -/
def storeRsp (c seq crc op : Nat) (r : Rsp) (s : State) : State :=
  mirDelta (ledSession c) 64 <| mirDelta (ledStored c seq) (68 + r.body.length + r.bulk.length) <|
    s.mdChan c fun x => { x with
      rsp := r
      stored := keepRsp { seq := seq, crc := crc, opcode := op, payload := leBytes 2 r.status ++ leBytes 2 0 ++ r.body,
                          bulk := r.bulk } x.stored }

/-- The response that a request of the session waited for is complete (13 R378): it is stored, and written into its
slot. -/
def answer (c seq : Nat) (r : Rsp) (s : State) : State :=
  match (s.chan c).wait.find? (fun w => w.seq == seq) with
  | none => s
  | some w =>
    let token := (s.chan c).token
    let s := s.mdChan c fun x => { x with wait := x.wait.filter fun y => y.seq != seq }
    let s := storeRsp c seq w.crc w.opcode r s
    match w.idx with
    | some n => writeRsp c n w.opcode token seq false none r s
    | none => s

/-- A response of EFFECT alone, in whole nanoseconds (13 R375). -/
def effectRsp (t : Time) : Rsp := { body := leBytes 8 (t / ns) }

/-- The answer to a staged command, where one waits. -/
def Staged.answer (g : Staged) (r : Rsp) (s : State) : State :=
  match g.rsp with | some q => Machine.answer g.by_ q r s | none => s

end Sys2Proof.Machine
end

