-- ==== Sys2Proof/Machine/Secure.lean ====
section
/-!
DEFINITION. Parameter sets as records and bytes (09 R272, R273), what a set in force does to the rest of the machine,
the secure region with its image in the sealed journal (15 R446, R447), and the wipe (15 R448).
-/
namespace Sys2Proof.Machine

/-- Every record of a part of a set, defaults included, in the order of R272; one without value has no bytes. -/
def setRecords (ps : ParamSet) (safety : Bool) : List ParamRec :=
  (paramDefs.filter fun d => d.safety == safety).flatMap fun d =>
    (List.range d.inst.count).flatMap fun i => (List.range d.subs).map fun j =>
      { pid := d.pid, inst := i, sub := j, val := (prmB ps d.pid i j).getD [] }

/-- One serialised record (09 R272). -/
def ParamRec.bytes (r : ParamRec) : Bytes :=
  leBytes 2 r.pid ++ leBytes 1 r.inst ++ leBytes 1 r.sub ++ leBytes 2 r.val.length ++ r.val

/-- The canonical serialisation of a part of a set (09 R272). -/
def serialise (ps : ParamSet) (safety : Bool) : Bytes :=
  let rs := setRecords ps safety
  leBytes 4 0x53464C46 ++ leBytes 2 1 ++ leBytes 2 rs.length ++ rs.flatMap ParamRec.bytes

/-- The check value of the safety part (09 R273). -/
def checkValue (ps : ParamSet) : Nat := crc32c (serialise ps true)

/-- Records of one part of a sparse set. -/
def partOf (ps : ParamSet) (safety : Bool) : ParamSet :=
  ps.filter fun r => match findDef r.pid with | some d => d.safety == safety | none => false

/-- Two parts merged, in the order of R272. -/
def mergeSets (a b : ParamSet) : ParamSet := b.foldl (fun acc r => putRec r acc) a

/-- The set in force has its confirmation record (09 R277). -/
def State.confirmed (s : State) : Bool :=
  s.ssv.copyOk && match s.ssv.conf with | some c => c.check == checkValue s.ps | none => false

/-- Active limits a set gives an axis (03 Table 03-3). -/
def limOf (ps : ParamSet) (n : Nat) : Limits :=
  { v := prmN ps Pid.VMAX n, a := prmN ps Pid.AMAX n, d := prmN ps Pid.DMAX n, j := prmN ps Pid.JMAX n }

/-- Active limits after a set replaces another: a limit follows where the set changes it, and keeps what SET_LIMITS gave it
where the set does not (03 R77, 13 R385; DEDUCED, notes/assumptions 53). -/
def limFollow (old new : ParamSet) (n : Nat) (l : Limits) : Limits :=
  let a := limOf old n
  let b := limOf new n
  { v := if a.v = b.v then l.v else b.v, a := if a.a = b.a then l.a else b.a
    d := if a.d = b.d then l.d else b.d, j := if a.j = b.j then l.j else b.j }

/-- Time-base registers that a set holds (13 Table 13-4, base 0x0240), but for SRC. -/
def tbOf (ps : ParamSet) (t : TbSt) : TbSt :=
  { t with
    ppsOutAlways := prmN ps Pid.TB_PPSOUT_ALWAYS 0 == 1, ppsInPol := prmN ps Pid.TB_PPSIN_POL 0 == 1
    relabelEn := prmN ps Pid.TB_RELABEL_EN 0 == 1
    slewFast := prmN ps Pid.TB_SLEW_FAST 0, slewRun := prmN ps Pid.TB_SLEW_RUN 0
    holdLimit := prmN ps Pid.TB_HOLD_LIMIT 0, holdDrift := prmN ps Pid.TB_HOLD_DRIFT 0
    ppsOutComp := prmI ps Pid.TB_PPSOUT_COMP 0, ppsOutWidth := prmN ps Pid.TB_PPSOUT_WIDTH 0 }

/-- E127 of a change of the time-base state: TB_OFFSET and KIND 0 (13 Table 13-19). -/
def raiseTb (s : State) : State := raiseEv 127 Sts.OK 0 (ofSigned 32 s.tb.theta) 0 s

/-- Ramp limit of RATE between cell cycles, 0.1 ppm in 2^-40 (02 R46, R52). -/
def rateRamp : Int := 109951

/-- The frequency term takes a value: it joins the history for its 1 s mean (02 Table 02-3). -/
def tbSetFreq (f : Int) (s : State) : State :=
  let old := s.tb.freqHist
  let recent := old.takeWhile fun e => decide (e.1 + sec > s.cyc.now)
  let edge := (old.drop recent.length).take 1
  { s with tb := { s.tb with freq := f, freqHist := (s.cyc.now, f) :: (recent ++ edge) } }

/-- In FREE the frequency term goes to 0: at once, or in steps of the ramp limit while motion is enabled (02 Table 02-3). -/
def tbFreeFreq (s : State) : State :=
  if s.tb.state ≠ .free ∨ s.tb.freq = 0 then s
  else tbSetFreq (if s.anyBusy then clampI (s.tb.freq - rateRamp) (s.tb.freq + rateRamp) 0 else 0) s

/-- One step of RATE toward the sum of its terms: at once, or by at most the ramp limit while motion is enabled
(02 R46, R52). -/
def tbRate (s : State) : State :=
  let s := tbFreeFreq s
  let goal := s.tb.freq + s.tb.slew
  { s with tb := { s.tb with
      rate := if s.anyBusy then clampI (s.tb.rate - rateRamp) (s.tb.rate + rateRamp) goal else goal } }

/-- Where a term changes outside a cell cycle, RATE follows at once unless the ramp limit governs (02 R46). -/
def tbFollow (s : State) : State := if s.anyBusy then s else tbRate s

/-- A write to TB_CTRL.SRC (02 Table 02-3): slew term 0; FREE also takes the frequency term to 0, in the steps of `tbRate`. -/
def tbWriteSrc (src : Nat) (s : State) : State :=
  let next := if src = 0 then TbState.free else .acquiring
  let was := s.tb.state
  let s := tbFollow { s with tb := { s.tb with
    src := src, slew := 0, slewFastAct := false, state := next, lockRun := 0, missRun := 0, thetaPrev := none
    lastValid := s.cyc.now } }
  if was = next then s else raiseTb s

/-- The firmware sets MIRROR in the Shadow role (02 R50): a write of SRC. -/
def tbMirror (s : State) : State := if s.tb.src = 4 then s else tbWriteSrc 4 s

/-- A set comes in force (12 R373): the active limits and the time-base registers follow it, and a VIRTUAL axis is
AVAILABLE; the cell bus follows at its next boundary (11 R348). In the Shadow role TB_CTRL.SRC stays MIRROR (02 R50). A set whose TB_SRC is the SRC in force writes no SRC: whether a
write of an unchanged value restarts the acquisition of 02 R53 the spec leaves open (DESIGN CHOICE, notes/assumptions 81). -/
def setInForce (ps : ParamSet) (s : State) : State :=
  let src := prmN ps Pid.TB_SRC 0
  let s := if src = s.tb.src || s.mlc.role = .shadow then s else tbWriteSrc src s
  { s with
    sets := { s.sets with com := ps, gen := s.sets.gen + 1 }
    ssv := { s.ssv with copyOk := true }
    tb := tbOf ps s.tb
    axes := vmapI s.axes fun n a => { a with
      lim := limFollow s.sets.com ps n a.lim
      flags := { a.flags with available := if axType ps n = .virtual then true else a.flags.available } } }

/-- Code of an operating mode (09 Table 09-11). -/
def OpMode.code : OpMode → Nat
  | .uncommissioned => 0 | .commissioned => 1 | .service => 2

/-- Bits burned in a group of eight (16 R462). -/
def bitCount (v : Nat) : Nat := ((List.range 8).filter fun i => v.testBit i).length
/-- Fused life-cycle state: 0 MANUFACTURE, 1 FIELD, 2 RETIRED (16 R462). -/
def FuseSt.state (f : FuseSt) : Nat :=
  if 5 ≤ bitCount f.retiredGrp then 2 else if 5 ≤ bitCount f.fieldGrp then 1 else 0
/-- HLT_LIFECYCLE (16 Table 16-6). -/
def FuseSt.lifecycle (f : FuseSt) : Nat := f.retiredGrp * 256 + f.fieldGrp

/-- HIF_STATUS.MODE (12 Table 12-4). -/
def State.modeCode (s : State) : Nat := if s.hlt.fuses.state = 1 then s.ssv.mode.code else 3

/-- Change the operating mode and raise E80 (09 Table 09-12). -/
def setMode (m : OpMode) (s : State) : State :=
  let s' := { s with ssv := { s.ssv with mode := m } }
  if s.ssv.mode = m then s'
  else raiseEv 80 Sts.OK 0xFF 0 (m.code + bit s'.confirmed * 4) s'

/-- What the secure region holds now (15 Table 15-10). -/
def State.secImage (s : State) : SecureImg :=
  { conf := s.ssv.conf, set := partOf s.ps true, eng := s.ssv.eng, audit := s.ssv.audit, auditNext := s.ssv.auditNext,
    timers := (vlist s.ssv.brakes).map (·.saved), castle := s.mlc.castleAge.1 + (s.cyc.now - s.mlc.castleAge.2) / ms,
    secret := s.mlc.secret, serial := s.mlc.pairSerial }

/-- The region has changed: the change waits to be appended to the journal (15 R447), and crosses to a Shadow (14 Table 14-4). -/
def secTouch (s : State) : State := mirDelta regSecure 0xC00 { s with ldg := { s.ldg with journalDue := true } }

/-- An audit record is added; the log keeps the last 4 096 (13 R391, 15 Table 15-10). -/
def addAudit (eng check opcode status target : Nat) (s : State) : State :=
  let r : AuditRec := { time := s.cyc.now / ns, number := s.ssv.auditNext, eng := eng, check := check, opcode := opcode,
                        status := status, target := target }
  let l := s.ssv.audit ++ [r]
  secTouch { s with ssv := { s.ssv with audit := l.drop (l.length - 4096), auditNext := s.ssv.auditNext + 1 } }

/-- The proof a peer must send: the first 16 bytes of HMAC-SHA-256, keyed with the pairing secret, over both nonces and both
serials, the sender's first (14 R422; notes/assumptions 71). -/
def pairProof (secret : Bytes) (nonceA nonceB serialA serialB : Nat) : Bytes :=
  (hmac256 secret (leBytes 16 nonceA ++ leBytes 16 nonceB ++ leBytes 8 serialA ++ leBytes 8 serialB)).take 16

/-- HELLO as the unit sends it (14 Table 14-4): serial, nonce, role, epoch, check value in force and, once the peer's nonce and the
secret are there, the proof; the places of the fields in its 96 bytes are the model's (DESIGN CHOICE, notes/assumptions 71). -/
def helloBytes (s : State) : Bytes :=
  let m := s.mlc
  let proof := match m.secret, m.peer with
    | some k, some p => pairProof k m.nonce p.2.1 Config.serial.toNat p.1
    | _, _ => List.replicate 16 0
  leBytes 8 Config.serial.toNat ++ leBytes 16 m.nonce ++ leBytes 4 m.role.code ++ leBytes 4 s.dl.epoch ++ leBytes 4 (checkValue s.ps)
    ++ leBytes 12 0 ++ proof ++ List.replicate 32 0

/-- A HELLO goes out in place of the one before (14 R401, Table 14-4). -/
def sendHello (s : State) : State :=
  mirSend 0x03 (s.cyc.t0 / tCtl % 2 ^ 32) 0 96 none { s with mlc := { s.mlc with
    helloOut := helloBytes s, unacked := s.mlc.unacked.filter fun f => f.typ != 3 } }

/-- Castling age written after a wipe: CASTLE_INTERVAL − CASTLE_LEAD, in ms (15 R448). -/
def wipeCastle (ps : ParamSet) : Nat := (prmN ps Pid.CASTLE_INTERVAL 0 - prmN ps Pid.CASTLE_LEAD 0) * 3600000

/-- The wipe of the secure region with its cause (15 R448). -/
def wipe (cause : Nat) (s : State) : State :=
  let paired := s.mlc.secret.isSome
  let s := (s.fw.setNext.filter fun x => x.part == 0).foldl
    (fun s x => match x.rsp with
      | some (c, q) => answer c q { status := Sts.NOT_CONFIRMED } s
      | none => s) { s with fw := { s.fw with setNext := s.fw.setNext.filter fun x => x.part != 0 } }
  let s := s.sets.flash.foldl (fun s x => finishTicket x.ticket Sts.NOT_CONFIRMED s) { s with sets := { s.sets with flash := [] } }
  let n : Nat := min 64 (s.hlt.fuses.wipes + 1)
  let ex := decide (n = 64)
  let s := { s with
    hif := { s.hif with ch := vmapI s.hif.ch fun _ c => { c with
        trans := match c.trans with | some t => if t.part = 0 then none else some t | none => none } }
    ldg := { s.ldg with
      mem := s.ldg.mem.filter fun c => decide (c.1 < regSecure)
      banks := vmapI s.ldg.banks fun _ b => { b with span := false, run := 0 }
      wipeCause := cause, journal := none, journalRecs := 0, journalDue := false, journalKey := n, replay := none
      erasing := true }
    hlt := { s.hlt with fuses := { s.hlt.fuses with wipes := n }, sealEx := s.hlt.sealEx || ex }
    ssv := { s.ssv with
      conf := none, eng := [], audit := [], auditNext := 0
      brakes := vmapI s.ssv.brakes fun _ b => { b with
        timer := prmN s.ps Pid.BK_INTERVAL 0 * sec, saved := prmN s.ps Pid.BK_INTERVAL 0 } }
    mlc := { s.mlc with
      secret := none, pairSerial := 0, castleAge := (wipeCastle s.ps, s.cyc.now) } }
  let s := if paired then raiseEv 109 Sts.OK 0 0 3 s else s
  let s := if s.mlc.role = .active then shadowTo .absent 1 s else s
  let s := raiseEv 126 Sts.OK 0 (checkValue s.ps) 3 s
  let s := if ex then raiseEv 119 Sts.OK 0 s.hlt.fuses.lifecycle 1 s else s
  let s := setMode .uncommissioned s
  faultF2s (allScopes.filter fun k => decide ((s.sc k).fn = .enabled)) Sts.NOT_CONFIRMED 7 s

/-- The operating mode of the part at the end of start-up (16 R464): the image of the journal comes back. -/
def restoreImage (i : SecureImg) (s : State) : State :=
  let s := setInForce (mergeSets (partOf s.ps false) i.set) s
  { s with
    ssv := { s.ssv with
      conf := i.conf, eng := i.eng, audit := i.audit, auditNext := i.auditNext
      brakes := vmapI s.ssv.brakes fun k b => { b with timer := lget i.timers k * sec, saved := lget i.timers k } }
    mlc := { s.mlc with secret := i.secret, pairSerial := i.serial, castleAge := (i.castle, s.cyc.now) } }

end Sys2Proof.Machine
end

