-- ==== Sys2Proof/Machine/Units.lean ====
section
/-!
DEFINITION. Units, spares and repair records (16 R453 to R460): moving the work of a unit to a spare, the pools,
retirement, and breaking the locks of a retired owner (15 R443).
-/
namespace Sys2Proof.Machine

/-- Units that Table 16-3 of chapter 16 numbers. -/
def unitTotal : Nat := unitCounts.foldl (· + ·) 0

/-- Place of a unit in the list of units; the rovers, interpolators 60 to 63, stand behind those of Table 16-3 (DEDUCED,
notes/assumptions 86). -/
def unitPos (cls idx : Nat) : Nat :=
  if cls = 8 ∧ 60 ≤ idx then unitTotal + (idx - 60) else (unitCounts.take cls).foldl (· + ·) 0 + idx

/-- Does Table 16-3 have this unit. -/
def isUnit (cls idx : Nat) : Bool := decide (cls < 10) && decide (idx < unitCounts.getD cls 0)

/-- Units of a class that a self-test can end on: the rovers are tested too (02 R44, 16 R457). -/
def testedUnits (cls : Nat) : Nat := if cls = 8 then 64 else unitCounts.getD cls 0

/-- A unit. -/
def State.unit (s : State) (cls idx : Nat) : UnitSt := lget s.hlt.units (unitPos cls idx)

/-- Change a unit. -/
def State.mdUnit (s : State) (cls idx : Nat) (f : UnitSt → UnitSt) : State :=
  { s with hlt := { s.hlt with units := s.hlt.units.modify (unitPos cls idx) f } }

/-- Units of a class. -/
def State.unitsOf (s : State) (cls : Nat) : List UnitSt := s.hlt.units.filter fun u => u.cls == cls

/-- Free spares of a class, ascending. -/
def State.spares (s : State) (cls : Nat) : List Nat :=
  ((s.unitsOf cls).filter fun u => decide (u.st = .spare)).map (·.idx)

/-- Places left for the roving interpolators: the last one that works always roves (16 Table 16-3). -/
def State.roverPlaces (s : State) : Nat := (s.spares 8).length - 1

/-- Working datapaths of a cluster (06 R179). -/
def State.dpWorking (s : State) (c : Nat) : Nat :=
  ((s.unitsOf 1).filter fun u => u.idx / 4 == c && decide (u.st = .inService)).length

/-- Both slices of a port are good: the one that does not run is its spare. A port whose unit is SUSPECT or RETIRED runs on the only
one left (16 Table 16-3). -/
def State.sliceFree (s : State) (i : Nat) : Bool := decide ((s.unit 6 i).st = .inService)

/-- Some lane in service serves the axis (16 R453). -/
def State.served (s : State) (n : Nat) : Bool := (s.unitsOf 0).any fun u => decide (u.st = .inService) && u.serves == n

/-- The class has a spare pool (16 Table 16-3). -/
def hasPool (cls : Nat) : Bool := cls != 1 && cls != 9

/-- The spare that would take the work of a unit: the free spare of the same cluster for a lane, else the lowest
(03 R63, 16 R455). -/
def State.spareFor (s : State) (cls idx : Nat) : Option Nat :=
  match cls with
  | 0 => match (s.spares 0).find? fun i => i / 17 == idx / 17 with | some i => some i | none => (s.spares 0).head?
  | 2 => if (s.spares 2).contains 8 then some 8 else (s.spares 2).head?
  | 6 => if s.sliceFree idx then some idx else none
  | 8 => if s.roverPlaces = 0 then none else (s.spares 8).head?
  | _ => (s.spares cls).head?

/-- Free count of a pool after which POOL_LOW and POOL_EXHAUSTED are judged. -/
def State.poolFree (s : State) (cls idx : Nat) : Nat :=
  match cls with
  | 1 => s.dpWorking (idx / 4)
  | 6 => bit (s.sliceFree idx)
  | 8 => s.roverPlaces
  | _ => (s.spares cls).length

/-- Low mark of a class (16 Table 16-3); pools of one have none. -/
def poolMark (cls : Nat) : Option Nat :=
  match cls with | 0 => some 1 | 1 => some 2 | 3 => some 1 | 8 => some 1 | _ => none

/-- Raise POOL_LOW or POOL_EXHAUSTED of a class after a spare went (16 R454, Table 16-11). -/
def poolEvents (cls idx : Nat) (s : State) : State :=
  let f := s.poolFree cls idx
  if f = 0 && cls != 1 then
    raiseEv 117 Sts.POOL_EXHAUSTED cls 0 0 { s with hlt := { s.hlt with poolEx := s.hlt.poolEx ||| 2 ^ cls } }
  else if poolMark cls = some f then
    raiseEv 116 Sts.POOL_LOW cls f f { s with hlt := { s.hlt with poolLow := s.hlt.poolLow ||| 2 ^ cls } }
  else s

/-- Requester whose locks and grants belong to a unit: a tile, or a whole safety or link block (15 Table 15-11). -/
def unitReq (cls idx : Nat) : Option Nat :=
  match cls, idx with
  | 2, i => some (1 + i)
  | 9, 0 => some 14
  | 9, 1 => some 15
  | 9, 4 => some 16
  | 9, 5 => some 17
  | 9, 6 => some 18
  | 9, 7 => some 20
  | _, _ => none

/-- Break the locks a requester holds (15 R443). -/
def breakLocks (req : Nat) (s : State) : State :=
  { s with ldg := { s.ldg with locks := vmapI s.ldg.locks fun _ l =>
      if l.state = 1 ∧ l.owner = req then { l with state := 2, owner := 0 } else l } }

/-- HLT_REPAIR (16 Table 16-4): the 32 bits of a repair record. -/
def repairBits (cls idx spare cause : Nat) : Nat :=
  let hi := cls * 2 ^ 28 + idx % 128 * 2 ^ 21 + spare % 128 * 2 ^ 14 + cause * 2 ^ 11
  hi + (255 - Nat.xor (Nat.xor (hi / 2 ^ 24 % 256) (hi / 2 ^ 16 % 256)) (hi / 2 ^ 8 % 256))

/-- CHECK of a record matches (16 R459). -/
def repairOk (r : Nat) : Bool :=
  r % 256 == 255 - Nat.xor (Nat.xor (r / 2 ^ 24 % 256) (r / 2 ^ 16 % 256)) (r / 2 ^ 8 % 256)

/-- Burn a repair record (16 R460): E118, and POOL_LOW at 88 and POOL_EXHAUSTED at 96 records, class 10. -/
def burnRecord (cls idx spare cause : Nat) (s : State) : State :=
  let n := s.hlt.fuses.repairs.length
  if 96 ≤ n then s else
  let r := repairBits cls idx spare cause
  let s := raiseEv 118 Sts.OK cls n r
    { s with hlt := { s.hlt with fuses := { s.hlt.fuses with repairs := s.hlt.fuses.repairs ++ [r] } } }
  if n + 1 = 88 then raiseEv 116 Sts.POOL_LOW 10 8 8 { s with hlt := { s.hlt with poolLow := s.hlt.poolLow ||| 2 ^ 10 } }
  else if n + 1 = 96 then raiseEv 117 Sts.POOL_EXHAUSTED 10 0 0 { s with hlt := { s.hlt with poolEx := s.hlt.poolEx ||| 2 ^ 10 } }
  else s

/-- A cluster without a working datapath: its axes are faulted F2 and the controller raises F3 (06 R179). -/
def clusterDown (c : Nat) (s : State) : State :=
  if s.dpWorking c ≠ 0 then s
  else
    let ks := (((List.range 64).filter fun n => s.clusterOf n == c).map s.axSc).eraseDups
    faultF3 false Sts.SELFTEST_FAILED (faultF2s ks Sts.SELFTEST_FAILED 7 s)

/-- What a retirement does in the unit's own block. -/
def retireEffects (cls idx : Nat) (s : State) : State :=
  let s := match unitReq cls idx with | some r => breakLocks r s | none => s
  match cls with
  | 1 => clusterDown (idx / 4) { s with dps := vmd s.dps idx fun d => { d with retired := true } }
  | 2 => { s with tiles := vmd s.tiles idx fun t => { t with arm := none } }
  | 7 => s.mdPort idx fun p => { p with retired := true }
  | 8 => { s with tb := { s.tb with
      interp := vmd s.tb.interp idx fun i => { i with retired := true, away := false }
      rovers := vmapI s.tb.rovers fun r v => if 60 + r = idx then { v with part := 3 } else v } }
  | _ => s

/-- A unit is RETIRED: its record is burned (16 R453, R460). -/
def retireUnit (cls idx spare cause : Nat) (s : State) : State :=
  let s := burnRecord cls idx spare cause s
  let s := s.mdUnit cls idx fun u => { u with st := .retired, serves := 127, cmdTest := none }
  retireEffects cls idx s

/-- The arm a tile serves loses the tile: a solve in progress is struck, and the arm moves to the tile given at its next
plan-period start, or keeps none (07 R208, Table 07-4). -/
def tileLost (tile : Nat) (next : Option Nat) (s : State) : State :=
  match (vrd s.tiles tile).arm with
  | none => s
  | some k =>
    let s := s.mdPlr k fun p => { p with
      tileNext := next, tile := if next.isSome then p.tile else none
      solve := p.solve.map fun v => if v.tile = tile then { v with tileErr := true } else v }
    if next.isSome then s else { s with tiles := vmd s.tiles tile fun t => { t with arm := none } }

/-- What moving the work of a unit does in its own block (16 Table 16-3, "Takeover"). -/
def takeover (cls idx spare : Nat) (s : State) : State :=
  match cls with
  | 2 => tileLost idx (some spare) s
  | 3 =>
    match (List.range 32).find? fun b => (vrd s.ldg.banks b).phys == idx with
    | some b => { s with ldg := { s.ldg with banks := vmd s.ldg.banks b fun k => { k with filling := true, fillTo := spare } } }
    | none => s
  | 5 => laneOut idx s
  | 6 => { s with hlt := { s.hlt with slices := Nat.xor s.hlt.slices (2 ^ idx) } }
  | 8 => { s with tb := { s.tb with rovers := vmd s.tb.rovers (spare - 60) fun r => { r with fixed := true, chan := idx } } }
  | _ => s

/-- What an empty pool means for the unit's class (16 Table 16-3, "Pool empty"). An axis whose lane is lost is not AVAILABLE (16 R453);
a retired transceiver waits for the move to a board spare, or leaves its port FAULTED (10 R313; DEDUCED, notes/assumptions 87). -/
def poolEmpty (cls idx status : Nat) (s : State) : State :=
  match cls with
  | 0 =>
    match (vrd s.lanes idx).axis with
    | some n => (faultF2 (s.axSc n) status 7 s).mdAx n fun a => { a with flags := { a.flags with available := false } }
    | none => s
  | 2 => tileLost idx none s
  | 4 => faultF3 false status s
  | 5 => laneOut idx s
  | 7 => s.mdPort idx fun p => { p with retired := true }
  | 8 => { s with tb := { s.tb with interp := vmd s.tb.interp idx fun i => { i with away := true } } }
  | 9 => faultF3 (idx == 0 || idx == 1) status s
  | _ => s

/-- A unit becomes SUSPECT (16 R453): its work moves to a spare, or its pool is empty; E114. -/
def suspectUnit (cls idx status : Nat) (cmd : Option Nat) (s : State) : State :=
  let u := s.unit cls idx
  match u.st with
  | .suspect => s
  | .retired => s
  | .spare =>
    let s := s.mdUnit cls idx fun x => { x with st := .suspect, cmdTest := cmd.map fun t => (t, UState.spare) }
    poolEvents cls idx (raiseEv 114 Sts.OK cls idx (127 * 2 ^ 24 + status) s)
  | .inService =>
    let sp := if hasPool cls then s.spareFor cls idx else none
    let s := s.mdUnit cls idx fun x => { x with
      st := .suspect, serves := if sp.isSome && cls != 6 then 127 else x.serves, served := x.serves, stuck := sp.isNone,
      cmdTest := cmd.map fun t => (t, UState.inService) }
    let s := match sp with
      | some j =>
        let s := if cls != 6 then s.mdUnit cls j fun x => { x with st := .inService, serves := u.serves } else s
        poolEvents cls idx (takeover cls idx j s)
      | none => if hasPool cls || cls == 9 then poolEmpty cls idx status s else poolEvents cls idx s
    raiseEv 114 Sts.OK cls idx (sp.getD 127 * 2 ^ 24 + status) s

/-- An error of Table 16-3 or a SELF_TEST command strikes a unit. A driver slice whose port has no other left retires the port's
transceiver: the error is one of class 7, or of class 5 for a Mirror lane. -/
def suspect (cls idx status : Nat) (cmd : Option Nat) (s : State) : State :=
  if cls = 6 ∧ (s.unit 6 idx).st = .retired then
    if idx < 36 then suspectUnit 7 idx status none s else suspectUnit 5 (idx - 36) status none s
  else suspectUnit cls idx status cmd s

end Sys2Proof.Machine
end

