-- ==== Sys2Proof/Machine/Health.lean ====
section
/-!
DEFINITION. Health (chapter 16): the tempo monitor and its margins, the voltage loop with its PMBus, unit errors and
self-tests, and the final test of manufacture.
-/
namespace Sys2Proof.Machine

/-! ### Tempo -/

/-- MAC count S of a solve (07 R211) with n joints, N intervals and K iterations. -/
def solveMacs (n nn k : Nat) : Nat :=
  let s := 2 * n
  let m := n + 4
  let r := 4 * n + 12
  let l := 13440 + 180 * n
  let f := 12 * n * n + 3 * s * s * m + 2 * m * m * s + 2 * s * s * s + m * (m * m - 1) / 6
  let i := 2 * s * s + 4 * s * m + m * m + 25 * n + 5 * r + s + m
  nn * (l + f + k * i) + (nn + 1) * (36 * n + 216)

/-- S of an arm in a set. -/
def armMacs (ps : ParamSet) (k : Nat) : Nat :=
  solveMacs (armAxes ps k).length (prmN ps Pid.HORIZON_N k) (prmN ps Pid.ADMM_K k)

/-- Plan period of an arm, µs (07 Table 07-8). -/
def planPeriodUs (ps : ParamSet) (k : Nat) : Nat := prmN ps Pid.PLAN_PERIOD k

/-- CURRENT load of a lane in handshakes (06 R178): 99 for SERVO, 46 or 80 with an encoder for STEPPER; EXTERNAL and
VIRTUAL axes have no current loop. -/
def laneLoad (ps : ParamSet) (n : Nat) : Nat :=
  match axType ps n with
  | .servo => 99 | .stepper => if hasEnc ps n then 80 else 46 | _ => 0

/-- CURRENT load of a cluster's axes in the set. -/
def clusterLoad (ps : ParamSet) (s : State) (c : Nat) : Nat :=
  ((vlist s.lanes).mapIdx fun i l => if i / 17 = c then (match l.axis with | some n => laneLoad ps n | none => 0) else 0).foldl (· + ·) 0

/-- Projected rate R of a domain in completions per ms (16 R449): r × K × D, with K and D as fused words in 2^-15 and
2^-16 (PRESUMED, notes/assumptions 40: the spec gives their width only). -/
def projRate (d r : Nat) (tj : Int) : Nat :=
  r * (Config.tempoK d).toNat * (Config.tempoD tj).toNat / 2 ^ 31

/-- Arm an unassigned tile is judged by: the defined arm of largest S (16 Table 16-1). -/
def largestArm (ps : ParamSet) : Option Nat :=
  (List.range 8).foldl (fun b k => if (armAxes ps k).isEmpty then b else
    match b with
    | none => some k
    | some x => if armMacs ps x < armMacs ps k then some k else some x) none

/-- Margin in Q1.15 of work `w` against a rate in 1/ms and a time window in ns: 1 − W / (R × T_win), saturated. -/
def deadlineMargin (w rate tns : Nat) : Int :=
  if w = 0 then 32767
  else if rate * tns = 0 then -32768
  else clampI (-32768) 32767 ((32768 : Int) - cdiv ((w * 1000000 * 32768 : Nat) : Int) ((rate * tns : Nat) : Int))

/-- Margin of a rate domain: 1 − R_spec / R, saturated. -/
def rateMargin (spec rate : Nat) : Int :=
  if rate = 0 then -32768 else clampI (-32768) 32767 ((32768 : Int) - cdiv ((spec * 32768 : Nat) : Int) (rate : Int))

/-- Margin of a tempo domain (16 R449, Table 16-1). -/
def domainMargin (s : State) (d r : Nat) (tj : Int) : Int :=
  let R := projRate d r tj
  if d < 4 then deadlineMargin (clusterLoad s.ps s d) (R * max 1 (s.dpWorking d)) 6000
  else if d < 13 then
    match (match (vrd s.tiles (d - 4)).arm with | some k => some k | none => largestArm s.ps) with
    | none => 32767
    | some k =>
      -- MAC/s = 25e9 × R / 450e6 completions a second
      deadlineMargin (armMacs s.ps k * 9) (R * 500) (planPeriodUs s.ps k * 1000 - 65625)
  else if d < 15 then deadlineMargin (Config.tempoW d).toNat R 121000
  else if d = 15 then deadlineMargin (Config.tempoW d).toNat R 15625
  else if d = 17 then rateMargin 200000 R
  else rateMargin (Config.tempoSpec d).toNat R

/-- A margin is below M_LOW (1/256). -/
def belowLow (ps : ParamSet) (m : Int) : Bool := decide (m < (prmN ps Pid.M_LOW 0 : Int) * 128)

/-- E112 for one domain whose margin crosses M_LOW or 0 (16 Table 16-11). -/
def tempoEvents (d : Nat) (old new_ : Int) (s : State) : State :=
  let lo := fun m => belowLow s.ps m
  let det := fun k => ofSigned 16 new_ * 65536 + k
  let s := if !lo old && lo new_ then raiseEv 112 Sts.OK d s.hlt.vdd (det 0) s
    else if lo old && !lo new_ then raiseEv 112 Sts.OK d s.hlt.vdd (det 1) s else s
  if 0 ≤ old ∧ new_ < 0 then raiseEv 112 Sts.OK d s.hlt.vdd (det 2) s else s

/-- Smallest entry of a list with its place. -/
def minWith : Nat → List Int → Int × Nat
  | _, [] => (32767, 0)
  | i, x :: xs => let r := minWith (i + 1) xs; if r.1 < x then r else (x, i)

/-- Mask of the entries that satisfy a test. -/
def maskOf (p : Int → Bool) (l : List Int) : Nat := (l.mapIdx fun i x => if p x then 2 ^ i else 0).foldl (· + ·) 0

/-- TEMPO_MONITOR (16 R449, 17 R489): margins of the 22 domains from the replica counts of the last 1 ms; the junction
temperature drives THERM_N. -/
def execTempoMonitor (rates : List Nat) (tj : Int) (s : State) : Out :=
  .next <|
    let ms' := (List.range 22).map fun d => domainMargin s d (lget rates d) tj
    let mn := minWith 0 ms'
    let old := s.hlt.margins
    let s := { s with hlt := { s.hlt with
      tj := tj, margins := ms', marginMin := mn.1, marginDom := mn.2,
      low := maskOf (belowLow s.ps) ms', missProj := maskOf (fun m => decide (m < 0)) ms',
      therm := if 1200 ≤ tj then true else if tj < 1150 then false else s.hlt.therm } }
    (List.range 22).foldl (fun s d => tempoEvents d (lget old d) (lget ms' d) s) s

/-! ### Voltage -/

/-- READ_VOUT lies within ±10 mV of the command (16 R450). -/
def voutOk (vdd vout : Nat) : Bool := decide (vdd ≤ vout + 10) && decide (vout ≤ vdd + 10)

/-- The new voltage and high_run of one iteration (16 R450). -/
def voltStep (ps : ParamSet) (h : HltSt) : Nat × Nat :=
  let m := h.marginMin
  if m < (prmN ps Pid.M_LOW 0 : Int) * 128 && decide (h.vdd < prmN ps Pid.VDD_MAX 0) then (h.vdd + 5, 0)
  else if decide (m ≥ (prmN ps Pid.M_HIGH 0 : Int) * 128) && decide (h.vdd > 800) then
    if h.highRun + 1 = 1000 then (h.vdd - 5, 0) else (h.vdd, h.highRun + 1)
  else (h.vdd, 0)

/-- VOLTAGE_LOOP (16 R450, R452): one iteration, once FW_READY is set, PMBUS_FAIL is clear and READ_VOUT has confirmed
the last step. -/
def execVoltageLoop (vout : Nat) (s : State) : Out :=
  .next <|
    if !s.hif.fwReady || s.hlt.pmbusFail then s
    else if s.hlt.voutWait.isSome && !voutOk s.hlt.vdd vout then s
    else
      let r := voltStep s.ps s.hlt
      let old := s.hlt.vdd
      let low := belowLow s.ps s.hlt.marginMin
      let s := { s with hlt := { s.hlt with
        vdd := r.1, highRun := r.2, voutWait := if r.1 = old then none else some s.cyc.now
        warnRun := if low && decide (r.1 = prmN s.ps Pid.VDD_MAX 0) then s.hlt.warnRun + 1 else 0
        okRun := if low then 0 else s.hlt.okRun + 1 } }
      if r.1 > old then raiseEv 113 Sts.OK 0 r.1 0 s
      else if r.1 < old then raiseEv 113 Sts.OK 0 r.1 1 s
      else s

/-- TEMPO_WARNING (16 R452): set after 1 000 iterations at VDD_MAX below M_LOW; cleared after 1 000 at or above it, or
once vdd falls below VDD_MAX. -/
def execTempoWarning (s : State) : Out :=
  .next <|
    let det := fun k => ofSigned 16 s.hlt.marginMin * 65536 + k
    if !s.hlt.tempoWarn && decide (1000 ≤ s.hlt.warnRun) then
      raiseEv 112 Sts.TEMPO_WARNING s.hlt.marginDom s.hlt.vdd (det 3) { s with hlt := { s.hlt with tempoWarn := true } }
    else if s.hlt.tempoWarn && (decide (1000 ≤ s.hlt.okRun) || decide (s.hlt.vdd < prmN s.ps Pid.VDD_MAX 0)) then
      raiseEv 112 Sts.TEMPO_WARNING s.hlt.marginDom s.hlt.vdd (det 4) { s with hlt := { s.hlt with tempoWarn := false } }
    else s

/-- PMBUS_ALERT (16 R451): STATUS_WORD is read and reported in E113. -/
def execPmbusAlert (word : Nat) (s : State) : Out :=
  .next <| raiseEv 113 Sts.OK 0 s.hlt.vdd (word % 65536 * 65536 + 4) s

/-- PMBUS_VOUT_TIMEOUT (16 R451): READ_VOUT still outside ±10 mV 2 ms after a command sets PMBUS_FAIL. -/
def execPmbusVoutTimeout (s : State) : Out :=
  .next <|
    match s.hlt.voutWait with
    | none => s
    | some t =>
      if s.hlt.pmbusFail then s
      else raiseEv 113 Sts.OK 0 s.hlt.vdd 2 { s.upTo (t + 2 * ms) with hlt := { s.hlt with pmbusFail := true } }

/-- PMBUS_RETRY (16 R451): outside PMBUS_FAIL a bad transaction counts toward the three that set it; in PMBUS_FAIL the
first complete exchange clears it. -/
def execPmbusRetry (ok : Bool) (vout : Nat) (s : State) : Out :=
  .next <|
    if s.hlt.pmbusFail then
      if ok then
        raiseEv 113 Sts.OK 0 s.hlt.vdd 3 { s with hlt := { s.hlt with
          pmbusFail := false, pmbusBad := 0, voutWait := if voutOk s.hlt.vdd vout then none else s.hlt.voutWait } }
      else s
    else if ok then { s with hlt := { s.hlt with pmbusBad := 0 } }
    else if s.hlt.pmbusBad + 1 = 3 then
      raiseEv 113 Sts.OK 0 s.hlt.vdd 2 { s with hlt := { s.hlt with pmbusFail := true, pmbusBad := 0 } }
    else { s with hlt := { s.hlt with pmbusBad := s.hlt.pmbusBad + 1 } }

/-! ### Units -/

/-- UNIT_ERROR (16 R453 to R455): an error of Table 16-3 makes a unit SUSPECT. -/
def execUnitError (cls idx cause : Nat) (s : State) : Out :=
  onUnit "unit class" cls 10 <| onUnit "unit" idx (unitCounts.getD cls 0) <| .next <| suspect cls idx cause none s

/-- Glints of a unit within GLINT_WINDOW, now included (16 Table 16-2). -/
def glintsNow (ps : ParamSet) (now : Time) (l : List Time) : List Time :=
  now :: l.filter fun t => decide (now < t + prmN ps Pid.GLINT_WINDOW 0 * 86400 * sec)

/-- Work that moved to a spare for a commanded test comes back (16 Table 16-2: "as before the test"). -/
def workBack (cls idx : Nat) (s : State) : State :=
  let home := (s.unit cls idx).served
  match (s.unitsOf cls).find? fun u => decide (u.st = .inService) && u.serves == home && u.idx != idx && home != 127 with
  | some u =>
    let s := (s.mdUnit cls u.idx fun x => { x with st := .spare, serves := 127 }).mdUnit cls idx fun x => { x with serves := home }
    if cls = 2 then s.mdPlr home fun p => { p with tileNext := some idx }
    else if cls = 8 then { s with tb := { s.tb with rovers := vmd s.tb.rovers (u.idx - 60) fun r => { r with fixed := false, part := 3 } } }
    else s
  | none => s

/-- Spare that took a unit's place, for its repair record: 0x7F when none did. -/
def takenBy (cls idx : Nat) (s : State) : Nat :=
  match (s.unitsOf cls).find? fun u => decide (u.st = .inService) && u.serves == (s.unit cls idx).served && u.idx != idx && u.serves != 127 with
  | some u => u.idx
  | none => 127

/-- A unit that has passed its test serves again in its own block: an interpolator without a rover in its place (16 Table 16-3), and a
lane without a spare, whose axis is AVAILABLE again unless its port is not READY (16 R453, 10 Table 10-6). -/
def passEffects (cls idx : Nat) (s : State) : State :=
  if cls = 0 then
    let n := (s.unit 0 idx).serves
    let up := decide (axType s.ps n = .virtual)
      || (List.range 36).any fun p => decide ((s.port p).state = .ready) && (portAxes s.ps p).any fun e => e.2.2 == n
    if decide (n < 64) && up then s.mdAx n fun a => { a with flags := { a.flags with available := true } } else s
  else if cls = 8 then { s with tb := { s.tb with interp := vmd s.tb.interp idx fun i => { i with away := false } } } else s

/-- TARGETED_SELF_TEST_DONE (16 R453, R456): a Glint, a pass or a retirement; E115. -/
def execTargetedSelfTestDone (cls idx : Nat) (pass : Bool) (s : State) : Out :=
  onUnit "unit class" cls 10 <| onUnit "unit" idx (testedUnits cls) <| .next <|
    let u := s.unit cls idx
    if u.st ≠ .suspect then s
    else
      match u.cmdTest, pass with
      | some (t, before), true =>
        let s := s.mdUnit cls idx fun x => { x with st := before, cmdTest := none, stuck := false, tested := s.cyc.now }
        let s := if before = .inService then workBack cls idx s else s
        finishTicket t Sts.OK (raiseEv 115 Sts.OK cls idx 3 (passEffects cls idx s))
      | some (t, _), false =>
        let s := retireUnit cls idx (takenBy cls idx s) 3 s
        finishTicket t Sts.SELFTEST_FAILED (raiseEv 115 Sts.SELFTEST_FAILED cls idx 1 s)
      | none, true =>
        let g := glintsNow s.ps s.cyc.now u.glints
        if g.length < prmN s.ps Pid.GLINT_LIMIT 0 then
          let s := s.mdUnit cls idx fun x => { x with
            st := if (x.stuck && cls != 2) || !hasPool cls || cls = 6 then .inService else .spare,
            glints := g, stuck := false, tested := s.cyc.now }
          raiseEv 115 Sts.OK cls idx 0 (passEffects cls idx s)
        else
          raiseEv 115 Sts.OK cls idx 2 (retireUnit cls idx (takenBy cls idx s) 2 s)
      | none, false => raiseEv 115 Sts.SELFTEST_FAILED cls idx 1 (retireUnit cls idx (takenBy cls idx s) 1 s)

/-- BACKGROUND_SELF_TEST (16 R457): a unit that is not running is tested; one that is needed abandons the test. -/
def execBackgroundSelfTest (cls idx : Nat) (pass : Bool) (s : State) : Out :=
  onUnit "unit class" cls 10 <| onUnit "unit" idx (testedUnits cls) <| .next <|
    let u := s.unit cls idx
    if u.st = .spare ∨ (cls = 6 ∧ u.st = .inService) then
      if pass then raiseEv 115 Sts.OK cls idx 3 (s.mdUnit cls idx fun x => { x with tested := s.cyc.now })
      else poolEvents cls idx (raiseEv 115 Sts.SELFTEST_FAILED cls idx 1 (retireUnit cls idx 127 1 s))
    else if cls = 9 && decide (u.st = .inService) then
      -- a slice of a block's own test (16 R457, 09 Table 09-1)
      if pass then raiseEv 87 Sts.OK 0xFF 0 (1 + idx * 256) (s.mdUnit cls idx fun x => { x with tested := s.cyc.now })
      else suspect cls idx Sts.SELFTEST_FAILED none (raiseEv 87 Sts.SELFTEST_FAILED 0xFF 0 (2 + idx * 256) s)
    else if u.st = .inService then raiseEv 115 Sts.OK cls idx 4 s
    else s

/-- MANUFACTURE_FINAL_TEST (16 Table 16-7): the root key is fused, FIELD_GRP burned, the region wiped with cause 4. -/
def execManufactureFinalTest (s : State) : Out :=
  .next <|
    if s.hlt.fuses.state ≠ 0 then s
    else
      let s := { s with hlt := { s.hlt with fuses := { s.hlt.fuses with rootKey := true, fieldGrp := 255 } } }
      wipe 4 (raiseEv 119 Sts.OK 0 s.hlt.fuses.lifecycle 0 s)

end Sys2Proof.Machine
end

