-- ==== Sys2Proof/Machine/Datapath.lean ====
section
/-!
DEFINITION. The complex signal datapath (chapter 06): the operations of Table 06-1 on one datapath's
accumulators, tags and flags, the sine tables, and the ROM kernels ROT, CLARKE, CIRCLE, ENC, LA and GOERTZEL.
A kernel takes the datapath it runs on and gives it back, so that DP_SAT, DP_NAN and their counters follow
every store and addition.
-/
namespace Sys2Proof.Machine

/-- A complex operand of Q1.15 words (06 R159). -/
abbrev Cx := Int × Int

/-- An operand that is the NaN code in either word (06 R159). -/
def cxNan (x : Cx) : Bool := x.1 == nan16 || x.2 == nan16

/-- Count a saturation in DP_SAT and SAT_COUNT (06 R163). -/
def DpSt.hitSat (d : DpSt) : DpSt := { d with sat := true, satCount := incSat 255 d.satCount }

/-- Count a NaN store in DP_NAN and NAN_COUNT (06 R163). -/
def DpSt.hitNan (d : DpSt) : DpSt := { d with nan := true, nanCount := incSat 255 d.nanCount }

/-- sat40 with its flag, unless the result is NaN (06 R161, R163). -/
def dpSat40 (d : DpSt) (tag : Bool) (v : Int) : DpSt × Int :=
  if sat40 v = v || tag then (d, sat40 v) else (d.hitSat, sat40 v)

/-- Write ACC_R through sat40. -/
def dpSetR (d : DpSt) (v : Int) : DpSt :=
  let (d', w) := dpSat40 d d.nanR v
  { d' with accR := w }

/-- Write ACC_I through sat40. -/
def dpSetI (d : DpSt) (v : Int) : DpSt :=
  let (d', w) := dpSat40 d d.nanI v
  { d' with accI := w }

/-- CLR (06 Table 06-1). -/
def dpClr (d : DpSt) : DpSt := { d with accR := 0, accI := 0, nanR := false, nanI := false }

/-- LOAD x, s (06 Table 06-1); it clears no tag (R163). -/
def dpLoad (d : DpSt) (x : Int) (s : Nat) : DpSt :=
  if x = nan16 then { d with nanR := true } else { d with accR := shl x s }

/-- ADD x, s (06 Table 06-1). -/
def dpAdd (d : DpSt) (x : Int) (s : Nat) : DpSt :=
  if x = nan16 then { d with nanR := true } else dpSetR d (d.accR + shl x s)

/-- The exact product of 06 R182; `conj` takes the conjugate of b. -/
def cxProd (conj : Bool) (a b : Cx) : Cx :=
  if conj then (a.1 * b.1 + a.2 * b.2, a.2 * b.1 - a.1 * b.2)
  else (a.1 * b.1 - a.2 * b.2, a.1 * b.2 + a.2 * b.1)

/-- MUL, MAC, MSU and their conjugate forms (06 Table 06-1, R182): `clear` for MUL, `sign` ±1. -/
def dpMac (conj clear : Bool) (sign : Int) (a b : Cx) (e : Nat) (d : DpSt) : DpSt :=
  if cxNan a || cxNan b then { d with nanR := true, nanI := true } else
  let d := if clear then dpClr d else d
  let p := cxProd conj a b
  dpSetI (dpSetR d (d.accR + sign * shl p.1 e)) (d.accI + sign * shl p.2 e)

/-- RMAC ± (06 Table 06-1). -/
def dpRmac (sign : Int) (a b : Int) (e : Nat) (d : DpSt) : DpSt :=
  if a = nan16 || b = nan16 then { d with nanR := true } else dpSetR d (d.accR + sign * shl (a * b) e)

/-- DMAC ± (06 Table 06-1): two independent real products. -/
def dpDmac (sign : Int) (a b : Cx) (e : Nat) (d : DpSt) : DpSt :=
  let d := if a.1 = nan16 || b.1 = nan16 then { d with nanR := true }
    else dpSetR d (d.accR + sign * shl (a.1 * b.1) e)
  if a.2 = nan16 || b.2 = nan16 then { d with nanI := true }
  else dpSetI d (d.accI + sign * shl (a.2 * b.2) e)

/-- One stored word st(acc, s), or 0x8000 for a tagged accumulator (06 R162, R163). -/
def dpSt1 (d : DpSt) (tag : Bool) (acc : Int) (s : Nat) : DpSt × Int :=
  if tag then (d.hitNan, nan16)
  else if sat (asr acc s) = asr acc s then (d, asr acc s) else (d.hitSat, sat (asr acc s))

/-- STORE s (06 Table 06-1). -/
def dpStore (d : DpSt) (s : Nat) : DpSt × Cx :=
  let (d1, re) := dpSt1 d d.nanR d.accR s
  let (d2, im) := dpSt1 d1 d.nanI d.accI s
  (d2, (re, im))

/-- STORE of the real part alone. -/
def dpStoreR (d : DpSt) (s : Nat) : DpSt × Int := dpSt1 d d.nanR d.accR s

/-- NORM, real or complex use; a tagged accumulator gives 0 (06 R163, R164). -/
def dpNorm (cplx : Bool) (d : DpSt) : DpSt :=
  let nr := if d.nanR then 0 else nrs d.accR
  let ni := if d.nanI then 0 else nrs d.accI
  { d with norm := if cplx then min nr ni else nr }

/-- SHL n, both 40-bit accumulators (06 Table 06-1). -/
def dpShl (n : Nat) (d : DpSt) : DpSt := { d with accR := wrapS 40 (shl d.accR n), accI := wrapS 40 (shl d.accI n) }

/-- EXP and CLR_EXP (06 Table 06-1). -/
def dpExp (clr : Bool) (d : DpSt) : DpSt :=
  if clr then { d with expr := 39 } else { d with expr := min d.expr d.norm }

/-- sat() of a lane integer as a datapath word, with its flag (06 R163). -/
def dpSatW (v : Int) (d : DpSt) : DpSt × Int := if sat v = v then (d, v) else (d.hitSat, sat v)

/-- sat() of a sum (`sign` 1) or difference (−1) of two words; a NaN operand gives NaN (05 R136, 06 R163). -/
def dpSum (sign x y : Int) (d : DpSt) : DpSt × Int :=
  if x = nan16 || y = nan16 then (d.hitNan, nan16) else dpSatW (x + sign * y) d

/-! ### Kernel invocations -/

/-- What each kernel invocation of a lane leaves on the datapath that serves it, the latest first. Every kernel clears or loads
what it uses, so its result does not depend on the datapath (06 R165). -/
abbrev DpLog := List DpSt

/-- One invocation of a kernel. -/
def invoke {α : Type} (f : DpSt → DpSt × α) (l : DpLog) : DpLog × α :=
  let r := f {}
  (r.1 :: l, r.2)

/-- A datapath after it has served an invocation: its accumulators and registers, and what the invocation adds to its flags and
counters (06 R163). -/
def DpSt.served (p d : DpSt) : DpSt :=
  { d with
    satCount := min 255 (p.satCount + d.satCount), nanCount := min 255 (p.nanCount + d.nanCount), retired := p.retired
    sat := p.sat || d.sat, nan := p.nan || d.nan }

/-- The datapath of a cluster that serves an invocation: one of those in service; the times of the pool that decide which
(06 R166, R178) the spec leaves open, so `r` is a free value (notes/assumptions 80). -/
def pickDp (dps : Vector DpSt 16) (cluster r : Nat) : Nat :=
  let w := ((List.range 4).map (4 * cluster + ·)).filter fun i => !(vrd dps i).retired
  if w.isEmpty then 4 * cluster else lget w (r % w.length)

/-! ### Sine tables -/

/-- π in units of 2^-128. -/
def pi128 : Int := 1069028584064966747859680373161870783300

/-- The Taylor terms of sin for an argument x and its square, in 2^-128. -/
def sinTerms (x2 : Int) : Nat → Int → Int → Int
  | 0, _, acc => acc
  | k + 1, t, acc =>
    let m : Int := (30 - (k + 1) : Nat)
    let t' := -(asr (t * x2) 128) / ((2 * m + 2) * (2 * m + 3))
    sinTerms x2 k t' (acc + t')

/-- SIN[r] = 32 767 × sin(π r / 8 192), nearest, halves away from zero, r = 0 to 4 096 (04 R104). -/
def sinTab (r : Nat) : Int :=
  let x := pi128 * (r : Int) / 8192
  let s := sinTerms (asr (x * x) 128) 30 x x
  if r ≥ 4096 then 32767 else roundHA (32767 * s) ((2 : Int) ^ 128)

/-- sin of a 14-bit angle e (04 R104). -/
def sin14 (e : Nat) : Int :=
  let e := e % 16384
  let r := e % 4096
  match e / 4096 with
  | 0 => sinTab r
  | 1 => sinTab (4096 - r)
  | 2 => -sinTab r
  | _ => -sinTab (4096 - r)

/-- cos of a 14-bit angle e (04 R104). -/
def cos14 (e : Nat) : Int := sin14 (e + 4096)

/-- sin16 of a 16-bit angle (06 R168). -/
def sin16 (t : Nat) : Int :=
  let t := t % 65536
  let e := t / 4
  let f : Int := (t % 4 : Nat)
  if f = 0 then sin14 e else sin14 e + (sin14 (e + 1) - sin14 e) * f / 4

/-- cos16 of a 16-bit angle (06 R168). -/
def cos16 (t : Nat) : Int := sin16 (t + 0x4000)

/-! ### Kernels of the current path -/

/-- ROT, forward (Park) or inverse (06 R169). -/
def kRot (fwd : Bool) (v : Cx) (t : Nat) (d : DpSt) : DpSt × Cx :=
  dpStore (dpMac fwd true 1 v (cos16 t, sin16 t) 0 d) 15

/-- CLARKE: i_α and i_β of phase currents a and b (04 R119). -/
def kClarke (ia ib : Int) (d : DpSt) : DpSt × Cx :=
  let (d1, be) := dpStoreR (dpRmac 1 ib 18919 1 (dpRmac 1 ia 18919 0 (dpClr d))) 15
  (d1, (ia, be))

/-- CIRCLE: limit (x, y) to radius r with x priority; also whether a clamp acted (04 R120, R122). -/
def kCircle (r : Int) (v : Cx) (d : DpSt) : DpSt × Cx × Bool :=
  let x := clampI (-r) r v.1
  let d := dpRmac (-1) x x 0 (dpRmac 1 r r 0 (dpClr d))
  let m := isqrtI d.accR
  let y := clampI (-m) m v.2
  (d, (x, y), x != v.1 || y != v.2)

/-- One axis of PI_DQ: candidate integrator and voltage from reference, measurement and feed-forward (04 R121). -/
def kPi (kp ki iref i ff integ : Int) (d : DpSt) : DpSt × Int × Int :=
  let (d, e) := dpSum (-1) iref i d
  let d := dpRmac 1 ki e 4 { dpClr d with accR := integ }
  let cand := d.accR
  -- the last two terms are added before the one sat40 of R121
  let d := dpSetR d (cand + shl (kp * e) 4 + shl ff 15)
  let (d, u) := dpStoreR d 15
  (d, cand, u)

/-- The coil-current reference kernel REF: ⌊I × c / 32 768⌋ for cos and sin (04 R104). -/
def kRef (i : Int) (e : Nat) (d : DpSt) : DpSt × Cx := dpStore (dpDmac 1 (i, i) (cos14 e, sin14 e) 0 (dpClr d)) 15

/-- SVM: the duties of the legs of (u_α, u_β) (04 R123). -/
def kSvm (u : Cx) (d : DpSt) : DpSt × List Int :=
  let beta (c : Int) (d : DpSt) : DpSt × Int := dpStoreR (dpRmac 1 u.2 c 0 (dpRmac 1 u.1 (-16384) 0 (dpClr d))) 15
  let (d, vb) := beta 28378 d
  let (d, vc) := beta (-28378) d
  let v0 := -((max u.1 (max vb vc) + min u.1 (min vb vc)) / 2)
  [u.1, vb, vc].foldl (fun (r : DpSt × List Int) v =>
    let (d, x) := dpStoreR (dpRmac 1 (v + v0) 18919 0 (dpClr r.1)) 15
    (d, r.2 ++ [16384 + x])) (d, [])

/-! ### ENC -/

/-- wc[k], k = 3 to 10 (06 R170). -/
def encWc : List Int := [23170, 30273, 32137, 32609, 32728, 32757, 32765, 32766]

/-- ws[k], k = 3 to 10 (06 R170). -/
def encWs : List Int := [23170, 12539, 6393, 3212, 1608, 804, 402, 201]

/-- ph[k], k = 3 to 10 (06 R170). -/
def encPh : List Int := [2097152, 1048539, 524332, 262168, 131086, 65525, 32759, 16380]

/-- Result of ENC: phase in 2^-24 of a period, amplitude, NaN, and both inputs 0 (06 R170). -/
structure EncRes where
  phi : Nat := 0
  amp : Int := 0
  nan : Bool := false
  zero : Bool := false
  deriving DecidableEq, Repr, Inhabited

/-- Quarter turns of ENC: `q` times (x, y) := (y, −x). -/
def quarter : Nat → Cx → Cx
  | 0, v => v
  | q + 1, v => quarter q (v.2, -v.1)

/-- The eight rotation stages of ENC. -/
def encStages : List (Int × Int × Int) → Cx → Int → DpSt → DpSt × Cx × Int
  | [], v, phi, d => (d, v, phi)
  | (c, s, p) :: ks, v, phi, d =>
    let (d1, w) := dpStore (dpMac true true 1 v (c, s) 0 d) 15
    if w.2 ≥ 0 then encStages ks w (phi + p) d1 else encStages ks v phi d1

/-- The kernel ENC (06 R170). -/
def kEnc (s c : Int) (d : DpSt) : DpSt × EncRes :=
  if s = nan16 || c = nan16 then (d.hitNan, { nan := true })
  else if s = 0 && c = 0 then (d, { zero := true })
  else
    let n0 := min (nrs16 s) (nrs16 c)
    let n := if shl c n0 = -32768 || shl s n0 = -32768 then n0 - 1 else n0
    let x := shl c n
    let y := shl s n
    let q := if x > 0 && y ≥ 0 then 0 else if x ≤ 0 && y > 0 then 1 else if x < 0 && y ≤ 0 then 2 else 3
    let (d1, v, phi) := encStages (encWc.zip (encWs.zip encPh)) (quarter q (x, y)) ((q : Int) * 2 ^ 22) d
    let phi := (phi + fdiv (v.2 * 2670177) v.1) % 2 ^ 24
    (d1, { phi := phi.toNat, amp := asr v.1 n })

/-- Position in periods from a phase and the quarter count: none when δ is 2 (06 R172). -/
def encPeriods (phi : Nat) (qcnt : Int) : Option Int :=
  let qp : Int := (phi / 2 ^ 22 : Nat)
  let del := (qp - qcnt) % 4
  if del = 2 then none
  else
    let cor := if del = 3 then qcnt - 1 else qcnt + del
    some (cor / 4 * 2 ^ 24 + (phi : Int))

/-! ### LA -/

/-- sgn24 of 06 R173. -/
def sgn24 (v : Nat) : Int := toSigned 24 v

/-- The kernel LA of 06 R173: back-EMF vector, block normalisation, rotation into the field frame. Gives λ and
the block exponent, none where λ is invalid. The lane's records enter unclamped, as integers. -/
def kLa (gv gt : Nat × Nat) (va vb ia ib sa sb : Int) (e : Nat) (dir : Int) (d : DpSt) :
    DpSt × Option Int × Nat :=
  let d0 := dpClr d
  let pair (d : DpSt) (x y : Int) : DpSt := dpSetI (dpSetR d (d.accR + x)) (d.accI + y)
  let d1 := pair d0 (shl (gv.1 * va) gv.2) (shl (gv.1 * vb) gv.2)
  let d2 := pair d1 (-shl ia 15) (-shl ib 15)
  let d3 := pair d2 (-shl (gt.1 * sa) gt.2) (-shl (gt.1 * sb) gt.2)
  let d4 := dpExp false (dpNorm true (dpExp true d3))
  let n := d4.expr
  let (d5, be) := dpStore (dpShl n d4) 24
  if be.1 = 0 && be.2 = 0 then (d5, none, n)
  else
    let (d6, z) := dpStore (dpMac true true 1 (cos14 e, sin14 e) be 0 d5) 15
    if cxNan z then (d6, none, n)
    else
      let w : Cx := if dir ≥ 0 then (-z.2, z.1) else (z.2, -z.1)
      let (d7, r) := kEnc w.2 w.1 d6
      if r.nan || r.zero then (d7, none, n)
      else (d7, some (sat (asr (sgn24 r.phi) 8)), n)

/-- λ of a stepper with an encoder (06 R174). -/
def laEnc (e : Nat) (thetaR : Nat) : Int :=
  let v := toSigned 16 (ofSigned 16 ((4 * e : Nat) - (thetaR : Int)))
  sat v

/-! ### GOERTZEL -/

/-- Exact bin sum of a record: Σ x_i w_i in 2^-30, phase accumulator from `ph` in steps of `inc` (06 R175). -/
def goertzel (inc : Nat) : List Int → Nat → Int → Int → Int × Int
  | [], _, re, im => (re, im)
  | x :: xs, ph, re, im =>
    let t := ph / 65536
    goertzel inc xs ((ph + inc) % 2 ^ 32) (re + x * cos16 t) (im - x * sin16 t)

end Sys2Proof.Machine
end

