-- ==== Sys2Proof/Machine/Current.lean ====
section
/-!
DEFINITION. The current path (chapter 04): the chopper of a stepper phase (learn, re-anchor, plan), load-adaptive
current and stall detection, and the field-oriented current loop of a servo lane. Everything here is one lane's
computation of one current period; Machine/Cycle.lean calls it at the feedback cut-off.
-/
namespace Sys2Proof.Machine

/-- Length of an edge window in 1/4 ns (04 R107). -/
def winLen : Int := 62500

/-! ### Segments and learning (R106) -/

/-- One segment of a window: start, end, state code, and whether an edge of the phase ends it. -/
structure Seg where
  t0 : Int
  t1 : Int
  code : Nat
  edgeEnd : Bool
  deriving DecidableEq, Repr, Inhabited

/-- Segments of a window from the state code at its start and its edges. -/
def segments : Int → Nat → List Edge → List Seg
  | t, c, [] => if t < winLen then [⟨t, winLen, c, false⟩] else []
  | t, c, (o, c') :: es =>
    if (o : Int) > t then ⟨t, o, c, true⟩ :: segments o c' es else segments o c' es

/-- State kind of a code: 0 SLOW, 1 FAST, 2 ON. -/
def kindOf (c : Nat) : Nat := if c ≥ 2 then 2 else c

/-- Samples of a window that are valid: not 0x8000 and not within T_BLANK after an edge (04 R106). -/
def validSamples (times : List Int) (xs : List Int) (edges : List Edge) (last : Int) (blank : Int) :
    List (Int × Int) :=
  (times.zip xs).filter (fun x => x.2 != nan16 &&
    !((last :: edges.map (fun e => (e.1 : Int))).any (fun e => e ≤ x.1 && x.1 < e + blank)))

/-- Slopes and bias a phase has learned from one window. -/
structure Learn where
  sOn : Int
  sFast : Int
  sSlow : Int
  bias : Int
  edgeErr : Nat
  onMeas : List Int
  deriving DecidableEq, Repr, Inhabited

/-- First consecutive pair whose second value reaches `th`, else the last pair. -/
def crossPair (th : Int) : List (Int × Int) → Option ((Int × Int) × (Int × Int))
  | a :: b :: rest =>
    if b.2 ≥ th || rest.isEmpty then some (a, b) else crossPair th (b :: rest)
  | _ => none

/-- Learning from one segment with its valid samples as (time, y) (04 R106). -/
def learnSeg (th blank : Int) (l : Learn) (g : Seg) (vs : List (Int × Int)) : Learn :=
  if vs.length < 2 then l else
  let v1 := vs.headD (0, 0)
  let vm := vs.getLastD (0, 0)
  let k := kindOf g.code
  let sMeas := fdiv (vm.2 - v1.2) (vm.1 - v1.1)
  let l1 :=
    if k = 2 then { l with sOn := l.sOn + (sMeas - l.sOn) / 4, onMeas := l.onMeas ++ [sMeas] }
    else if vs.all (fun v => v.2 > 0) then
      if k = 1 then { l with sFast := l.sFast + (sMeas - l.sFast) / 4 }
      else { l with sSlow := l.sSlow + (sMeas - l.sSlow) / 4 }
    else l
  if k = 2 && g.edgeEnd then
    match crossPair th vs with
    | some (a, b) =>
      if b.2 > a.2 then
        let tx := a.1 + fdiv ((b.1 - a.1) * (th - a.2)) (b.2 - a.2)
        let err := g.t1 - tx
        { l1 with bias := clampI (-blank) blank (l1.bias - err / 4), edgeErr := max l1.edgeErr err.natAbs }
      else l1
    | none => l1
  else l1

/-- Learning of one period from window k − 1 (04 R106). `smp` are the valid samples (time, Q1.15 current). -/
def learn (ph : PhaseSt) (blank : Int) (smp : List (Int × Int)) : Learn :=
  let th := ph.th.1 * 65536
  let ys := smp.map (fun x => (x.1, ph.pol.1 * x.2 * 65536))
  (segments 0 ph.codePrev ph.winPrev).foldl
    (fun l g => learnSeg th blank l g (ys.filter (fun v => g.t0 ≤ v.1 && v.1 < g.t1)))
    { sOn := ph.sOn, sFast := ph.sFast, sSlow := ph.sSlow, bias := ph.bias, edgeErr := 0, onMeas := [] }

/-! ### Propagation and planning (R107, R108) -/

/-- Advance y over `dt` in a state; y stays at 0 or above while it decays (04 R107). -/
def advY (sOn sFast sSlow : Int) (k : Nat) (y dt : Int) : Int :=
  if k = 2 then y + sOn * dt else if k = 1 then max 0 (y + sFast * dt) else max 0 (y + sSlow * dt)

/-- Propagate y from time `t` to the end of a window through its segments. -/
def propagate (sOn sFast sSlow : Int) (segs : List Seg) (t y : Int) : Int :=
  segs.foldl (fun y g => if g.t1 ≤ t then y else advY sOn sFast sSlow (kindOf g.code) y (g.t1 - max t g.t0)) y

/-- The slope used for planning: s_on, S_ON_NOM / 8 at least (04 R106). -/
def planSlopeOf (sOn nom : Int) : Int := max sOn (max 1 (cdiv nom 8))

/-- Code of ON in a polarity. -/
def onCode (p : Int) : Nat := if p ≥ 0 then 2 else 3

/-- Planner of one window: model state while edges are emitted (newest first). -/
structure ChopPlan where
  t : Int
  y : Int
  st : Nat
  tst : Int
  edges : List Edge
  limit : Bool
  deriving DecidableEq, Repr, Inhabited

/-- The loop of 04 R107 with the slot limit of R108; `fd` = FD_FRAC, `toff`, `blank` in 1/4 ns. -/
def planLoop (sOn sFast sSlow bias th p : Int) (toff fd blank : Int) : Nat → ChopPlan → ChopPlan
  | 0, c => c
  | k + 1, c =>
    let stop (c : ChopPlan) : ChopPlan :=
      { c with y := advY sOn sFast sSlow c.st c.y (winLen - c.t), t := winLen }
    let go (tn : Int) (nxt : Nat) (code : Nat) (setT : Bool) (c : ChopPlan) : ChopPlan :=
      { c with y := advY sOn sFast sSlow c.st c.y (tn - c.t), t := tn, st := nxt,
               tst := if setT then tn else c.tst, edges := (tn.toNat, code) :: c.edges }
    if c.st = 2 then
      let te := max c.t (max (c.t + cdiv (th - c.y) (max 1 sOn) + bias) (c.tst + blank))
      if te ≥ winLen then stop c
      else
        let nxt := if fd > 0 then 1 else 0
        planLoop sOn sFast sSlow bias th p toff fd blank k (go te nxt nxt true c)
    else
      let tfd := c.tst + toff * fd / 16
      if c.st = 1 && tfd < c.tst + toff then
        let tn := max c.t tfd
        if tn ≥ winLen then stop c
        else planLoop sOn sFast sSlow bias th p toff fd blank k (go tn 0 0 false c)
      else if th > 0 then
        let tn := max c.t (c.tst + toff)
        if tn ≥ winLen then stop c
        else
          let need := if 1 ≤ fd && fd ≤ 15 then 2 else 1
          if c.edges.length + 1 + need > 24 then stop { c with limit := true }
          else planLoop sOn sFast sSlow bias th p toff fd blank k (go tn 2 (onCode p) true c)
      else stop c

/-- Plan window k + 1 of a phase for a current reference (04 R105 to R108); also whether CHOP_LIMIT is set. -/
def planWindow (ph : PhaseSt) (iref sOn sFast sSlow bias y : Int) (toff fd blank : Int) : PhaseSt × Bool :=
  let p := if iref > 0 then 1 else if iref < 0 then -1 else ph.p
  let thI : Int := iref.natAbs
  let th := thI * 65536
  let c0 : ChopPlan := { t := 0, y := y, st := ph.st, tst := ph.tst, edges := [], limit := false }
  let c1 : ChopPlan :=
    if p != ph.stP then { c0 with y := -y, st := 2, tst := 0, edges := [(0, onCode p)] } else c0
  let c2 : ChopPlan :=
    if th = 0 && c1.st = 2 then
      let nxt := if fd > 0 then 1 else 0
      { c1 with st := nxt, tst := 0, edges := [(0, nxt)] }
    else c1
  let c := planLoop sOn sFast sSlow bias th p toff fd blank 64 c2
  ({ ph with p := p, stP := p, y := c.y, st := c.st, tst := c.tst - winLen, sOn := ph.sOn,
             winNext := c.edges.reverse, th := (ph.th.1, ph.th.2.1, thI), pol := (ph.pol.1, ph.pol.2.1, p) },
   c.limit)

/-- At a current-period start the windows move on: k becomes k − 1, and the planned one is committed (04 R100). -/
def PhaseSt.shift (ph : PhaseSt) : PhaseSt :=
  let last := match ph.winPrev.getLast? with
    | some (o, _) => (o : Int) - winLen
    | none => max (-8000 - winLen) (ph.lastEdge - winLen)
  let code := match ph.winPrev.getLast? with | some (_, c) => c | none => ph.codePrev
  { ph with winPrev := ph.winCur, winCur := ph.winNext, winNext := [], lastEdge := last, codePrev := code,
            th := (ph.th.2.1, ph.th.2.2, ph.th.2.2), pol := (ph.pol.2.1, ph.pol.2.2, ph.pol.2.2) }

/-- A missed current-loop deadline repeats the edges of window k for window k + 1, and the model runs through them as if they had
been planned (04 R109): from the state before the plan, with the threshold and the polarity of window k. -/
def PhaseSt.repeatCur (ph : PhaseSt) : PhaseSt :=
  let b := ph.back
  let sOn := ph.planSlope
  let run := ph.winCur.foldl (fun (r : ChopBack × Int) e =>
    let o : Int := e.1
    let k := kindOf e.2
    let y := advY sOn ph.sFast ph.sSlow r.1.st r.1.y (o - r.2)
    ({ r.1 with y := y, st := k, tst := if k = 2 ∨ r.1.st = 2 then o else r.1.tst }, o)) (b, 0)
  { ph with
    winNext := ph.winCur, p := b.p, stP := b.stP, y := advY sOn ph.sFast ph.sSlow run.1.st run.1.y (winLen - run.2)
    st := run.1.st, tst := run.1.tst - winLen
    th := (ph.th.1, ph.th.2.1, ph.th.2.1), pol := (ph.pol.1, ph.pol.2.1, ph.pol.2.1) }

/-- One phase in one current period: learn, re-anchor with the learned slopes, plan (04 R106, R107). Without a valid sample in
window k − 1 the model goes on from the current it predicted (DEDUCED, notes/assumptions 17). Gives the phase, CHOP_LIMIT and
whether the period counted as a low ON slope (none: not counted) (R117). -/
def phasePeriod (ph : PhaseSt) (smpAll : List (Int × Int)) (iref : Int) (sOnNom toff fd blank : Int) :
    PhaseSt × Bool × Option Bool × Nat :=
  let l := learn ph blank smpAll
  let sOn := planSlopeOf l.sOn sOnNom
  let segsPrev := segments 0 ph.codePrev ph.winPrev
  let codeCur := match ph.winPrev.getLast? with | some (_, c) => c | none => ph.codePrev
  let y0 : Option Int := match smpAll.getLast? with
    | some (t, i) =>
      let y1 := propagate l.sOn l.sFast l.sSlow segsPrev t (ph.pol.1 * i * 65536)
      let y1 := if ph.pol.2.1 != ph.pol.1 then -y1 else y1
      some (propagate l.sOn l.sFast l.sSlow (segments 0 codeCur ph.winCur) 0 y1)
    | none => none
  let y := y0.getD ph.y
  let back : ChopBack := { y := y, p := ph.p, st := ph.st, stP := ph.stP, tst := ph.tst }
  let (ph1, lim) := planWindow { ph with back := back, planSlope := sOn, sOn := l.sOn, sFast := l.sFast, sSlow := l.sSlow, bias := l.bias }
    iref sOn l.sFast l.sSlow l.bias y toff fd blank
  let low := if l.onMeas.isEmpty then none else some (l.onMeas.all (fun s => s * 8 < sOnNom))
  (ph1, lim, low, l.edgeErr)

/-! ### Stepper angle and current (R102 to R104, R110 to R112) -/

/-- Interpolated position x of R102: `q` = 1 to 4. -/
def interpX (pn pn1 : Int) (q : Nat) : Int := pn1 + (q : Int) * (pn - pn1) / 4

/-- Electrical angle of a position without E_OFF (04 R102). -/
def angleOf (x : Int) (steps motorN motorD : Nat) : Nat :=
  (fdiv (x * (steps * 4096 * motorN : Nat)) ((motorD : Int) * 2 ^ 40) % 16384).toNat

/-- Signed change of a 14-bit angle. -/
def dAngle (a b : Nat) : Int := toSigned 14 (ofSigned 14 ((a : Int) - b))

/-- What the load-adaptive current and the stall logic need of an axis's parameters. -/
structure LoadPrm where
  iFloor : Int
  iCeil : Int
  iHold : Int
  kLoad : Int
  shift : Nat
  stallTh : Int
  stallN : Nat
  holdDelay : Nat
  iStep : Int
  deriving DecidableEq, Repr, Inhabited

/-- Load-adaptive current of one period (04 R110, R111): λ if valid; whether e moved. The value of lam_f that gives I_CEIL is the
least of them, and 0 where K_LOAD = 0 (DEDUCED, notes/assumptions 17). -/
def loadCurrent (p : LoadPrm) (c : CurSt) (lam : Option Int) (moved : Bool) : CurSt :=
  let still := if moved then 0 else incSat 65535 c.still
  let hold := !moved && still ≥ p.holdDelay
  let fromCeil := if p.kLoad > 0 then cdiv ((p.iCeil - p.iFloor) * 4096) p.kLoad else 0
  let base := if c.laValid then c.lamF else fromCeil
  let lamF := match lam with
    | some l => base + asr ((l.natAbs : Int) - base) p.shift
    | none => c.lamF
  let want := p.iFloor + p.kLoad * lamF / 4096
  let target := if hold then p.iHold else match lam with
    | some _ => min p.iCeil want
    | none => p.iCeil
  let atCeil := match lam with | some _ => decide (want ≥ p.iCeil) | none => false
  { c with lam := lam.getD c.lam, laValid := lam.isSome, lamF := lamF, atCeil := atCeil, still := still,
           hold := hold, iMag := clampI (c.iMag - p.iStep) (c.iMag + p.iStep) target }

/-- Stall warning of one period (04 R112): the counters, the flag after the period, and whether it rose. A period without a valid
λ is one in which the condition failed. -/
def stallPeriod (p : LoadPrm) (c : CurSt) (flag : Bool) : CurSt × Bool × Bool :=
  let hit := c.laValid && c.atCeil && decide ((c.lam.natAbs : Int) > p.stallTh)
  let run := if hit then incSat 255 c.stallRun else 0
  let clr := if hit then 0 else incSat 255 c.stallClr
  let set := run ≥ p.stallN
  let flag' := if set then true else if clr ≥ p.stallN then false else flag
  ({ c with stallRun := run, stallClr := clr }, flag', flag' && !flag)

/-! ### Servo current loop (R118 to R124) -/

/-- What the servo current loop needs of an axis's parameters. -/
structure ServoPrm where
  polePairs : Nat
  thetaOff : Nat
  kp : Int
  ki : Int
  lD : Int
  lQ : Int
  psi : Int
  idRef : Int
  iMax : Int
  uLim : Int
  minPulse : Int
  iFs : Int
  deriving DecidableEq, Repr, Inhabited

/-- Decoupling constants C1 and C2 (04 R121). -/
def decC1 : Int := 299144024
def decC2 : Int := 980235136906808

/-- Electrical angle θ of a motor-side position (04 R118). -/
def thetaOf (pm : Int) (polePairs thetaOff : Nat) : Nat :=
  ((pm * (polePairs : Int) * 2 ^ 16 / 2 ^ 40 + (thetaOff : Int)) % 65536).toNat

/-- Signed 16-bit difference of two angles. -/
def dTheta16 (a b : Nat) : Int := toSigned 16 (ofSigned 16 ((a : Int) - b))

/-- Δθ with the angle of window k − 1 (04 R118): 0 after a window without a valid angle and in the first period after an enable. -/
def CurSt.newDTheta (c : CurSt) (theta : Nat) : Int :=
  match c.theta with
  | some t => if c.first then 0 else dTheta16 theta t
  | none => 0

/-- Leg entries of a duty (04 R124). -/
def legEdges (d minPulse : Int) : List Edge :=
  let h := d * 31250 / 32768
  let m := max minPulse 1
  if 2 * h < m then [(0, 4)]
  else if winLen - 2 * h < m then [(0, 5)]
  else [(0, 4), ((31250 - h).toNat, 5), ((31250 + h).toNat, 4)]

/-- The single entry LEG_LOW at 0 on every leg: modulation withheld (04 R125). -/
def legsOff : List (List Edge) := [[(0, 4)], [(0, 4)], [(0, 4)]]

/-- One period of the field-oriented current loop with valid samples (04 R118 to R124): θ of window k − 1, the
centre samples, the command i_q_ref, V_DC in use, the period index q. -/
def servoPeriod (p : ServoPrm) (c : CurSt) (theta : Nat) (ia ib : Int) (iqRef : Int) (vdc : Int) (q : Nat)
    (l : DpLog) : DpLog × CurSt :=
  let dTh := c.newDTheta theta
  let (l, ab) := invoke (kClarke ia ib) l
  let (l, idq) := invoke (kRot true ab theta) l
  let (l, (rd, rq), rs) := invoke (kCircle p.iMax (p.idRef, iqRef)) l
  let ffd := sat (fdiv (-dTh * decC1 * p.lQ * idq.2 * p.iFs) (vdc * 2 ^ 48))
  let ffq := sat (fdiv (dTh * (decC1 * p.lD * idq.1 * p.iFs + decC2 * p.psi)) (vdc * 2 ^ 48))
  let (l, (cd, ud), cq, uq) := invoke (fun d =>
    let (d, x) := kPi p.kp p.ki rd idq.1 ffd c.intD d
    let (d, y) := kPi p.kp p.ki rq idq.2 ffq c.intQ d
    (d, x, y)) l
  let (l, v, us) := invoke (kCircle p.uLim (ud, uq)) l
  let (l, uab) := invoke (kRot false v (((theta : Int) + 2 * dTh) % 65536).toNat) l
  let (l, duty) := invoke (kSvm uab) l
  (l, { c with theta := some theta, thetaPrev := c.theta, dTheta := dTh, first := false, id := idq.1,
               iq := idq.2, intD := if us then c.intD else cd, intQ := if us then c.intQ else cq,
               legs := duty.map fun d => legEdges d p.minPulse, refSat := c.refSat.set q rs, uSat := c.uSat.set q us })

/-- Magnitude of the measured current vector (04 Table 04-5). -/
def iMagnitude (c : CurSt) : Int := isqrtI (c.id * c.id + c.iq * c.iq)

/-- LA_GV and LA_GT of R_PH (mΩ), L_PH (µH) and I_FS (10 mA): nearest M at the smallest E that holds it
(06 R173, Table 06-4). `num`/`den` is the gain. -/
def gainOf (num den : Nat) : Nat × Nat :=
  if den = 0 then (32767, 15) else
  let f (e : Nat) : Nat := (2 * num * 32768 + den * 2 ^ e) / (2 * den * 2 ^ e)
  match (List.range 16).find? (fun e => f e ≤ 32767) with
  | some e => (f e, e)
  | none => (32767, 15)

/-- (LA_GV, LA_GT): 3 276.8 / (R × I_FS) and L / (R × 500 ns) in SI units (06 R173). -/
def laGains (rmOhm lMicroH iFs10mA : Nat) : (Nat × Nat) × (Nat × Nat) :=
  (gainOf 327680000 (rmOhm * iFs10mA), gainOf (2000 * lMicroH) rmOhm)

/-- Signed sum of segment lengths of window k − 1 for LA: +1 ON_POS, −1 ON_NEG, −p FAST, 0 SLOW (06 R173). -/
def appliedSum (ph : PhaseSt) : Int :=
  (segments 0 ph.codePrev ph.winPrev).foldl (fun a g =>
    let l := g.t1 - g.t0
    match g.code with
    | 2 => a + l
    | 3 => a - l
    | 1 => a - ph.pol.1 * l
    | _ => a) 0

end Sys2Proof.Machine
end

