-- ==== Sys2Proof/Machine/Loops.lean ====
section
/-!
DEFINITION. Position and velocity loops (chapter 05): feed-forward scaling, the position loop, the velocity loop
with its filters, the stepper position trim, following error, and the injection signals. One call is one lane's
loop computation of one control cycle; Machine/Cycle.lean commits or discards it at the LATCH.
-/
namespace Sys2Proof.Machine

/-- v_ff of 05 R134. -/
def vffOf (vc : Int) (velFs : Nat) : Int := sat (fdiv (vc * 16000) ((velFs : Int) * 2 ^ 33))

/-- v_fb of 05 R134 from a position difference. -/
def vfbOf (d : Int) (velFs : Nat) : Int := sat (fdiv (d * 16000) ((velFs : Int) * 2 ^ 9))

/-- a_ff of 05 R134; w = max(A_HARD, D_HARD). -/
def affOf (ac : Int) (w : Nat) : Int := sat (fdiv (ac * 256000000) ((w : Int) * 2 ^ 37))

/-- Coefficients of an AX_BIQUAD (05 Table 05-9): B0, B1, B2, A1, A2 and EN. -/
def biquadOf (b : Bytes) : (Int × Int × Int × Int × Int) × Bool :=
  ((sAt b 10 2, sAt b 8 2, sAt b 6 2, sAt b 4 2, sAt b 2 2), (uAt b 0 1).testBit 0)

/-- A coefficient set is refused as UNSTABLE_FILTER (05 R141). -/
def biquadUnstable (b : Bytes) : Bool :=
  let ((_, _, _, a1, a2), _) := biquadOf b
  decide (a2.natAbs ≥ 16384) || decide ((a1.natAbs : Int) ≥ 16384 + a2)

/-- One biquad for one sample (05 R140) on a datapath; `init` when the axis is enabled. Gives its states and its output. -/
def biquadStep (coef : (Int × Int × Int × Int × Int) × Bool) (init : Bool) (f : BiquadSt) (x : Int) (d : DpSt) :
    DpSt × BiquadSt × Int :=
  let ((b0, b1, b2, a1, a2), en) := coef
  let f := if init || (en && !f.en) then { f with x1 := x, x2 := x, y1 := x, y2 := x, r := 0 } else f
  if !en then (d, { f with en := false }, x) else
  let d := dpRmac 1 b2 f.x2 1 (dpRmac 1 b1 f.x1 1 (dpRmac 1 b0 x 1 (dpLoad (dpClr d) f.r 0)))
  let d := dpRmac (-1) a2 f.y2 1 (dpRmac (-1) a1 f.y1 1 d)
  let (e, y) := dpStoreR d 15
  (e, { x1 := x, x2 := f.x1, y1 := y, y2 := f.y1, r := if e.sat || e.nanR then 0 else d.accR - shl y 15, en := true }, y)

/-- What the loops need of an axis's parameters. -/
structure LoopPrm where
  peShift : Nat
  velFs : Nat
  accW : Nat
  kp : Nat × Nat
  kvff : Nat × Nat
  kv : Nat × Nat
  ki : Nat × Nat
  kaff : Nat × Nat
  bq1 : (Int × Int × Int × Int × Int) × Bool
  bq2 : (Int × Int × Int × Int × Int) × Bool
  bq3 : (Int × Int × Int × Int × Int) × Bool
  iqLim : Int
  feLimit : Int
  feTime : Nat
  ksM : Int
  corrMax : Int
  modulus : Int
  deriving DecidableEq, Repr, Inhabited

/-- Injection sample with its point: 0 none, 1 POSITION, 2 VELOCITY, 3 TORQUE, 4 CURRENT (05 Table 05-3). -/
abbrev Inject := Nat × Int

/-- A gain times a Q1.15 signal added into ACC_R (05 R135). -/
def dpGain (g : Nat × Nat) (x : Int) (d : DpSt) : DpSt := dpRmac 1 (g.1 : Int) x g.2 d

/-- An injection added with sat() where the run excites this point (05 R137). -/
def dpInject (point : Nat) (inj : Inject) (x : Int) (d : DpSt) : DpSt × Int :=
  if inj.1 = point then dpSum 1 x inj.2 d else (d, x)

/-- Position loop of a cycle (05 R137): from e_p in full width and v_ff, e_q and v_ref. -/
def positionLoop (p : LoopPrm) (ep vff : Int) (inj : Inject) (d : DpSt) : DpSt × Int × Int :=
  let (d, eq) := dpSatW (asr ep p.peShift) d
  let (d, eq) := dpInject 1 inj eq d
  let (d, v) := dpStoreR (dpGain p.kvff vff (dpGain p.kp eq (dpClr d))) 15
  let (d, v) := dpInject 2 inj v d
  (d, eq, v)

/-- The proportional-integral part of R138: e_v, the integrator's candidate and u_pi. -/
def piLoop (p : LoopPrm) (integ vref vfb : Int) (d : DpSt) : DpSt × Int × Int × Int :=
  let (d, ev) := dpSum (-1) vref vfb d
  let d := dpGain p.ki ev { dpClr d with accR := integ }
  let cand := d.accR
  let (d, upi) := dpStoreR (dpGain p.kv ev d) 15
  (d, ev, cand, upi)

/-- The output part of R138 before the clamp: u_lp, acceleration feed-forward and the injected torque. -/
def outLoop (p : LoopPrm) (ulp aff injT : Int) (d : DpSt) : DpSt × Int :=
  dpStoreR (dpAdd (dpGain p.kaff aff (dpLoad (dpClr d) ulp 15)) injT 15) 15

/-- Velocity loop and filters of a cycle (05 R138 to R140), one invocation each. `froze` is the saturation of the current path in the
cycle before. The integrator takes its candidate only where nothing in this chain saturated or was clamped (R139). -/
def velocityLoop (p : LoopPrm) (l : LoopSt) (vref vfb aff : Int) (inj : Inject) (froze : Bool) (log : DpLog) : DpLog × LoopSt :=
  let (g, ev, cand, upi) := invoke (piLoop p l.integ vref vfb) []
  let (g, f1, n1) := invoke (biquadStep p.bq1 l.filtInit l.notch1 upi) g
  let (g, f2, n2) := invoke (biquadStep p.bq2 l.filtInit l.notch2 n1) g
  let (g, f3, ulp) := invoke (biquadStep p.bq3 l.filtInit l.lowpass n2) g
  let (g, u) := invoke (outLoop p ulp aff (if inj.1 = 3 then inj.2 else 0)) g
  let cmd := if u = nan16 then nan16 else clampI (-p.iqLim) p.iqLim u
  let froze := froze || g.any (·.sat) || cmd != u
  (g ++ log, { l with integ := if froze then l.integ else cand, frozen := froze, ev := ev, upi := upi, notch1 := f1,
                      notch2 := f2, lowpass := f3, n1 := n1, n2 := n2, ulp := ulp, cmd := cmd, filtInit := false })

/-- Stepper position trim of a cycle (05 R142). -/
def trimStep (p : LoopPrm) (l : LoopSt) (ep : Int) (atCeil : Bool) : LoopSt :=
  let step := ep * p.ksM / 2 ^ 16
  let blocked := atCeil || (decide ((l.corr.natAbs : Int) = p.corrMax) && decide (step.sign = l.corr.sign))
  if blocked then { l with corrLimit := true }
  else { l with corrLimit := false, corr := clampI (-p.corrMax) p.corrMax (l.corr + step) }

/-- The velocity loop of an axis runs (05 Table 05-1). -/
def hasVel (ps : ParamSet) (n : Nat) : Bool :=
  match axType ps n with | .servo => true | .external => decide (prmN ps Pid.EXT_MODE n = 1) | _ => false

/-- The signals of all stages at 0, as they read where a stage is not computed (05 R131). -/
def LoopSt.quiet (l : LoopSt) : LoopSt :=
  { l with ep := 0, eq := 0, vref := 0, vfb := 0, ev := 0, upi := 0, n1 := 0, n2 := 0, ulp := 0, vff := 0, aff := 0, cmd := 0 }

/-- A signal of the cycle is the NaN code (05 R136). -/
def LoopSt.isNan (l : LoopSt) : Bool :=
  [l.eq, l.vref, l.vff, l.vfb, l.aff, l.ev, l.upi, l.n1, l.n2, l.ulp, l.cmd].any (· == nan16)

/-- Following-error supervision of a cycle (05 R144); `search` holds FE_COUNT at 0. -/
def feStep (p : LoopPrm) (l : LoopSt) (ep : Int) (search : Bool) : LoopSt :=
  let ovr := decide ((ep.natAbs : Int) > p.feLimit)
  { l with feWarn := ovr, feCount := if search then 0 else if ovr then incSat 65535 l.feCount else 0 }

/-- CORR_MAX_US microsteps as a load-side position (05 R142): the greatest position that does not exceed it. -/
def corrMaxPos (us steps motorN motorD : Nat) : Int :=
  fdiv ((us * motorD : Nat) * 2 ^ 40) ((steps * 4096 * motorN : Nat) : Int)

/-- IQ_LIM = ⌊√(I_MAX² − d²)⌋, d = clamp(ID_REF, ±I_MAX) (05 R138). -/
def iqLimOf (iMax idRef : Int) : Int :=
  let d := clampI (-iMax) iMax idRef
  isqrtI (iMax * iMax - d * d)

/-! ### Injection signals (05 R150) -/

/-- Fibonacci shift register taps by n (05 Table 05-5). -/
def prbsTaps : Nat → List Nat
  | 7 => [7, 6] | 8 => [8, 6, 5, 4] | 9 => [9, 5] | 10 => [10, 7] | 11 => [11, 9]
  | 12 => [12, 6, 4, 1] | 13 => [13, 4, 3, 1] | 14 => [14, 5, 3, 1] | 15 => [15, 14]
  | 16 => [16, 15, 13, 4] | _ => []

/-- One shift of the register: stage 1 takes the feedback, stage n is the output (05 Table 05-5). -/
def prbsNext (n v : Nat) : Nat :=
  let fb := (prbsTaps n).foldl (fun b t => b != v.testBit (t - 1)) false
  (v * 2 + bit fb) % 2 ^ n

/-- Register after k shifts from all ones. -/
def prbsAt (n : Nat) : Nat → Nat
  | 0 => 2 ^ n - 1
  | k + 1 => prbsNext n (prbsAt n k)

/-- Sample of a stepped sine with table index phase `ph` (32 bit) and amplitude A (05 Table 05-4). -/
def sineSample (a : Int) (ph : Nat) : Int := asr (a * sin14 (ph / 2 ^ 18)) 15

/-- Sample of a PRBS with register value v: the output stage n selects the sign. -/
def prbsSample (a : Int) (n v : Nat) : Int := if v.testBit (n - 1) then a else -a

/-- cos of a rational number of turns x in 2^-32 turn, in 2^-128, for the MULTISINE table (05 Table 05-4). -/
def cosTurn32 (x : Int) : Int :=
  let t := (x + 2 ^ 30) % 2 ^ 32
  let half := t / 2 ^ 31
  let r := t % 2 ^ 31
  let q := if r > 2 ^ 30 then 2 ^ 31 - r else r
  let arg := pi128 * 2 * q / 2 ^ 32
  let s := sinTerms (asr (arg * arg) 128) 30 arg arg
  if half = 0 then s else -s

/-- MULTISINE table: Σ cos(2π k i / L + φ_k) with Schroeder phases, scaled so that the peak equals A, each entry
rounded to nearest (05 Table 05-4; the rounding is DEDUCED, notes/assumptions/14). -/
def multisine (a : Int) (len : Nat) (bins : List Nat) : List Int :=
  let k := bins.length
  let phase (j : Nat) : Int := -((j * (j - 1) * 2 ^ 31 / (max 1 k) : Nat) : Int)
  let raw := (List.range len).map (fun i =>
    (bins.mapIdx (fun j b => cosTurn32 (((b * i % (max 1 len)) * 2 ^ 32 / (max 1 len) : Nat) + phase (j + 1)))).foldl
      (· + ·) 0)
  let peak : Int := raw.foldl (fun m x => max m (x.natAbs : Int)) 0
  if peak = 0 then raw.map (fun _ => 0) else raw.map (fun x => roundHA (a * x) peak)

/-! ### Frequency response (05 R155, R156) -/

/-- Exact bin sums of one record for X and Y. -/
abbrev BinSum := (Int × Int) × (Int × Int)

/-- Cross sums over records: Σ|X|², Σ|Y|², Σ Y X* (05 R155). -/
def crossSums (rs : List BinSum) : Int × Int × (Int × Int) :=
  rs.foldl (fun acc r =>
    let (x, y) := r
    (acc.1 + x.1 * x.1 + x.2 * x.2, acc.2.1 + y.1 * y.1 + y.2 * y.2,
     (acc.2.2.1 + y.1 * x.1 + y.2 * x.2, acc.2.2.2 + y.2 * x.1 - y.1 * x.2))) (0, 0, (0, 0))

/-- Coherence γ² as Q1.15, 0 to 32 767 (05 Table 05-7). -/
def coherence (s : Int × Int × (Int × Int)) : Nat :=
  let den := s.1 * s.2.1
  if den ≤ 0 then 0 else (min 32767 ((s.2.2.1 ^ 2 + s.2.2.2 ^ 2) * 32768 / den)).toNat

end Sys2Proof.Machine
end

