-- ==== Sys2Proof/Machine/CurrentPath.lean ====
section
/-!
DEFINITION. The current path of an axis from the feedback cut-off on (chapter 04): its encoder sample (06 R170 to
R172, 05 R132), the stepper's load angle, current and chopper, and the servo's field-oriented loop, with the counts that
the fault rows of the axis judge. What chapter 04 leaves to a later row (a stall warning, a coil fault) is only counted
here.
-/
namespace Sys2Proof.Machine

/-- Encoder count in 2^-40 rev of the encoder's side from a position in periods (04 R118). -/
def encCount (ps : ParamSet) (n : Nat) (periods : Int) : Int :=
  fdiv (periods * 2 ^ 16) (max 1 (prmN ps Pid.ENC_PERIODS n) : Nat)

/-- Motor-side position p_m of an encoder count (04 R118). -/
def motorSide (ps : ParamSet) (n : Nat) (c : Int) : Int :=
  if prmN ps Pid.ENC_SIDE n = 0 then c else fdiv (c * prmI ps Pid.MOTOR_N n) (prmI ps Pid.MOTOR_D n)

/-- Load-side position of an encoder count (05 R132). -/
def loadSide (ps : ParamSet) (n : Nat) (c : Int) : Int :=
  if prmN ps Pid.ENC_SIDE n = 0 then fdiv (c * prmI ps Pid.MOTOR_D n) (prmI ps Pid.MOTOR_N n) else c

/-- Position in periods of an encoder sample, with the ENC result; none where the sample is invalid. The last two tell whether the
result is invalid (06 R171), and whether quarter count and phase lie two quadrants apart (R172). -/
def encSample (ps : ParamSet) (n : Nat) (s c qcnt : Int) (l : DpLog) : DpLog × EncRes × Option Int × Bool × Bool :=
  let (l, r) := invoke (kEnc s c) l
  let bad := r.nan || r.zero || decide (r.amp < prmI ps Pid.ENC_AMP_MIN n) || decide (r.amp > prmI ps Pid.ENC_AMP_MAX n)
  let p := encPeriods r.phi qcnt
  (l, r, if bad then none else p, bad, !r.nan && !r.zero && p.isNone)

/-- Take the encoder sample of the present period (05 R132, 06 R171, R172); `q` is the index of the period. -/
def encCut (ps : ParamSet) (n q : Nat) (x : SlotIn) (a : AxisSt) (l : DpLog) : DpLog × AxisSt :=
  let (l, r, p, bad, slip) := encSample ps n x.s x.c x.qcnt l
  let cur := if q = 0 then { a.cur with encAmpBad := bad, encSlip := slip, amp := r.amp.toNat } else a.cur
  let fb := match p with
    | none => { a.fb with valid := false }
    | some p =>
      { a.fb with periods := some p, valid := true, seen := true
                  pos := wrapPos (prmI ps Pid.MODULUS n) (loadSide ps n (encCount ps n p) + a.fb.offset) }
  (l, { a with cur := { cur with kNan := r.nan }, fb := fb })

/-- What a slot's frame tells besides samples (10 R295, 05 R143). -/
def AxisSt.slotFlags (q : Nat) (x : Option SlotIn) (a : AxisSt) : AxisSt :=
  match x with
  | some x => { a with fb := { a.fb with extSat := x.extSat, extSats := a.fb.extSats.set q x.extSat, absOk := x.absOk, extMeas := x.ext } }
  | none => { a with fb := { a.fb with extSats := a.fb.extSats.set q false } }

/-- Parameters of the load-adaptive current; a HARD_STOP search takes HOME_I as a cap (04 R111). -/
def loadPrm (ps : ParamSet) (n : Nat) (hardStop : Bool) : LoadPrm :=
  let homeI := 32767 * prmI ps Pid.HOME_I n / 100
  let cap (v : Int) : Int := if hardStop then min v homeI else v
  { iFloor := prmI ps Pid.I_FLOOR n, iCeil := cap (prmI ps Pid.I_CEIL n), iHold := cap (prmI ps Pid.I_HOLD n)
    kLoad := prmI ps Pid.K_LOAD n, shift := prmN ps Pid.LA_SHIFT n, stallTh := prmI ps Pid.STALL_TH n
    stallN := prmN ps Pid.STALL_N n, holdDelay := prmN ps Pid.HOLD_DELAY n, iStep := prmI ps Pid.I_STEP n }

/-- Parameters of the servo current loop. -/
def servoPrm (ps : ParamSet) (n iFs : Nat) (hardStop : Bool) : ServoPrm :=
  let iMax := prmI ps Pid.I_MAX n
  { polePairs := prmN ps Pid.POLE_PAIRS n, thetaOff := prmN ps Pid.THETA_OFF n, kp := prmI ps Pid.KP_I n
    ki := prmI ps Pid.KI_I n, lD := prmI ps Pid.L_D n, lQ := prmI ps Pid.L_Q n, psi := prmI ps Pid.PSI_PM n
    idRef := prmI ps Pid.ID_REF n
    iMax := if hardStop then min iMax (32767 * prmI ps Pid.HOME_I n / 100) else iMax
    uLim := prmI ps Pid.U_LIM n, minPulse := prmI ps Pid.MIN_PULSE n, iFs := iFs }

/-- A HARD_STOP homing sequence runs (03 R97, 04 R111, R115). -/
def AxisSt.hardStop (a : AxisSt) : Bool := match a.home with | some h => h.method == 3 | none => false

/-- The search of a HARD_STOP homing sequence runs (03 Tables 03-3 and 03-6, 05 R144). -/
def AxisSt.hardSearch (a : AxisSt) : Bool := match a.home with | some h => h.method == 3 && h.phase == 0 | none => false

/-- The current path drives the axis: torque is on. -/
def AxisSt.powered (a : AxisSt) : Bool := !a.sto && decide (a.fn ≠ .disabled)

/-- The current path drives the axis in this period, or did until an F2 of this very period: further causes of the period still show
(04 R491). -/
def State.driven (s : State) (n : Nat) : Bool :=
  let c := s.sc (s.axSc n)
  (s.ax n).powered || (decide (c.fn = .shuttingDown) && decide (2 ≤ c.level) && decide (c.statusAt = s.cyc.tk))

/-- Samples a slot brings for OVERCURRENT: every stream and centre word (04 R126). -/
def SlotIn.currents (x : SlotIn) : List Int := x.streams.flatten ++ x.centre

/-- A valid current sample reaches I_TRIP (04 R126); a sample is invalid only as 0x8000 (R101). -/
def overCurrent (ps : ParamSet) (n : Nat) (x : SlotIn) : Bool :=
  x.currents.any fun i => i != nan16 && decide ((i.natAbs : Int) ≥ prmI ps Pid.I_TRIP n)

/-- Valid samples of a stepper phase in window k − 1 of index `q` (04 R101, R106). -/
def phaseSamples (ps : ParamSet) (n q : Nat) (xs : List Int) (ph : PhaseSt) : List (Int × Int) :=
  let c := sampleCount q
  validSamples (sampleTimes q c) (xs.take c) ph.winPrev ph.lastEdge (prmI ps Pid.T_BLANK n)

/-- Mean and slope of a phase's valid samples for LA (06 R173); none below two samples. -/
def laRecord (v : List (Int × Int)) : Option (Int × Int) :=
  if v.length < 2 then none
  else
    let xs := v.map (·.2)
    some (fdiv (xs.foldl (· + ·) 0) (xs.length : Nat),
      fdiv ((v.getLastD (0, 0)).2 - (v.headD (0, 0)).2) ((v.length - 1 : Nat) : Int))

/-- Rotor's electrical angle of a stepper from its encoder, 16 bit (06 R174). -/
def rotorAngle (ps : ParamSet) (n : Nat) (a : AxisSt) : Option Nat :=
  if a.fb.valid then a.fb.periods.map fun p =>
    thetaOf (motorSide ps n (encCount ps n p)) (prmN ps Pid.STEPS n / 4) (prmN ps Pid.THETA_OFF n)
  else none

/-- λ of the period (06 R173, R174, 04 R110), with the block exponent of LA. -/
def lambdaOf (ps : ParamSet) (n : Nat) (a : AxisSt) (x : Option SlotIn) (va vb : List (Int × Int)) (l : DpLog) :
    DpLog × Option Int × Nat :=
  if hasEnc ps n then (l, (rotorAngle ps n a).map fun t => laEnc a.cur.ePrev.1 t, a.cur.expr)
  else
    let de := dAngle a.cur.ePrev.1 a.cur.ePrev.2
    match x, laRecord va, laRecord vb with
    | some x, some (ia, sa), some (ib, sb) =>
      let v (ph : PhaseSt) : Int := fdiv (appliedSum ph * (x.vdc : Int)) winLen
      let (l, r) := invoke (kLa a.laGain.1 a.laGain.2 (v a.cur.phA) (v a.cur.phB) ia ib sa sb a.cur.ePrev.1 de) l
      (l, if de.natAbs < prmN ps Pid.LA_EMIN n then none else r.1, r.2)
    | _, _, _ => (l, none, a.cur.expr)

/-- Electrical angle for the window planned in a period of index `q` (04 R102, R15) before E_OFF. The difference of the
two references is taken the short way round on a modulo axis (03 R66). -/
def plannedAngle (ps : ParamSet) (n q : Nat) (a : AxisSt) : Nat :=
  let qq := if q = 0 then 4 else q
  let m := prmI ps Pid.MODULUS n
  let x := a.rel.1 - wrapMod m (a.rel.1 - a.rel.2) + (qq : Int) * wrapMod m (a.rel.1 - a.rel.2) / 4 + a.relCorr
  angleOf x (prmN ps Pid.STEPS n) (prmN ps Pid.MOTOR_N n) (prmN ps Pid.MOTOR_D n)

/-- One stepper phase in the period, its COIL_FAULT count included (04 R105 to R108, R117). -/
def stepPhase (ps : ParamSet) (n : Nat) (ph : PhaseSt) (smp : List (Int × Int)) (iref : Int) : PhaseSt × Bool × Nat :=
  let (p, lim, low, err) := phasePeriod ph smp iref (prmI ps Pid.S_ON_NOM n) (prmI ps Pid.T_OFF n)
    (prmI ps Pid.FD_FRAC n) (prmI ps Pid.T_BLANK n)
  ({ p with coil := match low with | some true => incSat 16 ph.coil | some false => 0 | none => ph.coil }, lim, err)

/-- E_OFF of a period (04 R103, R114, R116): at the first one after an enable the field keeps its angle; a re-alignment that is due
follows once the encoder shows the rotor. -/
def nextEOff (ps : ParamSet) (n base : Nat) (a : AxisSt) : Nat :=
  let c := a.cur
  if c.eAlign then ofSigned 14 ((c.e : Int) - base)
  else if c.reAlign then match rotorAngle ps n a with
    | some t => ofSigned 14 (((t / 4 : Nat) : Int) - base)
    | none => c.eOff
  else c.eOff

/-- A stepper lane in one current period (04 R102 to R117): the axis after it and whether a step was lost (R113). -/
def stepperCut (ps : ParamSet) (n q : Nat) (x : Option SlotIn) (a : AxisSt) (l : DpLog) : DpLog × AxisSt × Bool :=
  let qw := (q + 3) % 4
  let stream (i : Nat) : List Int := match x with | some x => lget x.streams i | none => []
  let va := phaseSamples ps n qw (stream 0) a.cur.phA
  let vb := phaseSamples ps n qw (stream 1) a.cur.phB
  let (l, lam, ex) := lambdaOf ps n a x va vb l
  let prm := loadPrm ps n a.hardStop
  let base := plannedAngle ps n q a
  let c0 := a.cur
  let eOff := nextEOff ps n base a
  let e := (base + eOff) % 16384
  let lostBefore := c0.laValid && decide ((c0.lam.natAbs : Int) > 16384)
  let c1 := loadCurrent prm c0 lam (e != c0.e)
  let (c2, stall, _) := stallPeriod prm c1 a.flags.stall
  let lostNow := c2.laValid && decide ((c2.lam.natAbs : Int) > 16384)
  let (l, ir) := invoke (kRef c2.iMag e) l
  let (pa, la, ea) := stepPhase ps n c2.phA va ir.1
  let (pb, lb, eb) := stepPhase ps n c2.phB vb ir.2
  let okLam := c2.laValid && decide ((c2.lam.natAbs : Int) ≤ prm.stallTh)
  let c3 := { c2 with
    e := e, ePrev := (c0.e, c0.ePrev.1), eOff := eOff, eAlign := false
    reAlign := c0.reAlign && (c0.eAlign || (rotorAngle ps n a).isNone)
    phA := pa, phB := pb, chopLimit := c2.chopLimit || la || lb, edgeErr := max ea eb
    expr := if q = 0 then ex else c0.expr
    atCeil0 := if q = 0 then c2.atCeil else c0.atCeil0
    recoverRun := if c0.recover then (if okLam then incSat 255 c0.recoverRun else 0) else 0
    lostStep := c2.lostStep || (lostNow && !lostBefore) }
  (l, { a with cur := c3, flags := { a.flags with stall := a.flags.stall && stall } }, lostNow && !lostBefore)

/-- The angle θ of a servo's window k − 1, where its encoder sample is valid (04 R118). -/
def servoAngle (ps : ParamSet) (n : Nat) (a : AxisSt) : Option Nat :=
  if a.fb.valid then a.fb.periods.map fun p =>
    thetaOf (motorSide ps n (encCount ps n p)) (prmN ps Pid.POLE_PAIRS n) (prmN ps Pid.THETA_OFF n) else none

/-- A servo lane in one current period (04 R118 to R125). `x` is none after a bad frame; such a frame brings no V_DC and leaves
the undervoltage count as it is (DEDUCED, notes/assumptions 18). Until a first V_DC at or above V_DC_MIN has come, modulation is
withheld in every period, whatever its samples. -/
def servoCut (ps : ParamSet) (n q iFs : Nat) (x : Option SlotIn) (a : AxisSt) (l : DpLog) : DpLog × AxisSt :=
  let c := a.cur
  let centre (i : Nat) : Int := match x with | some x => x.centre.getD i nan16 | none => nan16
  let ia := centre 0
  let ib := centre 1
  let ic := centre 2
  let sumBad := decide ((ia + ib + ic).natAbs > 2048)
  let c := if ia = nan16 ∨ ib = nan16 ∨ ic = nan16 then c
    else { c with sumRun := if sumBad then incSat 4 c.sumRun else 0 }
  let vmin := prmN ps Pid.V_DC_MIN n
  let was := c.vdc
  let c := match x with
    | none => c
    | some x => if x.vdc ≥ vmin then { c with vdc := some x.vdc, uvRun := 0 } else { c with uvRun := incSat 4 c.uvRun }
  let ang := servoAngle ps n a
  let dTh := match ang with | some th => c.newDTheta th | none => 0
  let lost := ang.isNone || decide (ia = nan16) || decide (ib = nan16)
  let idle := { c with
    theta := ang, thetaPrev := c.theta, dTheta := dTh, first := false
    legs := if was.isNone then legsOff else c.legsCur, refSat := c.refSat.set q false, uSat := c.uSat.set q false }
  match ang with
  | some th =>
    if lost then (l, { a with cur := { idle with lostRun := incSat 2 c.lostRun } })
    else match was, c.vdc with
    | some _, some v =>
      let iq := sat (a.relCmd + a.relInj)
      let (l, c) := servoPeriod (servoPrm ps n iFs a.hardSearch) { c with lostRun := 0 } th ia ib iq (v : Nat) q l
      (l, { a with cur := { c with idq0 := if q = 0 then (c.id, c.iq) else c.idq0 } })
    | _, _ =>
      let (l, ab) := invoke (kClarke ia ib) l
      let (l, idq) := invoke (kRot true ab th) l
      (l, { a with cur := { idle with
        lostRun := 0, id := idq.1, iq := idq.2, idq0 := if q = 0 then idq else c.idq0, intD := 0, intQ := 0 } })
  | none => (l, { a with cur := { idle with lostRun := incSat 2 c.lostRun } })

/-- A lane whose torque is off plans no edges; what Table 04-5 shows of the period is off, and the condition of a stall warning
fails (04 R112, R130). -/
def idleCut (ps : ParamSet) (n q : Nat) (a : AxisSt) : AxisSt :=
  let (c, stall, _) := stallPeriod (loadPrm ps n false) { a.cur with laValid := false } a.flags.stall
  { a with
    flags := { a.flags with stall := a.flags.stall && stall }
    cur := { c with
      phA := { c.phA with winNext := [] }, phB := { c.phB with winNext := [] }, legs := [[], [], []]
      hold := false, atCeil := false, atCeil0 := if q = 0 then false else c.atCeil0
      refSat := c.refSat.set q false, uSat := c.uSat.set q false } }

end Sys2Proof.Machine
end

