-- ==== Sys2Proof/Machine/SsmPos.lean ====
section
/-!
DEFINITION. Safe positions of the separation monitor (08 R216 to R219): its own decode of the inbound frames at the
cut-off of a separation cycle, positions held, and the cross-check with the lanes' feedback.
-/
namespace Sys2Proof.Machine

/-- The port is matched to a stage and counts its frames (10 Table 10-6, R310). -/
def PortState.counts : PortState → Bool
  | .syncing | .ready | .faulted => true
  | _ => false

/-- Carrier axis of an arm (08 Table 08-8). -/
def carrierOf (ps : ParamSet) (k : Nat) : Option Nat :=
  match prm ps Pid.CARRIER k 0 with | some v => if 0 ≤ v ∧ v < 64 then some v.toNat else none | none => none

/-- Joints of an arm, then its carrier. -/
def ssmAxes (ps : ParamSet) (k : Nat) : List Nat := armAxes ps k ++ (carrierOf ps k).toList

/-- The arm is monitored (08 R235). -/
def monitored (ps : ParamSet) (k : Nat) : Bool := decide (k < 8) && prmN ps Pid.SSM_EN k == 1 && !(armAxes ps k).isEmpty

/-- Joint code of an event: the joint index, or 0xF for the carrier (08 Table 08-11). -/
def jointCode (ps : ParamSet) (k i : Nat) : Nat := if i < (armAxes ps k).length then i else 15

/-- Slot data of an axis in the good frame of the present period. -/
def frameSlot (s : State) (n : Nat) : Option SlotIn :=
  match axSlot s.ps n with
  | none => none
  | some (p, sl) =>
    let x := s.port p
    let o := inHdrLen + if sl = 0 then 0 else slotSize (prmN s.ps Pid.KIND0 p)
    if x.state.counts && x.good then some (readSlot x.lastRx o (prmN s.ps (if sl = 0 then Pid.KIND0 else Pid.KIND1) p) sl) else none

/-- Safe position of joint `i` of an arm, axis `n` (08 R217): the SSM's own decode, the mapping of 05 R132, and
SSM_QOFF of the joint. -/
def safePos (ps : ParamSet) (k i n : Nat) (x : SlotIn) : Option Int :=
  (encSample ps n x.s x.c x.qcnt {}).2.2.1.map fun p =>
    loadSide ps n (encCount ps n p) + if i < (armAxes ps k).length then prmI ps Pid.SSM_QOFF k i else 0

/-- Difference of two positions of an axis, wrapped as e_p (05 R132). -/
def posDiff (ps : ParamSet) (n : Nat) (x y : Int) : Int := wrapMod (prmI ps Pid.MODULUS n) (wrapS 64 (x - y))

/-- One monitored arm at the encoder cut-off (08 R217 to R219). -/
def sampleArm (k : Nat) (s : State) : State :=
  let ps := s.ps
  let axes := ssmAxes ps k
  let m := s.ssmArm k
  let new := axes.mapIdx fun i n => (frameSlot s n).bind (safePos ps k i n)
  let qs := new.mapIdx fun i q => match q with | some v => some v | none => m.qs.getD i none
  let held := new.mapIdx fun i q => if q.isSome then 0 else incSat 65535 (lget m.held i)
  let run := if new.all (·.isSome) then incSat 2 m.validRun else 0
  let off (i : Nat) : Bool := match new.getD i none with
    | some q => (s.ax (lget axes i)).fb.valid0 &&
        decide (((posDiff ps (lget axes i) q (s.ax (lget axes i)).fb.pos0).natAbs : Int) > prmI ps Pid.XCHK_TOL k)
    | none => false
  let xchk := axes.mapIdx fun i _ => if off i then incSat 3 (lget m.xchk i) else 0
  let force := held.any (fun h => decide (2 ≤ h)) || qs.any (·.isNone)
  let s := s.mdSsmArm k fun a => { a with
    qs := qs, qsPrev := a.qs, held := held, validRun := run, xchk := xchk
    forced := if force then true else if 2 ≤ run then false else a.forced }
  (List.range axes.length).foldl (fun s i =>
    if lget held i = 1 then raiseEv 78 Sts.OK k 0 (jointCode ps k i) s else s) s

/-- The SSM takes its samples at the feedback cut-off of a separation cycle's first current period (01 R17). -/
def ssmSample (s : State) : State :=
  if s.cyc.tk % tSep = 0 then ((List.range 8).filter (monitored s.ps)).foldl (fun s k => sampleArm k s) s else s

end Sys2Proof.Machine
end

