-- ==== Sys2Proof/Machine/Geometry.lean ====
section
/-!
DEFINITION. Geometry of the separation monitor (08 R223 to R229): frames of an arm, capsule endpoints, the distance of two
capsules, and the terms of the protective separation distance, in the number formats of R224.
-/
namespace Sys2Proof.Machine

/-- S30[r] = 2^30 × sin(π r / 8 192), nearest, halves away from zero (08 R224). -/
def sinTab30 (r : Nat) : Int :=
  let x := pi128 * (r : Int) / 8192
  let s := sinTerms (asr (x * x) 128) 30 x x
  if r ≥ 4096 then 2 ^ 30 else roundHA (2 ^ 30 * s) ((2 : Int) ^ 128)

/-- S of the quadrant rule (04 R104, 08 R224). -/
def sinQuad30 (e : Nat) : Int :=
  let e := e % 16384
  let r := e % 4096
  match e / 4096 with
  | 0 => sinTab30 r
  | 1 => sinTab30 (4096 - r)
  | 2 => -sinTab30 r
  | _ => -sinTab30 (4096 - r)

/-- sin of an angle in 2^-32 turn (08 R224). -/
def sin32 (t : Nat) : Int :=
  let t := t % 2 ^ 32
  let e := t / 2 ^ 18
  sinQuad30 e + (sinQuad30 (e + 1) - sinQuad30 e) * (t % 2 ^ 18 : Nat) / 2 ^ 18

/-- cos of an angle in 2^-32 turn (08 R224). -/
def cos32 (t : Nat) : Int := sin32 (t + 2 ^ 30)

/-- A point or vector of three coordinates. -/
abbrev V3 := List Int

/-- Inner product. -/
def vdot (x y : V3) : Int := (List.zipWith (· * ·) x y).foldl (· + ·) 0
/-- Sum. -/
def vadd (x y : V3) : V3 := List.zipWith (· + ·) x y
/-- Difference. -/
def vsub (x y : V3) : V3 := List.zipWith (· - ·) x y

/-- Rows of a rotation in Q2.30. -/
abbrev M3 := List V3

/-- 1 in Q2.30. -/
def q30 : Int := 2 ^ 30

/-- Rotation about z. -/
def rotZ (t : Nat) : M3 := [[cos32 t, -sin32 t, 0], [sin32 t, cos32 t, 0], [0, 0, q30]]
/-- Rotation about y. -/
def rotY (t : Nat) : M3 := [[cos32 t, 0, sin32 t], [0, q30, 0], [-sin32 t, 0, cos32 t]]
/-- Rotation about x. -/
def rotX (t : Nat) : M3 := [[q30, 0, 0], [0, cos32 t, -sin32 t], [0, sin32 t, cos32 t]]
/-- The identity. -/
def rotI : M3 := [[q30, 0, 0], [0, q30, 0], [0, 0, q30]]

/-- Product of two rotations, stored to Q2.30 (08 R223, R224). -/
def mmul (a b : M3) : M3 := a.map fun r => (List.range 3).map fun j => vdot r (b.map fun c => c.getD j 0) / 2 ^ 30

/-- ⌊R v / 2^30⌋ per coordinate (08 R224). -/
def mvec (a : M3) (v : V3) : V3 := a.map fun r => vdot r v / 2 ^ 30

/-- A frame: rotation and position in L. -/
abbrev Frm := M3 × V3

/-- µm to L, nearest, halves away from zero (08 R224). -/
def umToL (x : Int) : Int := roundHA (x * 2 ^ 24) 1000000

/-- Three µm words from an offset, in L. -/
def point3 (b : Bytes) (o : Nat) : V3 := [umToL (sAt b o 4), umToL (sAt b (o + 4) 4), umToL (sAt b (o + 8) 4)]

/-- A frame followed by a pose (08 R223; bytes of 13 R384: X, Y, Z, then the Z, Y, X angles). -/
def Frm.pose (f : Frm) (b : Bytes) : Frm :=
  let r := mmul (mmul (rotZ (uAt b 12 4)) (rotY (uAt b 16 4))) (rotX (uAt b 20 4))
  (mmul f.1 r, vadd f.2 (mvec f.1 (point3 b 0)))

/-- Angle of a revolute position (08 R224). -/
def angle32 (q : Int) : Nat := ofSigned 32 (asr q 8)

/-- Travel of a linear position in L (08 R223, R224): q × LOAD_PER_REV, nearest. -/
def travelL (ps : ParamSet) (n : Nat) (q : Int) : Int :=
  roundHA (q * prmI ps Pid.LOAD_PER_REV n * 2 ^ 24) (2 ^ 40 * 1000000)

/-- Carrier frame of an arm at the carrier's position (08 R223). -/
def carrierFrame (ps : ParamSet) (k : Nat) (q : Int) : Frm :=
  match carrierOf ps k with
  | none => (rotI, [0, 0, 0])
  | some n =>
    let b := prmR ps Pid.CAR_DIR k
    let dir : V3 := [sAt b 0 4, sAt b 4 4, sAt b 8 4]
    if dir = [0, 0, 0] then
      let r := rotZ (angle32 q)
      let c := point3 (prmR ps Pid.CAR_POINT k) 0
      (r, vsub c (mvec r c))
    else
      let s := travelL ps n q
      (rotI, dir.map fun d => s * d / 2 ^ 30)

/-- One joint's frame from the one before (08 R223 step 1). -/
def jointFrame (ps : ParamSet) (k j n : Nat) (q : Int) (f : Frm) : Frm :=
  let prismatic := prmN ps Pid.JTYPE k j = 1
  let th := if prismatic then prmN ps Pid.DH_THETA k j else angle32 q + prmN ps Pid.DH_THETA k j
  let d := umToL (prmI ps Pid.DH_D k j) + if prismatic then travelL ps n q else 0
  let r := mmul f.1 (rotZ th)
  (mmul r (rotX (prmN ps Pid.DH_ALPHA k j)), vadd f.2 (mvec r [umToL (prmI ps Pid.DH_A k j), 0, d]))

/-- Frames 0 to n of the joints on top of a frame. -/
def jointFrames (ps : ParamSet) (k : Nat) : Nat → List (Nat × Int) → Frm → List Frm
  | _, [], f => [f]
  | j, x :: r, f => f :: jointFrames ps k (j + 1) r (jointFrame ps k j x.1 x.2 f)

/-- Frame 0 of an arm: its base, at the carrier's position. -/
def baseFrame (ps : ParamSet) (k : Nat) (carrier : Int) : Frm :=
  (carrierFrame ps k carrier).pose (prmR ps Pid.BASE k)

/-- Frames 0 to n + 1 of an arm at its positions, the carrier's last (08 R223). -/
def armFrames (ps : ParamSet) (k : Nat) (qs : List Int) : List Frm :=
  let axes := armAxes ps k
  let l := jointFrames ps k 0 (axes.zip qs) (baseFrame ps k (qs.getD axes.length 0))
  l ++ [(l.getLastD (rotI, [0, 0, 0])).pose (prmR ps Pid.TOOL k)]

/-- Radius of a capsule in mm; an unused capsule has none (DEDUCED, notes/assumptions 46). -/
def capRadius (ps : ParamSet) (k c : Nat) : Nat := uAt (prmR ps Pid.CAPSULE k c) 28 2

/-- Capsules of an arm that are in use. -/
def capsOf (ps : ParamSet) (k : Nat) : List Nat := (List.range 24).filter fun c => capRadius ps k c != 0

/-- The two endpoints of a capsule in L (08 R223 step 3). -/
def capEnds (ps : ParamSet) (k c : Nat) (fs : List Frm) : V3 × V3 :=
  let b := prmR ps Pid.CAPSULE k c
  let f := fs.getD (uAt b 0 1) (rotI, [0, 0, 0])
  (vadd f.2 (mvec f.1 (point3 b 4)), vadd f.2 (mvec f.1 (point3 b 16)))

/-! ### Distance -/

/-- Ceiling of a / b. -/
def cdivN (a b : Nat) : Nat := (a + b - 1) / b

/-- Ceiling of the square root. -/
def csqrt (v : Nat) : Nat := if isqrt v * isqrt v = v then isqrt v else isqrt v + 1

/-- A capsule radius in mm as L, rounded up (08 R226). -/
def mmToL (r : Nat) : Nat := cdivN (r * 2 ^ 24) 1000

/-- An object radius in µm as L, rounded up (08 R226). -/
def umRadius (r : Nat) : Nat := cdivN (r * 2 ^ 24) 1000000

/-- Closest parameters of two segments, scaled by 2^32 (08 R226). -/
def closest (u v w : V3) : Int × Int :=
  let one : Int := 2 ^ 32
  let a := vdot u u
  let b := vdot u v
  let c := vdot v v
  let e := vdot u w
  let f := vdot v w
  let den := a * c - b * b
  let s := if den > 0 then clampI 0 one (one * (b * f - c * e) / den) else 0
  let t := b * s + one * f
  if t < 0 then (if a = 0 then 0 else clampI 0 one (one * (-e) / a), 0)
  else if t > one * c then (if a = 0 then 0 else clampI 0 one (one * (b - e) / a), one)
  else (s, if c = 0 then 0 else t / c)

/-- Witness vector from the object to the capsule at the closest parameters (08 R226). -/
def witness (u v w : V3) : V3 :=
  let st := closest u v w
  List.zipWith (fun x (y : Int × Int) => x + st.1 * y.1 / 2 ^ 32 - st.2 * y.2 / 2 ^ 32) w (u.zip v)

/-- CALC_MARGIN in L (08 R225). -/
def calcMargin : Int := 256

/-- Surface distance in L (08 R226) of a capsule of radius `rc` and an object of radius `ro`, both in L, and the witness
vector from the object to the capsule. -/
def surface (p : V3 × V3) (q : V3 × V3) (rc ro : Nat) : Int × V3 :=
  let x := witness (vsub p.2 p.1) (vsub q.2 q.1) (vsub p.1 q.1)
  (isqrtI (vdot x x) - (rc : Int) - (ro : Int) - calcMargin, x)

/-- Directed speed of an endpoint's change toward the object in µm/s, rounded up (08 R228); `x` is the witness vector. -/
def toward (dE x : V3) : Nat :=
  let n := -(vdot dE x)
  if n ≤ 0 then 0
  else
    let num := (n * 4000000000).toNat
    csqrt (cdivN (num * num) ((vdot x x).toNat * 2 ^ 48))

/-- Magnitude of an endpoint's change in µm/s, rounded up. -/
def speedMag (dE : V3) : Nat := csqrt (cdivN ((vdot dE dE).toNat * 4000000000 * 4000000000) (2 ^ 48))

/-- v_r of a pair in µm/s (08 R228) from the changes of the capsule's endpoints. -/
def pairSpeed (d0 d1 x : V3) : Nat :=
  if vdot x x = 0 then max (speedMag d0) (speedMag d1) else max (toward d0 x) (toward d1 x)

/-- Stopping-table entry of an arm: T_S in µm and S_S in µm of class κ (08 Table 08-6). -/
def stopEntry (ps : ParamSet) (k cls : Nat) : Nat × Nat :=
  let b := prmR ps Pid.STOP_TABLE k (cls - 1)
  (uAt b 4 4, uAt b 0 4)

/-- S_p in µm (08 R229, Table 08-3) of a pair: class κ, v_r in µm/s, the object's sensor. -/
def sepDistance (ps : ParamSet) (k cls vr sensor : Nat) : Nat :=
  let tr := prmN ps Pid.AGE_LIMIT 0 + 500
  let e := stopEntry ps k cls
  cdivN (prmN ps Pid.V_HUMAN 0 * (tr + e.1)) 1000 + cdivN (vr * tr) 1000000 + e.2
    + 1000 * (prmN ps Pid.C_INTR sensor + prmN ps Pid.Z_D sensor + prmN ps Pid.Z_R k)

/-- A distance in L as µm, rounded down (08 R230). -/
def lToUm (d : Int) : Int := d * 1000000 / 2 ^ 24

end Sys2Proof.Machine
end

