-- ==== Sys2Proof/Machine/Qp.lean ====
section
/-!
DEFINITION. The quadratic program of a solve in the tile's arithmetic (07 R191 to R197): stores in the class formats, the
stage Hessians, the Riccati recursion with the LDLᵀ factorisation of each input block, and the ADMM iterations. Which
intermediate words are stored, and in which class, is DEDUCED from Table 07-3 (notes/assumptions 15).
-/
namespace Sys2Proof.Machine

/-! ### Words (07 R194, R195) -/

/-- The code of NaN. -/
def qNan : Int := -2 ^ 31

/-- A value on its way to a store: the exact sum of an accumulator, none once a NaN was read. -/
abbrev Acc := Option Rat

/-- A word as it is read. -/
def QW.val (x : QW) : Acc := if x.w = qNan then none else some (((x.w * 2 ^ x.m : Int) : Rat) / (2 ^ 32 : Nat))

/-- A store into the format Qm.(32 − m): rounded toward minus infinity and saturated; NaN stays NaN (07 R194). -/
def qStore (m : Nat) : Acc → QW
  | none => { w := qNan, m := m }
  | some r =>
    let x := (r * (2 ^ 32 : Nat) / (2 ^ m : Nat)).floor
    let y := clampI (-(2 ^ 31 - 1)) (2 ^ 31 - 1) x
    { w := y, m := m, sat := decide (x ≠ y) }

/-- An accumulator: a loaded term and products, summed exactly (07 R194). -/
def mac (l : Acc) (ps : List (Acc × Acc)) : Acc :=
  ps.foldl (fun a p => match a, p.1, p.2 with | some a, some x, some y => some (a + x * y) | _, _, _ => none) l

/-- A product. -/
def qmul (x y : Acc) : Acc := mac (some 0) [(x, y)]

/-- −x. -/
def qneg (x : Acc) : Acc := qmul (some (-1)) x

/-- An accumulator with the products of two rows of words added. -/
def qdot (l : Acc) (x y : List QW) : Acc := mac l (List.zipWith (fun a b => (a.val, b.val)) x y)

/-- An accumulator with the products of two rows of words taken away. -/
def qdotN (l : Acc) (x y : List QW) : Acc := mac l (List.zipWith (fun a b => (qneg a.val, b.val)) x y)

/-- The accumulator divided by a pivot word; the store that follows rounds down (07 R195). -/
def qdiv (a : Acc) (d : QW) : Acc := match a, d.val with | some a, some d => some (a / d) | _, _ => none

/-- Saturating stores among words (07 R196). -/
def nsat (l : List QW) : Nat := (l.filter (·.sat)).length

/-! ### The matrices of one stage -/

/-- Δ in s. -/
def QpIn.dt (q : QpIn) : Rat := (q.knotM : Nat) / (16000 : Nat)

/-- m of a class: POS 0, VEL 1, ACC 2, TRQ 3, DIST 4, JAC 5, HESS 6, RIC 7, DIAG 8, FACT 9, DUAL 10. -/
def QpIn.cls (q : QpIn) (c : Nat) : Nat := lget q.fmt c

/-- w_k of the cost (07 R185). -/
def QpIn.wk (q : QpIn) (k : Nat) : Rat := if k = q.nk then (q.wN : Nat) else 1

/-- I_J of a joint in kg·m². -/
def QpIn.inertia (q : QpIn) (j : Nat) : Rat := (lget q.ij j : Nat) / (65536 : Nat)

/-- The 12 rows of a knot that hold gᵀJ. -/
def QKnot.rows (x : QKnot) : List QRow := x.coup ++ x.pen

/-- The stage Hessian of one knot, with σ and ρ CᵀC added (07 R191). -/
structure Hess where
  /-- position block -/
  qq : List (List QW) := []
  /-- velocity diagonal -/
  vv : List QW := []
  /-- acceleration diagonal, empty at knot N -/
  aa : List QW := []
  /-- slack diagonal, empty at knot 0 -/
  ss : List QW := []
  /-- slack against position -/
  sq : List (List QW) := []

/-- The stage Hessian of knot `k`. A position or velocity at knot 0 has no row and no cost (07 R186). -/
def hessAt (q : QpIn) (k : Nat) : Hess :=
  let m := q.cls 6
  let x := lget q.knots k
  let js := List.range q.n
  let rho := q.rho.val
  let one : Acc := some 1
  let er := x.rows.map fun r => r.coef.map fun c => qStore m (qmul rho c.val)
  let on : Acc := some (if k = 0 then 0 else 1)
  { qq := js.map fun i => js.map fun j =>
      let d := if i = j then mac q.sigma.val [(on, rho), (qmul on (some (q.wk k)), (lget q.wq i).val)] else some 0
      qStore m (mac d (List.zipWith (fun e r => ((lget e i).val, (lget r.coef j).val)) er x.rows))
    vv := js.map fun i => qStore m (mac q.sigma.val [(on, rho), (qmul on (some (q.wk k)), (lget q.wv i).val)])
    aa := if k = q.nk then [] else js.map fun i =>
      qStore m (mac q.sigma.val [(one, rho), (one, (lget q.wa i).val), (some (q.inertia i * q.inertia i), rho)])
    ss := x.pen.map fun _ => qStore m (mac q.sigma.val [(one, q.wSq.val), (some 2, rho)])
    sq := er.drop x.coup.length }

/-- The words of a stage Hessian. -/
def Hess.words (h : Hess) : List QW := h.qq.flatten ++ h.vv ++ h.aa ++ h.ss ++ h.sq.flatten

/-! ### LDLᵀ (07 R195, R197) -/

/-- The LDLᵀ factors of an input block: rows of L below the diagonal, the pivots, and what went wrong first, in the order of
the stores. -/
structure Ldl where
  /-- rows of L, left of the diagonal | FACT -/
  l : List (List QW) := []
  /-- pivots | DIAG -/
  d : List QW := []
  /-- 2 at a store that saturated, 1 at a pivot below the floor, whichever came first -/
  bad : Option Nat := none

/-- Is a stored pivot below 2^(31 − PIVOT_EXP) (07 R197). -/
def belowFloor (e : Nat) (d : QW) : Bool := decide (d.w < 2 ^ (31 - e))

/-- The first of some to fail. -/
def orElse2 (a : Option Nat) (l : List QW) : Option Nat := if a.isNone && l.any (·.sat) then some 2 else a

/-- One row of the block against the rows above it: products L d in DIAG beside the entries of L. -/
def ldlRow (q : QpIn) (g : List QW) : List (List QW × QW) → List QW × List QW
  | [] => ([], [])
  | above =>
    above.foldl (fun acc p =>
      let j := acc.1.length
      let c := qStore (q.cls 8) (qdotN (lget g j).val acc.1 p.1)
      (acc.1 ++ [c], acc.2 ++ [qStore (q.cls 9) (qdiv c.val p.2)])) ([], [])

/-- LDLᵀ of a symmetric block, row by row. -/
def ldl (q : QpIn) (g : List (List QW)) : Ldl :=
  g.foldl (fun f row =>
    let cl := ldlRow q row (f.l.zip f.d)
    let d := qStore (q.cls 8) (qdotN (lget row f.d.length).val cl.1 cl.2)
    let bad := orElse2 f.bad (cl.1 ++ cl.2 ++ [d])
    { l := f.l ++ [cl.2], d := f.d ++ [d]
      bad := if bad.isNone && belowFloor q.pivotExp d then some 1 else bad }) {}

/-- L t = b: the forward solve, stored in one class. -/
def Ldl.fore (f : Ldl) (m : Nat) (b : List QW) : List QW :=
  (List.zip f.l b).foldl (fun t x => t ++ [qStore m (qdotN x.2.val x.1 t)]) []

/-- Column `i` of L below the diagonal. -/
def Ldl.col (f : Ldl) (i : Nat) : List QW := (f.l.drop (i + 1)).map fun r => lget r i

/-- Lᵀ x = D⁻¹ t: the divisions and the backward solve, component i stored with m `ms i`; the quotients beside the result. -/
def Ldl.back (f : Ldl) (ms : List Nat) (t : List QW) : List QW × List QW :=
  (List.range t.length).foldr (fun i acc =>
    let m := lget ms i
    let e := qStore m (qdiv (lget t i).val (lget f.d i))
    (qStore m (qdotN e.val (f.col i) acc.1) :: acc.1, e :: acc.2)) ([], [])

/-! ### The Riccati recursion -/

/-- What the factorisation leaves at one knot for the iterations: the factors of its input block and the gains, one row an
input, over positions then velocities (07 R191). -/
structure Stage where
  /-- factors of the input block -/
  f : Ldl := {}
  /-- gains | FACT -/
  gain : List (List QW) := []

/-- A matrix column. -/
def colOf (m : List (List QW)) (j : Nat) : List QW := m.map fun r => lget r j

/-- One stage of the recursion (07 Table 07-2): from the cost-to-go of the knot after it (empty after knot N) to its factors,
gains and cost-to-go; the first failing check of the stage. -/
def riccatiStage (q : QpIn) (k : Nat) (p : List (List QW)) : Stage × List (List QW) × Option Nat :=
  let n := q.n
  let js := List.range n
  let xs := List.range (2 * n)
  let dt : Acc := some q.dt
  let dh : Acc := some (q.dt * q.dt / 2)
  let one : Acc := some 1
  let h := hessAt q k
  let at_ (m : List (List QW)) (i j : Nat) : Acc := (lget (lget m i) j).val
  -- P A and P B, their rows over the state
  let pa := p.map fun r => (js.map fun j => lget r j) ++ js.map fun j =>
    qStore (q.cls 7) (mac (some 0) [(dt, (lget r j).val), (one, (lget r (n + j)).val)])
  let na := h.aa.length
  let pb := p.map fun r => js.map fun j => qStore (q.cls 7) (mac (some 0) [(dh, (lget r j).val), (dt, (lget r (n + j)).val)])
  let acts := List.range na
  let sl := List.range h.ss.length
  let gA := acts.map fun i =>
    (acts.map fun j => qStore (q.cls 8) (mac (if i = j then (lget h.aa i).val else some 0) [(dh, at_ pb i j), (dt, at_ pb (n + i) j)]))
      ++ sl.map fun _ => qStore (q.cls 8) (some 0)
  let gS := sl.map fun i => (acts.map fun _ => qStore (q.cls 8) (some 0))
    ++ sl.map fun j => qStore (q.cls 8) (if i = j then (lget h.ss i).val else some 0)
  let g := gA ++ gS
  let fA := acts.map fun i => xs.map fun j => qStore (q.cls 7) (mac (some 0) [(dh, at_ pa i j), (dt, at_ pa (n + i) j)])
  let fS := sl.map fun i => xs.map fun j => qStore (q.cls 7) (if j < n then at_ h.sq i j else some 0)
  let f := fA ++ fS
  let fac := ldl q g
  let ms := g.map fun _ => q.cls 9
  let sols := xs.map fun j =>
    let t := fac.fore (q.cls 7) (colOf f j)
    (t, fac.back ms t)
  let gain := (List.range g.length).map fun i => sols.map fun s => lget s.2.1 i
  let cost := xs.map fun i => xs.map fun j =>
    let own : Acc := if i < n ∧ j < n then at_ h.qq i j else if i = j then (lget h.vv (i - n)).val else some 0
    let on : Acc := if p.isEmpty then some 0
      else if i < n then at_ pa i j else mac (some 0) [(dt, at_ pa (i - n) j), (one, at_ pa i j)]
    qStore (q.cls 7) (qdotN (mac own [(one, on)]) (colOf f i) (colOf gain j))
  let before := orElse2 none (h.words ++ pa.flatten ++ pb.flatten ++ g.flatten ++ f.flatten)
  let bad := match before with | some b => some b | none => fac.bad
  ({ f := fac, gain := gain }, cost,
    orElse2 bad (sols.flatMap (fun s => s.1 ++ s.2.1 ++ s.2.2) ++ gain.flatten ++ cost.flatten))

/-- The factorisation: k = N down to 0 (07 Table 07-2). The stages of knots `k` to N, the cost-to-go of knot `k`, and the
first failure with its stage. -/
def factorFrom (q : QpIn) : Nat → List Stage × List (List QW) × Option (Nat × Nat)
  | 0 => let r := riccatiStage q q.nk []
         ([r.1], r.2.1, r.2.2.map fun o => (o, q.nk))
  | i + 1 =>
    let p := factorFrom q i
    let k := q.nk - (i + 1)
    let r := riccatiStage q k p.2.1
    (r.1 :: p.1, r.2.1, match p.2.2 with | some b => some b | none => r.2.2.map fun o => (o, k))

/-! ### One iteration (07 R191) -/

/-- A knot's rows C z. -/
def rowsOf (q : QpIn) (k : Nat) (z : ZKnot) : WKnot :=
  let x := lget q.knots k
  if k = 0 then { a := z.a, t := z.a.mapIdx fun j a => qStore (q.cls 3) (qmul (some (q.inertia j)) a.val) }
  else
    { q := z.q, v := z.v, a := z.a, t := z.a.mapIdx fun j a => qStore (q.cls 3) (qmul (some (q.inertia j)) a.val)
      c := x.coup.map fun r => qStore (q.cls 4) (qdot (some 0) r.coef z.q)
      p := List.zipWith (fun r s => qStore (q.cls 4) (qdot s.val r.coef z.q)) x.pen z.s
      s := z.s }

/-- Combine two rows knot by knot. -/
def WKnot.zip (f : QW → QW → QW) (x y : WKnot) : WKnot :=
  { q := List.zipWith f x.q y.q, v := List.zipWith f x.v y.v, a := List.zipWith f x.a y.a, t := List.zipWith f x.t y.t
    c := List.zipWith f x.c y.c, p := List.zipWith f x.p y.p, s := List.zipWith f x.s y.s }

/-- Combine three rows knot by knot. -/
def WKnot.zip3 (f : QW → QW → QW → QW) (x y z : WKnot) : WKnot :=
  let g (a b c : List QW) : List QW := List.zipWith (fun f c => f c) (List.zipWith f a b) c
  { q := g x.q y.q z.q, v := g x.v y.v z.v, a := g x.a y.a z.a, t := g x.t y.t z.t, c := g x.c y.c z.c, p := g x.p y.p z.p
    s := g x.s y.s z.s }

/-- The words of a knot's rows. -/
def WKnot.words (x : WKnot) : List QW := x.q ++ x.v ++ x.a ++ x.t ++ x.c ++ x.p ++ x.s

/-- Combine two knots. -/
def ZKnot.zip (f : QW → QW → QW) (x y : ZKnot) : ZKnot :=
  { q := List.zipWith f x.q y.q, v := List.zipWith f x.v y.v, a := List.zipWith f x.a y.a, s := List.zipWith f x.s y.s }

/-- The words of a knot. -/
def ZKnot.words (x : ZKnot) : List QW := x.q ++ x.v ++ x.a ++ x.s

/-- A word of full range in a class, and its opposite (07 R186). -/
def qTop (m : Nat) : QW := { w := 2 ^ 31 - 1, m := m }
/-- The lower end of a class. -/
def qBot (m : Nat) : QW := { w := -(2 ^ 31 - 1), m := m }

/-- Lower bounds of a knot's rows (07 Table 07-1). -/
def lowerOf (q : QpIn) (k : Nat) : WKnot :=
  let x := lget q.knots k
  let neg (b : QW) : QW := { b with w := -b.w }
  let tq := List.zipWith (fun t b => qStore (q.cls 3) (mac (qneg t.val) [(some (-1), b.val)])) q.tau x.bias
  { q := q.lo, v := q.vb.map neg, a := q.ab.map neg, t := tq
    c := x.coup.map fun r => if r.active then r.lb else qBot (q.cls 4)
    p := x.pen.map fun r => if r.active then r.lb else qBot (q.cls 4)
    s := x.pen.map fun _ => { w := 0, m := q.cls 4 } }

/-- Upper bounds of a knot's rows (07 Table 07-1). -/
def upperOf (q : QpIn) (k : Nat) : WKnot :=
  let x := lget q.knots k
  let top (_ : QRow) : QW := qTop (q.cls 4)
  { q := q.hi, v := q.vb, a := q.ab
    t := List.zipWith (fun t b => qStore (q.cls 3) (mac t.val [(some (-1), b.val)])) q.tau x.bias
    c := x.coup.map top, p := x.pen.map top, s := x.pen.map top }

/-- A word no lower than one and no higher than another; a NaN stays. -/
def clampQ (l u x : QW) : QW := if x.w = qNan then x else { x with w := clampI l.w u.w x.w, sat := false }

/-- ρ w − y of each row. -/
def pulled (q : QpIn) (w y : WKnot) : WKnot :=
  w.zip (fun w y => qStore (q.cls 10) (mac (qneg y.val) [(q.rho.val, w.val)])) y

/-- The right-hand side σ z − h + Cᵀ(ρ w − y) of one knot, from the pulled rows `e`. -/
def rhsAt (q : QpIn) (k : Nat) (z : ZKnot) (e : WKnot) : ZKnot :=
  let x := lget q.knots k
  let st (l : Acc) (ps : List (Acc × Acc)) : QW := qStore (q.cls 10) (mac l ps)
  let sg := q.sigma.val
  let one : Acc := some 1
  let on : Acc := some (if k = 0 then 0 else q.wk k)
  let er := e.c ++ e.p
  { q := z.q.mapIdx fun j a => st (qmul sg a.val) ((qmul on (lget q.wq j).val, (lget x.r j).val)
      :: (if k = 0 then [] else (one, (lget e.q j).val) :: List.zipWith (fun r y => ((lget r.coef j).val, y.val)) x.rows er))
    v := z.v.mapIdx fun j a => st (qmul sg a.val) ((qmul on (lget q.wv j).val, (lget x.rd j).val)
      :: (if k = 0 then [] else [(one, (lget e.v j).val)]))
    a := z.a.mapIdx fun j a => st (qmul sg a.val) [(one, (lget e.a j).val), (some (q.inertia j), (lget e.t j).val)]
    s := z.s.mapIdx fun j a => st (qmul sg a.val) [(some (-1 / 2), q.wSl.val), (one, (lget e.p j).val), (one, (lget e.s j).val)] }

/-- m of each input of a knot: accelerations, then slacks. -/
def inputMs (q : QpIn) (b : ZKnot) : List Nat := b.a.map (fun _ => q.cls 2) ++ b.s.map (fun _ => q.cls 4)

/-- The backward pass of riccati_solve over knots with their stages: the feed-forward input of each knot, the vector handed to
the knot before, and the saturating stores. -/
def backward (q : QpIn) : List (Stage × ZKnot) → List (List QW) × List QW × Nat
  | [] => ([], [], 0)
  | (st, b) :: rest =>
    let r := backward q rest
    let n := q.n
    let pn := r.2.1
    let dt : Acc := some q.dt
    let dh : Acc := some (q.dt * q.dt / 2)
    let m := q.cls 10
    let ga := b.a.mapIdx fun j x => if pn.isEmpty then x else qStore m (mac x.val [(dh, (lget pn j).val), (dt, (lget pn (n + j)).val)])
    let g := ga ++ b.s
    let t := st.f.fore m g
    let u := st.f.back (inputMs q b) t
    let p := (List.range (2 * n)).map fun i =>
      let own := if i < n then (lget b.q i).val else (lget b.v (i - n)).val
      let on : Acc := if pn.isEmpty then some 0 else if i < n then (lget pn i).val
        else mac (lget pn i).val [(dt, (lget pn (i - n)).val)]
      qStore m (qdotN (mac own [(some 1, on)]) (colOf st.gain i) g)
    (u.1 :: r.1, p, r.2.2 + nsat (ga ++ t ++ u.1 ++ u.2 ++ p))

/-- The forward pass from the state of a knot: inputs by the gains, states by the dynamics (07 R183). -/
def forward (q : QpIn) (qs vs : List QW) : List (Stage × List QW × ZKnot) → List ZKnot × Nat
  | [] => ([], 0)
  | (st, ff, b) :: rest =>
    let dt : Acc := some q.dt
    let dh : Acc := some (q.dt * q.dt / 2)
    let u := List.zipWith (fun x (gm : List QW × Nat) => qStore gm.2 (qdotN x.val gm.1 (qs ++ vs))) ff (st.gain.zip (inputMs q b))
    let a := u.take b.a.length
    let qn := qs.mapIdx fun j x => qStore (q.cls 0) (mac x.val [(dt, (lget vs j).val), (dh, (lget a j).val)])
    let vn := vs.mapIdx fun j x => qStore (q.cls 1) (mac x.val [(dt, (lget a j).val)])
    let last := rest.isEmpty
    let r := forward q qn vn rest
    ({ q := qs, v := vs, a := a, s := u.drop b.a.length } :: r.1, (if last then nsat u else nsat (u ++ qn ++ vn)) + r.2)

/-- One ADMM iteration on (z, w, y), with its saturating stores counted (07 R191, R196). -/
def admmStep (q : QpIn) (sts : List Stage) (x : WarmSt × Nat) : WarmSt × Nat :=
  let w := x.1
  let al : Acc := some (1 + (q.alphaN : Nat) / (16 : Nat))
  let be : Acc := some (-(q.alphaN : Nat) / (16 : Nat))
  let e := List.zipWith (pulled q) w.w w.y
  let b := (w.z.zip e).mapIdx fun k p => rhsAt q k p.1 p.2
  let bk := backward q (sts.zip b)
  let q0 := (List.range q.n).map fun _ => ({ w := 0, m := q.cls 0 } : QW)
  let fw := forward q q0 q.v0 (sts.zip (bk.1.zip b))
  let xt := fw.1
  let mix (a b : QW) : QW := qStore a.m (mac (some 0) [(al, a.val), (be, b.val)])
  let wt := xt.mapIdx fun k z => rowsOf q k z
  let wr := List.zipWith (WKnot.zip mix) wt w.w
  let z := List.zipWith (ZKnot.zip mix) xt w.z
  let sh := List.zipWith (WKnot.zip fun r y =>
    let v := qStore r.m (qdiv y.val q.rho)
    let t := qStore r.m (mac r.val [(some 1, v.val)])
    { t with sat := v.sat || t.sat }) wr w.y
  let wn := sh.mapIdx fun k r => (lowerOf q k).zip3 clampQ (upperOf q k) r
  let y := List.zipWith (fun y (p : WKnot × WKnot) => y.zip3 (fun y r n =>
    qStore (q.cls 10) (mac y.val [(q.rho.val, r.val), (qneg q.rho.val, n.val)])) p.1 p.2) w.y (wr.zip wn)
  let sat := nsat (e.flatMap WKnot.words) + nsat (b.flatMap ZKnot.words) + bk.2.2 + fw.2 + nsat (wr.flatMap WKnot.words)
    + nsat (z.flatMap ZKnot.words) + nsat (sh.flatMap WKnot.words) + nsat (y.flatMap WKnot.words)
  ({ z := z, w := wn, y := y }, x.2 + sat)

/-- ADMM_K iterations. -/
def admm (q : QpIn) (sts : List Stage) : Nat → WarmSt × Nat → WarmSt × Nat
  | 0, x => x
  | k + 1, x => admm q sts k (admmStep q sts x)

/-! ### Start and warm start (07 R192) -/

/-- z at q_A at rest, w = C z, y = 0. -/
def coldStart (q : QpIn) : WarmSt :=
  let js := List.range q.n
  let zero (m : Nat) : QW := { w := 0, m := m }
  let z := (List.range (q.nk + 1)).map fun k =>
    ({ q := js.map fun _ => zero (q.cls 0), v := js.map fun _ => zero (q.cls 1)
       a := if k = q.nk then [] else js.map fun _ => zero (q.cls 2)
       s := (lget q.knots k).pen.map fun _ => zero (q.cls 4) } : ZKnot)
  let w := z.mapIdx fun k x => rowsOf q k x
  { z := z, w := w, y := w.map fun r => r.zip (fun a _ => { a with w := 0, m := q.cls 10, sat := false }) r }

/-- A sequence shifted forward by `i` places, the vacated last ones copied from the last. -/
def shifted {α : Type} (i : Nat) (l : List α) : List α := (List.range l.length).filterMap fun k => l[min (k + i) (l.length - 1)]?

/-- One part of a sequence of knots shifted, over the knots that have it: knot N has no input, and knot 0 no row. -/
def shiftPart {α : Type} (i : Nat) (part : α → List QW) (put : α → List QW → α) (l : List α) : List α :=
  let has := shifted i ((l.map part).filter (!·.isEmpty))
  (l.foldl (fun (acc : List α × List (List QW)) x =>
    if (part x).isEmpty then (acc.1 ++ [x], acc.2) else (acc.1 ++ [put x (acc.2.headD (part x))], acc.2.drop 1)) ([], has)).1

/-- z shifted forward by `i` knots. -/
def shiftZ (i : Nat) (l : List ZKnot) : List ZKnot :=
  shiftPart i (·.q) (fun x p => { x with q := p }) <| shiftPart i (·.v) (fun x p => { x with v := p })
    <| shiftPart i (·.a) (fun x p => { x with a := p }) <| shiftPart i (·.s) (fun x p => { x with s := p }) l

/-- w or y shifted forward by `i` knots. -/
def shiftW (i : Nat) (l : List WKnot) : List WKnot :=
  shiftPart i (·.q) (fun x p => { x with q := p }) <| shiftPart i (·.v) (fun x p => { x with v := p })
    <| shiftPart i (·.a) (fun x p => { x with a := p }) <| shiftPart i (·.t) (fun x p => { x with t := p })
    <| shiftPart i (·.c) (fun x p => { x with c := p }) <| shiftPart i (·.p) (fun x p => { x with p := p })
    <| shiftPart i (·.s) (fun x p => { x with s := p }) l

/-- The start of a solve: the last one's z, w and y shifted by ⌊P / Δ⌋ knots, or the cold start (07 R192). `per` is P in
control cycles. -/
def startOf (q : QpIn) (per : Nat) : Option WarmSt → WarmSt
  | none => coldStart q
  | some w =>
    let i := per / q.knotM
    if w.z.length = q.nk + 1 then { z := shiftZ i w.z, w := shiftW i w.w, y := shiftW i w.y } else coldStart q

/-! ### The solve -/

/-- What the phases before completion come to: an outcome (0 where completion is reached), its stage, the saturating stores of
the iterations, and the final z, w and y (07 R191, R196, R197). -/
structure QpOut where
  /-- 0, ILL_POSED 1 or OVERFLOW 2 -/
  outcome : Nat := 0
  /-- stage of the failing pivot or store -/
  stage : Nat := 255
  /-- saturating stores during iteration -/
  sat : Nat := 0
  /-- final z, w and y -/
  fin : WarmSt := {}

/-- The words the linearisation stores at one knot. -/
def QKnot.words (x : QKnot) : List QW :=
  x.qb ++ x.bias ++ x.rows.flatMap fun r => r.coef ++ [r.d, r.bound, r.lb]

/-- The first knot whose linearisation saturated a store (07 R196). -/
def linBad (q : QpIn) : Option Nat := (List.range q.knots.length).find? fun k => (lget q.knots k).words.any (·.sat)

/-- Linearisation checks, factorisation and iterations of a solve (07 Table 07-2). -/
def qpSolve (q : QpIn) (k per : Nat) (w : Option WarmSt) : QpOut :=
  match linBad q with
  | some i => { outcome := 2, stage := i }
  | none =>
    let f := factorFrom q q.nk
    match f.2.2 with
    | some (o, i) => { outcome := o, stage := i }
    | none =>
      let r := admm q f.1 k (startOf q per w, 0)
      { sat := r.2, fin := r.1 }

end Sys2Proof.Machine
end

