-- ==== Sys2Proof/Machine/Linearise.lean ====
section
/-!
DEFINITION. Admission and linearisation of a solve (07 R185 to R190, R199): path reference, bounds, gravity torque, the
capsule pairs screened at each knot, coupling and penumbra rows, and the range checks. The kinematics are those of 08 R223 and
R224 (notes/assumptions 15).
-/
namespace Sys2Proof.Machine

/-- Capsule slots of an arm in use: up to the highest one with a radius (DEDUCED, notes/assumptions 46). -/
def capsUsed (ps : ParamSet) (k : Nat) : Nat := (capsOf ps k).foldl (fun m c => max m (c + 1)) 0

/-- Endpoints of a capsule as a record holds them: 2^-20 m, rounded down (07 R213). -/
def capCoords (e : V3 × V3) : List Int := (e.1 ++ e.2).map (· / 16)

/-- The capsules of one knot (07 R213): joint positions, then the carrier's. -/
def capsAtKnot (ps : ParamSet) (k : Nat) (qs : List Int) : List (List Int) :=
  let fs := armFrames ps k qs
  (List.range (capsUsed ps k)).map fun c => capCoords (capEnds ps k c fs)

/-- Path reference at an instant: position and rate by linear interpolation between the enclosing entries, each rounded
down; the first entry before them, the last after them (13 R388). `step` is the spacing of the entries in ns. -/
def pathAt (path : List (List (Int × Int))) (t0 step t : Nat) : List (Int × Int) :=
  if path.isEmpty then []
  else if t ≤ t0 ∨ step = 0 then lget path 0
  else
    let i := (t - t0) / step
    let at_ (a b : Int) : Int := a + fdiv ((b - a) * ((t - t0) % step : Nat)) (step : Nat)
    if path.length ≤ i + 1 then path.getLastD []
    else List.zipWith (fun a b => (at_ a.1 b.1, at_ a.2 b.2)) (lget path i) (lget path (i + 1))

/-- A capsule of another arm's record at an instant, interpolated between the knots that enclose it, each coordinate rounded
down; its first knot before them, its last after them (07 R187). -/
def foreignCap (p : PlanData) (c : Nat) (t : Time) : List Int :=
  let at_ (i : Nat) : List Int := lget (lget p.caps i) c
  let step := p.knotM * tCtl
  if t ≤ p.ts ∨ step = 0 then at_ 0
  else
    let i := (t - p.ts) / step
    if p.n ≤ i then at_ p.n
    else List.zipWith (fun (a b : Int) => a + fdiv ((b - a) * ((t - p.ts) % step : Nat)) (step : Nat)) (at_ i) (at_ (i + 1))

/-- Coordinates of a record in L. -/
def coordsToL (l : List Int) : V3 × V3 := ((l.take 3).map (16 * ·), (l.drop 3).map (16 * ·))

/-- Entries of COUPLE_LIST in use: (arm, capsule) (07 Table 07-8). -/
def coupleList (ps : ParamSet) (k : Nat) : List (Nat × Nat) :=
  ((List.range 24).map fun i => let b := prmR ps Pid.COUPLE_LIST k i; (uAt b 0 1, uAt b 1 1)).filter
    fun e => decide (e.1 < 8) && decide (e.2 < 24) && e.1 != k

/-! ### Distances at q̄ -/

/-- A capsule against an object at one knot: surface distance in L without the SSM's margin, the vector from the object to the
capsule between the witness points, and the witness point on the capsule (07 R188). -/
def nearPair (own other : V3 × V3) (ro rc : Nat) : Int × V3 × V3 :=
  let u := vsub own.2 own.1
  let v := vsub other.2 other.1
  let st := closest u v (vsub own.1 other.1)
  let x := witness u v (vsub own.1 other.1)
  (isqrtI (vdot x x) - (rc : Int) - (ro : Int), x, List.zipWith (fun a d => a + st.1 * d / 2 ^ 32) own.1 u)

/-- A vector product. -/
def vcross (a b : V3) : V3 :=
  let g (l : V3) (i : Nat) : Int := l.getD i 0
  [g a 1 * g b 2 - g a 2 * g b 1, g a 2 * g b 0 - g a 0 * g b 2, g a 0 * g b 1 - g a 1 * g b 0]

/-- The direction g of a row as a vector and its length: along the witness vector, from the object to the capsule; where the
two points coincide the spec gives none, and it is free (notes/assumptions 15). -/
def rowDir (x : V3) (fresh : Nat) : V3 × Int :=
  if vdot x x = 0 then ((List.range 3).map fun i => toSigned 32 (Config.free32 (fresh + i)).toNat, 2 ^ 31)
  else (x, max 1 (isqrtI (vdot x x)))

/-- gᵀJ of one joint in m/rev (07 R188): the joint turns or moves the point `w` (in L) of link frame `link` along the vector
`g.1` of length `g.2`. A revolute joint of 1 rev turns by 2π. -/
def gradJoint (ps : ParamSet) (k : Nat) (fs : List Frm) (link j n : Nat) (w : V3) (g : V3 × Int) : Rat :=
  if link ≤ j then 0
  else
    let f := fs.getD j (rotI, [0, 0, 0])
    let z : V3 := f.1.map fun r => r.getD 2 0
    let l : Rat := g.2
    if prmN ps Pid.JTYPE k j = 1 then (vdot g.1 z : Int) * (prmI ps Pid.LOAD_PER_REV n : Int) / (l * (2 ^ 30 : Nat) * (1000000 : Nat))
    else 2 * piRat * (vdot g.1 (vcross z (vsub w f.2)) : Int) / (l * (2 ^ 54 : Nat))

/-- A row of one knot from its exact terms (07 Table 07-1): `m` DIST and JAC formats, distance and bound in m. -/
def mkRow (mDist mJac : Nat) (grad : List Rat) (d bound : Rat) (qb : List QW) : QRow :=
  let coef := grad.map fun g => qStore mJac (some g)
  let dw := qStore mDist (some d)
  let bw := qStore mDist (some bound)
  { coef := coef, d := dw, bound := bw, active := true
    lb := qStore mDist (qdot (mac bw.val [(some (-1), dw.val)]) coef qb) }

/-- A row that is formed and inactive (07 R186). -/
def idleRow (mDist mJac n : Nat) : QRow :=
  { coef := List.replicate n { w := 0, m := mJac }, d := { m := mDist }, bound := qBot mDist, lb := qBot mDist }

/-- JACOBI_MARGIN in m: A_CART × (2P)² (07 R188). -/
def jacobiMargin (ps : ParamSet) (k : Nat) : Rat :=
  let p2 : Rat := (2 * prmN ps Pid.PLAN_PERIOD k : Nat) / (1000000 : Nat)
  (prmN ps Pid.A_CART k : Nat) * p2 * p2

/-- A pair that qualifies as a coupling row: distance, place in COUPLE_LIST, own slot, witness vector and point. -/
abbrev NearPair := Int × Nat × Nat × V3 × V3

/-- The capsule pairs of one knot closer than DIST_ACTIVE, the 8 nearest first; ties go to the lower COUPLE_LIST index, then to
the lower own slot (07 R188). -/
def nearest8 (ps : ParamSet) (k : Nat) (own : List (Nat × (V3 × V3))) (others : List (Nat × Nat × (V3 × V3))) : List NearPair :=
  let pairs := others.flatMap fun (i, ro, e) => own.map fun (c, o) =>
    let r := nearPair o e ro (mmToL (capRadius ps k c))
    ((r.1, i, c, r.2.1, r.2.2) : NearPair)
  let lim : Int := (prmN ps Pid.DIST_ACTIVE k : Int) * 2 ^ 24
  let hit := pairs.filter fun p => decide (p.1 * 1000 < lim)
  (hit.mergeSort fun a b => decide (a.1 < b.1)
    || (decide (a.1 = b.1) && (decide (a.2.1 < b.2.1) || (decide (a.2.1 = b.2.1) && decide (a.2.2.1 ≤ b.2.2.1))))).take 8

/-- L as m. -/
def lToM (d : Int) : Rat := (d : Rat) / (2 ^ 24 : Nat)

/-! ### Inputs of a solve -/

/-- The capsules of other arms that a solve sees at an instant: place in COUPLE_LIST, radius in L, endpoints in 2^-20 m. An arm
that has published nothing shows none. -/
def foreignAt (ps : ParamSet) (k : Nat) (shown : Nat → Option PlanData) (t : Time) : List (Nat × Nat × List Int) :=
  (((coupleList ps k).zipIdx).map fun (e, i) => (i, e)).filterMap fun (i, e) =>
    (shown e.1).map fun p => (i, mmToL (capRadius ps e.1 e.2), foreignCap p e.2 t)

/-- One knot of a solve at its instant, along q̄ (positions of the joints then) with anchor `qA` (07 R185 to R190). -/
def knotAt (ps : ParamSet) (k : Nat) (fmt : List Nat) (qA qb : List Int) (carrier : Int) (pen : List PenObj)
    (foreign : List (Nat × Nat × List Int)) (path : List (Int × Int)) (first : Bool) (fresh : Nat) : QKnot :=
  let axes := armAxes ps k
  let n := axes.length
  let off (q a : Int) : Rat := ((q - a : Int) : Rat) / (2 ^ 40 : Nat)
  let mP := lget fmt 0
  let mD := lget fmt 4
  let mJ := lget fmt 5
  let qw := List.zipWith (fun q a => qStore mP (some (off q a))) qb qA
  let path := if path.isEmpty then qA.map fun a => (a, 0) else path
  let fs := armFrames ps k (qb ++ [carrier])
  let own := (capsOf ps k).map fun c => (c, capEnds ps k c fs)
  let grad (c : Nat) (x w : V3) (fr : Nat) : List Rat :=
    axes.mapIdx fun j a => gradJoint ps k fs (uAt (prmR ps Pid.CAPSULE k c) 0 1) j a w (rowDir x fr)
  let near := nearest8 ps k own (foreign.map fun (i, r, e) => (i, r, coordsToL e))
  let sepM : Rat := (prmN ps Pid.D_SEP k : Nat) / (1000 : Nat) + jacobiMargin ps k
  let coup := near.mapIdx fun i p => mkRow mD mJ (grad p.2.2.1 p.2.2.2.1 p.2.2.2.2 (fresh + 3 * i)) (lToM p.1) sepM qw
  let pens := pen.mapIdx fun i o =>
    let ro := umRadius o.rEff
    let best := own.foldl (fun (b : Option (Int × Nat × V3 × V3)) (c, e) =>
      let r := nearPair e (o.pos.take 3, o.pos.drop 3) ro (mmToL (capRadius ps k c))
      match b with
      | some x => if r.1 < x.1 then some (r.1, c, r.2) else b
      | none => some (r.1, c, r.2)) none
    match best with
    | some (d, c, x, w) => mkRow mD mJ (grad c x w (fresh + 24 + 3 * i)) (lToM d) ((o.sPen : Nat) / (1000000 : Nat)) qw
    | none => idleRow mD mJ n
  let idle := idleRow mD mJ n
  { r := List.zipWith (fun (p : Int × Int) a => qStore mP (some (off p.1 a))) path qA
    rd := path.map fun p => qStore (lget fmt 1) (some (p.2 * (16000 : Nat) / (2 ^ 40 : Nat)))
    qb := qw
    bias := qb.mapIdx fun j q => qStore (lget fmt 3) (some
      (((prmI ps Pid.G k j * cos32 (angle32 (q + prmI ps Pid.PHI k j)) : Int) : Rat) / (2 ^ 46 : Nat)))
    coup := if first then [] else coup ++ List.replicate (8 - coup.length) idle
    pen := if first then [] else pens ++ List.replicate (4 - pens.length) idle }

/-- B_POS of an arm in rev (07 Table 07-3). -/
def bPos (ps : ParamSet) (k : Nat) : Rat :=
  let v := (armAxes ps k).foldl (fun m a => max m (prmN ps Pid.VMAX a)) 0
  ((v * prmN ps Pid.HORIZON_N k * prmN ps Pid.KNOT_M k : Nat) : Rat) / (65536 * 16000 : Nat)

/-- The program of a solve (07 R185 to R190): its parameters, bounds and knots. `vm` and `am` are the velocity and acceleration
limits in force per joint in the units of VMAX and AMAX. -/
def programOf (ps : ParamSet) (k : Nat) (x0 : List (Int × Int)) (vm am : List Nat) (knots : List QKnot) : QpIn :=
  let axes := armAxes ps k
  let n := axes.length
  let fmt := (List.range 11).map fun c => classM ps k c
  let word (pid sub : Nat) : QW := { w := prmI ps pid k sub, m := lget fmt 6 }
  let js := List.range n
  let b := bPos ps k
  let edge (pid j : Nat) : Rat := ((prmI ps pid (lget axes j) - (lget x0 j).1 : Int) : Rat) / (2 ^ 40 : Nat)
  let clip (r : Rat) : QW := qStore (lget fmt 0) (some (max (-b) (min b r)))
  { n := n, nk := prmN ps Pid.HORIZON_N k, knotM := prmN ps Pid.KNOT_M k, fmt := fmt
    alphaN := prmN ps Pid.ALPHA_N k, wN := prmN ps Pid.W_N k, pivotExp := prmN ps Pid.PIVOT_EXP k
    rho := word Pid.RHO 0, sigma := word Pid.SIGMA 0, wSl := word Pid.W_SL 0, wSq := word Pid.W_SQ 0
    wq := js.map (word Pid.W_Q), wv := js.map (word Pid.W_V), wa := js.map (word Pid.W_A)
    v0 := x0.map fun x => qStore (lget fmt 1) (some ((x.2 * 16000 : Int) / (2 ^ 40 : Nat)))
    lo := js.map fun j => clip (edge Pid.SOFT_LO j), hi := js.map fun j => clip (edge Pid.SOFT_HI j)
    vb := vm.map fun (v : Nat) => qStore (lget fmt 1) (some ((v : Rat) / (65536 : Nat)))
    ab := am.map fun (a : Nat) => qStore (lget fmt 2) (some ((a : Rat) / (4096 : Nat)))
    ij := js.map fun j => prmN ps Pid.I_J k j
    tau := js.map fun j => qStore (lget fmt 3) (some ((prmN ps Pid.TAU_MAX k j : Rat) / (65536 : Nat)))
    resTol := qStore (lget fmt 4) (some ((prmN ps Pid.RES_TOL k : Rat) / (1000000 : Nat)))
    knots := knots }

/-! ### Range checks (07 R199) -/

/-- A point in L lies farther than WS_RADIUS from the base of the arm. -/
def beyondReach (ps : ParamSet) (k : Nat) (base p : V3) : Bool :=
  let d := vsub p base
  let d2 := vdot d d
  let r : Int := (prmN ps Pid.WS_RADIUS k : Int) * 2 ^ 24
  decide (d2 * 1000000 > r * r)

/-- The admission checks of a solve: the velocity of x_0, the path, the foreign capsules and the tracked objects, and NaN. -/
def outOfRange (ps : ParamSet) (k : Nat) (x0 : List (Int × Int)) (carrier : Int) (paths : List (List (Int × Int)))
    (foreign : List (List (Nat × Nat × List Int))) (pen : List PenObj) : Bool :=
  let hard := (armAxes ps k).foldl (fun m a => max m (prmN ps Pid.V_HARD a)) 0
  let b := bPos ps k
  let base := (baseFrame ps k carrier).2
  let far (e : V3 × V3) : Bool := beyondReach ps k base e.1 || beyondReach ps k base e.2
  x0.any (fun x => decide ((x.2.natAbs : Int) * 16000 > (hard : Int) * 2 ^ 24))
    || paths.any (fun p => (List.zipWith (fun (r : Int × Int) (x : Int × Int) =>
        decide (((r.1 - x.1).natAbs : Rat) > b * (2 ^ 40 : Nat))) p x0).any id)
    || foreign.any (fun l => l.any fun f => f.2.2.any (fun c => decide (c = qNan)) || far (coordsToL f.2.2))
    || pen.any (fun o => far (o.pos.take 3, o.pos.drop 3))

end Sys2Proof.Machine
end

