-- ==== Sys2Proof/Machine/Period.lean ====
section
/-!
DEFINITION. The current period (01 Table 01-2): its event, the feedback cut-off with the ports' frames and the current
paths, and the outbound launch (10 R285 to R292), with the rows that follow from a missed current loop (01 R26).
-/
namespace Sys2Proof.Machine

/-- Index of the period in progress within its control cycle (01 R14). -/
def State.q (s : State) : Nat := s.cyc.tk / tCur % 4

/-- CURRENT_PERIOD_EVENT (01 R10, R14, 04 R100): the next current period begins; its inbound windows open and the edge
windows move on. -/
def execCurrentPeriodEvent (s : State) : Out :=
  .next <|
    if !s.cyc.running then s
    else
      let t := s.cyc.nextTk
      let s := s.upTo t
      { s with
        cyc := { s.cyc with tk := t, nextTk := t + tCur, cutDone := false, launchDone := false }
        ssv := { s.ssv with wdAt := s.cyc.now }
        dl := { s.dl with
          epoch := max s.dl.epoch s.dl.epochNext, epochNext := 0, lost := s.dl.lost || s.dl.lostNext, lostNext := false
          ports := vmapI s.dl.ports fun _ p =>
            { p with rx := none, got := false, good := false, cause := 0
                     ctl := p.ctl.map fun c => (c.1, c.2.1, c.2.2.1, if c.2.2.2 = 0 then 0 else c.2.2.2 + 1) } }
        axes := vmapI s.axes fun _ a => { a with cur := { a.cur with
          phA := a.cur.phA.shift, phB := a.cur.phB.shift, legsCur := a.cur.legs } } }

/-! ### Feedback cut-off -/

/-- Count a bad frame by its cause (10 R310, Table 10-13); frames outside the window were counted as they came (R311). -/
def PortErr.count (e : PortErr) (cause : Nat) : PortErr :=
  match cause with
  | 1 => { e with crc := incSat 255 e.crc }
  | 2 => { e with code := incSat 255 e.code }
  | 3 => e
  | 4 => { e with seq := incSat 255 e.seq }
  | 5 => { e with format := incSat 255 e.format }
  | _ => { e with missing := incSat 255 e.missing }

/-- A port at the feedback cut-off (10 R298, R310): good or bad frame, its run, and the frame kept. -/
def PortSt.cut (p : PortSt) : PortSt :=
  if !p.state.counts then { p with seqFree := false }
  else if p.good then
    { p with badRun := 0, goodRun := incSat 128 p.goodRun, seqFree := false
             lastRx := match p.rx with | some r => r.2 | none => p.lastRx }
  else { p with badRun := incSat 3 p.badRun, goodRun := 0, seqFree := false, staleRun := 0, err := p.err.count p.cause }

/-- Slot data of the axes of a port for this period: axis, slot data where the frame is good, I_FS in 10 mA. -/
def portInputs (s : State) (p : Nat) : List (Nat × Option SlotIn × Nat) :=
  let x := s.port p
  (portAxes s.ps p).map fun e =>
    let o := inHdrLen + if e.1 = 0 then 0 else slotSize (prmN s.ps Pid.KIND0 p)
    let d := if x.state.counts && x.good then some (readSlot x.lastRx o e.2.1 e.1) else none
    (e.2.2, d, match x.disc with | some b => discI_FS b e.1 | none => 0)

/-- The stage of an axis announced an absolute encoder (10 Table 10-8, 03 R98). -/
def announcedAbs (s : State) (n : Nat) : Bool :=
  match axSlot s.ps n with
  | some (p, sl) => match (s.port p).disc with | some b => discAbs b sl | none => false
  | none => false

/-- A search of homing waits for an index edge (03 Table 03-6). -/
def AxisSt.indexSearch (a : AxisSt) : Bool :=
  match a.home with | some h => (h.method == 1 && h.phase == 0) || (h.method == 2 && h.phase == 1) | none => false

/-- Index edge of the frame during a search: the mark, if the sample is valid (03 R97). -/
def indexCut (ps : ParamSet) (n : Nat) (x : SlotIn) (a : AxisSt) (l : DpLog) : DpLog × AxisSt :=
  if a.indexSearch && x.idx then
    let (l, _, p, _, _) := encSample ps n x.idxS x.idxC x.idxQ l
    match p with
    | some p =>
      let pos := wrapPos (prmI ps Pid.MODULUS n) (loadSide ps n (encCount ps n p) + a.fb.offset)
      (l, { a with home := a.home.map fun h => { h with mark := some pos } })
    | none => (l, a)
  else (l, a)

/-- What the cut-off of an axis finds: OVERCURRENT, the loss of its absolute reading, a lost step. -/
structure CutFinds where
  peak : Bool := false
  absLost : Bool := false
  lost : Bool := false
  deriving DecidableEq, Repr, Inhabited

/-- The encoder and the position status of an axis at the cut-off (03 R96, R98). A lost absolute reading ends the way back to HOMED
after a lost step. -/
def feedbackCut (s : State) (n q : Nat) (x : Option SlotIn) (a : AxisSt) (l : DpLog) : DpLog × AxisSt × Bool :=
  let wasSeen := a.fb.seen
  let (l, a) := match x with
    | some x => if hasEnc s.ps n then (let (l, a) := encCut s.ps n q x a l; indexCut s.ps n x a l) else (l, a)
    | none => (l, { a with fb := { a.fb with valid := false }, cur := { a.cur with kNan := false } })
  let a := a.slotFlags q x
  let a := if q = 0 then { a with fb := { a.fb with valid0 := a.fb.valid, pos0 := if a.fb.valid then a.fb.pos else a.fb.pos0 } } else a
  let absOk := match x with | some x => x.absOk | none => true
  let homed := !wasSeen && a.fb.seen && encAbs s.ps n && absOk
  let absLost := x.isSome && announcedAbs s n && !absOk && decide (a.pos ≠ .uncertain)
  (l, { a with
    pos := if absLost then .uncertain else if homed then .homed else a.pos
    cur := { a.cur with recover := a.cur.recover && absOk } }, absLost)

/-- The current path of an axis at the cut-off by its type; an axis that is not driven idles. -/
def pathCut (s : State) (n q iFs : Nat) (x : Option SlotIn) (a : AxisSt) (l : DpLog) : DpLog × AxisSt × Bool :=
  if !a.powered then (l, idleCut s.ps n q a, false)
  else match axType s.ps n with
    | .stepper => stepperCut s.ps n q x a l
    | .servo => let r := servoCut s.ps n q iFs x a l; (r.1, r.2, false)
    | _ => (l, a, false)

/-- A lost step (04 R113 to R115): in a HARD_STOP sequence it only counts; else the axis is UNCERTAIN, and with an encoder it is
re-aligned and, where it was HOMED, on its way back to it. -/
def AxisSt.stepLost (enc : Bool) (a : AxisSt) : AxisSt :=
  if a.hardStop then { a with home := a.home.map fun h => { h with lost := h.lost + 1 } }
  else { a with pos := .uncertain, cur := { a.cur with
    reAlign := enc, recover := enc && (a.cur.recover || decide (a.pos = .homed)), recoverRun := 0 } }

/-- Invocations of kernels are served by the pool of a cluster (06 R163, R166). -/
def State.serve (cluster : Nat) (l : DpLog) (s : State) : State :=
  l.reverse.foldl (fun s d =>
    { s.drawn with dps := vmd s.dps (pickDp s.dps cluster (Config.free32 s.fresh).toNat) fun p => p.served d }) s

/-- An axis at the feedback cut-off: encoder, position status, OVERCURRENT before every other step (04 R126), current path. -/
def axisCut (n : Nat) (x : Option SlotIn) (iFs : Nat) (s : State) : State × CutFinds :=
  let q := s.q
  let peak := match x with | some x => overCurrent s.ps n x | none => false
  let (l, a, absLost) := feedbackCut s n q x (s.ax n) []
  let a := if peak then { a with cur := { a.cur with overCur := true } } else a
  let (l, a, lost) := pathCut s n q iFs x a l
  let search := a.hardStop
  let a := if lost then a.stepLost (hasEnc s.ps n) else a
  ((s.mdAx n fun _ => a).serve (s.clusterOf n) l, { peak := peak, absLost := absLost, lost := lost && !search })

/-- The events and faults of what the cut-off of an axis found (04 R113, R126, R491, 03 R98). -/
def cutFaults (n : Nat) (f : CutFinds) (s : State) : State :=
  let k := s.axSc n
  let s := if f.peak then faultF2 k Sts.OVERCURRENT 1 (raiseAxis n Sts.OVERCURRENT s) else s
  let s := if f.absLost then faultF1 k Sts.ENC_INVALID 7 (raiseAxis n Sts.ENC_INVALID s) else s
  if f.lost then
    let s := raiseAxis n Sts.LOST_STEP s
    if (s.sc k).fn = .enabled then faultF1 k Sts.LOST_STEP 7 s else s
  else s

/-- The feedback cut-off of a period (01 R14, R26, 10 R310): inbound feedback is fixed, bad frames are counted and reported
with their cause (DEDUCED, notes/assumptions 83), and the current loops
and choppers run for the window after next; the SSM takes its samples (08 R217). What the axes find wrong takes effect once all of
them have run (04 R491). -/
def cutFeedback (s : State) : State :=
  let s := s.upTo (s.cyc.tk + tCut)
  let missed := (List.range 36).filter fun p => (s.port p).state.counts && !(s.port p).good
  let s := { s with
    cyc := { s.cyc with cutDone := true }
    dl := { s.dl with ports := vmapI s.dl.ports fun _ p => p.cut } }
  let s := missed.foldl (fun s p => raisePort p Sts.OK (if (s.port p).cause = 0 then 6 else (s.port p).cause) s) s
  let (s, finds) := ((List.range 36).flatMap (portInputs s)).foldl (fun (r : State × List (Nat × CutFinds)) e =>
    let (s, f) := axisCut e.1 e.2.1 e.2.2 r.1
    (s, r.2 ++ [(e.1, f)])) (s, [])
  ssmSample (finds.foldl (fun s e => cutFaults e.1 e.2 s) s)

/-! ### Outbound launch -/

/-- One edge entry as sent (04 R128, Table 04-3). -/
def edgeBytes (e : Edge) : Bytes := leBytes 4 (e.2 * 2 ^ 16 + e.1)

/-- Slot descriptor (10 Table 10-2). -/
def slotDesc (kind n0 n1 n2 : Nat) (sto brk : Bool) : Nat :=
  bit brk * 2 ^ 19 + bit sto * 2 ^ 18 + kind * 2 ^ 15 + n2 * 2 ^ 10 + n1 * 2 ^ 5 + n0

/-- BRK of an axis (10 Table 10-2): both switches of its brake pair are commanded closed. -/
def released (s : State) (n : Nat) : Bool :=
  match brakeOf s.ps (s.axSc n) with | some k => (s.bk k).hs && (s.bk k).ls | none => false

/-- Descriptor and payload of a slot of a CMD frame (10 R290, R291). -/
def slotOut (s : State) (p slot : Nat) (force : Bool) : Nat × Bytes :=
  match (portAxes s.ps p).find? (fun e => e.1 == slot) with
  | none => (0, [])
  | some e =>
    let kind := e.2.1
    let a := s.ax e.2.2
    let sto := a.sto || force
    let lists := if kind = 1 then [a.cur.phA.winNext, a.cur.phB.winNext, []] else if kind = 2 then a.cur.legs else [[], [], []]
    let len (i : Nat) : Nat := (lget lists i).length
    let data := if kind = 3 ∨ kind = 4 then leBytes 4 (ofSigned 16 a.relCmd) else (lists.flatten).flatMap edgeBytes
    (slotDesc kind (len 0) (len 1) (len 2) sto (released s e.2.2), data)

/-- Outbound header (10 Table 10-1). -/
def outHeader (typ clr seq epoch delay holdN port ctlAddr ctlTag ctlOp s0 s1 : Nat) : Bytes :=
  leBytes 1 typ ++ leBytes 1 clr ++ leBytes 2 seq ++ leBytes 4 epoch ++ leBytes 2 delay ++ leBytes 1 holdN ++ leBytes 1 port
    ++ leBytes 2 ctlAddr ++ leBytes 1 ctlTag ++ leBytes 1 ctlOp ++ leBytes 4 s0 ++ leBytes 4 s1

/-- The unit commands its drive links (10 R290, R306), after a takeover from T_tk on (14 R413). -/
def State.commands (s : State) : Bool :=
  s.dl.authority && !s.dl.lost && (match s.mlc.tk with | some t => decide (t ≤ s.cyc.now) | none => true)

/-- CLR_HOLD (10 R307): the frame enables a slot, its STO going from 1 in the frame before (or none before) to 0. -/
def clrHold (tx : Bytes) (d0 d1 : Nat) : Bool :=
  let was (o : Nat) : Bool := uAt tx 0 1 != 1 || (uAt tx o 4).testBit 18
  let on (d o : Nat) : Bool := d != 0 && !d.testBit 18 && was o
  on d0 16 || on d1 20

/-- The frame a port launches in this period (10 R285, R290, R291, R312). -/
def outFrame (s : State) (p : Nat) : Bytes :=
  let x := s.port p
  let typ := if x.resetDue then 3 else if s.commands && !x.listen then 1 else 2
  let force := decide (x.state ≠ .ready)
  let d0 := if typ = 1 then slotOut s p 0 force else (0, [])
  let d1 := if typ = 1 then slotOut s p 1 force else (0, [])
  let ctl := match x.ctl with | some c => if typ = 1 && c.2.2.2 == 0 then c else (0, 0, 0, 1) | none => (0, 0, 0, 1)
  let h := outHeader typ (bit (typ = 1 && clrHold x.tx d0.1 d1.1)) (s.cyc.tk / tCur % 2 ^ 16) s.dl.epoch x.delay
    (prmN s.ps Pid.HOLD_N p) p ctl.2.2.1 (if ctl.2.2.2 = 0 then ctl.2.1 else 0) (bit (ctl.2.2.2 = 0)) d0.1 d1.1
  let b := h ++ d0.2 ++ d1.2
  b ++ leBytes 4 (crc32c b)

/-- DELAY from 64 round-trip times (10 R287): their median, the mean of the two middle ones, to the nearest 1/4 ns with
halves up. -/
def delayOf (h : List Int) : Option Nat :=
  if h.length < 64 then none
  else
    let l := h.mergeSort (· ≤ ·)
    some (((lget l 31 + lget l 32 + 32) / 64).toNat % 2 ^ 16)

/-- DELAY sent from now on (10 R287): while a slot carries STO = 0 it moves by one unit in 64 periods at most. -/
def PortSt.newDelay (p : PortSt) (live : Bool) (k : Nat) : PortSt :=
  match delayOf p.dHist with
  | none => p
  | some d =>
    if d = p.delay then p
    else if !live then { p with delay := d, delayAt := k }
    else if p.delayAt + 64 ≤ k then { p with delay := if d > p.delay then p.delay + 1 else p.delay - 1, delayAt := k }
    else p

/-- A slot of the port carries STO = 0. -/
def portLive (s : State) (p : Nat) : Bool := (portAxes s.ps p).any fun e => !(s.ax e.2.2).sto

/-- The axes of a port lose or gain AVAILABLE (10 Table 10-6); an axis that no lane serves stays without it (16 R453). -/
def portAvail (p : Nat) (on : Bool) (s : State) : State :=
  (portAxes s.ps p).foldl (fun t e => t.mdAx e.2.2 fun a => { a with flags := { a.flags with available := on && s.served e.2.2 } }) s

/-- Code of a port state (10 Table 10-12). -/
def PortState.code : PortState → Nat
  | .down => 0 | .linking => 1 | .mismatch => 2 | .syncing => 3 | .ready => 4 | .faulted => 5

/-- A port changes state and raises its event (10 R298, R318). -/
def setPort (p : Nat) (st : PortState) (s : State) : State :=
  if (s.port p).state = st then s
  else
    let s := s.mdPort p fun x => { x with state := st, badRun := 0, goodRun := 0 }
    raisePort p Sts.OK st.code s

/-- The 8 periods of a stage READ count from the launch that carries it, or from the first one that a port without CMD frames
lets pass (10 R314). -/
def PortSt.readSent (p : PortSt) : PortSt :=
  { p with ctl := p.ctl.map fun c => if c.2.2.2 = 0 then (c.1, c.2.1, c.2.2.1, 1) else c }

/-- A unit that has handed over after its own F3 transmits nothing on its drive links (01 R34). -/
def State.silent (s : State) : Bool := s.ssv.f3 && decide (s.mlc.role = .deposed)

/-- A port launches its frame. -/
def launchPort (p : Nat) (s : State) : State :=
  if s.silent ∨ (s.port p).state = .down ∨ (s.port p).retired ∧ (s.port p).spare = none then s.mdPort p PortSt.readSent
  else
    let s := s.mdPort p fun x => x.newDelay (portLive s p) (s.cyc.tk / tCur)
    let b := outFrame s p
    let reset := (s.port p).resetDue
    let s := s.mdPort p fun x => { (if reset then x else x.readSent) with tx := b, txAt := s.cyc.now, resetDue := false }
    if reset then setPort p .linking (portAvail p false s) else s

/-- A lane missed its current-loop deadline (01 R26, 04 R109): the previous edges are repeated; two in a row are F2. -/
def missCurrent (n : Nat) (s : State) : State :=
  let s := s.mdAx n fun a => { a with cur := { a.cur with
    phA := a.cur.phA.repeatCur, phB := a.cur.phB.repeatCur, legs := a.cur.legsCur, missRun := incSat 2 a.cur.missRun } }
  raiseAxis n Sts.LOOP_OVERRUN s

/-- Axes of the clusters whose Ledger error spoils the work in progress (15 R439), and the error consumed. -/
def spoiledAxes (s : State) : List Nat :=
  (List.range 64).filter fun n => s.ldg.spoiled.testBit (10 + s.clusterOf n)

/-- Clear the cluster bits of the spoiled work. -/
def clearSpoiled (s : State) : State :=
  { s with ldg := { s.ldg with spoiled := s.ldg.spoiled &&& (2 ^ 32 - 1 - 15 * 2 ^ 10) } }

/-- Axes whose CURRENT-class kernels gave NaN in the period: it counts as a missed deadline (06 R177). -/
def nanAxes (s : State) : List Nat :=
  (List.range 64).filter fun n => (s.ax n).cur.kNan && decide (axType s.ps n = .servo ∨ axType s.ps n = .stepper)

/-- OUTBOUND_LAUNCH (10 R285, 01 R26, 06 R177): the current-loop deadline; frames go out on every port. -/
def execOutboundLaunch (missed : List Nat) (s : State) : Out :=
  .next <|
    if !s.cyc.running || s.cyc.launchDone then s
    else
      let s := s.upTo (s.cyc.tk + tLaunch)
      let all := ((missed ++ spoiledAxes s ++ nanAxes s).eraseDups).filter fun n => n < 64 && s.driven n
      let s := clearSpoiled { s with
        cyc := { s.cyc with launchDone := true }
        axes := vmapI s.axes fun n a => if all.contains n then a else { a with cur := { a.cur with missRun := 0 } } }
      let s := all.foldl (fun s n => missCurrent n s) s
      let twice := all.filter fun n => 2 ≤ (s.ax n).cur.missRun
      let s := twice.foldl (fun s n => faultF2 (s.axSc n) Sts.LOOP_OVERRUN 7 s) s
      (List.range 36).foldl (fun s p => launchPort p s) s

/-- LANE_OVERRUN_REPEAT (01 R26): two consecutive misses of a lane's current loop, or overruns of its loops, fault its
arm F2 with LOOP_OVERRUN. -/
def execLaneOverrunRepeat (axis : Nat) (s : State) : Out :=
  onUnit "axis" axis 64 <| .next <|
    let a := s.ax axis
    if 2 ≤ a.cur.missRun ∨ 2 ≤ a.loop.overRun then faultF2 (s.axSc axis) Sts.LOOP_OVERRUN 7 s else s

end Sys2Proof.Machine
end

