-- ==== Sys2Proof/Machine/Motion.lean ====
section
/-!
DEFINITION. The profile generator of a lane from control cycle to control cycle (chapter 03): planning, point-to-point,
planned, stepped and geared references, safety speed limits (R93), soft limits (R94, R95), and homing (R97).
-/
namespace Sys2Proof.Machine

/-- Soft limits, where they are active (03 R66, R94 to R96). -/
def softLimits (ps : ParamSet) (n : Nat) (a : AxisSt) : Option (Int × Int) :=
  if a.pos = .homed ∧ prmI ps Pid.MODULUS n = 0 then some (prmI ps Pid.SOFT_LO n, prmI ps Pid.SOFT_HI n) else none

/-- Velocity limit a plan of the axis has now (03 R93, R96, R97), in 2^-16 rev/s. -/
def vLimitOf (ps : ParamSet) (n : Nat) (a : AxisSt) : Nat :=
  let base := if a.mode = .homing then prmN ps Pid.HOME_V n
    else if a.pos = .homed then a.lim.v else min a.lim.v (prmN ps Pid.HOME_V n)
  match a.slim with | some l => min base l | none => base

/-- What the planner needs of the axis now. -/
def planEnvOf (ps : ParamSet) (n : Nat) (a : AxisSt) : PlanEnv :=
  { lim := rlim { a.lim with v := vLimitOf ps n a }
    aHard := aUnit (prmN ps Pid.A_HARD n), dHard := aUnit (prmN ps Pid.D_HARD n), jHard := jUnit (prmN ps Pid.J_HARD n)
    soft := softLimits ps n a }

/-- A plan comes in force at a control-cycle start (03 R77, Table 03-5). -/
def AxisSt.take (a : AxisSt) (p : PlanRec) (f : PlanFlags) : AxisSt :=
  { a with gen := a.gen.fold, plan := some p, lastPlan := some p, hardEnd := false,
           flags := { a.flags with targetReached := false, decelRaised := f.raised, reversal := f.reversal,
                                   overshoot := f.overshoot, clipped := f.clipped } }

/-- Plan a command from the present state (03 R74 to R81); `raise` plans under D_HARD (R93). -/
def AxisSt.replan (ps : ParamSet) (n : Nat) (start : Time) (raise : Bool) (c : MotionCmd) (a : AxisSt) : AxisSt :=
  let env := planEnvOf ps n a
  let env := if raise then { env with lim := { env.lim with d := env.dHard } } else env
  let (p, f) := planCmd start a.gen c env
  { (a.take p f) with cmd := c, vEff := vLimitOf ps n a }

/-- Hold where the generator stands (03 Table 03-4). -/
def AxisSt.hold (a : AxisSt) : AxisSt := { a with plan := none, cmd := .hold, mode := .ptp, hardEnd := false }

/-- The generator takes over from the last reference when the axis leaves STEPPED or GEARED (03 R71). -/
def AxisSt.adopt (a : AxisSt) : AxisSt :=
  { a with gen := { p6 := p6Of a.refP, v2 := 2 * 2 ^ 24 * a.lastInc }, gear := none, cap := none, plan := none, cmd := .hold,
           mode := .ptp, flags := { a.flags with gearRamping := false } }

/-- At standstill: V2 = 0 and A = 0 of the generator (03 R71), or no change of the reference in the other modes. -/
def AxisSt.still (a : AxisSt) : Bool :=
  match a.mode with
  | .idle => true
  | .ptp | .homing => a.gen.v2 == 0 && a.gen.a == 0 && (match a.plan with | some p => decide (p.total ≤ p.k) | none => true)
  | _ => a.vc == 0 && a.ac == 0

/-- Angle of a position as the microstep angle counts it (04 R102). -/
def stepAngle (ps : ParamSet) (n : Nat) (x : Int) : Nat :=
  angleOf x (prmN ps Pid.STEPS n) (prmN ps Pid.MOTOR_N n) (prmN ps Pid.MOTOR_D n)

/-- E_OFF after positions move from `x` to `y` without motion (03 R66, R97): the field keeps its angle. -/
def eOffMoved (ps : ParamSet) (n : Nat) (x y : Int) (e : Nat) : Nat :=
  if axType ps n = .stepper then (e + stepAngle ps n x + 16384 - stepAngle ps n y) % 16384 else e

/-- A plan whose positions move by `d`. -/
def PlanRec.moved (d : Int) (p : PlanRec) : PlanRec := { p with target := p.target.map (· + d), leg2 := p.leg2.map (· + d) }

/-- A command whose target moves by `d`. -/
def MotionCmd.moved (d : Int) : MotionCmd → MotionCmd
  | .move t => .move (t + d)
  | c => c

/-- Reference and feedback are relabelled together by `d` (03 R97). -/
def AxisSt.relabel (ps : ParamSet) (n : Nat) (d : Int) (a : AxisSt) : AxisSt :=
  { a with
    gen := { a.gen with p6 := a.gen.p6 + p6Of d }
    plan := a.plan.map (PlanRec.moved d), cmd := a.cmd.moved d
    refP := a.refP + d, refPrev := a.refPrev + d, rel := (a.rel.1 + d, a.rel.2 + d)
    snap := (a.snap.1 + d, a.snap.2 + d), snapPrev := (a.snapPrev.1 + d, a.snapPrev.2 + d)
    fb := { a.fb with offset := a.fb.offset + d, pos := a.fb.pos + d, pos0 := a.fb.pos0 + d }
    loop := { a.loop with pfbPrev := a.loop.pfbPrev.map (· + d) }
    cur := { a.cur with eOff := eOffMoved ps n a.rel.1 (a.rel.1 + d) a.cur.eOff } }

/-- A modulo axis wraps its reference into [0, MODULUS) in the same control cycle, without motion (03 R66); the target of its
command and the start of a search move with it. -/
def AxisSt.wrap (ps : ParamSet) (n : Nat) (a : AxisSt) : AxisSt :=
  let m := prmI ps Pid.MODULUS n
  if m = 0 then a
  else
    let d := -(a.refP / m * m)
    if d = 0 then a
    else { a with
      gen := { a.gen with p6 := a.gen.p6 + p6Of d }
      plan := a.plan.map (PlanRec.moved d), cmd := a.cmd.moved d
      home := a.home.map fun h => { h with startPos := h.startPos + d }
      step := { a.step with anchor := a.step.anchor + d, segP0 := a.step.segP0 + d, segP1 := a.step.segP1 + d }
      refP := a.refP + d, shift := a.shift + d }

/-- Target of a move in the frame of the present reference (03 R66): the way round on a modulo axis. -/
def wayTarget (m ref target : Int) (way : Nat) : Int :=
  if m = 0 then target
  else
    let r := (target - ref) % m
    match way with
    | 1 => ref + r
    | 2 => if r = 0 then ref else ref + r - m
    | _ => if 2 * r ≤ m then ref + r else ref + r - m

/-! ### One control cycle of a reference -/

/-- What a control cycle of an axis found wrong: a status for an F1, none otherwise. -/
abbrev CycleFault := Option Nat

/-- What a deceleration `d` still takes off the speed while J_HARD brings it back to 0, cycle by cycle. -/
def capTail (j d : Int) : Int := d / j * d - j * (d / j * (d / j + 1) / 2)

/-- Fall of a speed cap to a safety limit (03 R93): by D_HARD at most, built up and taken back at J_HARD, and at the limit held
there. The greatest deceleration is taken from which the fall still ends at the limit. -/
def capStep (ps : ParamSet) (n : Nat) (v : Int) (c : Int × Int) : Int × Int :=
  if c.1 > v then
    let j := max 1 (jLane (prmN ps Pid.J_HARD n))
    let up := min (c.2 + j) (aLane (prmN ps Pid.D_HARD n))
    let rest := c.1 - v
    let d := match [up, min c.2 up].find? (fun d => decide (d + capTail j d ≤ rest)) with
      | some d => d
      | none => if rest ≤ j then rest else max 0 (c.2 - j)
    (max v (c.1 - d), d)
  else (v, 0)

/-- The greatest increment of a cycle under the safety speed limit in GEARED and STEPPED (03 R92, R93). -/
def capInc (ps : ParamSet) (n : Nat) (raw : Int) (a : AxisSt) : AxisSt × Int :=
  match a.slim with
  | none => ({ a with cap := none }, raw)
  | some l =>
    let v := vLane l
    let c := capStep ps n v (a.cap.getD (max v (a.vc.natAbs : Int), 0))
    let w := c.1 / 2 ^ 24
    ({ a with cap := some c }, clampI (-w) w raw)

/-- The increments of the cycles owed (05 R145) under the limit, oldest first. -/
def capIncs (ps : ParamSet) (n : Nat) (raws : List Int) (a : AxisSt) : AxisSt × List Int :=
  raws.foldl (fun (r : AxisSt × List Int) x => let (a, y) := capInc ps n x r.1; (a, r.2 ++ [y])) (a, [])

/-- An amount in `k` parts that differ by 1 at most, in order. -/
def parts (x : Int) (k : Nat) : List Int := (List.range k).map fun (i : Nat) => x * ((i : Int) + 1) / (k : Int) - x * (i : Int) / (k : Int)

/-- Stop at a soft limit under D_HARD and J_HARD out of STEPPED or GEARED (03 R95), where the state after this cycle, with its
last increment, could no longer stop before the limit. -/
def softGuard (ps : ParamSet) (n : Nat) (start : Time) (incs : List Int) (a : AxisSt) : Option AxisSt :=
  match softLimits ps n a with
  | none => none
  | some (lo, hi) =>
    let inc := incs.getLastD 0
    let next : GenSt := { p6 := p6Of (a.refP + isum incs), v2 := 2 * 2 ^ 24 * inc }
    let env := planEnvOf ps n a
    let edge := if inc ≥ 0 then hi else lo
    if inc ≠ 0 ∧ stopPasses next { env.lim with d := env.dHard, j := env.jHard } edge then
      let a := a.adopt
      let p := planClip start a.gen env edge
      let a := { (a.take p {}) with cmd := .stop, mode := .ptp, hardEnd := true }
      some { a with flags := { a.flags with softStop := true } }
    else none

/-- PTP and HOMING (03 R70, R79, R94): a second leg begins at rest, and so does a jog that had to stop first (R76). -/
def ptpCycle (ps : ParamSet) (n : Nat) (t0 : Time) (a : AxisSt) : AxisSt :=
  let a := match a.plan with
    | some p =>
      if p.total ≤ p.k then
        match p.leg2 with
        | some q =>
          let (p2, _) := planMove t0 a.gen.fold q (planEnvOf ps n a)
          { a with plan := some p2, lastPlan := some p2, gen := a.gen.fold }
        | none =>
          match a.cmd with
          | .jog dir =>
            if p.jogDir ≠ 0 || a.flags.clipped then a
            else
              let q := planJog t0 a.gen.fold dir (planEnvOf ps n a).lim
              { a with plan := some q, lastPlan := some q, gen := a.gen.fold }
          | _ => a
      else a
    | none => a
  let a := match a.plan, softLimits ps n a with
    | some p, some (lo, hi) =>
      if p.jogDir = 0 then a
      else
        let edge := if p.jogDir > 0 then hi else lo
        let (_, g) := planCycle p a.gen
        let env := planEnvOf ps n a
        if stopPasses g env.lim edge then
          let g := a.gen.fold
          let at_ (l : RLim) : Option PlanRec := planRestAt t0 g p.jogDir edge l 16 (roomTo g p.jogDir edge)
          let q := (at_ env.lim <|> at_ { env.lim with d := env.dHard }).getD (planClip t0 g env edge)
          a.take q { clipped := true }
        else a
    | _, _ => a
  match a.plan with
  | none => { a with gen := { a.gen with j := 0 } }
  | some p =>
    let (p, g) := planCycle p a.gen
    { a with plan := some p, gen := g, refP := g.ref, vc := g.v2 / 2, ac := g.a }

/-- The PTP cycles owed (05 R145). -/
def ptpCycles (ps : ParamSet) (n : Nat) (t0 : Time) (a : AxisSt) : AxisSt :=
  (List.range (max 1 a.dms.length)).foldl (fun a _ => ptpCycle ps n t0 a) a

/-- One STEPPED cycle ending at `t1` (03 R86 to R88, R93, 05 R133). -/
def steppedCycle (ps : ParamSet) (n : Nat) (t0 t1 : Time) (a : AxisSt) : AxisSt × CycleFault :=
  let seg := a.step.inForce (prmI ps Pid.STEP_INC n) t1
  let slope : Int := if seg.segT0 ≤ t1 ∧ t1 < seg.segT1
    then (((seg.segP1 : Rat) - seg.segP0) * ((tCtl * 2 ^ 24 : Nat) : Rat) / ((seg.segT1 - seg.segT0 : Nat) : Rat)).floor else 0
  let top := max a.step.top (slope.natAbs : Int)
  let ovr := decide (top > vLane (prmN ps Pid.V_HARD n))
  let raw := (seg.at t1).floor - a.refP
  let (a, incs) := capIncs ps n (parts raw (max 1 a.dms.length)) { a with step := { a.step with top := 0 } }
  let inc := isum incs
  let lost := inc - raw
  match softGuard ps n t0 incs a with
  | some a => (ptpCycles ps n t0 a, none)
  | none =>
    ({ a with
      refP := a.refP + inc
      lastInc := incs.getLastD 0
      step := { a.step with anchor := a.step.anchor + lost, segP0 := a.step.segP0 + lost, segP1 := a.step.segP1 + lost }
      flags := { a.flags with stepSlipped := a.flags.stepSlipped || decide (lost ≠ 0) }
      vc := slope, ac := 0 },
     if ovr then some Sts.STEP_OVERSPEED else none)

/-- Superimposed ALIGN move for one cycle (03 R91): increment and the state after it. -/
def supCycle (g : GearSt) : GearSt × Int :=
  match g.sup, g.supPlan with
  | some s, some p =>
    let (p', s') := planCycle p s
    let d := s'.ref - g.supDone
    let fin := decide (p'.total ≤ p'.k)
    ({ g with sup := if fin then none else some s', supPlan := if fin then none else some p',
              supDone := s'.ref, locked := g.locked || fin }, d)
  | _, _ => (g, 0)

/-- One GEARED cycle over the master increments given, oldest first (03 R89 to R92, 05 R145). `mpos` is the master's
position at this control-cycle start. -/
def gearedCycle (ps : ParamSet) (n : Nat) (t0 : Time) (mpos : Int) (dms : List Int) (a : AxisSt) : AxisSt × CycleFault :=
  match a.gear with
  | none => (a, none)
  | some g0 =>
    let g := match g0.align with
      | some (pa, ma) =>
        if g0.g ≤ g0.n then
          let (p, _) := planMove t0 {} (g0.aligned pa ma mpos - a.refP) { planEnvOf ps n a with soft := none }
          { g0 with align := none, sup := some {}, supPlan := some p, supDone := 0 }
        else g0
      | none => g0
    let (g, raws) := dms.foldl (fun (r : GearSt × List Int) dm =>
      let (g, i) := r.1.cycle dm
      let (g, j) := supCycle g
      (g, r.2 ++ [i + j])) (g, [])
    let ovr := raws.any fun i => decide ((i.natAbs : Int) * 2 ^ 24 > vLane (prmN ps Pid.V_HARD n))
    let (a, incs) := capIncs ps n raws { a with gear := some g }
    match softGuard ps n t0 incs a with
    | some a => (ptpCycles ps n t0 a, none)
    | none =>
      let one := incs.getLastD 0
      let before := incs.dropLast.getLastD g0.inc
      ({ a with
        gear := some { g with inc := one }
        refP := a.refP + isum incs
        lastInc := one
        flags := { a.flags with gearRamping := decide (g.n < g.g), gearSlipped := a.flags.gearSlipped || decide (incs ≠ raws) }
        vc := one * 2 ^ 24, ac := (one - before) * 2 ^ 24 },
       if ovr then some Sts.GEAR_OVERSPEED else none)

/-- A planned sample (reference, velocity, acceleration per cycle) taken by the lane (03 R82, R85, R93); on a modulo axis
in the frame of the present reference (03 R66). -/
def plannedCycle (ps : ParamSet) (n : Nat) (x : Option (Int × Int × Int)) (a : AxisSt) : AxisSt × CycleFault :=
  match x with
  | none => ({ a with vc := 0, ac := 0 }, none)
  | some (p0, v, ac) =>
    let m := prmI ps Pid.MODULUS n
    let p := if m = 0 then p0 else a.refP + wrapMod m (p0 - a.refP)
    let v64 := v * 2 ^ 24
    let a64 := ac * 2 ^ 24
    let vmax := vLane (match a.slim with | some l => l | none => prmN ps Pid.V_HARD n)
    let amax := aLane (prmN ps (if v * ac < 0 then Pid.D_HARD else Pid.A_HARD) n)
    let beyond := match softLimits ps n a with | some (lo, hi) => decide (p < lo) || decide (p > hi) | none => false
    if (v64.natAbs : Int) > vmax ∨ (a64.natAbs : Int) > amax ∨ beyond = true then ({ a with vc := 0, ac := 0 }, some Sts.PLAN_LIMIT)
    else ({ a with refP := p, gen := { p6 := p6Of p, v2 := 2 * v64, a := a64 }, vc := v64, ac := a64 }, none)

/-- The reference follows the feedback position while no torque acts (03 R70, "A disabled axis"). -/
def AxisSt.follow (ps : ParamSet) (n : Nat) (a : AxisSt) : AxisSt :=
  let p := if hasEnc ps n ∧ a.fb.seen then a.fb.pos else a.refP
  { a with mode := .idle, refP := p, gen := { p6 := p6Of p }, plan := none, cmd := .hold, gear := none, cap := none,
           lastInc := 0, hardEnd := false, vc := 0, ac := 0, dms := [], shift := 0 }

/-- TARGET_REACHED (03 R75): the reference equals the target of a move at rest. -/
def AxisSt.reached (a : AxisSt) : Bool :=
  match a.cmd with
  | .move _ => decide (a.mode = .ptp) && a.gen.v2 == 0 && a.gen.a == 0 && (match a.plan with
      | some p => decide (p.total ≤ p.k) && p.leg2.isNone && decide (p.target = some a.refP) && !a.flags.clipped
      | none => false)
  | _ => false

/-- A safety speed limit changed: a move or jog is replanned under R77, raised to D_HARD where the limit fell below the
present speed (03 R93). -/
def AxisSt.relimit (ps : ParamSet) (n : Nat) (t0 : Time) (a : AxisSt) : AxisSt :=
  let v := vLimitOf ps n a
  if v = a.vEff ∨ (a.mode ≠ .ptp ∧ a.mode ≠ .homing) ∨ a.still then { a with vEff := v }
  else
    let faster := match a.slim with | some l => decide ((a.vc.natAbs : Int) > vLane l) | none => false
    match a.cmd with
    | .hold | .stop => { a with vEff := v }
    | c => a.replan ps n t0 faster c

/-- The generator of a lane for one control cycle, with held cycles caught up (03 R70, 05 R145). `planned` is the planner's
sample, `mpos` and `dm` the master's position and increment. -/
def axisCycle (ps : ParamSet) (n : Nat) (t0 : Time) (planned : Option (Int × Int × Int)) (mpos dm : Int) (a : AxisSt) :
    AxisSt × CycleFault :=
  if !a.powered && decide (axType ps n ≠ .virtual) || decide (a.fn = .disabled) then
    ({ (a.follow ps n) with refPrev := a.refP }, none)
  else
    let a := a.relimit ps n t0
    let a := { a with held := { gen := a.gen, plan := a.plan, gear := a.gear, step := a.step, mode := a.mode, cmd := a.cmd,
                                lastInc := a.lastInc, cap := a.cap, hardEnd := a.hardEnd, flags := a.flags, shift := a.shift, refP := a.refP, refPrev := a.refPrev }
                      dms := a.dms ++ [dm] }
    let start := a.refP
    let (a, f) := match a.mode with
      | .ptp | .homing => (ptpCycles ps n t0 a, none)
      | .stepped => steppedCycle ps n t0 (t0 + tCtl) a
      | .geared => gearedCycle ps n t0 mpos a.dms a
      | .planned => plannedCycle ps n planned a
      | .idle => (a, none)
    ({ a with refPrev := start }.wrap ps n, f)

/-- The reference lies beyond a soft limit (03 R95). -/
def AxisSt.crossed (ps : ParamSet) (n : Nat) (a : AxisSt) : Bool :=
  match softLimits ps n a with | some (lo, hi) => decide (a.refP < lo) || decide (a.refP > hi) | none => false

/-- The flags of a held cycle (05 R145): those of the generator stand as before it, what the cycle brought besides stays. -/
def AxFlags.unwind (h f : AxFlags) : AxFlags :=
  { f with
    targetReached := h.targetReached, reversal := h.reversal, overshoot := h.overshoot, clipped := h.clipped
    decelRaised := h.decelRaised, softStop := h.softStop, stepSlipped := h.stepSlipped, gearSlipped := h.gearSlipped
    gearRamping := h.gearRamping }

/-- Give back the generator of a held cycle (05 R145): it catches up in the next one. Steps that came meanwhile stay, in the frame
of the anchor as it stands again. -/
def AxisSt.unwind (a : AxisSt) : AxisSt :=
  let h := a.held
  let d := h.step.anchor - a.step.anchor
  let w := h.shift - a.shift
  { a with
    gen := h.gen, plan := h.plan, gear := h.gear, mode := h.mode, cmd := h.cmd, lastInc := h.lastInc, cap := h.cap
    hardEnd := h.hardEnd, shift := h.shift, refP := h.refP, refPrev := h.refPrev, flags := h.flags.unwind a.flags
    home := a.home.map fun x => { x with startPos := x.startPos + w }
    step := { a.step with
      anchor := h.step.anchor, segP0 := a.step.segP0 + d, segP1 := a.step.segP1 + d, top := max a.step.top h.step.top } }

/-! ### Homing -/

/-- The search ends with a failure (03 Table 03-6): a stop under R76, after which the ticket ends. -/
def AxisSt.failSearch (ps : ParamSet) (n : Nat) (start : Time) (status : Nat) (a : AxisSt) : AxisSt :=
  let a := a.replan ps n start false .stop
  { a with home := a.home.map fun h => { h with phase := 3, result := status, mark := none } }

/-- The mark is found (03 R97): relabel, HOMED, and the motion that ends the sequence. -/
def AxisSt.markFound (ps : ParamSet) (n : Nat) (start : Time) (h : HomeSt) (mark : Int) (a : AxisSt) : AxisSt :=
  let a := a.relabel ps n (h.label - mark)
  let a := { a with pos := .homed, home := some { h with phase := if h.method = 3 then 2 else 3, mark := none } }
  if h.method = 3 then a.replan ps n start false (.move (h.label - h.dir * prmI ps Pid.HOME_BACKOFF n))
  else match h.homePos with
    | some p => a.replan ps n start false (.move (wayTarget (prmI ps Pid.MODULUS n) a.refP p 0))
    | none => if h.method = 0 then a else a.replan ps n start false .stop

/-- Following error a HARD_STOP search compares with HOME_FE (03 Table 03-6, 04 R115). -/
def searchError (ps : ParamSet) (n : Nat) (h : HomeSt) (a : AxisSt) : Int :=
  if axType ps n = .stepper ∧ ¬hasEnc ps n then
    let den : Int := (prmN ps Pid.STEPS n * prmN ps Pid.MOTOR_N n * 2 ^ 15 : Nat)
    let period : Int := fdiv ((4 * prmN ps Pid.MOTOR_D n * 2 ^ 40 : Nat) : Int) ((prmN ps Pid.STEPS n * prmN ps Pid.MOTOR_N n : Nat) : Int)
    fdiv ((a.cur.lam.natAbs : Int) * ((2 * prmN ps Pid.MOTOR_D n * 2 ^ 40 : Nat) : Int)) den + (h.lost : Int) * period
  else a.loop.ep.natAbs

/-- The current stands at its limit in the cycle (03 Table 03-6). -/
def atHomeLimit (ps : ParamSet) (n : Nat) (a : AxisSt) : Bool :=
  match axType ps n with
  | .stepper => a.cur.atCeil0
  | .servo => lget a.cur.refSat 0 || decide ((a.loop.cmd.natAbs : Int) ≥ 32767 * prmI ps Pid.HOME_I n / 100)
  | _ => a.fb.extSat

/-- Cycles of the 50 ms of Table 03-6. -/
def homeStall : Nat := 800

/-- One control cycle of a homing sequence, at LATCH (03 R97). The motion it starts begins at the next control-cycle
start. What it answers is the status with which the sequence ended, if it did. -/
def homeCycle (ps : ParamSet) (n : Nat) (t0 : Time) (a : AxisSt) : AxisSt × Option Nat :=
  match a.home with
  | none => (a, none)
  | some h =>
    let next := t0 + tCtl
    let searching := decide (h.phase ≤ 1)
    if h.method = 0 ∧ h.phase = 0 then
      let p := if hasEnc ps n then a.fb.pos0 else a.refP
      (a.markFound ps n next h p, none)
    else if searching then
      match h.mark with
      | some m => (a.markFound ps n next h m, none)
      | none =>
        let err := searchError ps n h a
        let fe := decide (err > prmI ps Pid.HOME_FE n)
        let h := if h.method = 3 then { h with
            stall := if fe then incSat homeStall h.stall else 0
            limRun := if atHomeLimit ps n a && !fe then incSat homeStall h.limRun else 0 } else h
        let a := { a with home := some h }
        if (a.refP - h.startPos).natAbs > prmI ps Pid.HOME_TRAVEL n then (a.failSearch ps n next Sts.HOME_NOT_FOUND, none)
        else if h.method = 3 ∧ homeStall ≤ h.limRun then (a.failSearch ps n next Sts.HOME_NO_STOP, none)
        else (a, none)
    else if a.still then
      ({ (a.hold) with home := none, flags := { a.flags with homeFailed := a.flags.homeFailed || decide (h.result ≠ Sts.OK) } },
       some h.result)
    else (a, none)

end Sys2Proof.Machine
end

