-- ==== Sys2Proof/Machine/Solver.lean ====
section
/-!
DEFINITION. The predictive solver seen from its arms (chapter 07): plans evaluated as splines (03 R82 to R84), plan-period
starts with fallback and the stop along the plan (R204 to R206), solves from their latched inputs (Linearise.lean) through the
program (Qp.lean) to validation, outcome and publication, STATIC records, and tiles.
-/
namespace Sys2Proof.Machine

/-! ### A plan as the lanes read it -/

/-- Sample of one joint: position, velocity and acceleration per cycle, in position words. -/
abbrev Sample := Int × Int × Int

/-- Cubic Hermite value with its first and second derivative at `x` cycles after knot k of a step of `m` cycles, each
rounded down (03 R82). -/
def hermiteAt (m : Nat) (x : Rat) (a b : Int × Int) : Sample :=
  let mm : Rat := m
  let s := x / mm
  let q0 : Rat := a.1
  let w0 : Rat := a.2
  let q1 : Rat := b.1
  let w1 : Rat := b.2
  let p := (2 * s * s * s - 3 * s * s + 1) * q0 + (s * s * s - 2 * s * s + s) * mm * w0 + (3 * s * s - 2 * s * s * s) * q1
    + (s * s * s - s * s) * mm * w1
  let v := (6 * s * s - 6 * s) / mm * (q0 - q1) + (3 * s * s - 4 * s + 1) * w0 + (3 * s * s - 2 * s) * w1
  let c := (12 * s - 6) / (mm * mm) * (q0 - q1) + ((6 * s - 4) * w0 + (6 * s - 2) * w1) / mm
  (p.floor, v.floor, c.floor)

/-- The plan at evaluation time `tau`, in control cycles after knot 0; past the last knot its q with zero velocity
(03 R82, R84). -/
def PlanData.eval (p : PlanData) (tau : Rat) : List Sample :=
  if tau < 0 then (lget p.knots 0).map fun k => (k.1, k.2, 0)
  else
    let k := (tau / p.knotM).floor.toNat
    if p.n ≤ k then (p.knots.getLastD []).map fun x => (x.1, 0, 0)
    else List.zipWith (hermiteAt p.knotM (tau - (k * p.knotM : Nat))) (lget p.knots k) (lget p.knots (k + 1))

/-- Evaluation time of a plan at an instant. -/
def PlanData.tauAt (p : PlanData) (t : Time) : Rat := (((t : Int) - p.ts : Int) : Rat) / (tCtl : Int)

/-- The plan at an instant. -/
def PlanData.at_ (p : PlanData) (t : Time) : List Sample := p.eval (p.tauAt t)

/-! ### Records -/

/-- QT_PLAN header (07 Table 07-6). -/
def planHeader (p : PlanData) (arm caps : Nat) : Bytes :=
  leBytes 13 0 ++ leBytes 1 (bit p.static + 2 * bit p.withdrawn) ++ leBytes 1 (p.tile + 16 * arm) ++ leBytes 1 caps
    ++ leBytes 1 p.joints ++ leBytes 1 p.n ++ leBytes 2 p.knotM ++ leBytes 4 p.gen ++ leBytes 8 (p.ts / ns)

/-- The bytes of a plan slot (07 R213). -/
def planBytes (p : PlanData) (arm : Nat) : Bytes :=
  planHeader p arm (lget p.caps 0).length
    ++ p.knots.flatMap (fun k => k.flatMap fun x => leBytes 8 (ofSigned 64 x.1) ++ leBytes 8 (ofSigned 64 x.2))
    ++ p.caps.flatMap (fun k => k.flatMap fun c => c.flatMap fun x => leBytes 4 (ofSigned 32 x))

/-- Publish a record into the slot with the smaller GEN (07 R202, R213); `p.gen` is set here. -/
def publish (k : Nat) (p : PlanData) (s : State) : State :=
  let r := s.plr k
  let slot := if r.gens.1 ≤ r.gens.2 then 0 else 1
  let g := (max r.gens.1 r.gens.2 + 1) % 2 ^ 32
  let p := { p with gen := g }
  let b := planBytes p k
  let s := s.ldgWrite (slotAddr k slot) b
  let s := s.mdPlr k fun r => { r with
    gens := if slot = 0 then (g, r.gens.2) else (r.gens.1, g)
    shownPrev := r.shown, shown := some p, next := if p.static then r.next else some p }
  if s.mlc.role = .active ∧ (s.mlc.shadow = .tracking ∨ s.mlc.shadow = .ready) then
    mirSend 0x07 0 (slotAddr k slot) b.length (some p.ts) s
  else s

/-- Position of the carrier that an arm stands on, as latched (08 R223); 0 without one. -/
def carrierPos (k : Nat) (s : State) : Int := match carrierOf s.ps k with | some n => (s.ax n).snap.1 | none => 0

/-- The record of an arm that is not in planned motion: its latched reference positions at every knot (07 R187). Its tile
publishes it (R210); an arm without one publishes none. -/
def publishStatic (k : Nat) (p0 : Time) (s : State) : State :=
  match (s.plr k).tile with
  | none => s
  | some tile =>
    let n := prmN s.ps Pid.HORIZON_N k
    let x := (armAxes s.ps k).map fun a => ((s.ax a).snap.1, (0 : Int))
    publish k { ts := p0, knotM := prmN s.ps Pid.KNOT_M k, n := n, joints := x.length, knots := List.replicate (n + 1) x
                caps := List.replicate (n + 1) (capsAtKnot s.ps k (x.map (·.1) ++ [carrierPos k s])), tile := tile, static := true } s

/-! ### Result records -/

/-- QT_RESULT (07 Table 07-7). -/
def QtResult.word (r : QtResult) : Nat :=
  r.elapsed * 2 ^ 96 + r.iter * 2 ^ 88 + r.discarded * 2 ^ 80 + r.satCount * 2 ^ 72 + r.fallbackN * 2 ^ 64 + r.resMax * 2 ^ 32
    + r.stage * 2 ^ 24 + r.tile * 2 ^ 20 + r.outcome

/-- The arm's event with the outcome in force (13 Table 13-19). -/
def raiseResult (k status : Nat) (s : State) : State :=
  let w := (s.plr k).res.word
  raiseArm k status (w / 2 ^ 64 % 2 ^ 16 * 2 ^ 16 + w % 2 ^ 16) s

/-! ### Planned motion -/

/-- The joints of an arm leave planned mode and hold where they are (03 Table 03-4). -/
def leavePlan (k : Nat) (s : State) : State :=
  let s := s.mdPlr k fun r => { r with planned := false, cur := none, next := none, along := none, warm := none }
  s.mdAxes (armAxes s.ps k) fun a =>
    if a.mode = .planned then
      { a.hold with gen := { p6 := p6Of a.refP }, vc := 0, ac := 0, flags := { a.flags with planFallback := false } }
    else { a with flags := { a.flags with planFallback := false } }

/-- Length C of a stop along the plan from joint velocities in 2^-40 rev per cycle (07 R205). -/
def stopCycles (ps : ParamSet) (k : Nat) (vs : List Int) : Nat :=
  let l := List.zipWith (fun a v =>
    let num : Int := 2 * (v.natAbs : Int) * 256000000 * 4096
    (cdiv num (max 1 ((prmN ps Pid.D_HARD a : Int) * 2 ^ 40))).toNat) (armAxes ps k) vs
  max 1 (l.foldl max 0)

/-- A stop along the plan in force begins at a control-cycle start (07 R205); without a plan the arm leaves at once. -/
def beginAlong (k : Nat) (t0 : Time) (s : State) : State :=
  let r := s.plr k
  if r.along.isSome then s
  else match r.cur with
    | none => leavePlan k s
    | some p =>
      let vs := (p.at_ t0).map (·.2.1)
      s.mdPlr k fun r => { r with along := some { tau := p.tauAt t0, c := 0, total := stopCycles s.ps k vs } }

/-- Do two plans agree at the instant they change over (03 R83). -/
def planAgrees (ps : ParamSet) (k : Nat) (old new_ : List Sample) : Bool :=
  ((armAxes ps k).zip (old.zip new_)).all fun x =>
    let tol := prmI ps Pid.PLAN_TOL x.1
    decide (((x.2.1.1 - x.2.2.1).natAbs : Int) ≤ tol) && decide (((x.2.1.2.1 - x.2.2.2.1).natAbs : Int) ≤ tol)

/-- A plan period ended without a new plan governing (07 R204). -/
def fallbackUp (k : Nat) (s : State) : State :=
  let s := s.mdPlr k fun r => { r with res := { r.res with fallbackN := incSat 255 r.res.fallbackN } }
  s.mdAxes (armAxes s.ps k) fun a => { a with flags := { a.flags with planFallback := true } }

/-- The output area of a tile after a failed solve: every word reads 0x8000_0000 (07 R200). -/
def tileNan (tile : Nat) (s : State) : State :=
  if tile < 9 then { s with tiles := vmd s.tiles tile fun x => { x with outNan := true } } else s

/-- The plan-period start t_s of an arm in planned motion (03 R83, R84, 07 R204 to R206): a plan published for it governs,
is refused, or counts as discarded during a stop. -/
def planTs (k : Nat) (t0 : Time) (s : State) : State :=
  let r := s.plr k
  let per := prmN s.ps Pid.PLAN_PERIOD k * us
  if !r.planned ∨ t0 % per ≠ 0 ∨ t0 < r.enterAt + per then s
  else
    let s := match r.next with
      | none => fallbackUp k s
      | some p =>
        if p.ts ≠ t0 then fallbackUp k (s.mdPlr k fun r => { r with next := none })
        -- a unit without authority that lacks the active unit's plan keeps evaluating the one it holds (14 R404)
        else if !s.drives && s.mlc.planLack.testBit k then s.mdPlr k fun r => { r with next := none }
        else if r.along.isSome then
          fallbackUp k (s.mdPlr k fun r => { r with next := none, res := { r.res with discarded := incSat 255 r.res.discarded } })
        else if (match r.cur with | some c => planAgrees s.ps k (c.at_ t0) (p.at_ t0) | none => true) then
          let s := s.mdPlr k fun r => { r with cur := some p, next := none, res := { r.res with fallbackN := 0 } }
          s.mdAxes (armAxes s.ps k) fun a => { a with mode := .planned, flags := { a.flags with planFallback := false } }
        else
          raiseResult k (outcomeStatus 6) (fallbackUp k (tileNan p.tile ((withdraw k s).mdPlr k fun r => { r with
            warm := r.warmPrev, res := { r.res with outcome := 6, resMax := 0x80000000 } })))
    let r := s.plr k
    if r.along.isNone && decide (r.res.fallbackN = prmN s.ps Pid.FALLBACK_DEPTH k) then
      raiseResult k Sts.FALLBACK_STOP (beginAlong k t0 s)
    else s

/-- A plan published during a stop whose t_s lies after the end of the stop does not govern either: it counts in DISCARDED
(07 R206). -/
def discardNext (k : Nat) (s : State) : State :=
  if (s.plr k).next.isNone then s
  else s.mdPlr k fun r => { r with next := none, res := { r.res with discarded := incSat 255 r.res.discarded } }

/-- The sample of an arm's plan for the control cycle starting at t0, and the stop along the plan moved on (07 R205); a stop
that has run its length leaves planned mode. -/
def planStep (k : Nat) (t0 : Time) (s : State) : List Sample × State :=
  let r := s.plr k
  match r.planned, r.cur with
  | true, some p =>
    match r.along with
    | none => (p.at_ (t0 + tCtl), s)
    | some g =>
      if g.total ≤ g.c then ([], leavePlan k (discardNext k s))
      else
        let c := g.c + 1
        let rate : Rat := 1 - (c : Nat) / (g.total : Nat)
        let tau := g.tau + rate
        let xs := (p.eval tau).map fun (q, v, a) =>
          (q, ((v : Rat) * rate).floor, ((a : Rat) * rate * rate - (v : Rat) / (g.total : Nat)).floor)
        (xs, s.mdPlr k fun r => { r with along := some { g with tau := tau, c := c } })
  | _, _ => ([], s)

/-! ### Solves -/

/-- Initial state of a solve from period start p0, latched at p0 + 15.625 µs (07 R184): the plan in force at p0 + P, or the
snapshot's reference at rest. -/
def solveX0 (k : Nat) (p0 : Time) (s : State) : List (Int × Int) :=
  let r := s.plr k
  match r.cur with
  | some c => (c.at_ (p0 + prmN s.ps Pid.PLAN_PERIOD k * us)).map fun x => (x.1, x.2.1)
  | none => (armAxes s.ps k).map fun a => ((s.ax a).snap.1, 0)

/-- One joint of the forward simulation (07 R193): knots from x_0 under the accelerations `al` in per-cycle units. -/
def simJoint (m : Nat) (wMax aMin : Int) (x : Int × Int) : List Int → List (Int × Int)
  | [] => [x]
  | al :: rest =>
    let mi : Int := (m : Nat)
    let a1 := clampI (cdiv (-wMax - x.2) mi) (fdiv (wMax - x.2) mi) al
    let a2 := clampI (-aMin) aMin a1
    x :: simJoint m wMax aMin (x.1 + mi * x.2 + fdiv (mi * mi * a2) 2, x.2 + mi * a2) rest

/-- Knots transposed to one list per knot. -/
def byKnot (n : Nat) (js : List (List (Int × Int))) : List (List (Int × Int)) :=
  (List.range (n + 1)).map fun i => js.map fun j => j.getD i (0, 0)

/-- The knots of a solve by its forward simulation from the final accelerations, ⌊a × 2^(40 − f_ACC) / 256 000 000⌋ each
(07 R193). -/
def simulate (v : SolveSt) (fin : WarmSt) : List (List (Int × Int)) :=
  let q := v.inp
  byKnot q.nk <| v.x0.mapIdx fun j x =>
    simJoint q.knotM (lget v.wMax j) (lget v.aBox j) x
      ((fin.z.take q.nk).map fun z => let a := lget z.a j; fdiv (a.w * 2 ^ (8 + a.m)) 256000000)

/-- Some knot lies more than POS_TOL outside the position box of its joint, whose POS words are converted exactly (07 R193). -/
def boxFails (v : SolveSt) (knots : List (List (Int × Int))) : Bool :=
  (knots.drop 1).any fun row => row.zipIdx.any fun (x, j) =>
    let at_ (b : QW) : Int := (lget v.x0 j).1 + b.w * 2 ^ (8 + b.m)
    decide (x.1 < at_ (lget v.inp.lo j) - v.posTol) || decide (x.1 > at_ (lget v.inp.hi j) + v.posTol)

/-- How far each active coupling row falls short of its bound at the simulated knots, in DIST units (07 R193). -/
def shortfalls (v : SolveSt) (knots : List (List (Int × Int))) : List Int :=
  (v.inp.knots.zip knots).flatMap fun (k, row) => (k.coup.filter (·.active)).map fun r =>
    let dq := (row.zip v.x0).zipIdx.map fun (x, j) =>
      mac (some (((x.1.1 - x.2.1 : Int) : Rat) / (2 ^ 40 : Nat))) [(some (-1), (lget k.qb j).val)]
    let at_ := qStore (v.inp.cls 4) (mac r.d.val (List.zipWith (fun c x => (c.val, x)) r.coef dq))
    r.bound.w - at_.w

/-- Largest coupling shortfall of a plan as a DIST word, 0 where no row falls short (07 R214). -/
def resMaxOf (l : List Int) : Nat := (min (l.foldl max 0) (2 ^ 31 - 1)).toNat

/-- A knot as it is published (07 R213): ω of knots 1 to N is formed from the VEL word of the simulated velocity. -/
def publishedKnot (mVel : Nat) (row : List (Int × Int)) : List (Int × Int) :=
  row.map fun x =>
    let v := qStore mVel (some ((x.2 * 16000 : Int) / (2 ^ 40 : Nat)))
    (x.1, fdiv (v.w * 2 ^ (8 + v.m)) 16000)

/-- Instant a solve from p0 must complete before (07 R201). -/
def solveDue (ps : ParamSet) (k : Nat) (p0 : Time) : Time := p0 + prmN ps Pid.PLAN_PERIOD k * us - 50 * us

/-- A solve ends with an outcome at an instant: result record, output area, event (07 R200, R214). `reached`
are the iterations done where not all of them are. -/
def endSolve (k outcome stage sat resMax reached : Nat) (t : Time) (s : State) : State :=
  match (s.plr k).solve with
  | none => s
  | some v =>
    let iter := match outcome with
      | 0 | 5 => v.admmK
      | 4 | 7 => min reached v.admmK
      | _ => 0
    let res := if outcome = 0 then resMax else 0x80000000
    let start := v.p0 + tLatch
    let s := s.mdPlr k fun r => { r with
      solve := some { v with done := true }
      res := { r.res with
        elapsed := min ((t - start) / ns) (2 ^ 32 - 1), iter := iter, satCount := min sat 255, resMax := res
        stage := if outcome = 1 ∨ outcome = 2 then stage % 256 else 255
        tile := if outcome = 8 then r.res.tile else v.tile % 16, outcome := outcome } }
    let s := if v.tile < 9 then { s with tiles := vmd s.tiles v.tile fun x => { x with outNan := decide (outcome ≠ 0) } } else s
    raiseResult k (outcomeStatus outcome) s

/-- A deadline or an error of the tile ends a solve before its last iteration (07 R201, R208): how far it had come is a free
value. -/
def cutSolve (k outcome : Nat) (t : Time) (s : State) : State :=
  endSolve k outcome 255 0 0 (Config.free32 s.fresh).toNat t s.drawn

/-- The outcome of a solve that ends at an instant (07 Table 07-4, R201): an error of the tile stands, then the deadline, judged
by the COARSE completion stamp (01 R24, 02 R41), then the checks of the phases. -/
def solveOutcome (k : Nat) (t : Time) (v : SolveSt) (r : QpOut) (knots : List (List (Int × Int))) (s : State) : Nat :=
  if v.tileErr then 7
  else if atOrAfter t ns (solveDue s.ps k v.p0) then 4
  else if v.range then 3
  else if r.outcome ≠ 0 then r.outcome
  else if boxFails v knots || (shortfalls v knots).any (fun d => decide (d > v.inp.resTol.w)) then 5
  else 0

/-- P of an arm in control cycles. -/
def perCycles (ps : ParamSet) (k : Nat) : Nat := prmN ps Pid.PLAN_PERIOD k * us / tCtl

/-- A solve of an arm ends at an instant (07 R191 to R203): its program is solved, simulated and validated; OK keeps z, w and y
for the next solve and publishes the plan, unless its tile is shutting down. -/
def completeSolve (k iter : Nat) (t : Time) (s : State) : State :=
  match (s.plr k).solve with
  | none => s
  | some v =>
    if v.done then s
    else
      let r := qpSolve v.inp v.admmK (perCycles s.ps k) (s.plr k).warm
      let knots := simulate v r.fin
      let o := solveOutcome k t v r knots s
      let s := if o ≠ 0 then s else s.mdPlr k fun x => { x with warm := some r.fin, warmPrev := x.warm }
      let s := if o ≠ 0 ∨ v.mute then s
        else
          let shown := knots.take 1 ++ (knots.drop 1).map (publishedKnot (v.inp.cls 1))
          publish k { ts := v.p0 + prmN s.ps Pid.PLAN_PERIOD k * us, knotM := v.inp.knotM, n := v.inp.nk, joints := v.inp.n
                      knots := shown, tile := v.tile
                      caps := shown.map fun row => capsAtKnot s.ps k (row.map (·.1) ++ [v.carrier]) } s
      endSolve k o r.stage r.sat (resMaxOf (shortfalls v knots)) iter t s

/-- The entries of one tile in the ply table are staged under the name of another (15 R441): every bank adopts them at its own
next wrap (15 R440). -/
def plyRename (old new_ : Nat) (s : State) : State :=
  let t := (s.ldg.staged.getD s.ldg.table).map fun e => if e = 1 + old then 1 + new_ else e
  if t = s.ldg.staged.getD s.ldg.table then s
  else { s with ldg := { s.ldg with staged := some t, banks := vmapI s.ldg.banks fun _ k => { k with due := true } } }

/-- A disabled arm returns to its home tile if that is healthy and unassigned (07 R209). -/
def homeTile (k : Nat) (s : State) : State :=
  let cur := (s.plr k).tile
  if cur = some k ∨ (s.unit 2 k).st ≠ .spare then s
  else
    let s := match cur with
      | some j => plyRename j k
          (({ s with tiles := vmd s.tiles j fun t => { t with arm := none } }).mdUnit 2 j fun u => { u with st := .spare, serves := 127 })
      | none => s
    let s := { s with tiles := vmd s.tiles k fun t => { t with arm := some k } }
    (s.mdUnit 2 k fun u => { u with st := .inService, serves := k }).mdPlr k fun r => { r with tile := some k, tileNext := none }

/-- An arm moves to the tile chosen for it (07 R208); an arm without a tile takes one that has become healthy and
unassigned only under R209. -/
def moveTile (k : Nat) (s : State) : State :=
  match (s.plr k).tileNext with
  | none => s
  | some j =>
    let s := match (s.plr k).tile with | some old => plyRename old j s | none => s
    let s := { s with tiles := vmapI s.tiles fun i t => if i = j then { t with arm := some k } else if t.arm = some k then { t with arm := none } else t }
    s.mdPlr k fun r => { r with tile := some j, tileNext := none }

/-- PLAN_PERIOD_EVENT (01 R10, R11, R18): the next multiple of the arm's plan period begins one; a tile move takes effect
(07 R208). The period's work follows the work that the same broadcast starts (`planWork`). -/
def execPlanPeriodEvent (arm : Nat) (s : State) : Out :=
  onUnit "arm" arm 8 <| .next <|
    let p0 := nextAt (prmN s.ps Pid.PLAN_PERIOD arm * us) (max (s.plr arm).nextP0 s.cyc.t0)
    if !s.cyc.running || (armAxes s.ps arm).isEmpty then s
    else (moveTile arm (s.upTo p0)).mdPlr arm fun r => { r with nextP0 := p0 + 1, begun := some p0 }

/-- The work of an arm's plan period, once everything that takes effect at its start has done so (01 R11, Table 01-2): an arm in
planned motion begins a solve, an enabled one publishes its STATIC record (07 R187). -/
def planWork (k : Nat) (s : State) : State :=
  let r := s.plr k
  match r.begun with
  | none => s
  | some p0 =>
    let s := s.mdPlr k fun r => { r with begun := none }
    if r.planned && decide (r.tileFn ≠ .disabled) then
      s.mdPlr k fun r => { r with solve := some {
        p0 := p0, tile := r.tile.getD 15, admmK := prmN s.ps Pid.ADMM_K k
        posTol := prmI s.ps Pid.POS_TOL k, mute := decide (r.tileFn = .shuttingDown) } }
    else if (s.sc k).fn = .enabled ∧ !r.planned then publishStatic k p0 s
    else s

/-- Everything a solve reads at its start, p0 + 15.625 µs (07 R184 to R190, R199): x_0, PATH_REF, the records of the other arms
and the SSM's objects as published by then, and the limits in force; the program is linearised along the plan in force. -/
def admitSolve (k : Nat) (p0 : Time) (v : SolveSt) (s : State) : SolveSt :=
  let ps := s.ps
  let r := s.plr k
  let axes := armAxes ps k
  let x0 := solveX0 k p0 s
  let qA := x0.map (·.1)
  let ts := p0 + prmN ps Pid.PLAN_PERIOD k * us
  let nk := prmN ps Pid.HORIZON_N k
  let m := prmN ps Pid.KNOT_M k
  let at_ (i : Nat) : Time := ts + i * m * tCtl
  let fmt := (List.range 11).map fun c => classM ps k c
  let carrier := carrierPos k s
  let paths := (List.range (nk + 1)).map fun i => pathAt r.path r.pathT (m * 62500) (at_ i / ns)
  let foreign := (List.range (nk + 1)).map fun i => foreignAt ps k (fun b => (s.plr b).shown) (at_ i)
  let qb (i : Nat) : List Int := match r.cur with | some c => (c.at_ (at_ i)).map (·.1) | none => qA
  let knots := (List.range (nk + 1)).map fun i =>
    knotAt ps k fmt qA (qb i) carrier r.pen (lget foreign i) (lget paths i) (i == 0) (s.fresh + 36 * i)
  let vm := axes.map fun n => match (s.ax n).slim with | some l => min l (s.ax n).lim.v | none => (s.ax n).lim.v
  let am := axes.map fun n => min (s.ax n).lim.a (s.ax n).lim.d
  { v with
    x0 := x0, carrier := carrier
    wMax := vm.map fun x => fdiv ((x * 2 ^ 24 : Nat) : Int) 16000
    aBox := am.map fun x => fdiv ((x * 2 ^ 28 : Nat) : Int) 256000000
    range := outOfRange ps k x0 carrier paths (foreign.drop 1) r.pen
    inp := programOf ps k x0 vm am knots }

/-- The solve of an arm starts at p0 + 15.625 µs, with LATCH (07 R184, R185): the path written last takes effect, and the inputs
are read. -/
def latchSolve (k : Nat) (t0 : Time) (s : State) : State :=
  let r := s.plr k
  if t0 % (prmN s.ps Pid.PLAN_PERIOD k * us) ≠ 0 then s
  else
    let s := match r.pathNext with
      | some p => s.mdPlr k fun r => { r with path := p, pathT := r.pathTNext, pathNext := none }
      | none => s
    match r.solve with
    | some v =>
      if v.p0 = t0 ∧ !v.done then
        (s.mdPlr k fun r => { r with solve := some (admitSolve k t0 v s) }).drawn (36 * (prmN s.ps Pid.HORIZON_N k + 1))
      else s
    | none => s

/-- SOLVE_DEADLINE (07 R201): a solve still running ends DEADLINE_MISS; without a tile the period ends NOT_RUN, and after
a hardware error TILE_ERROR. -/
def execSolveDeadline (arm : Nat) (s : State) : Out :=
  onUnit "arm" arm 8 <| .next <|
    match (s.plr arm).solve with
    | none => s
    | some v =>
      if v.done then s
      else
        let t := solveDue s.ps arm v.p0
        let s := s.upTo t
        cutSolve arm (if v.tile = 15 then 8 else if v.tileErr then 7 else 4) t s

/-- SOLVE_COMPLETE (07 R193, R200, R202): the solve of an arm ends at its stamp. It completes only after its start at
p0 + 15.625 µs. The order of summation and the MAC lanes used change nothing (07 R194). -/
def execSolveComplete (arm t iter _order _lanes : Nat) (s : State) : Out :=
  onUnit "arm" arm 8 <| .next <|
    match (s.plr arm).solve with
    | none => s
    | some v =>
      if v.done || decide (v.tile = 15) || decide (t < v.p0 + tLatch) || v.x0.isEmpty then s
      else completeSolve arm iter t (s.upTo t)

/-- TILE_ERROR (07 R208, Table 07-4): the solve of the failing tile ends TILE_ERROR, the tile becomes SUSPECT under its
targeted self-test, and its arm moves to QT8 or the lowest healthy unassigned tile at the next plan-period start. -/
def execTileError (tile t : Nat) (s : State) : Out :=
  onUnit "tile" tile 9 <| .next <|
    let s := s.upTo t
    let arm := (vrd s.tiles tile).arm
    let s := suspect 2 tile Sts.OK none s
    match arm with
    | none => s
    | some k =>
      match (s.plr k).solve with
      | some v => if v.tile = tile ∧ !v.done then cutSolve k 7 t s else s
      | none => s

end Sys2Proof.Machine
end

