-- ==== Sys2Proof/Machine/TimeBase.lean ====
section
/-!
DEFINITION. The time base (chapter 02): measurements and the discipline of RATE (R45 to R53), relabels and time-of-day
shifts (R47 to R51), holdover (R53, R54, R58), the PPS pins (R50, R55, R56) and the calibration of the interpolators
(R43, R44).
-/
namespace Sys2Proof.Machine

/-- Limit of the frequency term: ±100 ppm in 2^-40 (02 R45). -/
def freqLim : Int := 109951163

/-- Limit of the slew term in 2^-40 (02 R45): SLEW_RUN (0.01 ppm) while motion is enabled, else SLEW_FAST (ppm). -/
def slewLim (s : State) : Int :=
  if s.anyBusy then roundHA (s.tb.slewRun * 2 ^ 40 : Nat) 100000000 else roundHA (s.tb.slewFast * 2 ^ 40 : Nat) 1000000

/-- θ / τ over `div` in 2^-40, θ in 1/64 ns and τ in 1/64 ns, rounded once (02 R52). -/
def overTau (theta : Int) (tau : Time) (div : Nat) : Int := roundHA (theta * 2 ^ 40) ((tau * div : Nat) : Int)

/-- Put the slew term at its clamped value, with SLEW_FAST while the fast limit acts (02 R45, Table 02-8). -/
def tbSetSlew (v : Int) (s : State) : State :=
  let lim := slewLim s
  { s with tb := { s.tb with slew := clampI (-lim) lim v, slewFastAct := !s.anyBusy && clampI (-lim) lim v != v } }

/-- The ACQUIRING branch of R52. -/
def tbAcquire (theta : Int) (tau : Time) (s : State) : State :=
  let s := match s.tb.thetaPrev with
    | some p => tbSetFreq (clampI (-freqLim) freqLim
        (roundHA (s.tb.freq * (tau : Int) - (theta - p) * 2 ^ 40) (tau : Int))) s
    | none => s
  let s := tbSetSlew (-overTau theta tau 1) s
  { s with tb := { s.tb with thetaPrev := some theta, lockRun := if theta.natAbs < 50 * ns then s.tb.lockRun + 1 else 0 } }

/-- The LOCKED branch of R52. -/
def tbTrack (theta : Int) (tau : Time) (s : State) : State :=
  let s := tbSetFreq (clampI (-freqLim) freqLim
    (roundHA (s.tb.freq * ((16 * tau : Nat) : Int) - theta * 2 ^ 40) ((16 * tau : Nat) : Int))) s
  tbSetSlew (-overTau theta tau 4) s

/-- TB_OFFSET.THETA saturates at ±(2^31 − 1) (02 Table 02-11). -/
def thetaReg (theta : Int) : Int := clampI (-(2 ^ 31 - 1)) (2 ^ 31 - 1) theta

/-- A valid measurement θ over τ, stamped `t` (02 R52, R53): frequency and slew terms, state, and the relabel that
an entry from FREE or HOLDOVER asks for. RATE itself moves by tbRate. -/
def tbMeasure (theta : Int) (tau t : Time) (s : State) : State :=
  let s := { s with tb := { s.tb with
    theta := thetaReg theta, missRun := 0, lastValid := t, lastTau := tau
    thetaPrev := if s.tb.lastValid + tau * 3 / 2 < t ∨ s.tb.lastTau ≠ tau then none else s.tb.thetaPrev } }
  let enter (s : State) : State :=
    raiseTb (tbAcquire theta tau { s with tb := { s.tb with state := .acquiring, thetaPrev := none, lockRun := 0 } })
  match s.tb.state with
  | .locked => if theta.natAbs ≥ 500 * ns then enter s else tbTrack theta tau s
  | .acquiring =>
    let s := tbAcquire theta tau s
    if s.tb.lockRun ≥ 8 then raiseTb { s with tb := { s.tb with state := .locked, holdExceeded := false } } else s
  | _ => enter { s with tb := { s.tb with relabel := some (nextAfter (4 * ms) t, theta, tau) } }

/-- A cell cycle without a valid θ (02 R52, Table 02-3); while CELLBUS_PPS lives on its pulses, whose interval is 1 s, theta_prev
stays. -/
def tbMissed (s : State) : State :=
  { s with tb := { s.tb with
      missRun := s.tb.missRun + 1, thetaPrev := if s.tb.src = 3 ∧ s.tb.lastTau = sec then s.tb.thetaPrev else none } }

/-- Mean of the frequency term over the last second (02 Table 02-3), weighted by time, to the nearest integer. -/
def freqMean (hist : List (Time × Int)) (now : Time) : Int :=
  let r := hist.foldl (fun (acc : Int × Nat × Time) e =>
    let a := max e.1 (now - sec)
    let w := acc.2.2 - a
    (acc.1 + e.2 * (w : Int), acc.2.1 + w, min acc.2.2 a)) (0, 0, now)
  if r.2.1 = 0 then (match hist with | e :: _ => e.2 | [] => 0) else roundHA r.1 (r.2.1 : Nat)

/-- Enter HOLDOVER with a frequency term (02 Table 02-3). -/
def tbHold (f : Int) (s : State) : State :=
  let was := s.tb.state
  let s := tbSetFreq f s
  let s := tbFollow { s with tb := { s.tb with state := .holdover, slew := 0, slewFastAct := false, thetaPrev := none, lockRun := 0 } }
  if was = .holdover then s else raiseTb s

/-- The source switch of a takeover (02 R58, Table 02-3), which is no write of SRC: SRC = FREE enters HOLDOVER with the frequency
term frozen; with any other the terms and the state stay. -/
def tbTakeover (src : Nat) (s : State) : State :=
  let s := { s with tb := { s.tb with src := src, missRun := 0 } }
  if src = 0 then tbHold s.tb.freq s else s

/-- An enable takes effect while the slew term exceeds SLEW_RUN (02 R49): it is clamped at that control-cycle start. -/
def tbEnableClamp (s : State) : State :=
  let lim := roundHA (s.tb.slewRun * 2 ^ 40 : Nat) 100000000
  if s.tb.slew.natAbs ≤ lim.natAbs then s
  else
    let v := clampI (-lim) lim s.tb.slew
    { s with tb := { s.tb with slew := v, rate := s.tb.freq + v, slewFastAct := false } }

/-- The time base counts the cell bus (or the Mirror link) as its source at a cell-cycle close. -/
def tbByCell (src : Nat) : Bool := src == 1 || src == 3 || src == 4

/-- An instant after a shift of cell time. -/
def shiftT (d : Int) (t : Time) : Time := ((t : Int) + d).toNat

/-- Cell time is shifted by d: the instants at which cycles and timers stand move with it, so that a timer keeps
its remaining length (02 R47 to R50; notes/assumptions 44). Stamps already recorded stay as they are. -/
def shiftTime (d : Int) (s : State) : State :=
  let f := shiftT d
  let fo (o : Option Time) := o.map f
  { s with
    cyc := { s.cyc with now := f s.cyc.now, tk := f s.cyc.tk, t0 := f s.cyc.t0, s0 := f s.cyc.s0, nextTk := f s.cyc.nextTk,
                        nextT0 := f s.cyc.nextT0, nextS0 := f s.cyc.nextS0, nextCell := f s.cyc.nextCell }
    tb := { s.tb with
      lastValid := f s.tb.lastValid, lastPps := fo s.tb.lastPps, ppsFallAt := f s.tb.ppsFallAt
      freqHist := s.tb.freqHist.map fun e => (f e.1, e.2), thetaPrev := none
      interp := vmapI s.tb.interp fun _ i => { i with calAt := f i.calAt }
      rovers := vmapI s.tb.rovers fun _ r => { r with from_ := f r.from_ } }
    dl := { s.dl with ports := vmapI s.dl.ports fun _ p => { p with seqFree := true, txAt := f p.txAt } }
    planners := vmapI s.planners fun _ p => { p with nextP0 := f p.nextP0, begun := fo p.begun }
    ttc := { s.ttc with t0 := f s.ttc.t0, trafficAt := f s.ttc.trafficAt, csDue := f s.ttc.csDue, csGo := fo s.ttc.csGo,
                        authFrom := f s.ttc.authFrom, ch := vmapI s.ttc.ch (fun _ c => { c with offAt := f c.offAt, drive := (f c.drive.1, f c.drive.2) }), tx := s.ttc.tx.map fun v => { v with at_ := f v.at_ } }
    ssm := { s.ssm with arms := vmapI s.ssm.arms fun _ a => { a with stillAt := f a.stillAt } }
    ssv := { s.ssv with
      wdAt := f s.ssv.wdAt, serviceTo := f s.ssv.serviceTo
      eng := s.ssv.eng.map fun e => { e with lockedTo := fo e.lockedTo }
      tpAt := vmapI s.ssv.tpAt fun _ t => f t
      si := vmapI s.ssv.si fun _ i => { i with edgeAt := f i.edgeAt, passAt := f i.passAt, demandAt := fo i.demandAt, faultAt := fo i.faultAt }
      pairs := vmapI s.ssv.pairs fun _ p => { p with diffAt := fo p.diffAt, discAt := fo p.discAt }
      brakes := vmapI s.ssv.brakes fun _ b =>
        { b with changedAt := f b.changedAt, diffAt := fo b.diffAt, countedAt := f b.countedAt, appliedAt := fo b.appliedAt }
      scopes := vmapI s.ssv.scopes fun _ c =>
        { c with confirmAt := fo c.confirmAt, stopAt := fo c.stopAt, faultAt := c.faultAt.map fun x => (f x.1, x.2) } }
    hif := { s.hif with ch := vmapI s.hif.ch fun _ c =>
      { c with renewAt := f c.renewAt, posts := c.posts.map fun p => (p.1, f p.2) } }
    fw := { s.fw with
      staged := s.fw.staged.map fun g => { g with stamp := { g.stamp with at_ := f g.stamp.at_ }, at_ := f g.at_ }
      setNext := s.fw.setNext.map fun g => { g with at_ := f g.at_ }
      dlReset := s.fw.dlReset.map fun r => (f r.1, r.2), unpairAt := fo s.fw.unpairAt }
    mlc := { s.mlc with
      hbT0 := f s.mlc.hbT0, helloAt := f s.mlc.helloAt, helloSince := fo s.mlc.helloSince, waitEnd := fo s.mlc.waitEnd
      tk := fo s.mlc.tk, tkDue := fo s.mlc.tkDue, unpairing := fo s.mlc.unpairing
      castle := s.mlc.castle.map fun c => { c with b := f c.b }
      commitWait := s.mlc.commitWait.map fun c => (f c.1, c.2)
      pairBy := fo s.mlc.pairBy, retryAt := f s.mlc.retryAt, castleAge := (s.mlc.castleAge.1, f s.mlc.castleAge.2)
      unacked := s.mlc.unacked.map fun m => { m with at_ := f m.at_, due := fo m.due } }
    ldg := { s.ldg with
      locks := vmapI s.ldg.locks fun _ l => { l with at_ := f l.at_ }
      banks := vmapI s.ldg.banks fun _ b => { b with msAt := f b.msAt }
      scrubHist := s.ldg.scrubHist.map fun e => (e.1, f e.2) }
    hlt := { s.hlt with
      voutWait := fo s.hlt.voutWait
      units := s.hlt.units.map fun u => { u with glints := u.glints.map f, tested := f u.tested } } }

/-- No enable takes effect at the instant (02 R47). -/
def noEnableAt (s : State) (t : Time) : Bool :=
  s.fw.staged.all fun g => g.at_ != t || g.cmd != .enable

/-- Nothing forbids a relabel at the instant (02 R47, R48). -/
def mayRelabel (s : State) (t : Time) : Bool := !s.anyBusy && noEnableAt s t

/-- RELABEL (02 R47, R48): k × 4 ms is taken out, and the remainder of θ is what the slew term removes. -/
def execRelabel (s : State) : Out :=
  .next <| match s.tb.relabel with
    | none => s
    | some (due, theta, tau) =>
      let s := s.upTo due
      let ok := mayRelabel s due && s.tb.relabelEn
      let k := roundHZ theta (4 * ms : Nat)
      let s := { s with tb := { s.tb with relabel := none } }
      if !ok || k = 0 then s
      else
        let s := tbFollow (tbSetSlew (-overTau (theta - k * (4 * ms : Nat)) tau 1) (shiftTime (-(k * (4 * ms : Nat))) s))
        raiseEv 127 Sts.OK 0 (ofSigned 32 k) 1 s

/-- TIME_OF_DAY_SHIFT (02 R50, R51). -/
def execTimeOfDayShift (s : State) : Out :=
  .next <| match s.tb.todShift with
    | none => s
    | some (due, n) =>
      let s := s.upTo due
      let ok := mayRelabel s due
      let s := { s with tb := { s.tb with todShift := none } }
      if !ok then s
      else raiseEv 127 Sts.OK 0 (ofSigned 32 (clampI (-(2 ^ 31 - 1)) (2 ^ 31 - 1) n)) 4 (shiftTime (n * (sec : Nat)) s)

/-- HOLDOVER_ENTRY (02 R53, Table 02-3). -/
def execHoldoverEntry (s : State) : Out :=
  .next <|
    if s.tb.state = .acquiring ∨ s.tb.state = .locked then
      let go (s : State) := tbHold (freqMean s.tb.freqHist s.cyc.now) s
      let byPps := s.upTo (s.tb.lastValid + 3 * sec / 2)
      match s.tb.src with
      | 2 => go byPps
      | 3 => if 4 ≤ s.tb.missRun then go byPps else s
      | 0 => s
      | _ => if 4 ≤ s.tb.missRun then go s else s
    else s

/-- HOLD_EXCEEDED (02 R54): HOLD_DRIFT (0.01 ppm) times the time in holdover reaches HOLD_LIMIT (µs). -/
def execHoldExceeded (s : State) : Out :=
  .next <|
    if s.tb.state ≠ .holdover ∨ s.tb.holdExceeded ∨ s.tb.holdDrift = 0 then s
    else
      let s := s.upTo (s.tb.lastValid + (100 * s.tb.holdLimit * sec + s.tb.holdDrift - 1) / s.tb.holdDrift)
      raiseEv 127 Sts.OK 0 ((s.cyc.now - s.tb.lastValid) / ms % 2 ^ 32) 3 { s with tb := { s.tb with holdExceeded := true } }

/-- PPS_IN_EDGE (02 R40, R50, R55, R52): an edge of PPS_IN rising or falling, after which the pin keeps its level for
`width`; only the edge that PPSIN_POL selects counts. A stamp half-way between two whole seconds has no nearest one: which is
taken is a free value. -/
def execPpsInEdge (edge : PinEdge) (width : Nat) (s : State) : Out :=
  .next <|
    let s := s.upTo edge.at_
    if width < us ∨ edge.rising = s.tb.ppsInPol then s
    else
      let t := (s.stampOf 42 edge.at_).at_
      let r := t % sec
      let up := if 2 * r = sec then (Config.free32 s.fresh).getLsbD 0 else decide (2 * r > sec)
      let s := if 2 * r = sec then s.drawn else s
      let theta : Int := if up then (r : Int) - (sec : Int) else (r : Int)
      if s.tb.state = .locked ∧ theta.natAbs > ms then
        { s with tb := { s.tb with ppsInRej := incSat 255 s.tb.ppsInRej } }
      else
        let s := { s with tb := { s.tb with ppsInSeen := true, lastPps := some t } }
        if s.tb.src = 2 ∨ (s.tb.src = 3 ∧ s.ttc.theta = none) then tbFollow (tbMeasure theta sec t s) else s

/-- PPSIN_SEEN_EXPIRY (02 R55). -/
def execPpsinSeenExpiry (s : State) : Out :=
  .next <| match s.tb.lastPps with
    | none => s
    | some t =>
      if s.tb.ppsInSeen then
        let s := s.upTo (t + 3 * sec / 2)
        { s with tb := { s.tb with ppsInSeen := false } }
      else s

/-- PPS_OUT_RISE (02 R56): at the next whole second less PPSOUT_COMP. -/
def execPpsOutRise (s : State) : Out :=
  .next <|
    let on := decide (s.tb.state = .locked) || decide (s.tb.state = .holdover) || s.tb.ppsOutAlways
    if !on || s.tb.ppsOut then s
    else
      let k := cdiv ((s.cyc.now : Int) + s.tb.ppsOutComp) (sec : Nat)
      let at_ := (k * (sec : Nat) - s.tb.ppsOutComp).toNat
      let s := s.upTo at_
      { s with tb := { s.tb with
          ppsOut := true, ppsFallAt := at_ + s.tb.ppsOutWidth * 2 * ms
          ppsOutStamp := some (s.stampOf 43 at_) } }

/-- PPS_OUT_FALL (02 R56). -/
def execPpsOutFall (s : State) : Out :=
  .next <|
    if s.tb.ppsOut then
      let s := s.upTo s.tb.ppsFallAt
      { s with tb := { s.tb with ppsOut := false } }
    else s

/-- ROVER_PARALLEL_END (02 R43, R44): the end of the whole current period in which a channel is stamped twice. The handover takes
place when the two stamps agree within 2 units; otherwise CAL_FAULT, E127, and the targeted self-test of the channel and of the
rover (16 R453; notes/assumptions 86). -/
def execRoverParallelEnd (rover : Nat) (diff : Int) (s : State) : Out :=
  onUnit "rover" rover 4 <| .next <|
    let v := vrd s.tb.rovers rover
    if v.part ≠ 0 ∧ v.part ≠ 2 then s
    else
      let s := s.upTo (v.from_ + tCur)
      let ok := decide (diff.natAbs ≤ 2)
      let part := if ok then v.part + 1 else if v.part = 0 then 3 else 1
      let s := { s with tb := { s.tb with rovers := vmd s.tb.rovers rover fun x => { x with part := part } } }
      if ok then s
      else
        let s := { s with tb := { s.tb with calFault := true, calChan := v.chan } }
        let s := raiseEv 127 Sts.OK v.chan (ofSigned 32 s.tb.theta) 2 s
        suspect 8 v.chan Sts.OK none (suspect 8 (60 + rover) Sts.OK none s)

/-- First channel from `c` on, in turn, that no rover serves for good (02 R43). -/
def turnFrom (rovers : Vector Rover 4) (c : Nat) : Nat :=
  (((List.range 60).map fun i => (c + i) % 60).find? fun i => !(vlist rovers).any fun r => r.fixed && r.chan == i).getD c

/-- INTERPOLATOR_CAL_DONE (02 R43): the 64 step counts of the code-density test. A channel calibrated under a rover is handed back;
a rover calibrated takes the next channel in the turn that the rovers share. A parallel period begins with a current period. -/
def execInterpolatorCalDone (ts : Nat) (counts : List Nat) (s : State) : Out :=
  onUnit "interpolator" ts 64 <| .next <|
    let at_ := nextAt tCur s.cyc.now
    let s := { s with tb := { s.tb with
      interp := vmd s.tb.interp ts fun i => { i with widths := counts, calAt := s.cyc.now } } }
    if ts < 60 then
      { s with tb := { s.tb with rovers := vmapI s.tb.rovers fun _ v =>
          if !v.fixed && v.chan == ts && v.part == 1 then { v with part := 2, from_ := at_ } else v } }
    else
      let v := vrd s.tb.rovers (ts - 60)
      if v.fixed || v.part != 3 || decide ((s.unit 8 ts).st = .retired) then s
      else
        let c := turnFrom s.tb.rovers s.tb.turn
        { s with tb := { s.tb with
            turn := (c + 1) % 60
            rovers := vmd s.tb.rovers (ts - 60) fun v => { v with part := 0, chan := c, from_ := at_ } } }

/-- TB_NOW_FRAC_READ (02 R59): FRAC is read and NS_LO and NS_HI are latched. -/
def execTbNowFracRead (s : State) : Out :=
  .next { s with
    tb := { s.tb with nowLatch := s.cyc.now / ns % 2 ^ 64 }
    hif := { s.hif with readData := leBytes 4 (s.cyc.now % 64 * 4), readAbort := false } }

end Sys2Proof.Machine
end

