-- ==== Sys2Proof/Machine/Ssv.lean ====
section
/-!
DEFINITION. The safety supervisor (chapter 09): enable and shutdown sequences (R252, R253), protective stops and safely
limited speed (R232 to R234, R269), stop envelopes (R267, R268), brakes and brake tests (R249 to R259), safe inputs
(R260 to R264), STO (R265, R266) and the cyclic checks (R246, R247).
-/
namespace Sys2Proof.Machine

/-! ### Scopes -/

/-- I_FS of an axis as its stage announces it, in 10 mA (10 Table 10-8). -/
def axIfs (s : State) (n : Nat) : Nat :=
  match axSlot s.ps n with
  | some (p, sl) => match (s.port p).disc with | some b => discI_FS b sl | none => 0
  | none => 0

/-- A gain of LA as a parameter set gives it: the stored value, else the one computed from R_PH, L_PH and I_FS, where the set and
the stage give these (06 Table 06-4; DEDUCED, notes/assumptions 16). -/
def laGainOf (s : State) (ps : ParamSet) (pid n : Nat) : Option (Nat × Nat) :=
  match prmB ps pid n 0 with
  | some _ => some (prmG ps pid n)
  | none =>
    let r := prmN ps Pid.R_PH n
    let l := prmN ps Pid.L_PH n
    if r = 0 ∨ l = 0 ∨ axIfs s n = 0 then none
    else
      let g := laGains r l (axIfs s n)
      some (if pid = Pid.LA_GV then g.1 else g.2)

/-- The loop state an enable starts from (05 R148, R134). -/
def loopAtEnable (ps : ParamSet) (n : Nat) (l : LoopSt) : LoopSt :=
  { l with integ := shl (prmI ps Pid.INTEG_PRELOAD n) 15, filtInit := true, pfbPrev := none, corr := 0, feCount := 0
           overRun := 0, owed := 0 }

/-- One stepper phase at an enable: after reset its slopes start from their nominal values (04 R105), and the count of COIL_FAULT
starts anew (DEDUCED, notes/assumptions 17). -/
def phaseAtEnable (ps : ParamSet) (n : Nat) (p : PhaseSt) : PhaseSt :=
  if p.learned then { p with coil := 0 }
  else { p with coil := 0, learned := true, sOn := prmI ps Pid.S_ON_NOM n, sFast := prmI ps Pid.S_FAST_NOM n, sSlow := prmI ps Pid.S_SLOW_NOM n }

/-- An axis takes torque and holds where its feedback stands (03 Table 03-4, 04 R103, R118, 06 R174). SOFT_LIMIT_STOP of an earlier
stop clears here: 03 R95 names no event that clears it (DESIGN CHOICE, notes/assumptions 13). -/
def enableAxis (s : State) (n : Nat) (a : AxisSt) : AxisSt :=
  let ps := s.ps
  let p := if hasEnc ps n ∧ a.fb.seen then a.fb.pos else a.refP
  { a with
    fn := .enabled, sto := false, mode := .ptp, gen := { p6 := p6Of p }, plan := none, cmd := .hold, gear := none, cap := none
    home := none, refP := p, refPrev := p, rel := (p, p), relCorr := 0, relCmd := 0, relInj := 0, shift := 0, dms := []
    flags := { a.flags with targetReached := false, softStop := false }, softCross := false, hardEnd := false, lastInc := 0
    fb := { a.fb with extSats := [false, false, false, false] }
    loop := loopAtEnable ps n a.loop
    cur := { a.cur with
      eAlign := true, first := true, intD := 0, intQ := 0, vdc := none, uvRun := 0, lostRun := 0, sumRun := 0, missRun := 0
      still := 0, stallRun := 0, stallClr := 0, kNan := false
      refSat := [false, false, false, false], uSat := [false, false, false, false]
      phA := phaseAtEnable ps n a.cur.phA, phB := phaseAtEnable ps n a.cur.phB }
    laGain := ((laGainOf s ps Pid.LA_GV n).getD (0, 0), (laGainOf s ps Pid.LA_GT n).getD (0, 0)) }

/-- An enable takes effect at t_e (09 R252, Table 09-2): STO output high, STO bits clear, loops preloaded, brakes still
applied. A category 2 request still in force makes the arm hold under it. -/
def beginEnable (k : Nat) (te : Time) (s : State) : State :=
  if (s.sc k).fn ≠ .disabled then s
  else
    let s := match stoOf s.ps k with | some o => putSto o true s | none => s
    let s := { s with axes := vmapI s.axes fun n a => if (s.scAxes k).contains n then enableAxis s n a else a }
    let s := s.mdSc k fun c => { c with
      fn := .enabled, level := 0, status := Sts.OK, rank := 0, ackDue := false, seq := .building te, env := none, sos := none
      stop := if c.prot.any (fun r => r.2 == 2) then .prot2 else .none, stopAt := none, byDisable := false, still := 0
      confirmAt := none }
    let s := if k < 8 then s.mdPlr k fun r => { r with tileFn := .enabled } else s
    tbEnableClamp s

/-- The axes of a scope begin a stop under R76 at a control-cycle start (03 R76, R95): each from the state of its own
generator, out of whatever mode it is in. -/
def stopAxes (k : Nat) (t0 : Time) (s : State) : State :=
  let s := if k < 8 ∧ (s.plr k).planned then leavePlanMoving k s else s
  { s with axes := vmapI s.axes fun n a =>
      if (s.scAxes k).contains n && decide (a.fn ≠ .disabled) then
        let a := match a.mode with
          | .stepped | .geared => a.adopt
          | _ => a
        { (a.replan s.ps n t0 false .stop) with mode := .ptp, home := none }
      else a }
where
  /-- Planned motion ends while the joints still move: their generators hold the planned state (03 R85). -/
  leavePlanMoving (k : Nat) (s : State) : State :=
    let s := s.mdPlr k fun r => { r with planned := false, cur := none, next := none, along := none, warm := none }
    s.mdAxes (armAxes s.ps k) fun a => { a with flags := { a.flags with planFallback := false } }

/-- Stops whose control cycle has come (01 R33, R36). -/
def beginStops (t0 : Time) (s : State) : State :=
  allScopes.foldl (fun s k =>
    match (s.sc k).stopAt with
    | some t => if t ≤ t0 then stopAxes k t0 (s.mdSc k fun c => { c with stopAt := none }) else s
    | none => s) s

/-- A disable of an ENABLED scope takes effect (01 R30, 09 R253, R256): the axes stop and the shutdown begins. A protective stop in
force goes on, and so does its monitoring (01 R35, 09 R267, R268). -/
def beginDisable (k status : Nat) (byCmd : Bool) (t0 : Time) (s : State) : State :=
  if (s.sc k).fn ≠ .enabled then s
  else
    let s := tileShut k (abortBrakeTest k (failHoming k status (endInjection k status s)))
    let s := s.mdSc k fun c => { c with
      fn := .shuttingDown, status := status, seq := .stopping, byDisable := byCmd, stopAt := some t0, still := 0 }
    s.mdAxes (s.scAxes k) fun a => { a with fn := if a.fn = .enabled then .shuttingDown else a.fn }

/-! ### Protective stops and limited speed -/

/-- A protective stop of a category takes effect (08 R234, 09 Table 09-4): category 1 ends like an F1 with STO, category 2
holds the arm. A stop that ranks as high is not replaced (01 R35). A scope that a disable already brings to rest goes on stopping,
now under the monitoring of the protective stop (08 Table 08-4, 09 R267). -/
def beginProt (k cat status : Nat) (t : Time) (ticket : Option Nat) (s : State) : State :=
  let c := s.sc k
  if c.fn = .disabled ∨ c.level ≠ 0 then s
  else
    let env : Envelope := { trig := t, v0 := if k < 8 then (s.ssmArm k).speeds else [] }
    if c.fn = .shuttingDown then
      if c.seq ≠ .stopping ∨ c.stop ≠ .none ∧ ¬(cat = 1 ∧ c.stop = .prot2) then s
      else
        (beginMeas k t ticket s).mdSc k fun c => { c with
          stop := if cat = 1 then .prot1 else .prot2, env := some env, still := 0, byDisable := c.byDisable && decide (cat ≠ 1) }
    else if cat = 1 then
      let s := tileShut k (failHoming k status (endInjection k status (beginMeas k t ticket s)))
      let s := s.mdSc k fun c => { c with
        fn := .shuttingDown, stop := .prot1, env := some env, sos := none, seq := .stopping, byDisable := false, stopAt := some t, still := 0 }
      s.mdAxes (s.scAxes k) fun a => { a with fn := if a.fn = .enabled then .shuttingDown else a.fn }
    else if c.stop ≠ .none then s
    else
      let s := failHoming k status (endInjection k status (beginMeas k t ticket s))
      s.mdSc k fun c => { c with stop := .prot2, env := some env, stopAt := some t, still := 0 }

/-- A source orders a protective stop: 0 the SSM, 1 + i safe input i. A request in force is not renewed (08 R234). -/
def protStop (k src cat : Nat) (t : Time) (ticket : Option Nat) (s : State) : State :=
  if (s.sc k).prot.any (fun r => r.1 == src) then s
  else beginProt k cat (if src = 0 then Sts.SSM_UMBRA else Sts.SI_DEMAND) t ticket (s.mdSc k fun c => { c with prot := c.prot ++ [(src, cat)], protRun := c.protRun ++ [(src, 0)] })

/-- A source releases its protective stop; without a request left a category 2 hold ends (09 R268). -/
def protRelease (k src : Nat) (s : State) : State :=
  s.mdSc k fun c =>
    let p := c.prot.filter fun r => r.1 != src
    let free := decide (c.stop = .sos ∨ c.stop = .prot2) && !p.any (fun r => r.2 == 2)
    { c with prot := p, protRun := c.protRun.filter fun r => r.1 != src
             stop := if free then .none else c.stop, env := if free then none else c.env
             sos := if p.any (fun r => r.2 == 2) then c.sos else none }

/-- Speed limit of an axis in 2^-16 rev/s: the lowest ratio of the scopes it belongs to, as joint or carrier (09 R269). -/
def slsLimit (s : State) (n : Nat) : Option Nat :=
  let ks := allScopes.filter fun k => !(s.sc k).sls.isEmpty && ((s.scAxes k).contains n || (k < 8 && carrierOf s.ps k == some n))
  (ks.flatMap fun k => (s.sc k).sls.map (·.2)).min?.map fun r => prmN s.ps Pid.V_HARD n * r / 256

/-- Bring the lanes and the SLS envelope of a scope up to date with its orders (03 R93, 09 R269): a lower limit starts a new
envelope, a higher one applies at once. -/
def slsSettle (k : Nat) (t : Time) (s : State) : State :=
  let c := s.sc k
  let env := match c.sls.map (·.2) |>.min? with
    | none => none
    | some r =>
      let fresh : Envelope × Nat := ({ trig := t, v0 := if k < 8 then (s.ssmArm k).speeds else [] }, r)
      match c.slsEnv with
      | some (e, r0) => if r < r0 then some fresh else some (e, r)
      | none => some fresh
  let s := s.mdSc k fun c => { c with slsEnv := env }
  { s with axes := vmapI s.axes fun n a =>
      if (s.scAxes k).contains n || (k < 8 && carrierOf s.ps k == some n) then { a with slim := slsLimit s n } else a }

/-- A source orders a safely limited speed by a ratio of 1/256 V_HARD, or lifts it (08 R232, 09 R269, 05 R151). -/
def slsOrder (k src : Nat) (ratio : Option Nat) (t : Time) (s : State) : State :=
  let old := (s.sc k).sls
  let new_ := (old.filter fun r => r.1 != src) ++ (match ratio with | some r => [(src, r)] | none => [])
  if old.find? (fun r => r.1 == src) = new_.find? (fun r => r.1 == src) then s
  else
    let s := if ratio.isSome then endInjection k Sts.INJ_INTERRUPTED s else s
    slsSettle k t (s.mdSc k fun c => { c with sls := new_ })

/-! ### Envelopes -/

/-- Standstill tolerance of an axis as a rate, 2^-40 rev/s (09 R267, 08 R241). -/
def vTol (ps : ParamSet) (n : Nat) : Rat := ((prmN ps Pid.V_HARD n * 2 ^ 24 : Nat) : Rat) / 1024

/-- Rate of a safe-position change over 250 µs, 2^-40 rev/s. -/
def safeRate (v : Nat) : Rat := ((v * 4000 : Nat) : Rat)

/-- Deceleration allowance of an envelope at an evaluation, 2^-40 rev/s (09 R267). -/
def envBound (ps : ParamSet) (n v0 : Nat) (trig t : Time) : Rat :=
  let dt : Int := (t : Int) - trig - (prmN ps Pid.MON_DELAY 0 * ms : Nat)
  let red : Rat := (max dt 0 : Int) * ((prmN ps Pid.SS_DECEL n * 2 ^ 28 : Nat) : Rat) / (sec : Nat)
  max 0 (safeRate v0 - red)

/-- First joint of a scope that breaks a bound, by its place among joints and carrier. -/
def breaks (axes : List Nat) (speeds : List Nat) (bound : Nat → Nat → Rat) : Option Nat :=
  (List.range axes.length).find? fun i => decide (safeRate (lget speeds i) > bound i (lget axes i))

/-- A violation of an envelope or of the safe operating stop: E83 and F2 (09 R267 to R269). -/
def envFails (k joint kind status : Nat) (s : State) : State :=
  let s := s.mdSc k fun c => { c with envFail := true }
  let s := raiseEv 83 status k 0 (jointCode s.ps k joint + kind * 16) s
  ownApply k (faultF2 k status 7 s)

/-- The stops and limits of a monitored arm judged at the evaluation of the separation cycle s0 (09 R267 to R269). -/
def judgeArm (k : Nat) (s0 : Time) (s : State) : State :=
  let ps := s.ps
  let axes := ssmAxes ps k
  let m := s.ssmArm k
  let c := s.sc k
  if c.fn = .disabled ∨ 2 ≤ c.level then s else
  let s := match c.env with
    | none => s
    | some e =>
      if s0 < e.trig then s.mdSc k fun c => { c with env := some { e with v0 := m.speeds } }
      else match breaks axes m.speeds fun i n => vTol ps n + envBound ps n (lget e.v0 i) e.trig s0 with
        | some i => envFails k i 0 Sts.STOP_NOT_PROGRESSING s
        | none => s
  let s := match (s.sc k).slsEnv with
    | none => s
    | some (e, r) =>
      if s0 < e.trig then s.mdSc k fun c => { c with slsEnv := some ({ e with v0 := m.speeds }, r) }
      else
        match breaks axes m.speeds fun i n =>
            let vl : Rat := ((prmN ps Pid.V_HARD n * r * 2 ^ 24 : Nat) : Rat) / 256
            vTol ps n + max vl (envBound ps n (lget e.v0 i) e.trig s0) with
        | some i => if (s.sc k).level ≥ 2 then s else envFails k i 1 Sts.SLS_EXCEEDED s
        | none => s
  match (s.sc k).sos with
  | none => s
  | some a =>
    match (List.range axes.length).find? fun i =>
        match m.qs.getD i none with
        | some q => decide (((posDiff ps (lget axes i) q (lget a i)).natAbs : Int) > prmI ps Pid.SOS_TOL 0)
        | none => true with
    | some i => envFails k i 2 Sts.SOS_VIOLATED s
    | none => s

/-- Brake-test slip (09 R255, R256): within [t_b + BK_ENGAGE, end of the torque steps) a safe position that leaves its band
starts the ramp-back. -/
def judgeSlip (k : Nat) (s0 : Time) (s : State) : State :=
  match (s.bk k).test with
  | none => s
  | some t =>
    let ps := s.ps
    if t.slip.isSome || t.step = 0 || t.step = 6 || decide (s0 < t.tb + prmN ps Pid.BK_ENGAGE 0 * ms) then s
    else
      let axes := armAxes ps k
      let qs := (s.ssmArm k).qs
      let slips (i : Nat) : Bool := match qs.getD i none, t.anchor.getD i none with
        | some q, some a => decide (((posDiff ps (lget axes i) q a).natAbs : Int) > prmI ps Pid.BK_SLIP 0)
        | _, _ => false
      match (List.range axes.length).find? slips with
      | none => s
      | some i => s.mdBk k fun b => { b with test := some { t with
          slip := some (lget axes i), step := 5, at_ := s.cyc.now, iFrom := t.iHold.map fun x => (x.1, (s.ax x.1).relCmd) } }

/-! ### End of torque -/

/-- STO output o goes low in an ordinary end of torque only once every axis it serves is DISABLED or ends its torque in
this current period (09 R265). -/
def stoSettle (o : Nat) (s : State) : State :=
  let done := (stoServes s.ps o).all fun c =>
    decide ((s.sc c).fn = .disabled) || (match (s.sc c).seq with | .ending t => decide (s.cyc.tk ≤ t) | _ => false)
  if done then putSto o false s else s

/-- Torque is removed from a scope at the end of its shutdown (09 R253, R265). -/
def removeTorque (k : Nat) (s : State) : State :=
  let s := setStoBits k true s
  let s := s.mdSc k fun c => { c with seq := .ending s.cyc.now, confirmAt := some (s.cyc.now + 2 * tCur) }
  match stoOf s.ps k with | some o => stoSettle o s | none => s

/-! ### Brake tests -/

/-- Axes of an arm with a brake, which a test drives (09 R255; every axis but a VIRTUAL one, notes/assumptions 47). -/
def brakedAxes (ps : ParamSet) (k : Nat) : List Nat := (armAxes ps k).filter fun n => decide (axType ps n ≠ .virtual)

/-- A brake test of arm k begins at t_b (09 R255): both switches open while the loops hold. -/
def beginBrakeTest (k : Nat) (tb : Time) (inPlace : Bool) (ticket : Nat) (s : State) : State :=
  let l := brakedAxes s.ps k
  let s := openPair k s
  s.mdBk k fun b => { b with test := some {
    tb := tb, step := 0, at_ := tb, iHold := l.map fun n => (n, (s.ax n).loop.cmd), loops := l.map fun n => (n, (s.ax n).loop)
    anchor := (s.ssmArm k).qs, inPlace := inPlace, ticket := ticket } }

/-- Largest command of a test on an axis (05 R138). -/
def testLimit (ps : ParamSet) (n : Nat) : Int :=
  match axType ps n with
  | .servo => iqLimOf (prmI ps Pid.I_MAX n) (prmI ps Pid.ID_REF n)
  | _ => prmI ps Pid.T_LIM n

/-- Test current of an axis, clamped (09 R255): its hold current plus or less BK_TEST_I. -/
def testCurrent (ps : ParamSet) (n : Nat) (h : Int) (up : Bool) : Int × Bool :=
  let x := if up then h + prmI ps Pid.BK_TEST_I n else h - prmI ps Pid.BK_TEST_I n
  let y := clampI (-(testLimit ps n)) (testLimit ps n) x
  (y, x != y)

/-- Duration of a step of a brake test (09 Table 09-3). -/
def testDur (ps : ParamSet) : Nat → Time
  | 0 => prmN ps Pid.BK_ENGAGE 0 * ms
  | 1 => 10 * ms
  | 2 => prmN ps Pid.BK_TEST_T 0 * ms
  | 3 => 20 * ms
  | 4 => prmN ps Pid.BK_TEST_T 0 * ms
  | 5 => 10 * ms
  | _ => prmN ps Pid.BK_RELEASE 0 * ms

/-- A value on a straight line over a step. -/
def ramp (a b : Int) (t0 dur t : Time) : Int :=
  if dur = 0 ∨ t0 + dur ≤ t then b else a + fdiv ((b - a) * ((t - t0 : Nat) : Int)) (dur : Nat)

/-- Command that overrides an axis during the torque steps of its arm's test (09 Table 09-3), at an instant. -/
def testOverride (s : State) (n : Nat) (t : Time) : Option Int :=
  match axArm s.ps n with
  | none => none
  | some k =>
    match (s.bk k).test with
    | none => none
    | some x =>
      match x.iHold.find? (fun e => e.1 == n) with
      | none => none
      | some (_, h) =>
        let hi := (testCurrent s.ps n h true).1
        let lo := (testCurrent s.ps n h false).1
        let d := testDur s.ps x.step
        match x.step with
        | 1 => some (ramp h hi x.at_ d t)
        | 2 => some hi
        | 3 => some (ramp hi lo x.at_ d t)
        | 4 => some lo
        | 5 => some (ramp (match x.iFrom.find? (fun e => e.1 == n) with | some e => e.2 | none => lo) h x.at_ d t)
        | _ => none

/-- The loops resume from their state at t_b (09 Table 09-3). -/
def resumeLoops (t : BrakeTest) (s : State) : State :=
  t.loops.foldl (fun s e => s.mdAx e.1 fun a => { a with loop := { e.2 with
    pfbPrev := none, overrun := a.loop.overrun, overRun := a.loop.overRun } }) s

/-- A test ends PASS or FAIL (09 R256, R259): E82, its ticket, the timer and the latches. -/
def endBrakeTest (k : Nat) (pass : Bool) (s : State) : State :=
  match (s.bk k).test with
  | none => s
  | some t =>
    let s := s.mdBk k fun b =>
      if pass then { b with
        test := none, lastTest := 1, clamped := t.clamped, switchBad := false, failed := false, due := false, overdue := false
        timer := 0, saved := 0, countedAt := s.cyc.now }
      else { b with test := none, lastTest := 2, clamped := t.clamped, failed := true }
    let s := raiseEv 82 (if pass then Sts.OK else Sts.BRAKE_FAILED) k 0
      (if pass then 1 + 0xFF * 2 ^ 8 else 2 + (t.slip.getD 0xFF) * 2 ^ 8) (secTouch s)
    if t.inPlace then finishTicket t.ticket (if pass then Sts.OK else Sts.BRAKE_FAILED) s else s

/-- BRAKE_TEST_STEP_END (09 R255, R256, Table 09-3): the step in progress is over and the next begins, or the test ends. -/
def execBrakeTestStepEnd (arm : Nat) (s : State) : Out :=
  onUnit "arm" arm 8 <| .next <|
    match (s.bk arm).test with
    | none => s
    | some t =>
      if t.step = 0 && !t.inPlace then s
      else
        let now := t.at_ + testDur s.ps t.step
        let s := s.upTo now
        let go (n : Nat) (t : BrakeTest) (s : State) : State :=
          let hit := t.iHold.any fun e => (testCurrent s.ps e.1 e.2 (decide (n ≤ 2))).2
          s.mdBk arm fun b => { b with test := some { t with step := n, at_ := now, clamped := t.clamped || (hit && decide (n = 1 ∨ n = 3)) } }
        match t.step with
        | 5 =>
          let s := resumeLoops t s
          if t.aborted && !t.inPlace then removeTorque arm (s.mdBk arm fun b => { b with test := none })
          else if t.slip.isSome then
            let s := endBrakeTest arm false s
            if t.inPlace then s else removeTorque arm s
          else if t.inPlace then go 6 t (closePair arm s)
          else removeTorque arm (endBrakeTest arm true s)
        | 6 => if t.aborted then s.mdBk arm fun b => { b with test := none } else endBrakeTest arm true s
        | n => go (n + 1) t s

/-! ### Rows of the enable and shutdown sequences -/

/-- TORQUE_BUILD_END (09 R252, Table 09-2): both switches close. -/
def execTorqueBuildEnd (scope : Nat) (s : State) : Out :=
  onUnit "scope" scope 72 <| .next <|
    match (s.sc scope).seq with
    | .building te =>
      let s := s.upTo (te + prmN s.ps Pid.TORQUE_BUILD 0 * ms)
      let s := match brakeOf s.ps scope with | some k => closePair k s | none => s
      s.mdSc scope fun c => { c with seq := .releasing te s.cyc.now }
    | _ => s

/-- BK_RELEASE_END (09 R252, Table 09-2): motion is accepted from here. -/
def execBkReleaseEnd (scope : Nat) (s : State) : Out :=
  onUnit "scope" scope 72 <| .next <|
    match (s.sc scope).seq with
    | .releasing _ c =>
      let s := s.upTo (c + prmN s.ps Pid.BK_RELEASE 0 * ms)
      s.mdSc scope fun c => { c with seq := .running }
    | _ => s

/-- A stop that ends in STO has reached standstill (09 R253): both switches open while the loops hold; the engagement test
of a disable begins with the opening (R257). -/
def engage (k : Nat) (s : State) : State :=
  let c := s.sc k
  let test := c.byDisable && prmN s.ps Pid.ENGAGE_TEST 0 == 1 && decide (k < 8)
  let s := match brakeOf s.ps k with
    | some b => if test then beginBrakeTest b s.cyc.now false 0 s else openPair b s
    | none => s
  s.mdSc k fun c => { c with seq := .engaging s.cyc.now, env := none }

/-- Standstill of a scope acts on its stop (09 R253, R268). -/
def standstillOf (k : Nat) (s : State) : State :=
  let c := s.sc k
  match c.seq with
  | .stopping => engage k s
  | _ =>
    if c.stop = .prot2 then
      s.mdSc k fun c => { c with
        stop := .sos, env := none, sos := if k < 8 ∧ monitored s.ps k then some ((s.ssmArm k).stillQ.map fun q => q.getD 0) else none }
    else s

/-- The scope is at standstill: 40 consecutive evaluations of its safe positions, or of its lanes where the SSM does not
monitor it (08 R241, 09 R267). -/
def atRest (s : State) (k : Nat) : Bool :=
  if monitored s.ps k then decide (40 ≤ (s.ssmArm k).stillRun) else decide (40 ≤ (s.sc k).still)

/-- A measured stop has come to rest (08 R241): T and S, STOP_EXCEEDED with E76, or the E79 of a stop test. -/
def endMeas (k : Nat) (s : State) : State :=
  let m := s.ssmArm k
  match m.meas with
  | none => s
  | some x =>
    let tUs := cdivN (m.stillAt - x.trig) us
    let sUm := cdivN (x.sAt * 1000000) (2 ^ 24)
    let dLo := min sUm (2 ^ 32 - 1)
    let dHi := x.cls + min tUs (2 ^ 28 - 1) * 16
    let e := stopEntry s.ps k x.cls
    let s := s.mdSsmArm k fun a => { a with meas := none, lastStop := (tUs, sUm, x.cls, x.trig / ns) }
    let s := match x.ticket with | some t => finishTicket t Sts.OK (raiseEv 79 Sts.OK k dHi dLo s) | none => s
    if x.real && (decide (tUs > e.1) || decide (sUm > e.2)) then
      raiseEv 76 Sts.STOP_TABLE_INVALID k dHi dLo
        { (s.mdSsmArm k fun a => { a with tableBad := true }) with ssm := { (s.mdSsmArm k fun a => { a with tableBad := true }).ssm with stopExc := true } }
    else s

/-- STANDSTILL (08 R241, 09 R253, R267, R268): the measurement ends, and the stop goes on to its brakes or to the safe
operating stop. -/
def execStandstill (arm : Nat) (s : State) : Out :=
  onUnit "arm" arm 8 <| .next <|
    if !atRest s arm then s
    else
      let s := if monitored s.ps arm then endMeas arm s else s
      standstillOf arm s

/-- BK_ENGAGE_END (09 R253, R257): the engagement test goes on to its torque steps, or torque is removed. -/
def execBkEngageEnd (scope : Nat) (s : State) : Out :=
  onUnit "scope" scope 72 <| .next <|
    match (s.sc scope).seq with
    | .engaging t =>
      let s := s.upTo (t + prmN s.ps Pid.BK_ENGAGE 0 * ms)
      let test := if scope < 8 then (s.bk scope).test else none
      match test with
      | some x =>
        let hit := x.iHold.any fun e => (testCurrent s.ps e.1 e.2 true).2
        (s.mdSc scope fun c => { c with seq := .testing }).mdBk scope fun b => { b with
          test := some { x with step := 1, at_ := s.cyc.now, clamped := x.clamped || hit } }
      | none => removeTorque scope s
    | _ => s

/-! ### Brake readbacks and timers -/

/-- BK_SETTLE_CHECK (09 R249): the readbacks are taken; a difference is timed from the change itself at the first check, and
from its own beginning afterwards. -/
def execBkSettleCheck (pair : Nat) (fbh fbl : Bool) (s : State) : Out :=
  onUnit "brake pair" pair 8 <| .next <|
    let b := s.bk pair
    let s := if b.checkDue then s.upTo (b.changedAt + prmN s.ps Pid.BK_SETTLE 0 * ms) else s
    let bad := fbh != b.hs || fbl != b.ls
    s.mdBk pair fun b => { b with
      fbh := fbh, fbl := fbl, checkDue := false
      diffAt := if !bad then none else if b.checkDue then some b.changedAt else some (b.diffAt.getD s.cyc.now) }

/-- BRAKE_SWITCH (09 R249, Table 09-1): a readback that differs at BK_SETTLE after a change, or for BK_SETTLE later on, is a
switch fault. A switch that did not open only latches; one that did not close aborts the enable; one that changed unbidden
takes the scopes of the pair to F2. -/
def execBrakeSwitch (pair : Nat) (s : State) : Out :=
  onUnit "brake pair" pair 8 <| .next <|
    let b := s.bk pair
    match b.diffAt with
    | none => s
    | some t =>
      if b.switchBad then s
      else
        let s := s.upTo (t + prmN s.ps Pid.BK_SETTLE 0 * ms)
        let s := raiseEv 82 Sts.BRAKE_SWITCH pair 0 (0xFF * 2 ^ 8) (s.mdBk pair fun b => { b with switchBad := true })
        let ks := brakeServes s.ps pair
        if t ≠ b.changedAt then faultF2s ks Sts.BRAKE_SWITCH 7 s
        else if b.hs then
          ks.foldl (fun s k => beginDisable k Sts.BRAKE_SWITCH false (nextAt tCtl s.cyc.now) s) (openPair pair s)
        else s

/-- BRAKE_TEST_DUE (09 R258): the timer has reached BK_INTERVAL. -/
def execBrakeTestDue (arm : Nat) (s : State) : Out :=
  onUnit "arm" arm 8 <| .next <|
    let b := (s.bk arm).count s.cyc.now
    let s := s.mdBk arm fun _ => b
    if b.due || decide (b.timer < prmN s.ps Pid.BK_INTERVAL 0 * sec) then s
    else raiseEv 82 Sts.BRAKE_TEST_DUE arm 0 (4 + 0xFF * 2 ^ 8) (s.mdBk arm fun b => { b with due := true })

/-- BRAKE_TEST_OVERDUE (09 R258): BK_INTERVAL + BK_GRACE with the brakes released faults the arm F1. -/
def execBrakeTestOverdue (arm : Nat) (s : State) : Out :=
  onUnit "arm" arm 8 <| .next <|
    let b := (s.bk arm).count s.cyc.now
    let s := s.mdBk arm fun _ => b
    if b.overdue || !(b.hs && b.ls)
        || decide (b.timer < (prmN s.ps Pid.BK_INTERVAL 0 + prmN s.ps Pid.BK_GRACE 0) * sec) then s
    else faultF1 arm Sts.BRAKE_TEST_OVERDUE 7 (s.mdBk arm fun b => { b with overdue := true })

/-- BRAKE_TIMER_SAVE (09 R258): every 60 s the timers go to the secure region, rounded up to whole seconds. -/
def execBrakeTimerSave (s : State) : Out :=
  .next <| secTouch { s with ssv := { s.ssv with brakes := vmapI s.ssv.brakes fun _ b =>
    let b := b.count s.cyc.now
    { b with saved := cdivN b.timer sec } } }

/-! ### STO confirmation -/

/-- The stage of an axis reports STO active in its last frame; an axis without a slot has nothing to confirm. -/
def stoConfirmed (s : State) (n : Nat) : Bool :=
  match axSlot s.ps n with
  | none => true
  | some (p, sl) =>
    let x := s.port p
    x.state.counts && !x.lastRx.isEmpty && (inSlotStat x.lastRx sl).testBit 0

/-- STO_CONFIRM_CHECK (09 R266): two current periods after STO the stages of STO output `arm` must report it; one that does
not has its brakes applied and STO_NO_CONFIRM latched; the flag clears when it confirms. -/
def execStoConfirmCheck (arm : Nat) (s : State) : Out :=
  onUnit "STO output" arm 8 <| .next <|
    let ks := stoServes s.ps arm
    let due := ks.filter fun k => (s.sc k).confirmAt.isSome
    let s := due.foldl (fun s k => match (s.sc k).confirmAt with | some t => s.upTo t | none => s) s
    let bad := ks.filter fun k => decide ((s.sc k).fn ≠ .enabled) && (s.scAxes k).any fun n => (s.ax n).sto && !stoConfirmed s n
    let port := ((bad.flatMap fun k => s.scAxes k).find? fun n => !stoConfirmed s n).bind fun n => (axSlot s.ps n).map (·.1)
    let s := due.foldl (fun s k => s.mdSc k fun c => { c with confirmAt := none }) s
    let late := bad.filter fun k => due.contains k
    let s := late.foldl (fun s k => match brakeOf s.ps k with | some b => openPair b s | none => s) s
    if !late.isEmpty && !(s.bk arm).noConfirm then
      raiseEv 84 Sts.STO_NO_CONFIRM arm 0 (1 + port.getD 0 * 2 ^ 8)
        (s.mdBk arm fun b => { b with noConfirm := true, noConfPort := port.getD 0 })
    else if bad.isEmpty && (s.bk arm).noConfirm then
      raiseEv 84 Sts.OK arm 0 ((s.bk arm).noConfPort * 2 ^ 8) (s.mdBk arm fun b => { b with noConfirm := false })
    else s

/-! ### Safe inputs -/

/-- Safe input i. -/
def State.sin (s : State) (i : Nat) : SafeIn := vrd s.ssv.si i
/-- Change safe input i. -/
def State.mdSin (s : State) (i : Nat) (f : SafeIn → SafeIn) : State := { s with ssv := { s.ssv with si := vmd s.ssv.si i f } }

/-- Inputs 2p and 2p + 1 are a DUAL pair (09 R262). -/
def dualPair (ps : ParamSet) (p : Nat) : Bool := prmN ps Pid.SI_MODE (2 * p) == 1 && prmN ps Pid.SI_MODE (2 * p + 1) == 1

/-- Input i counts as in demand: by itself, by its fault, or by its pair (09 R261 to R263). -/
def siActive (s : State) (i : Nat) : Bool :=
  let own (j : Nat) : Bool := (s.sin j).demand || (s.sin j).fault
  if dualPair s.ps (i / 2) then own (i / 2 * 2) || own (i / 2 * 2 + 1) || (vrd s.ssv.pairs (i / 2)).disc else own i

/-- What a control-cycle start knows of a flag: one changed at a stamp that is assigned to the cycle then starting has its old value
(09 R264, 01 R24; the stamps are COARSE). -/
def asOf (t0 : Time) (v : Bool) (at_ : Option Time) : Bool :=
  match at_ with | some t => if atOrAfter t ns t0 then !v else v | none => v

/-- Input i counts as in demand in the evaluation at a control-cycle start (09 R264). -/
def siActiveAt (t0 : Time) (s : State) (i : Nat) : Bool :=
  let own (j : Nat) : Bool := asOf t0 (s.sin j).demand (s.sin j).demandAt || asOf t0 (s.sin j).fault (s.sin j).faultAt
  let x := vrd s.ssv.pairs (i / 2)
  if dualPair s.ps (i / 2) then own (i / 2 * 2) || own (i / 2 * 2 + 1) || asOf t0 x.disc x.discAt else own i

/-- E81 of an input (09 Table 09-12). -/
def raiseSi (i status : Nat) (s : State) : State :=
  raiseEv 81 status i 0 (bit (siActive s i) + bit (s.sin i).fault * 2 + bit (vrd s.ssv.pairs (i / 2)).disc * 4) s

/-- The pair of an input after one of them entered or left demand (09 R262): the disagreement is timed, and a latched
DISCREPANCY ends once both have been in demand together and then both released. -/
def pairSettle (p : Nat) (s : State) : State :=
  if !dualPair s.ps p then s
  else
    let a := (s.sin (2 * p)).demand
    let b := (s.sin (2 * p + 1)).demand
    let x := vrd s.ssv.pairs p
    let both := x.both || (x.disc && a && b)
    let clear := x.disc && both && !a && !b
    let s := { s with ssv := { s.ssv with pairs := vwr s.ssv.pairs p {
      disc := x.disc && !clear, both := both && !clear, discAt := if clear then some s.cyc.now else x.discAt
      diffAt := if a = b then none else some (x.diffAt.getD s.cyc.now) } } }
    if clear then raiseSi (2 * p) Sts.OK s else s

/-- The demand of an input changes (09 R261): E81 and its pair. -/
def setDemand (i : Nat) (on : Bool) (s : State) : State :=
  if (s.sin i).demand = on then s
  else raiseSi i (if on then Sts.SI_DEMAND else Sts.OK) (pairSettle (i / 2) (s.mdSin i fun x => { x with demand := on, demandAt := some s.cyc.now }))

/-- Windows of the last pulse of an input's TP output: low window and high window (09 R260). -/
def siWindows (s : State) (i : Nat) : (Time × Time) × (Time × Time) :=
  let p := vrd s.ssv.tpAt (prmN s.ps Pid.SI_TP i)
  let d := prmN s.ps Pid.TP_DELAY 0 * us
  let w := prmN s.ps Pid.TP_WIDTH 0 * us
  ((p + d, p + w), (p + w + d, p + prmN s.ps Pid.TP_PERIOD 0 * ms))

/-- A level held from one stamp to another lies in part in a window (01 R24; the stamps are COARSE). -/
def heldIn (a b : Time) (w : Time × Time) : Bool := decide (max (a + ns) w.1 < min (b + ns) w.2)

/-- The level an input has held up to an instant, judged against its windows (09 R260): high in the low window, low in the
high window. An input low for SI_FILTER is in demand and exempt. -/
def siHeld (i : Nat) (t : Time) (s : State) : State :=
  let x := s.sin i
  let w := siWindows s i
  if x.level then s.mdSin i fun x => { x with lowOk := x.lowOk && !heldIn x.edgeAt t w.1 }
  else if decide (t < x.edgeAt + prmN s.ps Pid.SI_FILTER 0 * us) then s.mdSin i fun x => { x with highOk := x.highOk && !heldIn x.edgeAt t w.2 }
  else s

/-- The windows of a pulse are over for an input (09 R260, R263): a missing low is an input fault. -/
def siJudge (i : Nat) (t : Time) (s : State) : State :=
  let s := siHeld i t s
  let x := s.sin i
  let pass := x.lowOk && x.highOk
  let s := s.mdSin i fun x => { x with passAt := if pass then x.passAt else t, lowOk := true, highOk := true }
  if !x.lowOk && !x.fault then raiseSi i Sts.SI_FAULT (s.mdSin i fun x => { x with fault := true, faultAt := some t }) else s

/-- TEST_PULSE (09 R260): the next edge of TPk. Low begins at the next t_p, where the windows of the pulse before are
judged; high returns TP_WIDTH later. -/
def execTestPulse (k : Nat) (s : State) : Out :=
  onUnit "TP output" k 8 <| .next <|
    if !s.cyc.running then s
    else if vrd s.ssv.tp k then
      let per := prmN s.ps Pid.TP_PERIOD 0 * ms
      let off := k * per / 8
      let last := vrd s.ssv.tpAt k
      let t := if last < off then off else nextAfter per (last - off) + off
      let s := s.upTo t
      let s := (List.range 16).foldl (fun s i =>
        if prmN s.ps Pid.SI_MODE i ≠ 2 && prmN s.ps Pid.SI_TP i == k then siJudge i t s else s) s
      { s with ssv := { s.ssv with tp := vwr s.ssv.tp k false, tpAt := vwr s.ssv.tpAt k t } }
    else
      let s := s.upTo (vrd s.ssv.tpAt k + prmN s.ps Pid.TP_WIDTH 0 * us)
      { s with ssv := { s.ssv with tp := vwr s.ssv.tp k true } }

/-- SAFE_INPUT_EDGE (09 R260, R261): an edge with its COARSE stamp; the level it ends is judged, and a rising edge ends a
demand. -/
def execSafeInputEdge (i t : Nat) (level : Bool) (s : State) : Out :=
  onUnit "safe input" i 16 <| .next <|
    let s := s.upTo t
    if (s.sin i).level = level then s
    else
      let s := if prmN s.ps Pid.SI_MODE i = 2 then s else siHeld i (coarse t) s
      let w := siWindows s i
      let edges := if prmN s.ps Pid.SI_MODE i = 2 then [] else [w.1.1, w.1.2, w.2.1, w.2.2]
      let s := s.mdSin i fun x => { x with level := level, edgeAt := coarse t, edgeBound := edges.any fun c => boundaryAt (coarse t) ns c }
      if level then setDemand i false s else s

/-- SI_DEMAND (09 R261): an input low continuously for SI_FILTER is in demand. -/
def execSiDemand (i : Nat) (s : State) : Out :=
  onUnit "safe input" i 16 <| .next <|
    let x := s.sin i
    if x.level || x.demand then s
    else setDemand i true (s.upTo (x.edgeAt + prmN s.ps Pid.SI_FILTER 0 * us))

/-- DISCREPANCY (09 R262): the inputs of a DUAL pair have disagreed for SI_DISC. -/
def execDiscrepancy (pair : Nat) (s : State) : Out :=
  onUnit "input pair" pair 8 <| .next <|
    let x := vrd s.ssv.pairs pair
    match x.diffAt with
    | none => s
    | some t =>
      if x.disc || !dualPair s.ps pair then s
      else
        let s := s.upTo (t + prmN s.ps Pid.SI_DISC 0 * ms)
        raiseSi (2 * pair) Sts.DISCREPANCY
          { s with ssv := { s.ssv with pairs := vwr s.ssv.pairs pair { x with disc := true, both := false, discAt := some s.cyc.now } } }

/-- SI_FAULT_CLEAR (09 R263): every test window has passed for 1 s. -/
def execSiFaultClear (i : Nat) (s : State) : Out :=
  onUnit "safe input" i 16 <| .next <|
    let x := s.sin i
    if !x.fault || decide (s.cyc.now < x.passAt + sec) then s
    else raiseSi i Sts.OK (s.mdSin i fun x => { x with fault := false, faultAt := some s.cyc.now })

/-- An input of the ENABLE function is held: some such input is not in demand (09 Table 09-6). -/
def enableHeld (s : State) : Bool := (List.range 16).any fun i => prmN s.ps Pid.SI_FUNC i == 3 && !siActive s i

/-- Arms an input concerns. -/
def siArms (ps : ParamSet) (i : Nat) : List Nat := (List.range 8).filter fun k => (prmN ps Pid.SI_ARMS i).testBit k

/-- One input's function at a control-cycle start (09 R264, Table 09-4), with the release of a protective stop under R233
read for the input. -/
def siReact (i : Nat) (t0 : Time) (s : State) : State :=
  let on := siActiveAt t0 s i
  let f := prmN s.ps Pid.SI_FUNC i
  (siArms s.ps i).foldl (fun s k =>
    match f with
    | 0 =>
      if !on then s
      else if prmN s.ps Pid.ESTOP_CAT 0 = 0 then
        let s := ownApply k s
        if (s.sc k).level ≥ 2 then s else (faultF2 k Sts.ESTOP 7 s).mdSc k fun c => { c with stop := if c.fn = .disabled then c.stop else .estop0 }
      else if (s.sc k).level ≥ 1 then s
      else (faultF1 k Sts.ESTOP 7 s).mdSc k fun c => { c with
        stop := if c.fn = .disabled then c.stop else .estop1, stopAt := if c.stopAt.isSome then some t0 else none }
    | 1 => hold k (prmN s.ps Pid.GUARD_CAT 0) on s
    | 2 => slsOrder k (1 + i) (if on then some (prmN s.ps Pid.SI_SLS_RATIO 0) else none) t0 s
    | 3 => hold k 2 (on && decide (s.ssv.mode = .service)) s
    | _ => s) s
where
  /-- A protective stop that stands while the input is in demand, and its release: DISABLED for category 1; for category 2
  standstill, and the demand gone for RESUME_HOLD. -/
  hold (k cat : Nat) (on : Bool) (s : State) : State :=
    let c := s.sc k
    match c.prot.find? (fun r => r.1 == 1 + i) with
    | none => if on then protStop k (1 + i) cat t0 none s else s
    | some (_, cat') =>
      let run := if on then 0 else (match c.protRun.find? (fun r => r.1 == 1 + i) with | some r => r.2 + 1 | none => 1)
      let s := s.mdSc k fun c => { c with protRun := c.protRun.map fun r => if r.1 == 1 + i then (r.1, run) else r }
      if on then s
      else if cat' = 1 then if c.fn = .disabled then protRelease k (1 + i) s else s
      else if (atRest s k || decide (c.fn = .disabled)) && decide (16 * prmN s.ps Pid.RESUME_HOLD k ≤ run)
        && prmN s.ps Pid.RESTART k == 0 then protRelease k (1 + i) s
      else s

/-- The SSV evaluates its inputs at every control-cycle start (09 R264). -/
def siEvaluate (t0 : Time) (s : State) : State := (List.range 16).foldl (fun s i => siReact i t0 s) s

/-! ### Cyclic checks -/

/-- SAFETY_WATCHDOG (09 R246): no current-period event for 31.25 µs; every STO output and brake switch, FAULT_N, and F3
inside the safety channel. -/
def execSafetyWatchdog (s : State) : Out :=
  .next <|
    let s := s.upTo (s.ssv.wdAt + 2 * tCur)
    let s := raiseEv 87 Sts.SAFETY_WATCHDOG 0xFF 0 0 s
    let s := (List.range 8).foldl (fun s k => openPair k (putSto k false s)) s
    faultF3 true Sts.SAFETY_WATCHDOG (faultF2s allScopes Sts.SAFETY_WATCHDOG 7 s)

/-- CHECK_VALUE_RECOMPUTE (09 Table 09-1, R277): a copy of the safety set that no longer gives its check value faults all
arms F2, and the set is not confirmed. -/
def execCheckValueRecompute (ok : Bool) (s : State) : Out :=
  .next <|
    if ok then s
    else
      let s := faultF2s allScopes Sts.SET_ALTERED 7 { s with ssv := { s.ssv with copyOk := false } }
      if s.ssv.mode = .commissioned then setMode .uncommissioned s else s

/-- LOCKOUT_END (09 R275): the lockout of an engineer is over and its count starts again. -/
def execLockoutEnd (id : Nat) (s : State) : Out :=
  .next <|
    match s.ssv.eng.find? (fun e => e.id == id) with
    | none => s
    | some e =>
      match e.lockedTo with
      | none => s
      | some t =>
        let s := s.upTo t
        secTouch { s with ssv := { s.ssv with eng := s.ssv.eng.map fun x =>
          if x.id == id then { x with lockedTo := none, fails := 0 } else x } }

/-- SERVICE ends: the mode follows the set in force, and an F1 of every scope that still moves where time ran out (09
Table 09-6). -/
def leaveServiceMode (s : State) : State :=
  raiseEv 86 Sts.OK 0xFF 0 3 (setMode (if s.confirmed then .commissioned else .uncommissioned) s)

/-- SERVICE_EXPIRED (09 R277): at SERVICE_T all arms are faulted F1. -/
def execServiceExpired (s : State) : Out :=
  .next <|
    if s.ssv.mode ≠ .service then s
    else
      let s := s.upTo s.ssv.serviceTo
      leaveServiceMode (allScopes.foldl (fun s k => faultF1 k Sts.SERVICE_EXPIRED 7 s) s)

end Sys2Proof.Machine
end

