-- ==== Sys2Proof/Machine/Ssm.lean ====
section
/-!
DEFINITION. The separation monitor (chapter 08): separation-cycle starts with the hand-over of sensor lists (R221, R222),
the evaluation of the monitored arms (R223 to R233), its publication with the coded comparison (R237, R238), the list for
the planner (R236) and the measurement of stops (R241).
-/
namespace Sys2Proof.Machine

/-! ### Sensor lists -/

/-- A sensor is configured (08 R220). -/
def sensorOn (ps : ParamSet) (k : Nat) : Bool := prmN ps Pid.OBJ_QUOTA k != 0

/-- FIELD object of a sensor (08 R221): a capsule in µm (13 R384), held in L. -/
def fieldObj (ps : ParamSet) (k : Nat) : ObjSt :=
  let b := prmR ps Pid.FIELD k
  { pos := point3 b 4 ++ point3 b 16, radius := uAt b 28 2 * 1000, id := 0, inL := true }

/-- List in force of a sensor: its FIELD object until the first accepted frame and after a SENS_FAULT (08 R221). -/
def listOf (ps : ParamSet) (k : Nat) (x : SensorSt) : List ObjSt :=
  match x.list with
  | none => [fieldObj ps k]
  | some f => if f.fault then [fieldObj ps k] else f.objs

/-- Age of a sensor's list at a separation-cycle start, in ns (08 R222). -/
def listAge (x : SensorSt) (s0 : Time) : Nat :=
  match x.list with | none => 0 | some f => s0 / ns - f.tm

/-- An age in ns reaches a limit: it is assigned to the window that holds it plus one unit (01 R24, R25, 08 R222). -/
def ageReaches (age limit : Nat) : Bool := atOrAfter age 1 limit

/-- A sensor's list is stale at the present separation cycle (08 R222). -/
def SensorSt.isStale (ps : ParamSet) (x : SensorSt) : Bool := ageReaches x.age (prmN ps Pid.AGE_LIMIT 0 * 1000)

/-- Hand over the frames received before a separation-cycle start (01 R19, R24): the latest replaces the list. -/
def SensorSt.handOver (x : SensorSt) (s0 : Time) : SensorSt :=
  let late (f : SensFrame) : Bool := atOrAfter f.rx.at_ (stampUnit f.rx.coarse) s0
  let due := x.wait.filter fun f => !late f
  let x := { x with wait := x.wait.filter late, list := match due.getLast? with | some f => some f | none => x.list }
  { x with age := listAge x s0 }

/-- SEPARATION_CYCLE_EVENT (01 R10, R17, R19, 08 R221, R222): lists handed over, ages fixed; a list that is fresh again
raises E73. -/
def execSeparationCycleEvent (s : State) : Out :=
  .next <|
    if !s.cyc.running then s
    else
      let s0 := s.cyc.nextS0
      let s := s.upTo s0
      let s := { s with
        cyc := { s.cyc with s0 := s0, nextS0 := s0 + tSep }
        ssm := { s.ssm with published := false, sensors := vmapI s.ssm.sensors fun _ x => x.handOver s0 } }
      (List.range 16).foldl (fun s k =>
        let x := vrd s.ssm.sensors k
        if x.stale && (!x.isStale s.ps || !sensorOn s.ps k) then
          let s := { s with ssm := { s.ssm with sensors := vmd s.ssm.sensors k fun x => { x with stale := false } } }
          raiseEv 73 Sts.OK k (min (x.age / 1000) (2 ^ 32 - 1)) 0 s
        else s) s

/-- LIST_STALE (08 R222): the age of a configured sensor's list has reached AGE_LIMIT at this separation cycle. -/
def execListStale (sensor : Nat) (s : State) : Out :=
  onUnit "sensor" sensor 16 <| .next <|
    let x := vrd s.ssm.sensors sensor
    if x.stale || !sensorOn s.ps sensor || !x.isStale s.ps then s
    else
      raiseEv 73 Sts.OK sensor (min (x.age / 1000) (2 ^ 32 - 1)) 1
        { s with ssm := { s.ssm with sensors := vmd s.ssm.sensors sensor fun x => { x with stale := true } } }

/-- SSM_XCHK (08 R219): a cross-check difference in two consecutive separation cycles faults the arm F2. -/
def execSsmXchk (arm : Nat) (s : State) : Out :=
  onUnit "arm" arm 8 <| .next <|
    let m := s.ssmArm arm
    match (List.range m.xchk.length).find? fun i => decide (lget m.xchk i = 2) with
    | none => s
    | some i =>
      let s := { s with ssm := { s.ssm with xchkFail := true } }
      faultF2 arm Sts.SSM_XCHK 7 (raiseEv 78 Sts.SSM_XCHK arm 0 (jointCode s.ps arm i + 2 ^ 8) s)

/-! ### Evaluation -/

/-- An object slot as an evaluation takes it: slot number, sensor, endpoints in L, r_eff in µm, inflated. -/
structure Target where
  slot : Nat := 0
  sensor : Nat := 0
  p0 : V3 := []
  p1 : V3 := []
  rEff : Nat := 0
  stale : Bool := false
  deriving DecidableEq, Repr, Inhabited

/-- Coordinates of an object in L (08 R224). -/
def ObjSt.ends (o : ObjSt) : V3 × V3 :=
  let l := if o.inL then o.pos else o.pos.map (· * 16)
  (l.take 3, l.drop 3)

/-- Slots of a configured sensor's objects, from its first slot on (08 R220, R222). -/
def sensorTargets (ps : ParamSet) (k first : Nat) (x : SensorSt) : List Target :=
  let inflated := x.isStale ps
  (listOf ps k x).mapIdx fun i o =>
    { slot := first + i, sensor := k, p0 := o.ends.1, p1 := o.ends.2, stale := inflated
      rEff := o.radius + if inflated then cdivN (prmN ps Pid.V_HUMAN 0 * x.age) 1000000 else 0 }

/-- Every tracked object with its slot, in slot order (08 R220). -/
def targets (s : State) : List Target :=
  ((List.range 16).foldl (fun (r : Nat × List Target) k =>
    if sensorOn s.ps k then
      (r.1 + prmN s.ps Pid.OBJ_QUOTA k, r.2 ++ sensorTargets s.ps k r.1 (vrd s.ssm.sensors k))
    else r) (0, [])).2

/-- One capsule–object pair as evaluated: d in µm, S_p in µm, slot, capsule, inflated, surface distance in L. -/
structure Pair where
  d : Int := 0
  sp : Nat := 0
  slot : Nat := 0
  cap : Nat := 0
  stale : Bool := false
  deriving DecidableEq, Repr, Inhabited

/-- Speed class κ from the safe-position changes of an arm (08 R227). -/
def speedClass (ps : ParamSet) (axes : List Nat) (speeds : List Nat) : Nat :=
  let l := (List.range axes.length).map fun i =>
    -- ⌈8 |Δq| / (V_HARD × 250 µs)⌉ with V_HARD in 2^-16 rev/s and Δq in 2^-40 rev
    cdivN (8 * lget speeds i * 4000) (max 1 (prmN ps Pid.V_HARD (lget axes i) * 2 ^ 24))
  min 8 (max 1 (l.foldl max 0))

/-- What an evaluation of an arm comes to. -/
structure Eval where
  cls : Nat := 8
  speeds : List Nat := []
  ends : List (List Int) := []
  pairs : List Pair := []
  held : Bool := false
  deriving DecidableEq, Repr, Inhabited

/-- Speeds |Δq_s| of an arm over the last separation cycle, none without two positions of every joint. -/
def armSpeeds (ps : ParamSet) (axes : List Nat) (m : SsmArm) : Option (List Nat) :=
  ((List.range axes.length).map fun i =>
    match m.qs.getD i none, m.qsPrev.getD i none with
    | some a, some b => some (posDiff ps (lget axes i) a b).natAbs
    | _, _ => none).foldr (fun x r => match x, r with | some v, some l => some (v :: l) | _, _ => none) (some [])

/-- Endpoints of the capsules of an arm at the safe positions given, two per capsule (08 R223). -/
def endsAt (ps : ParamSet) (k : Nat) (qs : List (Option Int)) : List (V3 × V3) :=
  let fs := armFrames ps k (qs.map fun q => q.getD 0)
  (capsOf ps k).map fun c => capEnds ps k c fs

/-- Evaluate a monitored arm that has a position for every joint (08 R223 to R230). At its first evaluation, and at the first after
a joint was held, every v_r is V_CAP_MAX (R228). -/
def evalArm (s : State) (k : Nat) (objs : List Target) : Eval :=
  let ps := s.ps
  let axes := ssmAxes ps k
  let m := s.ssmArm k
  let held := m.held.foldl max 0
  let sp := armSpeeds ps axes m
  let free := m.endsPrev.isNone || m.heldSince || sp.isNone
  let cls := if free || decide (0 < held) then 8 else speedClass ps axes (sp.getD [])
  let caps := capsOf ps k
  let ends := endsAt ps k m.qs
  let widen := cdivN (prmN ps Pid.V_CAP_MAX k * held * 2 ^ 24) 4000000
  let prev := if free then [] else endsAt ps k m.qsPrev
  let pairs := (List.range caps.length).flatMap fun i =>
    let c := lget caps i
    let e := ends.getD i ([], [])
    let was := prev.getD i e
    let d0 := vsub e.1 was.1
    let d1 := vsub e.2 was.2
    objs.map fun o =>
      let r := surface e (o.p0, o.p1) (mmToL (capRadius ps k c) + widen) (umRadius o.rEff)
      let vr := if free then prmN ps Pid.V_CAP_MAX k * 1000 else pairSpeed d0 d1 r.2
      { d := lToUm r.1, sp := sepDistance ps k cls vr o.sensor, slot := o.slot, cap := c, stale := o.stale : Pair }
  { cls := cls, speeds := sp.getD [], ends := ends.flatMap fun e => [e.1, e.2], pairs := pairs, held := decide (0 < held) }

/-- Zone of a pair (08 R230): 0 CLEAR, 1 PENUMBRA, 2 UMBRA. -/
def zone (margin : Nat) (p : Pair) : Nat :=
  if p.d ≤ p.sp then 2 else if p.d ≤ p.sp + margin then 1 else 0

/-- The deciding pair: the smallest d − S_p, then the lower object slot, then the lower capsule (08 R230). -/
def deciding (l : List Pair) : Option Pair :=
  l.foldl (fun b p =>
    match b with
    | none => some p
    | some q =>
      let x := p.d - p.sp
      let y := q.d - q.sp
      if x < y ∨ x = y ∧ (p.slot < q.slot ∨ p.slot = q.slot ∧ p.cap < q.cap) then some p else some q) none

/-- PEN_MARGIN in µm. -/
def penMargin (ps : ParamSet) (k : Nat) : Nat := prmN ps Pid.PEN_MARGIN k * 1000

/-- The objects handed to the arm's tile: the 4 of smallest d, ties to the lower slot (08 R236). -/
def nearest (ps : ParamSet) (k : Nat) (objs : List Target) (l : List Pair) : List PenObj :=
  let best := objs.filterMap fun o =>
    ((l.filter fun p => p.slot == o.slot).foldl (fun (b : Option Pair) p =>
      match b with | none => some p | some q => if p.d < q.d then some p else some q) none).map fun p => (p, o)
  let sorted := best.mergeSort fun x y => decide (x.1.d < y.1.d) || (decide (x.1.d = y.1.d) && decide (x.2.slot ≤ y.2.slot))
  (sorted.take 4).map fun x => { pos := x.2.p0 ++ x.2.p1, rEff := x.2.rEff, sPen := x.1.sp + penMargin ps k }

/-- Sums of |ΔE| of every endpoint, each rounded up to L (08 R241). -/
def addPaths (sums : List Nat) (prev ends : List (List Int)) : List Nat :=
  (List.range ends.length).map fun i =>
    let d := vsub (lget ends i) (prev.getD i (lget ends i))
    lget sums i + csqrt (vdot d d).toNat

/-- The measurement of a stop takes an evaluation (08 R241): before the trigger the class, from it on the paths. -/
def measure (s0 : Time) (e : Eval) (prev : Option (List (List Int))) (first : Bool) (m : StopMeas) : StopMeas :=
  if s0 < m.trig then { m with cls := e.cls }
  else
    let sums := match prev with | some p => addPaths m.sums p e.ends | none => addPaths m.sums e.ends e.ends
    { m with sums := sums, sAt := if first then sums.foldl max 0 else m.sAt }

/-- Every joint and the carrier are below the standstill tolerance (08 R241, 09 R267). -/
def allStill (ps : ParamSet) (axes speeds : List Nat) : Bool :=
  decide (speeds.length = axes.length) && (List.range axes.length).all fun i => decide (safeRate (lget speeds i) < vTol ps (lget axes i))

/-- Take the evaluation into the arm's record: verdict fields, standstill run, measurement (08 R230, R241, R243). -/
def record (k : Nat) (s0 : Time) (objs : List Target) (e : Eval) (s : State) : State :=
  let ps := s.ps
  let axes := ssmAxes ps k
  let worst := (e.pairs.map (zone (penMargin ps k))).foldl max 0
  let raw := if (s.ssmArm k).forced then 2 else worst
  let dec := deciding e.pairs
  let s := s.mdSsmArm k fun m =>
    let still := allStill ps axes e.speeds
    let first := still && m.stillRun == 0
    { m with
      cls := e.cls, speeds := e.speeds, endsPrev := some e.ends, heldSince := e.held
      stillRun := if still then incSat 40 m.stillRun else 0
      stillAt := if first then s0 else m.stillAt
      stillQ := if first then m.qs else m.stillQ
      meas := m.meas.map (measure s0 e m.endsPrev first)
      v := { m.v with
        dMin := dec.map (·.d), sp := match dec with | some p => p.sp | none => 0
        obj := match dec with | some p => p.slot | none => 255, cap := match dec with | some p => p.cap | none => 255
        cls := e.cls, raw := raw, stale := match dec with | some p => p.stale | none => false, held := e.held, miss := false } }
  s.mdPlr k fun r => { r with pen := nearest ps k objs e.pairs }

/-- Code of a distance in an event's DETAIL. -/
def dMinWord (v : Verdict) : Nat := match v.dMin with | some d => ofSigned 32 (clampI (-(2 ^ 31 - 1)) (2 ^ 31 - 1) d) | none => 0x80000000

/-- Change the published verdict of an arm, with E72 (08 R244). -/
def setVerdict (k v : Nat) (s : State) : State :=
  let old := (s.ssmArm k).v
  if old.pub = v then s
  else
    let s := s.mdSsmArm k fun m => { m with v := { m.v with pub := v } }
    raiseEv 72 Sts.OK k (dMinWord old) (old.pub + v * 4 + old.cls * 16) s

/-- The requests that follow from the published verdict (08 R232, Table 08-4): UMBRA a protective stop, PENUMBRA a speed
limit. The penumbra limit stays while the arm leaves the umbra. -/
def requests (k : Nat) (t : Time) (s : State) : State :=
  let m := s.ssmArm k
  let s := if m.v.pub = 2 ∧ !m.stopReq then
      protStop k 0 (prmN s.ps Pid.PROT_STOP k) t none (s.mdSsmArm k fun m => { m with stopReq := true })
    else s
  let pen := (s.ssmArm k).v.pub = 1
  let s := if pen then s.mdSsmArm k fun m => { m with slsReq := true }
    else if (s.ssmArm k).v.pub = 0 then s.mdSsmArm k fun m => { m with slsReq := false } else s
  if (s.ssmArm k).v.pub = 2 then s
  else slsOrder k 0 (if pen then some (prmN s.ps Pid.PEN_RATIO k) else none) t s

/-- The stop request of an arm is released (08 R233): a published UMBRA falls to PENUMBRA (R231). -/
def releaseStop (k : Nat) (t : Time) (s : State) : State :=
  let s := protRelease k 0 (s.mdSsmArm k fun m => { m with stopReq := false, resumeRun := 0, clearRun := 0 })
  requests k t (if (s.ssmArm k).v.pub = 2 then setVerdict k 1 s else s)

/-- Publish the verdict of an evaluated arm (08 R231 to R233): it rises at once; the runs toward CLEAR and toward a release
count on. -/
def publishArm (k : Nat) (t : Time) (s : State) : State :=
  let s := s.mdSsmArm k fun m => { m with
    clearRun := if m.v.raw = 0 then m.clearRun + 1 else 0
    resumeRun := if m.v.raw ≠ 2 then m.resumeRun + 1 else 0 }
  let m := s.ssmArm k
  let s := if m.v.pub = 3 ∨ m.v.pub < m.v.raw then setVerdict k m.v.raw s else s
  let s := requests k t s
  if (s.ssmArm k).stopReq && prmN s.ps Pid.PROT_STOP k == 1 && decide ((s.sc k).fn = .disabled) && decide ((s.ssmArm k).v.raw ≠ 2)
    then releaseStop k t s else s

/-- An arm whose verdict is forced to UMBRA for the cycle (01 R26, 08 R238). -/
def forceUmbra (k : Nat) (miss : Bool) (t : Time) (s : State) : State :=
  let s := s.mdSsmArm k fun m => { m with clearRun := 0, resumeRun := 0, v := { m.v with raw := 2, miss := miss } }
  requests k t (setVerdict k 2 s)

/-- Standstill of a scope that the SSM does not monitor, counted from its lanes; an auxiliary axis goes on by itself
(09 R267; notes/assumptions 48). -/
def laneStill (k : Nat) (s : State) : State :=
  if monitored s.ps k ∨ (s.sc k).fn = .disabled ∧ (s.sc k).seq = .idle then s
  else
    let rest := (s.scAxes k).all fun n => let a := s.ax n; a.still && decide (a.fb.valid = false ∨ a.loop.vfb.natAbs * 1024 < 32768)
    let s := s.mdSc k fun c => { c with still := if rest then incSat 40 c.still else 0 }
    if 8 ≤ k && decide (40 ≤ (s.sc k).still) then standstillOf k s else s

/-- An arm without monitoring (08 R235): NOT_MONITORED, no request in force (Table 08-4), and nothing kept of its positions. -/
def notMonitored (k : Nat) (t : Time) (s : State) : State :=
  let s := (setVerdict k 3 s).mdSsmArm k fun m => { lastStop := m.lastStop, tableBad := m.tableBad }
  slsOrder k 0 none t (protRelease k 0 s)

/-- Arms the SSM monitors. -/
def ssmArms (s : State) : List Nat := (List.range 8).filter (monitored s.ps)

/-- SSM_PUBLISH (01 R17, R26, 08 R232, R238): the verdicts of the separation cycle at s0 + 125 µs. `late`: the evaluation is
not complete, so every arm counts as in the umbra; `divFail` and `flip` are what channel C gave otherwise: `flip` adds to a
coded word (index arm × 4 + 0 κ, 1 d, 2 S_p, 3 raw). -/
def execSsmPublish (late divFail : Bool) (flip : List (Nat × Int)) (s : State) : Out :=
  .next <|
    if !s.cyc.running || s.ssm.published then s
    else
      let s0 := s.cyc.s0
      let t := s0 + tPub
      let s := s.upTo t
      let miss := late || s.ldg.spoiled.testBit 14
      let s := { s with
        ssm := { s.ssm with published := true }
        ldg := { s.ldg with spoiled := if s.ldg.spoiled.testBit 14 then s.ldg.spoiled - 2 ^ 14 else s.ldg.spoiled } }
      let arms := ssmArms s
      let s := (List.range 8).foldl (fun s k => if monitored s.ps k then s
        else notMonitored k t s) s
      let s :=
        if miss then
          -- every arm counts as in the umbra (01 Table 01-4)
          let arms := (List.range 8).filter fun k => !(armAxes s.ps k).isEmpty
          let run := incSat 255 s.ssm.missRun
          let s := raiseEv 75 Sts.SSM_DEADLINE 0xFF 0 run { s with ssm := { s.ssm with missRun := run } }
          let s := arms.foldl (fun s k =>
            forceUmbra k true t (s.mdSsmArm k fun m => { m with heldSince := m.heldSince || m.held.any (0 < ·), stillRun := 0 })) s
          if 2 ≤ run then faultF2s allScopes Sts.SSM_DEADLINE 7 s else s
        else
          let objs := targets s
          let s := { s with ssm := { s.ssm with missRun := 0, codedNow := false, objCount := min objs.length 127 } }
          let ready (s : State) (k : Nat) : Bool := (s.ssmArm k).qs.length == (ssmAxes s.ps k).length && (s.ssmArm k).qs.all (·.isSome)
          let s := arms.foldl (fun s k =>
            if ready s k then record k s0 objs (evalArm s k objs) s
            else s.mdSsmArm k fun m => { m with
              endsPrev := none, speeds := [], stillRun := 0, cls := 8
              v := { m.v with dMin := none, sp := 0, obj := 255, cap := 255, cls := 8, raw := 2, stale := false, held := true, miss := false } }) s
          let wrong := arms.find? fun k => flip.any fun e => e.1 / 4 == k && e.2 != 0
          if divFail || wrong.isSome then
            let s := raiseEv 74 Sts.SSM_CODED (if divFail then 0xFF else wrong.getD 0xFF) 0 0 { s with ssm := { s.ssm with coded := true, codedNow := true } }
            faultF2s allScopes Sts.SSM_CODED 7 (arms.foldl (fun s k => forceUmbra k false t s) s)
          else arms.foldl (fun s k => publishArm k t s) s
      let s := if miss then s else arms.foldl (fun s k => judgeSlip k s0 (judgeArm k s0 s)) s
      allScopes.foldl (fun s k => laneStill k s) s

/-- VERDICT_FALL_CLEAR (08 R231): after PEN_HOLD of raw CLEAR evaluations a published PENUMBRA falls to CLEAR. -/
def execVerdictFallClear (arm : Nat) (s : State) : Out :=
  onUnit "arm" arm 8 <| .next <|
    let m := s.ssmArm arm
    if m.v.pub = 1 ∧ max 1 (4 * prmN s.ps Pid.PEN_HOLD arm) ≤ m.clearRun then requests arm s.cyc.now (setVerdict arm 0 s) else s

/-- The conditions of R233 for releasing a category 2 stop request, but for the resume command. -/
def mayRelease2 (s : State) (k : Nat) : Bool :=
  let m := s.ssmArm k
  (atRest s k || decide ((s.sc k).fn = .disabled)) && decide (m.v.raw ≠ 2)
    && decide (4 * prmN s.ps Pid.RESUME_HOLD k ≤ m.resumeRun)

/-- STOP_REQUEST_RELEASE (08 R233): a category 2 request with RESTART = AUTO. -/
def execStopRequestRelease (arm : Nat) (s : State) : Out :=
  onUnit "arm" arm 8 <| .next <|
    if (s.ssmArm arm).stopReq && prmN s.ps Pid.PROT_STOP arm == 2 && prmN s.ps Pid.RESTART arm == 0 && mayRelease2 s arm
      then releaseStop arm s.cyc.now s else s

end Sys2Proof.Machine
end

