-- ==== Sys2Proof/Machine/DriveLink.lean ====
section
/-!
DEFINITION. Drive-link ports (chapter 10): inbound CYCLE and DISCOVERY frames, the port states of Table 10-6, stage
reboot, the link fault, authority and epochs (R304 to R306, 14 R396, R397), spare ports and stage registers.
-/
namespace Sys2Proof.Machine

/-- The CRC over header and payload matches (10 R284). -/
def crcGood (b : Bytes) : Bool := decide (4 ≤ b.length) && uAt b (b.length - 4) 4 == crc32c (b.take (b.length - 4))

/-- The stage holds authority on its other port (10 Table 10-3). -/
def stageElsewhere (b : Bytes) : Bool := !inAuthNone b && (inAuthB b != inThisB b)

/-- The body of a DISCOVERY frame matches the set in force (10 R299, R301). -/
def discMatch (ps : ParamSet) (p : Nat) (body : Bytes) : Bool :=
  let slot (i kind abs : Nat) : Bool :=
    discKind body i == prmN ps kind p && (bit (discAbs body i) == prmN ps abs p) &&
      (prmN ps kind p == 0 || discI_FS body i != 0)
  prmN ps Pid.PORT_EN p == 1 && discProto body == 1 && prm ps Pid.POS_CODE p 0 == some (discPos body : Int) &&
    (prmI ps Pid.SERIAL p == 0 || prmI ps Pid.SERIAL p == (discSerial body : Int)) &&
    slot 0 Pid.KIND0 Pid.ABS0 && slot 1 Pid.KIND1 Pid.ABS1

/-- What a frame says of the stage's epoch and authority: kept; judged while PAIR_WAIT runs (14 R397); and acted on by a
SINGLE unit (14 R396), which raises its epoch for a port that left DOWN, or only listens on the port of a stage that
another unit commands. -/
def judgeEpoch (p : Nat) (b : Bytes) (s : State) : State :=
  let ack := inEpochAck b
  let other := inType b == 0x11 && stageElsewhere b
  let s := s.mdPort p fun x => { x with epochAck := ack }
  let s := if other && s.mlc.waitEnd.isSome then { s with mlc := { s.mlc with otherAuth := true } } else s
  let x := s.port p
  if decide (s.mlc.role ≠ .single) || !s.dl.authority then s
  else if other && decide (s.dl.epoch ≤ ack) then
    if x.listen then s
    else raiseEv 104 Sts.AUTHORITY_LOST p s.dl.epoch Sts.AUTHORITY_LOST
      (portAvail p false (s.mdPort p fun x => { x with listen := true }))
  else
    let s := if x.listen && decide (x.state = .ready) then portAvail p true s else s
    let s := if x.ackDue && decide (s.dl.epoch ≤ ack) then
      { s with dl := { s.dl with epochNext := max s.dl.epochNext (ack + 1) } } else s
    s.mdPort p fun x => { x with listen := false, ackDue := false }

/-- The port matches its stage anew, or goes MISMATCH (10 Table 10-6, R299). -/
def rematch (p : Nat) (body : Bytes) (s : State) : State :=
  if discMatch s.ps p body then
    setPort p .syncing (s.mdPort p fun x => { x with disc := some body, dHist := [], delay := 0 })
  else setPort p .mismatch (s.mdPort p fun x => { x with disc := some body, err := { x.err with mismatch := incSat 255 x.err.mismatch } })

/-- A stage rebooted (10 R303): ENABLED axes F2 with STAGE_REBOOT, REBOOTED, positions lost, and the port rematches. -/
def stageReboot (p : Nat) (body : Bytes) (s : State) : State :=
  let axes := (portAxes s.ps p).map (·.2.2)
  let s := axes.foldl (fun s n =>
    if (s.ax n).fn = .enabled then faultF2 (s.axSc n) Sts.STAGE_REBOOT 7 (raiseAxis n Sts.STAGE_REBOOT s) else s) s
  let s := s.mdAxes axes fun a => { a with fb := { a.fb with seen := false, periods := none, valid := false, valid0 := false } }
  let s := axes.foldl (fun s n => s.mdAx n fun a => { a with
    pos :=
      if axType s.ps n = .stepper && !hasEnc s.ps n then .uncertain
      else if hasEnc s.ps n && !encAbs s.ps n then .unreferenced else a.pos }) s
  let s := raisePort p Sts.STAGE_REBOOT (s.port p).state.code (s.mdPort p fun x => { x with rebooted := true })
  let s := portAvail p false s
  let s := if (s.port p).state = .syncing then s.mdPort p fun x => { x with state := .linking } else s
  rematch p body s

/-- A valid DISCOVERY frame (10 R298, R299, R303). -/
def discoverFrame (p : Nat) (b : Bytes) (s : State) : State :=
  let s := judgeEpoch p b s
  let body := slice b inHdrLen 32
  let st := (s.port p).state
  let s := s.mdPort p fun x => { x with boot := some (inBoot b) }
  match st with
  | .down => s
  | .linking | .mismatch => rematch p body s
  | _ => stageReboot p body s

/-- DISCOVERY_FRAME (10 R299, R301, R303, R284): a frame of the wrong length or CRC is discarded. -/
def execDiscoveryFrame (port t : Nat) (bytes : Bytes) (s : State) : Out :=
  onUnit "port" port 36 <| .next <|
    let s := s.upTo t
    if bytes.length = inHdrLen + 36 ∧ inType bytes = 0x12 ∧ crcGood bytes ∧ (s.port port).state ≠ .down
    then discoverFrame port bytes s else s

/-- Cause for which a frame is bad (10 R284, R289, R297, R310): 1 CRC, 2 CODE, 3 WINDOW, 4 SEQ, 5 FORMAT, 0 none. -/
def inboundCause (s : State) (p : Nat) (st : Stamp) (tEnd : Nat) (codeErr : Bool) (b : Bytes) : Nat :=
  let close := s.cyc.tk + tCut
  if !inWindow st.at_ (stampUnit st.coarse) s.cyc.tk close || decide (close ≤ tEnd) then 3
  else if codeErr then 2
  else if !crcGood b then 1
  else if inType b != 0x11 || b.length != cycleLen (prmN s.ps Pid.KIND0 p) (prmN s.ps Pid.KIND1 p) then 5
  else if !(s.port p).seqFree && inSeq b != s.cyc.tk / tCur % 2 ^ 16 then 4
  else 0

/-- The flags DLC_PORTSTAT shows of a frame: AUTH_HERE, CONTEND, STALE_EPOCH, HOLDING, HOLD_EXPIRED, THIS_B. -/
def portFlags (b : Bytes) : List Bool :=
  [!inAuthNone b && (inAuthB b == inThisB b), inContend b, inStale b, inHolding b, inHoldExp b, inThisB b]

/-- The answer to a stage READ goes to the request that waits for it (10 R314, 13 R378). -/
def answerRead (p status data : Nat) (s : State) : State :=
  let x := s.port p
  let s := s.mdPort p fun x => { x with ctl := none, ctlSeq := none, ctlAns := (if status = Sts.OK then 1 else 2, data) }
  match x.ctl, x.ctlSeq with
  | some c, some q => answer c.1 q { status := status, body := if status = Sts.OK then leBytes 4 data else [] } s
  | _, _ => s

/-- A good frame (10 R287, R298, R303, R306, R314, R318). -/
def goodFrame (p : Nat) (st : Stamp) (b : Bytes) (s : State) : State :=
  let x := s.port p
  let judged := s.commands && decide (s.mlc.role ≠ .single)
  let stale := judged && (inStale b || inContend b && stageElsewhere b)
  let rtt : Int := (st.at_ : Int) - (x.txAt : Int) - 16 * (inTurn b : Int)
  let answered := match x.ctl with | some c => c.2.2.2 != 0 && inCtlTag b == c.2.1 | none => false
  let s := s.mdPort p fun x => { x with
    good := true, rx := some (st, b), inFlags := portFlags b, dHist := (rtt :: x.dHist).take 64
    boot := some (inBoot b), wasHolding := inHolding b, staleRun := if stale then incSat 2 x.staleRun else 0 }
  let s := if answered then answerRead p Sts.OK (inCtlRsp b) s else s
  let trip := (inSlotStat b 0).testBit 4 || (inSlotStat b 1).testBit 4
  let code := x.state.code
  let s := if inFlt b != 0 || trip then raisePort p Sts.OK code s else s
  let s := if inHolding b && !x.wasHolding then raisePort p Sts.OK code s else s
  let s := if inContend b || inStale b then raisePort p Sts.OK code s else s
  match x.boot, x.disc with
  | some old, some body => if old != inBoot b then stageReboot p body s else s
  | _, _ => s

/-- INBOUND_CYCLE_FRAME (10 R289, R298, R310, R311): the frame is assigned to the period, checked and taken; a second one in
its window is EXTRA; frames count from the match of the port on. -/
def execInboundCycleFrame (port t tEnd : Nat) (codeErr : Bool) (bytes : Bytes) (s : State) : Out :=
  onUnit "port" port 36 <| .next <|
    let s := s.upTo t
    let x := s.port port
    if x.state = .down ∨ x.retired ∧ x.spare = none then s
    else if !codeErr && crcGood bytes && inType bytes == 0x12 && bytes.length == inHdrLen + 36 then discoverFrame port bytes s
    else
      let s := if !codeErr && crcGood bytes && inType bytes == 0x11 then judgeEpoch port bytes s else s
      if !x.state.counts then s
      else
        let st := s.stampOf port t
        let c := inboundCause s port st tEnd codeErr bytes
        if c = 3 then
          s.mdPort port fun x => { x with
            err := { x.err with window := incSat 255 x.err.window }, cause := if x.cause = 0 then 3 else x.cause }
        else if x.got then s.mdPort port fun x => { x with err := { x.err with extra := incSat 255 x.err.extra } }
        else
          let u := stampUnit st.coarse
          let st := { st with boundary := boundaryAt t u s.cyc.tk || boundaryAt t u (s.cyc.tk + tCut) }
          let s := s.mdPort port fun x => { x with got := true, cause := c }
          if c = 0 then goodFrame port st bytes s else s

/-- DL_SYMBOL_LOCK (10 Table 10-6). -/
def execDlSymbolLock (port : Nat) (s : State) : Out :=
  onUnit "port" port 36 <| .next <|
    let s := s.mdPort port fun x => { x with lock := true }
    if (s.port port).state = .down then
      setPort port .linking (s.mdPort port fun x => { x with ackDue := true, listen := false, dHist := [], delay := 0 })
    else s

/-- DL_SYMBOL_LOCK_LOST (10 Table 10-6): symbol lock has been lost for 16 consecutive periods. -/
def execDlSymbolLockLost (port : Nat) (s : State) : Out :=
  onUnit "port" port 36 <| .next <|
    setPort port .down (portAvail port false (s.mdPort port fun x => { x with lock := false }))

/-- PORT_READY (10 Table 10-6): 128 consecutive good frames in SYNCING. -/
def execPortReady (port : Nat) (s : State) : Out :=
  onUnit "port" port 36 <| .next <|
    let x := s.port port
    if x.state = .syncing ∧ 128 ≤ x.goodRun then setPort port .ready (portAvail port (!x.listen) s) else s

/-- PORT_RECOVERED (10 Table 10-6): 16 consecutive good frames in FAULTED with every axis of the port DISABLED. -/
def execPortRecovered (port : Nat) (s : State) : Out :=
  onUnit "port" port 36 <| .next <|
    let x := s.port port
    if x.state = .faulted ∧ 16 ≤ x.goodRun ∧ (portAxes s.ps port).all (fun e => decide ((s.ax e.2.2).fn = .disabled))
    then setPort port .ready (portAvail port (!x.listen) s) else s

/-- LINK_FAULT (10 R310): three consecutive bad frames in READY. -/
def execLinkFault (port : Nat) (s : State) : Out :=
  onUnit "port" port 36 <| .next <|
    let x := s.port port
    if x.state = .ready ∧ 3 ≤ x.badRun then
      let cause := if x.cause = 0 then 6 else x.cause
      let s := raisePort port Sts.LINK_FAULT cause (s.mdPort port fun x => { x with linkFault := true })
      let s := setPort port .faulted (portAvail port false s)
      (portAxes s.ps port).foldl (fun s e => if (s.ax e.2.2).fn = .enabled then
        faultF2 (s.axSc e.2.2) Sts.LINK_FAULT 7 (raiseAxis e.2.2 Sts.LINK_FAULT s) else s) s
    else s

/-- AUTHORITY_LOST (10 R306, 14 R395, R417): a port reported STALE_EPOCH, or CONTEND with the authority elsewhere, in two
consecutive periods: LISTEN frames only from the next period on, no cell-bus transmission, DEPOSED. -/
def execAuthorityLost (s : State) : Out :=
  .next <|
    if s.commands && decide (s.mlc.role ≠ .single) && (vlist s.dl.ports).any fun p => 2 ≤ p.staleRun then
      let s := ttcDrop { s with
        dl := { s.dl with lostNext := true, ports := vmapI s.dl.ports fun _ p => { p with staleRun := 0 } }
        hif := { s.hif with ch := vmapI s.hif.ch fun _ c => { c with mirrored := c.open_ } } }
      let s := depose s
      raiseEv 104 Sts.AUTHORITY_LOST 0 s.dl.epoch (3 * 2 ^ 30 + Sts.AUTHORITY_LOST) s
    else s

/-- STAGE_NO_RESPONSE (10 R314): a READ unanswered after 8 periods ends. -/
def execStageNoResponse (port : Nat) (s : State) : Out :=
  onUnit "port" port 36 <| .next <|
    match (s.port port).ctl with
    | some c => if 9 ≤ c.2.2.2 then answerRead port Sts.STAGE_NO_RESPONSE 0 s else s
    | none => s

/-- Entries of spare ports (10 R313): spare port, and place of a port in the list. -/
def spareEntry (ps : ParamSet) (e port : Nat) : Option (Nat × Nat) :=
  let sp := prmN ps Pid.SPARE_PORT 0 e
  if 36 ≤ sp then none
  else ((List.range 7).find? fun i => (lget (prmR ps Pid.SPARE_LIST 0 e) i).toNat == port).map fun i => (sp, i)

/-- SPARE_PORT_MOVE (10 R313): once every axis of a port with a retired transceiver is DISABLED, the select code routes it to a
free spare of its list and it restarts in LINKING. -/
def execSparePortMove (port : Nat) (s : State) : Out :=
  onUnit "port" port 36 <| .next <|
    let x := s.port port
    if !x.retired || x.spare.isSome || !(portAxes s.ps port).all (fun e => decide ((s.ax e.2.2).fn = .disabled)) then s
    else
      let free := (List.range 4).find? fun e =>
        match spareEntry s.ps e port with | some (sp, _) => lget s.dl.spareSel e == 0 && !(s.port sp).retired | none => false
      match free with
      | none => setPort port .faulted s
      | some e =>
        match spareEntry s.ps e port with
        | none => s
        | some (sp, i) =>
          let s := { s with dl := { s.dl with spareSel := s.dl.spareSel.set e (i + 1) } }
          let s := s.mdPort port fun x => { x with
            spare := some sp, state := .linking, badRun := 0, goodRun := 0, dHist := [], delay := 0, ackDue := true }
          -- the list has no other spare: a pool of one is exhausted at once (16 R454)
          raiseEv 117 Sts.POOL_EXHAUSTED 7 0 0 (raisePort port Sts.OK 1 { s with hlt := { s.hlt with poolEx := s.hlt.poolEx ||| 2 ^ 7 } })

end Sys2Proof.Machine
end

