-- ==== Sys2Proof/Machine/AxisEvents.lean ====
section
/-!
DEFINITION. Happenings of single axes: step inputs and GPIO edges (03 R86 to R88, R97), the warnings and faults of the current
path and the loops (04 R110 to R126, 05 R144), the move to a spare lane (03 R63), and the ends of injection runs, frequency
responses and captures (05 R149 to R156, 13 R392).
-/
namespace Sys2Proof.Machine

/-! ### Inputs -/

/-- Shortest level of a step input (03 R86). -/
def stepLevel : Time := 100 * ns

/-- A GPIO input takes a level at an edge stamped by its interpolator (02 Table 02-2). -/
def gpioSet (pin t : Nat) (level : Bool) (s : State) : State :=
  { s with fw := { s.fw with gpio := vmd s.fw.gpio pin fun g => { g with level := level, edge := some (s.stampOf (44 + pin) t) } } }

/-- STEP_EDGE (03 R86 to R88): a rising edge of a pair's step input; it counts if it meets the times of R86, else it is a
glitch. -/
def execStepEdge (pair t low high : Nat) (stable dir : Bool) (s : State) : Out :=
  onUnit "step pair" pair 8 <| .next <|
    let s := gpioSet (2 * pair) t true (s.upTo t)
    let s := { s with fw := { s.fw with gpio := vmd s.fw.gpio (2 * pair + 1) fun g => { g with level := dir } } }
    match (vrd s.fw.pairs pair).axis with
    | none => s
    | some n =>
      if (s.ax n).mode ≠ .stepped then s
      else if low < stepLevel ∨ high < stepLevel ∨ !stable then
        s.mdAx n fun a => { a with flags := { a.flags with stepGlitch := true } }
      else s.mdAx n fun a =>
        let sg : Int := if dir != a.step.invert then 1 else -1
        let (st, fast) := a.step.onStep t sg (prmI s.ps Pid.STEP_INC n) (prmN s.ps Pid.STEP_DTMIN n) (prmN s.ps Pid.STEP_DT0 n)
          (prmN s.ps Pid.STEP_IDLE n)
        let rate : Int := (((st.segP1 : Rat) - st.segP0) * ((tCtl * 2 ^ 24 : Nat) : Rat) / ((max 1 st.dt : Nat) : Rat)).floor
        { a with
          step := { st with top := max st.top (rate.natAbs : Int) }
          flags := { a.flags with stepOver := a.flags.stepOver || fast
                                  overCount := if fast then incSat 65535 a.flags.overCount else a.flags.overCount } }

/-- STEP_FINAL_SEGMENT (03 R87): no step arrived by t_k + 2 dt. -/
def execStepFinalSegment (axis : Nat) (s : State) : Out :=
  onUnit "axis" axis 64 <| .next <|
    let a := s.ax axis
    match a.step.prev with
    | none => s
    | some (tp, _) =>
      if a.mode ≠ .stepped ∨ a.step.finalDone then s
      else
        let s := s.upTo (tp + 2 * a.step.dt)
        s.mdAx axis fun a => { a with step := a.step.final (prmI s.ps Pid.STEP_INC axis) }

/-- GPIO_EDGE (02 R40, 03 R97): the pin takes its level; the switch of a SWITCH_INDEX search that changes level lets the search
go on for the index beyond it. -/
def execGpioEdge (pin t : Nat) (level : Bool) (s : State) : Out :=
  onUnit "GPIO" pin 16 <| .next <|
    let s := s.upTo t
    let changed := (vrd s.fw.gpio pin).level != level
    let s := gpioSet pin t level s
    if !changed then s
    else { s with axes := vmapI s.axes fun _ a => { a with
      home := a.home.map fun h => if h.method = 2 ∧ h.phase = 0 ∧ h.gpio = pin then { h with phase := 1 } else h } }

/-! ### Warnings and faults of the current path and the loops -/

/-- STALL_IMMINENT (04 R112). -/
def execStallImminent (axis : Nat) (s : State) : Out :=
  onUnit "axis" axis 64 <| .next <|
    let a := s.ax axis
    if !a.flags.stall && decide (prmN s.ps Pid.STALL_N axis ≤ a.cur.stallRun) && a.powered then
      raiseAxis axis Sts.OK (s.mdAx axis fun a => { a with flags := { a.flags with stall := true } })
    else s

/-- HOLD_DELAY_EXPIRY (04 R110): e has been unchanged for HOLD_DELAY periods. -/
def execHoldDelayExpiry (axis : Nat) (s : State) : Out :=
  onUnit "axis" axis 64 <| .next <|
    if (s.ax axis).powered && axType s.ps axis == .stepper && decide (prmN s.ps Pid.HOLD_DELAY axis ≤ (s.ax axis).cur.still) then
      s.mdAx axis fun a => { a with cur := { a.cur with hold := true } }
    else s

/-- A fault of an axis's current path: its event, then F2 of its scope with the rank of R491 (04 R125, R491). Another cause of the
same period raises its event too, and the first of R491 gives the status (`State.driven`). -/
def currentFault (axis status rank : Nat) (s : State) : State :=
  faultF2 (s.axSc axis) status rank (raiseAxis axis status s)

/-- COIL_FAULT (04 R117). -/
def execCoilFault (axis : Nat) (s : State) : Out :=
  onUnit "axis" axis 64 <| .next <|
    let a := s.ax axis
    if s.driven axis && (decide (16 ≤ a.cur.phA.coil) || decide (16 ≤ a.cur.phB.coil)) then
      currentFault axis Sts.COIL_FAULT 5 (s.mdAx axis fun a => { a with cur := { a.cur with
        coilFault := true, phA := { a.cur.phA with coil := 0 }, phB := { a.cur.phB with coil := 0 } } })
    else s

/-- PHASE_SUM (04 R119). -/
def execPhaseSum (axis : Nat) (s : State) : Out :=
  onUnit "axis" axis 64 <| .next <|
    let a := s.ax axis
    if s.driven axis && decide (4 ≤ a.cur.sumRun) then
      currentFault axis Sts.PHASE_SUM 3 (s.mdAx axis fun a => { a with cur := { a.cur with sumRun := 0 } })
    else s

/-- BUS_UNDERVOLT (04 R125). -/
def execBusUndervolt (axis : Nat) (s : State) : Out :=
  onUnit "axis" axis 64 <| .next <|
    let a := s.ax axis
    if s.driven axis && decide (4 ≤ a.cur.uvRun) then
      currentFault axis Sts.BUS_UNDERVOLT 4 (s.mdAx axis fun a => { a with cur := { a.cur with busUnder := true, uvRun := 0 } })
    else s

/-- SAMPLE_LOST (04 R125). -/
def execSampleLost (axis : Nat) (s : State) : Out :=
  onUnit "axis" axis 64 <| .next <|
    let a := s.ax axis
    if s.driven axis && decide (2 ≤ a.cur.lostRun) then
      currentFault axis Sts.SAMPLE_LOST 2 (s.mdAx axis fun a => { a with cur := { a.cur with lostRun := 0 } })
    else s

/-- FOLLOWING_ERROR (05 R144): FE_COUNT reaches FE_TIME. -/
def execFollowingError (axis : Nat) (s : State) : Out :=
  onUnit "axis" axis 64 <| .next <|
    let a := s.ax axis
    let k := s.axSc axis
    if a.loop.feCount < prmN s.ps Pid.FE_TIME axis ∨ (a.loop.feFault ∧ (s.sc k).level ≠ 0) then s
    else faultF1 k Sts.FOLLOWING_ERROR 7 (raiseAxis axis Sts.FOLLOWING_ERROR
      (s.mdAx axis fun a => { a with loop := { a.loop with feFault := true } }))

/-- HARD_STOP_DETECTED (03 R97, Table 03-6): the following error stood above HOME_FE for 50 ms: the stop is the mark. -/
def execHardStopDetected (axis : Nat) (s : State) : Out :=
  onUnit "axis" axis 64 <| .next <|
    let a := s.ax axis
    match a.home with
    | none => s
    | some h =>
      if h.method = 3 ∧ h.phase = 0 ∧ homeStall ≤ h.stall then
        let mark := if hasEnc s.ps axis then a.fb.pos0 else a.refP
        s.mdAx axis fun a => a.markFound s.ps axis s.cyc.nextT0 h mark
      else s

/-! ### Spare lanes -/

/-- LANE_SPARE_TAKEOVER (03 R63, 01 R28, 04 R127): the axis of a lane that health has withdrawn is to move to the spare that
serves it, with everything it holds, at the next control-cycle start (`takeLanes`). -/
def execLaneSpareTakeover (axis : Nat) (s : State) : Out :=
  onUnit "axis" axis 64 <| .next <|
    let old := (List.range 68).find? fun i => (vrd s.lanes i).axis == some axis
    let new_ := (List.range 68).find? fun i =>
      (vrd s.lanes i).axis.isNone && (vrd s.lanes i).next.isNone && decide ((s.unit 0 i).st = .inService) && (s.unit 0 i).serves == axis
    match old, new_ with
    | some i, some j =>
      if (s.unit 0 i).st = .inService then s
      else { s with lanes := vmd s.lanes j fun l => { l with next := some axis } }
    | _, _ => s

/-! ### Injection and frequency response -/

/-- Stretches of a run: a SINE_SWEEP has one for each bin, the other signals one (05 R151). -/
def InjSt.stretches (r : InjSt) : Nat := if r.signal = 0 then r.bins.length else 1

/-- Cycles of a run (05 R151). -/
def InjSt.total (r : InjSt) : Nat := (r.s + r.m) * r.len * r.stretches

/-- INJECTION_RUN_END (05 R151): a run that has reached its length, or that a cause of R151 stopped, is reported by the arm's
event; its capture stops and its analysis is due. -/
def execInjectionRunEnd (scope : Nat) (s : State) : Out :=
  onUnit "scope" scope 72 <| .next <|
    match vrd s.fw.inj scope with
    | none => s
    | some r =>
      if r.analyse || (r.running && decide (r.i < r.total)) then s
      else
        let s := { s with fw := { s.fw with inj := vwr s.fw.inj scope (some { r with running := false, analyse := true }) } }
        if scope < 8 then raiseArm scope r.cause r.cause s else raiseAxis (scope - 8) r.cause s

/-- The analysed records of a stretch: (x, y) samples of those without a held or NaN cycle, and how many were dropped
(05 R152, 06 R176). -/
def InjSt.records (r : InjSt) (stretch : Nat) : List (List (Int × Int)) × Nat :=
  let all := r.recs.reverse
  let recs := (List.range r.m).filterMap fun j =>
    let x := (all.drop (((r.s + r.m) * stretch + r.s + j) * r.len)).take r.len
    if x.length = r.len then some x else none
  let ok := recs.filter fun x => x.all fun e => !e.2.2 && e.1 != nan16 && e.2.1 != nan16
  (ok.map fun x => x.map fun e => (e.1, e.2.1), recs.length - ok.length)

/-- ⌊1 000 log10 (a / b)⌋ for positive a and b: the greatest g with 10^g ≤ (a / b)^1 000. -/
def gainFloor (a b : Nat) : Int :=
  let le (g : Int) : Bool :=
    if g ≥ 0 then decide (10 ^ g.toNat * b ^ 1000 ≤ a ^ 1000) else decide (b ^ 1000 ≤ a ^ 1000 * 10 ^ (-g).toNat)
  (List.range 17).reverse.foldl (fun (g : Int) i => if le (g + 2 ^ i) then g + 2 ^ i else g) (-2 ^ 16)

/-- ⌊arg (re + j im) × 32 768 / π⌋: the greatest p whose angle the vector reaches. -/
def phaseFloor (re im : Int) : Int :=
  let up := decide (im > 0) || (decide (im = 0) && decide (re > 0))
  let x := if up then re else -re
  let y := if up then im else -im
  let reach (p : Nat) : Bool := decide (y * cosTurn32 (p * 65536 : Nat) - x * cosTurn32 ((p * 65536 : Nat) - 2 ^ 30) ≥ 0)
  let p := (List.range 15).reverse.foldl (fun g i => if reach (g + 2 ^ i) then g + 2 ^ i else g) 0
  if up then p else (p : Int) - 32768

/-- AX_FRF of one bin (05 R155, R156): GAIN and PHASE lie within 1 LSB of the exact value, which of the two neighbours being a
free value; the gain and phase of H = 0 have no value and are free. -/
def frfBin (k inc : Nat) (recs : List (List (Int × Int))) (free : Nat) : FrfBin :=
  let sums : List BinSum := recs.map fun r => (goertzel inc (r.map (·.1)) 0 0 0, goertzel inc (r.map (·.2)) 0 0 0)
  let c := crossSums sums
  let f := (Config.free32 free).toNat
  let (gain, phase) : Nat × Nat :=
    if c.1 ≤ 0 then (0x8000, 0x8000)
    else if c.2.2 = (0, 0) then (f % 2 ^ 16, f / 2 ^ 16)
    else
      let a := (c.2.2.1 ^ 2 + c.2.2.2 ^ 2).toNat
      let g := clampI (-32767) 32767 (gainFloor a (c.1 * c.1).toNat + (f % 2 : Nat))
      let p := clampI (-32767) 32767 (phaseFloor c.2.2.1 c.2.2.2 + (f / 2 % 2 : Nat))
      (ofSigned 16 g, ofSigned 16 p)
  { bin := k, bytes := leBytes 2 (if c.1 ≤ 0 then 0 else coherence c) ++ leBytes 2 phase ++ leBytes 2 gain ++ leBytes 2 k }

/-- The result of a run, if any record is left (05 R152, R155, R156). -/
def frfResult (r : InjSt) (free : Nat) : Option FrfRes :=
  let parts := (List.range r.stretches).map r.records
  let used := parts.map (·.1)
  if used.all (·.isEmpty) then none
  else some {
    at_ := r.start, len := r.len, m := r.m, dropped := min 255 ((parts.map (·.2)).foldl (· + ·) 0), xy := r.xy
    bins := r.bins.mapIdx fun j k => frfBin k (k * 2 ^ 32 / max 1 r.len) (lget used (if r.signal = 0 then j else 0)) (free + j) }

/-- Length of the trace region (05 R153). -/
def traceLen : Nat := 0x200000

/-- Bytes of the capture header (05 R153 gives its contents and 13 R392 counts it in SIZE; its size and place behind the
samples are the model's, notes/assumptions 50). -/
def capHeader : Nat := 32

/-- Samples a capture's area holds: COUNT of a ONESHOT, twice POST of a RING (notes/assumptions 50). -/
def CapSt.room (c : CapSt) : Nat := if c.ring then max 1 (2 * c.count) else c.count

/-- Bytes of a result's header (13 R392). -/
def FrfRes.head (r : FrfRes) : Bytes :=
  r.at_.bytes ++ leBytes 4 r.len ++ leBytes 2 r.bins.length ++ leBytes 1 r.m ++ leBytes 1 r.dropped
    ++ leBytes 1 r.xy.1 ++ leBytes 1 r.xy.2 ++ leBytes 6 0

/-- A result stands in the trace region too, behind its run's capture, for as long as that keeps its area (05 R156, 12 Table
12-10; its place is the model's, notes/assumptions 50). -/
def putFrf (cap : Nat) (r : FrfRes) (s : State) : State :=
  match vrd s.fw.caps cap with
  | some c =>
    if c.extra ≠ 0 ∧ (c.first.map (·.at_)) = some r.at_.at_ then
      s.ldgWrite (regTrace + c.area + 2 * c.sel.length * c.room + capHeader) (r.head ++ r.bins.flatMap (·.bytes))
    else s
  | none => s

/-- FRF_ANALYSIS_DONE (05 R152, R155, R156, 13 R392): the result stands for the axis and in the trace region, and the ticket ends. -/
def execFrfAnalysisDone (scope : Nat) (s : State) : Out :=
  onUnit "scope" scope 72 <| .next <|
    match vrd s.fw.inj scope with
    | none => s
    | some r =>
      if !r.analyse then s
      else
        let res := frfResult r s.fresh
        let s := ({ s with fw := { s.fw with
          inj := vwr s.fw.inj scope none, frf := if res.isSome then vwr s.fw.frf r.axis res else s.fw.frf } }).drawn r.bins.length
        let s := match res with | some x => putFrf r.cap x s | none => s
        finishTicket r.ticket
          (if r.cause ≠ Sts.OK then Sts.INJ_INTERRUPTED else if res.isNone then Sts.NO_VALID_RECORD else Sts.OK) s

/-! ### Captures -/

/-- The capture has all its samples (05 R153). -/
def CapSt.full (c : CapSt) : Bool := if c.ring then c.post == some 0 else decide (c.count ≤ c.n)

/-- A capture stops (05 R153): its header is written behind its samples. -/
def stopCap (cap status : Nat) (s : State) : State :=
  match vrd s.fw.caps cap with
  | none => s
  | some c =>
    if c.stopped then s
    else
      let h := (c.first.getD {}).bytes ++ leBytes 2 c.div ++ (c.sel.map fun x => BitVec.ofNat 8 x) ++ List.replicate (8 - c.sel.length) 0 ++ leBytes 4 c.n
      let at_ := c.area + 2 * c.sel.length * c.room
      let s := if at_ + capHeader ≤ traceLen then s.ldgWrite (regTrace + at_) h else s
      { s with fw := { s.fw with caps := vwr s.fw.caps cap (some { c with stopped := true, stopAt := s.cyc.now, status := status }) } }

/-- CAPTURE_END (05 R153). -/
def execCaptureEnd (cap : Nat) (s : State) : Out :=
  onUnit "capture" cap 16 <| .next <|
    match vrd s.fw.caps cap with
    | some c => if c.full then stopCap cap Sts.OK s else s
    | none => s

/-- TRACE_OVERFLOW (05 R154): the lane's staging buffer filled; what is stored stays valid. -/
def execTraceOverflow (cap : Nat) (s : State) : Out :=
  onUnit "capture" cap 16 <| .next (stopCap cap Sts.TRACE_OVERFLOW s)

/-- The area of a capture may be given to another one (13 R392). -/
def CapSt.freeable (c : CapSt) (now : Time) : Bool := c.stopped && (c.free || c.read || decide (c.stopAt + 60 * sec ≤ now))

/-- CAPTURE_AREA_FREE (13 R392): a stopped capture has been read, or has stood for 60 s. -/
def execCaptureAreaFree (cap : Nat) (s : State) : Out :=
  onUnit "capture" cap 16 <| .next <|
    match vrd s.fw.caps cap with
    | none => s
    | some c =>
      if !c.stopped then s
      else
        let s := if c.read then s else s.upTo (c.stopAt + 60 * sec)
        { s with fw := { s.fw with caps := vwr s.fw.caps cap (some { c with free := true }) } }

end Sys2Proof.Machine
end

