-- ==== Sys2Proof/Machine/CellBus.lean ====
section
/-!
DEFINITION. The cell bus (chapter 11): the schedule (R324, R326), received frames with their checks (R325, R335), values
and ages (R339, R340), safety frames (R343, R344), delay calibration (R345 to R347), frames sent (R321 to R323), cold
start (R332, R333), mode change (R336, R337) and the cell-cycle close with vote, midpoint and node state (R328 to R334).
-/
namespace Sys2Proof.Machine

/-! ### The schedule -/

/-- One TTC_SLOT entry (11 Table 11-4) with its slot number. -/
structure CbSlot where
  num : Nat := 0
  off : Nat := 0
  len : Nat := 0
  sender : Nat := 0
  ch : Nat := 0
  kind : Nat := 0
  sync : Bool := false
  rx : Bool := false
  value : Nat := 0
  deriving DecidableEq, Repr, Inhabited

/-- Read a TTC_SLOT word (11 Table 11-4). -/
def cbSlotOf (num w : Nat) : CbSlot :=
  { num := num, off := w / 2 ^ 47 % 2 ^ 17, len := w / 2 ^ 35 % 2 ^ 12, sender := w / 2 ^ 30 % 32, ch := w / 2 ^ 29 % 2,
    kind := w / 2 ^ 26 % 8, sync := w.testBit 25, rx := w.testBit 24, value := w % 512 }

/-- Words of 8 bytes. -/
def words64 : Nat → Bytes → List Nat
  | 0, _ => []
  | n + 1, b => ofLe (b.take 8) :: words64 n (b.drop 8)

/-- TTC_MODE word of a mode (11 Table 11-3). -/
def cbWord (ps : ParamSet) (m : Nat) : Nat := uAt (prmR ps Pid.MODE m) 0 4
/-- VALID of a mode. -/
def cbValid (ps : ParamSet) (m : Nat) : Bool := (cbWord ps m).testBit 3
/-- Cell-cycle length of a mode (11 Table 11-3). -/
def cbLen (ps : ParamSet) (m : Nat) : Time := tSep * 2 ^ (cbWord ps m % 8)

/-- Slots in use of a mode, in slot order. -/
def cbSlots (ps : ParamSet) (m : Nat) : List CbSlot :=
  (List.range 8).flatMap fun g =>
    match findRec ps Pid.SLOT m g with
    | none => []
    | some r => (mapFrom (fun i w => cbSlotOf i w) (64 * g) (words64 64 r.val)).filter fun x => x.kind != 0

/-- SCHED_SIG of a mode: RX and VALUE written as 0 (11 R324). -/
def cbSig (ps : ParamSet) (m : Nat) : Nat :=
  crc32c (leBytes 4 (cbWord ps m) ++ (List.range 8).flatMap fun g =>
    (words64 64 (prmR ps Pid.SLOT m g)).flatMap fun w => leBytes 8 (w / 2 ^ 25 * 2 ^ 25 + w / 2 ^ 9 % 2 ^ 15 * 2 ^ 9)) % 2 ^ 16

/-- One symbol, 32 ns (11 R320). -/
def cbSym : Time := 32 * ns
/-- CYCLE of a cell-cycle start (11 R324). -/
def cbCycle (t0 : Time) : Nat := t0 / tSep % 2 ^ 32
/-- Action point of a slot in the cell cycle that starts at t0 (11 R326). -/
def CbSlot.ap (x : CbSlot) (t0 : Time) : Time := t0 + x.off * cbSym
/-- Delay in use toward a sender on a channel (11 R326, R347): the unit's own, or the mirrored one of the other unit where it has
never held authority with CALIB slots in force (11 R329). -/
def cbDelay (s : State) (sender ch : Nat) : Nat :=
  let i := 32 * ch + sender
  let own := (vrd s.ttc.cal i).inUse
  let u := if s.ttc.calOwn then own else match s.ttc.calPeer.getD i none with | some d => some d | none => own
  u.getD (prmN s.ttc.ps Pid.DELAY_INIT 0 i)
/-- Expected start E of a slot (11 R326). -/
def cbExpect (s : State) (x : CbSlot) (t0 : Time) : Time := x.ap t0 + cbDelay s x.sender x.ch
/-- Acceptance half-window in 1/64 ns. -/
def cbW (s : State) : Time := prmN s.ttc.ps Pid.ACCEPT_W 0 * ns
/-- Slots of the mode in force. -/
def State.cbNow (s : State) : List CbSlot := if cbValid s.ttc.ps s.ttc.mode then cbSlots s.ttc.ps s.ttc.mode else []
/-- Own node ID. -/
def State.node (s : State) : Nat := prmN s.ttc.ps Pid.NODE_ID 0
/-- Change channel c of the cell bus. -/
def State.mdCb (s : State) (c : Nat) (f : CbChan → CbChan) : State := { s with ttc := { s.ttc with ch := vmd s.ttc.ch c f } }

/-! ### Frames -/

/-- TTC_FRAMEHDR (11 Table 11-1). -/
structure CbHdr where
  age : Nat := 0
  typ : Nat := 0
  len : Nat := 0
  slot : Nat := 0
  mode : Nat := 0
  sender : Nat := 0
  mcOp : Nat := 0
  mcMode : Nat := 0
  sig : Nat := 0
  cycle : Nat := 0
  rxVec : Nat := 0
  deriving DecidableEq, Repr, Inhabited

/-- Read a header. -/
def cbHdrOf (b : Bytes) : CbHdr :=
  let h := uAt b 0 16
  { age := h % 2 ^ 8, typ := h / 2 ^ 8 % 2 ^ 4, len := h / 2 ^ 12 % 2 ^ 12, slot := h / 2 ^ 24 % 2 ^ 9,
    mode := h / 2 ^ 33 % 2 ^ 4, sender := h / 2 ^ 37 % 2 ^ 5, mcOp := h / 2 ^ 42 % 2 ^ 2, mcMode := h / 2 ^ 44 % 2 ^ 4,
    sig := h / 2 ^ 48 % 2 ^ 16, cycle := h / 2 ^ 64 % 2 ^ 32, rxVec := h / 2 ^ 96 % 2 ^ 32 }

/-- The 16 bytes of a header. -/
def CbHdr.bytes (h : CbHdr) : Bytes :=
  leBytes 16 (h.age + h.typ * 2 ^ 8 + h.len * 2 ^ 12 + h.slot * 2 ^ 24 + h.mode * 2 ^ 33 + h.sender * 2 ^ 37
    + h.mcOp * 2 ^ 42 + h.mcMode * 2 ^ 44 + h.sig * 2 ^ 48 + h.cycle * 2 ^ 64 + h.rxVec * 2 ^ 96)

/-- A frame: header, payload, CRC-32C (11 R321). -/
def cbFrame (h : CbHdr) (pay : Bytes) : Bytes :=
  let b := h.bytes ++ pay
  b ++ leBytes 4 (crc32c b)

/-- The CRC of a received frame is good (11 Table 11-2, check 2). -/
def cbCrcGood (b : Bytes) : Bool :=
  decide (20 ≤ b.length) && crc32c (b.take (b.length - 4)) == uAt b (b.length - 4) 4

/-- Payload of a received frame. -/
def cbPay (b : Bytes) : Bytes := slice b 16 (b.length - 20)

/-- TYPE that a slot KIND stands for (11 Tables 11-1, 11-4). -/
def kindType (k : Nat) : Nat := k + 1

/-- Check 4 of Table 11-2: TYPE, SENDER, SLOT and LEN are those of the slot entry. -/
def cbFormat (x : CbSlot) (h : CbHdr) (b : Bytes) : Bool :=
  h.typ == kindType x.kind && h.sender == x.sender && h.slot == x.num && h.len == x.len && b.length == x.len + 20

/-- The slot of a channel whose expected start is nearest a stamp, ties to the earlier (11 R325). -/
def cbNearest (s : State) (l : List CbSlot) (t0 : Time) (ch t : Nat) : Option CbSlot :=
  (l.filter fun x => x.ch == ch).foldl (fun acc x =>
    let d (y : CbSlot) : Nat := ((t : Int) - (cbExpect s y t0 : Nat)).natAbs
    match acc with
    | none => some x
    | some y => if d x < d y ∨ (d x = d y ∧ x.ap t0 < y.ap t0) then some x else some y) none

/-- Start of the cell cycle nearest a time whose number is CYCLE (11 R335). -/
def cbStartNear (t : Time) (cycle : Nat) : Int :=
  let n : Int := (t / tSep : Nat)
  let base := n - n % 2 ^ 32 + cycle
  let d (k : Int) : Nat := ((t : Int) - (base + k * 2 ^ 32) * (tSep : Nat)).natAbs
  let k : Int := if d (-1) < d 0 ∧ d (-1) ≤ d 1 then -1 else if d 1 < d 0 then 1 else 0
  (base + k * 2 ^ 32) * (tSep : Nat)

/-- The node has no grid of its own yet and takes mode and deviations from the frames (11 R335). -/
def State.joining (s : State) : Bool := decide (s.ttc.state = .listen) || decide (s.ttc.state = .integrating)

/-- How a frame fares: the slot it is matched to, the checks of Table 11-2 it fails, its deviation. -/
structure CbJudge where
  slot : Option CbSlot := none
  fails : List Nat := []
  dev : Int := 0
  deriving DecidableEq, Repr, Inhabited

/-- Judge a frame against the grid of mode m that starts at t0; `slot` is the slot it is matched to (11 R325). -/
def cbJudge (s : State) (m : Nat) (t0 : Time) (st : Stamp) (codeErr : Bool) (b : Bytes) (x : Option CbSlot) (joining : Bool) : CbJudge :=
  if codeErr then { slot := x, fails := [1] }
  else if !cbCrcGood b then { slot := x, fails := [2] }
  else
    let h := cbHdrOf b
    match x with
    | none => { fails := [4] }
    | some y =>
      let e := cbExpect s y t0
      let win := inWindow st.at_ (stampUnit st.coarse) (e - cbW s) (e + cbW s)
      let sigOk := h.sig == cbSig s.ttc.ps m
      { slot := x
        fails := (if win then [] else [3]) ++ (if cbFormat y h b then [] else [4]) ++ (if h.mode = m then [] else [5])
          ++ (if h.cycle = cbCycle t0 then [] else [6]) ++ (if sigOk then [] else [7])
        dev := if joining then (st.at_ : Int) - (cbStartNear st.at_ h.cycle + (y.off * cbSym + cbDelay s y.sender y.ch : Nat))
               else (st.at_ : Int) - (e : Nat) }

/-- Count a rejected frame under the first check it fails; the first of a cycle on a channel raises E90 (11 R325,
R350). -/
def cbReject (ch cause sender : Nat) (s : State) : State :=
  let c := vrd s.ttc.ch ch
  let e := c.err
  let e := match cause with
    | 1 => { e with code := incSat 255 e.code } | 2 => { e with crc := incSat 255 e.crc }
    | 3 => { e with window := incSat 255 e.window } | 4 => { e with format := incSat 255 e.format }
    | 5 => { e with mode := incSat 255 e.mode } | 6 => { e with cycle := incSat 255 e.cycle }
    | _ => { e with sched := incSat 255 e.sched }
  let s := s.mdCb ch fun c => { c with err := e, rejSeen := true }
  let s := if c.fn = .disabled then s else { s with ttc := { s.ttc with anyBad := true } }
  if c.rejSeen then s else raiseEv 90 Sts.OK sender 0 (ch * 2 ^ 30 + cause) s

/-- The node's mode and grid become those of a frame it can follow (11 R335). -/
def cbFollow (m : Nat) (t : Time) (s : State) : State :=
  let len := if s.ttc.mode = m then s.ttc.len else cbLen s.ttc.ps m
  if s.ttc.mode = m ∧ s.ttc.t0 % len = 0 ∧ s.cyc.nextCell = s.ttc.t0 + len then s
  else { s with ttc := { s.ttc with mode := m, len := len, t0 := t / len * len }, cyc := { s.cyc with nextCell := nextAfter len t } }

/-! ### Values (R339, R340) -/

/-- The record of a receive value. -/
def rxOf (l : List RxVal) (num : Nat) : Option RxVal := l.find? fun v => v.num == num

/-- Put a receive value in its place. -/
def putRx (v : RxVal) : List RxVal → List RxVal
  | [] => [v]
  | q :: qs => if v.num < q.num then v :: q :: qs else if v.num = q.num then v :: qs else q :: putRx v qs

/-- Put a transmit value in its place. -/
def putTx (v : TxVal) : List TxVal → List TxVal
  | [] => [v]
  | q :: qs => if v.num < q.num then v :: q :: qs else if v.num = q.num then v :: qs else q :: putTx v qs

/-- A producer writes a transmit value with its staging stamp (11 R339). -/
def writeTx (num : Nat) (data : Bytes) (t : Time) (by_ : Nat) (s : State) : State :=
  let v := (s.ttc.tx.find? fun v => v.num == num).getD { num := num }
  let v := match v.later with
    | some (d, a) => { v with data := d, at_ := a, fresh := true }
    | none => v
  mirDelta (ledTx num) (64 + data.length)
    { s with ttc := { s.ttc with tx := putTx { v with later := some (data, t), by_ := by_ } s.ttc.tx } }

/-- The value is latched for a slot whose action point is `ap` (11 R339). -/
def TxVal.latch (v : TxVal) (ap : Time) : TxVal :=
  let v := match v.later with
    | some (d, a) => if atOrAfter a ns (ap - 2 * us) then v else { v with data := d, at_ := a, fresh := true, later := none }
    | none => v
  if v.fresh then { v with out := v.data, age := 0, fresh := false }
  else { v with age := min 255 (v.age + 1) }

/-- VALUE_LATCH (11 R339): at AP − 2 µs of an own slot that carries a value. -/
def execValueLatch (slot : Nat) (s : State) : Out :=
  onUnit "slot" slot 512 <| .next <|
    if s.ttc.state = .off then s
    else match s.cbNow.find? fun x => x.num == slot && x.sender == s.node && (x.kind == 1 || x.kind == 2) with
      | none => s
      | some x =>
        let s := s.upTo (x.ap s.ttc.t0 - 2 * us)
        -- after a Ledger error the previous value is sent with its age increased (15 R439)
        let bad := s.ldg.spoiled.testBit 16
        let s := s.unspoil 16
        mirDelta (ledTx x.value) 64
          { s with ttc := { s.ttc with tx := s.ttc.tx.map fun v =>
              if v.num ≠ x.value then v else if bad then { v with age := min 255 (v.age + 1) } else v.latch (x.ap s.ttc.t0) } }

/-- Store an accepted payload (11 R340). -/
def cbStore (x : CbSlot) (h : CbHdr) (st : Stamp) (pay : Bytes) (s : State) : State :=
  if !x.rx then s
  else
    let v : RxVal := { num := x.value, age := h.age, sender := h.sender, never := false, noSlot := false, cycle := h.cycle,
                       stamp := st, data := pay, new := true }
    { s with ttc := { s.ttc with rx := putRx v s.ttc.rx } }

/-! ### Safety frames (R343, R344, 08 R221) -/

/-- Records of a sensor frame from payload offset 32 on (08 Table 08-2); RADIUS in mm is held in µm. -/
def readObjs : Nat → Bytes → List ObjSt
  | 0, _ => []
  | n + 1, b =>
    { pos := (List.range 6).map fun i => sAt b (4 * i) 4, radius := uAt b 30 2 * 1000, id := uAt b 29 1 } :: readObjs n (b.drop 32)

/-- TYPE of a record. -/
def objType (b : Bytes) : Nat := uAt b 28 1 / 64

/-- A POINT is the capsule with both endpoints at its first (08 R220). -/
def objPoint (b : Bytes) (o : ObjSt) : ObjSt := if objType b = 0 then { o with pos := o.pos.take 3 ++ o.pos.take 3 } else o

/-- The records with their types applied. -/
def objList (n : Nat) (b : Bytes) : List ObjSt := (readObjs n b).mapIdx fun i o => objPoint (b.drop (32 * i)) o

/-- Cause of a refusal or SENS_FAULT raises E77 (08 Table 08-11). -/
def raiseSens (k cause : Nat) (s : State) : State := raiseEv 77 Sts.OK k 0 cause s

/-- The SSM takes a frame that passed the black channel: SENSHDR and records (08 R221). -/
def sensAccept (k : Nat) (st : Stamp) (b : Bytes) (s : State) : State :=
  let refuse (cause : Nat) (s : State) : State := raiseSens k cause { s with ssm := { s.ssm with
    sensors := vmd s.ssm.sensors k fun x => { x with cRefused := incSat 255 x.cRefused } } }
  let tm := uAt b 24 8
  let count := uAt b 23 1
  let recs := slice b 32 (b.length - 36)
  if count > prmN s.ps Pid.OBJ_QUOTA k || recs.length < 32 * count then
    refuse 4 { s with ssm := { s.ssm with quotaRej := true } }
  else if tm * ns > st.at_ then refuse 5 { s with ssm := { s.ssm with stampRej := true } }
  else if (List.range count).any fun i => 2 ≤ objType (recs.drop (32 * i)) then refuse 6 s
  else
    let fault := (uAt b 22 1).testBit 3
    let f : SensFrame := { tm := tm, fault := fault, objs := if fault then [] else objList count recs, rx := st }
    let s := { s with ssm := { s.ssm with sensors := vmd s.ssm.sensors k fun x => { x with wait := x.wait ++ [f] } } }
    if fault then raiseSens k 7 s else s

/-- A black-channel check fails: counted, and E77 (11 R344, Table 11-9). -/
def sensFail (k cause : Nat) (s : State) : State :=
  raiseSens k cause { s with ssm := { s.ssm with sensors := vmd s.ssm.sensors k fun x =>
    match cause with
    | 0 => { x with cScrc := incSat 255 x.cScrc } | 1 => { x with cId := incSat 255 x.cId }
    | 2 => { x with cSeq := incSat 255 x.cSeq, based := false } | _ => { x with cTime := incSat 255 x.cTime } } }

/-- The SSM checks a safety frame of sensor k stamped t (11 R344). -/
def sensFrame (k : Nat) (st : Stamp) (b : Bytes) (s : State) : State :=
  let t := st.at_
  let x := vrd s.ssm.sensors k
  let seq := uAt b 6 2
  let send := uAt b 8 8 * ns
  let timeOk := decide (send ≤ t) && decide (t - send < prmN s.ttc.ps Pid.SAFE_TMAX k * us)
  let aged := ageReaches (listAge x t) (2 * prmN s.ps Pid.AGE_LIMIT 0 * 1000)
  if b.length < 36 || crc32cFrom (prmN s.ps Pid.SAFE_SEED k) (b.take (b.length - 4)) != uAt b (b.length - 4) 4 then sensFail k 0 s
  else if uAt b 0 4 != prmN s.ps Pid.SAFE_ID k || uAt b 4 2 != prmN s.ps Pid.CONN k then sensFail k 1 s
  else if (x.seq = none ∨ (aged ∧ !x.based)) ∧ timeOk then
    { s with ssm := { s.ssm with sensors := vmd s.ssm.sensors k fun x =>
        { x with seq := some seq, based := true, cResync := incSat 255 x.cResync } } }
  else
    let d := match x.seq with | some q => (seq + 2 ^ 16 - q) % 2 ^ 16 | none => 1
    if d < 1 ∨ prmN s.ttc.ps Pid.SEQ_WIN k < d then sensFail k 2 s
    else if !timeOk then sensFail k 3 { s with ssm := { s.ssm with sensors := vmd s.ssm.sensors k fun x => { x with based := false } } }
    else sensAccept k st b { s with ssm := { s.ssm with sensors := vmd s.ssm.sensors k fun x => { x with seq := some seq, based := false } } }

/-- A SAFETY frame goes to the sensors configured on its value (08 R220, 11 R344). -/
def cbSafety (x : CbSlot) (st : Stamp) (pay : Bytes) (s : State) : State :=
  if x.kind ≠ 2 ∨ !x.rx then s
  else (List.range 16).foldl (fun s k =>
    if sensorOn s.ps k && prm s.ps Pid.SENS_VALUE k 0 == some (x.value : Int) then sensFrame k st pay s else s) s

/-! ### Delay calibration (R345 to R347) -/

/-- Lower median of a list, 0 of none. -/
def lowerMedian (l : List Nat) : Nat := lget (l.mergeSort (· ≤ ·)) ((l.length - 1) / 2)

/-- The CALIB frame of sender j on a channel, stamped t: one sample where the entries used are not 0 (11 R346). -/
def cbCalib (h : CbHdr) (ch : Nat) (t : Time) (pay : Bytes) (s : State) : State :=
  let i := s.node
  let c := vrd s.ttc.cal (32 * ch + h.sender)
  let txPrev := uAt pay 0 8
  let rxPrev := uAt pay (8 + 8 * i) 8
  let tx := (vrd s.ttc.ch ch).calTx.1
  let c := { c with rx := (c.rx.1, t % 2 ^ 64) }
  let put (c : CalSt) (s : State) : State := { s with ttc := { s.ttc with cal := vmd s.ttc.cal (32 * ch + h.sender) fun _ => c } }
  if txPrev = 0 ∨ rxPrev = 0 ∨ tx = 0 ∨ c.rx.1 = 0 then put c s
  else
    let a := wrapS 64 ((c.rx.1 : Int) - txPrev)
    let b := wrapS 64 ((rxPrev : Int) - tx)
    let d := (clampI 0 65535 ((a + b) / 2)).toNat
    let n := prmN s.ttc.ps Pid.CAL_N 0
    let c := { c with samples := (d :: c.samples).take n }
    if c.samples.length < n then put c s
    else
      let m := lowerMedian c.samples
      match c.told with
      | none => put { c with measured := some m, told := some m } s
      | some o =>
        if ns < ((m : Int) - o).natAbs then
          raiseEv 93 Sts.OK h.sender 0 (ch * 2 ^ 30 + 2 ^ 16 + m) (put { c with measured := some m, told := some m } s)
        else put { c with measured := some m } s

/-- The delay in use moves toward the measured one by at most 1/64 ns (11 R347). -/
def CalSt.stepTo (c : CalSt) (init : Nat) : CalSt :=
  match c.measured with
  | none => c
  | some m =>
    let u := c.inUse.getD init
    { c with inUse := some (if u < m then u + 1 else if m < u then u - 1 else u) }

/-! ### Reception -/

/-- An accepted frame: stored, checked by the SSM, sampled for calibration. -/
def cbAccept (x : CbSlot) (h : CbHdr) (ch : Nat) (st : Stamp) (b : Bytes) (s : State) : State :=
  let pay := cbPay b
  -- a frame whose store met a Ledger error counts as not accepted (15 R439)
  if s.ldg.spoiled.testBit 21 then s.unspoil 21
  else
    let s := cbSafety x st pay (cbStore x h st pay s)
    if x.kind = 3 then cbCalib h ch st.at_ pay s else s

/-- BOUNDARY of a frame's stamp at either edge of its window (01 R25). -/
def cbBoundary (s : State) (x : CbSlot) (t0 : Time) (st : Stamp) : Stamp :=
  let e := cbExpect s x t0
  let u := stampUnit st.coarse
  { st with boundary := boundaryAt st.at_ u (e - cbW s) || boundaryAt st.at_ u (e + cbW s) }

/-- Record a frame that passes every check other than WINDOW and, for a joining node, CYCLE (11 R330, R331, R334, R335). -/
def cbSee (x : CbSlot) (h : CbHdr) (j : CbJudge) (s : State) : State :=
  if j.fails.all fun f => f == 3 || f == 6 then
    { s with ttc := { s.ttc with seen := s.ttc.seen ++
      [{ slot := x.num, ch := x.ch, sender := h.sender, sync := x.sync, ok := j.fails.isEmpty, vote := j.fails.all (· == 3),
         rxVec := h.rxVec, mc := (h.mcOp, h.mcMode), dev := j.dev, typ := h.typ }] } }
  else s

/-- Sync frames received, and those that failed MODE or SCHED, by the senders of sync slots (11 Table 11-5). -/
def cbSyncCount (h : CbHdr) (j : CbJudge) (s : State) : State :=
  if j.fails.any (fun f => f == 1 || f == 2) || !(s.cbNow.any fun x => x.sync && x.sender == h.sender) then s
  else { s with ttc := { s.ttc with syncBad :=
    (s.ttc.syncBad.1 + 1, s.ttc.syncBad.2 + bit (j.fails.any fun f => f == 5 || f == 7)) } }

/-- A frame on a channel of a node that holds or seeks a grid (11 R325, R335). -/
def cbCheck (ch t : Nat) (codeErr : Bool) (b : Bytes) (s : State) : State :=
  let st := s.stampOf (36 + ch) t
  let h := cbHdrOf b
  let good := !codeErr && cbCrcGood b
  let follow := s.joining && good && cbValid s.ttc.ps h.mode && h.sig == cbSig s.ttc.ps h.mode
  let named := (cbSlots s.ttc.ps h.mode).find? fun x => x.num == h.slot && x.ch == ch
  let passes4 := match named with | some x => cbFormat x h b | none => false
  let s := if follow && passes4 then ttcTo .integrating (cbFollow h.mode t s) else s
  let x := if follow then named else cbNearest s s.cbNow s.ttc.t0 ch t
  let j := if s.joining && good && !follow then { slot := x, fails := [7] }
           else cbJudge s s.ttc.mode s.ttc.t0 st codeErr b x follow
  let s := match j.slot with
    | some x => { s with ttc := { s.ttc with matched := x.num :: s.ttc.matched } }
    | none => s
  let s := cbSyncCount h j s
  let s := match j.slot with | some x => cbSee x h j s | none => s
  match j.fails, j.slot with
  | [], some x => cbAccept x h ch (cbBoundary s x s.ttc.t0 st) b s
  | f :: _, _ => cbReject ch f h.sender s
  | [], none => s

/-! ### Cold start (R332, R333) -/

/-- Cold-start wait of the node, (NODE_ID + 1) × 8 µs. -/
def csWait (s : State) : Time := (s.node + 1) * 8 * us

/-- Raise E92 of an attempt or its outcome: 0 attempt, 1 started, 2 abandoned for another node, 3 retry, 4 given up. -/
def raiseCs (code : Nat) (s : State) : State := raiseEv 92 Sts.OK s.node 0 (code * 2 ^ 8 + s.ttc.csTries) s

/-- Activity other than the own clean frame ended at `t`: the node waits again, and after 8 attempts listens (11 R333). -/
def csFail (t : Time) (s : State) : State :=
  let n := s.ttc.csTries + 1
  let s := { s with ttc := { s.ttc with csTries := n } }
  if 8 ≤ n then
    let s := raiseCs 4 s
    ttcTo .listen { s with ttc := { s.ttc with csPhase := 0, csTries := 0, trafficAt := t } }
  else raiseCs 3 { s with ttc := { s.ttc with csPhase := 1, csDue := t + csWait s } }

/-- Traffic on an enabled channel (11 R328). -/
def cbTraffic (ch t : Nat) (s : State) : State :=
  if (vrd s.ttc.ch ch).fn = .disabled then s else { s with ttc := { s.ttc with trafficAt := max s.ttc.trafficAt t } }

/-- CB_FRAME_RECEIVED (11 R325, R328, R333, R335). -/
def execCbFrameReceived (ch t : Nat) (codeErr : Bool) (bytes : Bytes) (s : State) : Out :=
  onUnit "cell-bus channel" ch 2 <| .next <|
    let s := s.upTo t
    match s.ttc.state with
    | .off => s
    | .coldstart =>
      let own := !codeErr && cbCrcGood bytes && (cbHdrOf bytes).sender == s.node && (cbHdrOf bytes).typ == 1
      if s.ttc.csPhase = 0 ∨ own ∨ (vrd s.ttc.ch ch).fn = .disabled then s
      else csFail (t + (bytes.length + 2) * cbSym) (cbTraffic ch t s)
    | _ => cbCheck ch t codeErr bytes (cbTraffic ch t s)

/-- A COLDSTART frame the node can follow: TYPE, SLOT, LEN, and a mode it holds VALID with the same signature
(11 R332, R333, R335). -/
def coldValid (b : Bytes) (s : State) : Bool :=
  let h := cbHdrOf b
  cbCrcGood b && h.typ == 1 && h.slot == 0x1FF && h.len == 8 && b.length == 28
    && cbValid s.ttc.ps h.mode && h.sig == cbSig s.ttc.ps h.mode

/-- A node takes its deviation from a COLDSTART frame, whose E is TX_TIME + DELAY (11 R335). -/
def coldFollow (ch t : Nat) (b : Bytes) (s : State) : State :=
  let h := cbHdrOf b
  let st := s.stampOf (36 + ch) t
  let dev := wrapS 64 ((st.at_ : Int) - (uAt (cbPay b) 0 8 + cbDelay s h.sender ch : Nat))
  let s := ttcTo .integrating (cbFollow h.mode t { s with ttc := { s.ttc with csPhase := 0, csTries := 0 } })
  { s with ttc := { s.ttc with coldSeen := true, seen := s.ttc.seen ++
    [{ slot := 0x1FF, ch := ch, sender := h.sender, sync := true, ok := false, vote := false, rxVec := h.rxVec, dev := dev, typ := 1 }] } }

/-- COLDSTART_FRAME (11 R331, R333, R335): a COLDSTART frame arrives. -/
def execColdstartFrame (ch t : Nat) (bytes : Bytes) (s : State) : Out :=
  onUnit "cell-bus channel" ch 2 <| .next <|
    let s := s.upTo t
    let ok := coldValid bytes s
    let own := (cbHdrOf bytes).sender == s.node
    match s.ttc.state with
    | .off => s
    | .coldstart =>
      if s.ttc.csPhase = 0 ∨ (ok ∧ own) ∨ (vrd s.ttc.ch ch).fn = .disabled then s
      else
        let s := cbTraffic ch t s
        if ok then coldFollow ch t bytes (raiseCs 2 s) else csFail (t + (bytes.length + 2) * cbSym) s
    | .listen | .integrating =>
      let s := cbTraffic ch t s
      if ok then coldFollow ch t bytes s else cbCheck ch t false bytes { s with ttc := { s.ttc with coldSeen := true } }
    | _ => cbCheck ch t false bytes (cbTraffic ch t { s with ttc := { s.ttc with coldSeen := true } })

/-- COLDSTART_ENTRY (11 R328, R332): two cycles of STARTUP_MODE without traffic in LISTEN. -/
def execColdstartEntry (s : State) : Out :=
  .next <|
    if s.ttc.state ≠ .listen then s
    else
      let due := s.ttc.trafficAt + 2 * cbLen s.ttc.ps (prmN s.ttc.ps Pid.STARTUP_MODE 0)
      let s := s.upTo due
      if prmN s.ttc.ps Pid.COLDSTART_EN 0 = 1 ∧ s.dl.authority then
        ttcTo .coldstart { s with ttc := { s.ttc with csPhase := 1, csTries := 0, csDue := due + csWait s } }
      else { s with ttc := { s.ttc with trafficAt := due } }

/-- COLDSTART_WAIT_END (11 R332): no traffic in the wait; one COLDSTART frame on every enabled channel, then the watch. -/
def execColdstartWaitEnd (s : State) : Out :=
  .next <|
    if s.ttc.state ≠ .coldstart ∨ s.ttc.csPhase ≠ 1 then s
    else
      let s := s.upTo s.ttc.csDue
      let m := prmN s.ttc.ps Pid.STARTUP_MODE 0
      let sof := s.ttc.csDue + 9 * cbSym
      let next := nextAfter (cbLen s.ttc.ps m) sof
      let h : CbHdr := { typ := 1, len := 8, slot := 0x1FF, mode := m, sender := s.node, sig := cbSig s.ttc.ps m, cycle := cbCycle next }
      let f := cbFrame h (leBytes 8 sof)
      let s := { s with ttc := { s.ttc with
        csPhase := 2, csDue := sof + 30 * cbSym + 16 * us
        ch := vmapI s.ttc.ch fun i c => if c.fn = .enabled then { c with tx := f, txStamp := some (s.stampOf (38 + i) sof), drive := (s.ttc.csDue, sof + 31 * cbSym) } else c } }
      raiseCs 0 s

/-- COLDSTART_WATCH_END (11 R332): with its own frame clean and nothing else seen the node runs STARTUP_MODE from its
next cell-cycle start; otherwise it tries again (R333). -/
def execColdstartWatchEnd (clean : Bool) (s : State) : Out :=
  .next <|
    if s.ttc.state ≠ .coldstart ∨ s.ttc.csPhase ≠ 2 then s
    else
      let s := s.upTo s.ttc.csDue
      if !clean then csFail s.cyc.now s
      else
        let m := prmN s.ttc.ps Pid.STARTUP_MODE 0
        let g := nextAfter (cbLen s.ttc.ps m) s.cyc.now
        let s := raiseCs 1 s
        { s with
          ttc := { s.ttc with csPhase := 0, csTries := 0, csGo := some g, mode := m, len := cbLen s.ttc.ps m, t0 := g - cbLen s.ttc.ps m }
          cyc := { s.cyc with nextCell := g } }

/-! ### Transmission -/

/-- Payload of an own slot with its AGE: the latched value, or the stamps of a CALIB frame (11 R339, R345). -/
def cbPayload (x : CbSlot) (s : State) : Bytes × Nat :=
  if x.kind = 3 then
    (leBytes 8 (vrd s.ttc.ch x.ch).calTx.1
      ++ (List.range 32).flatMap fun j => leBytes 8 (vrd s.ttc.cal (32 * x.ch + j)).rx.1, 0)
  else
    let v := (s.ttc.tx.find? fun v => v.num == x.value).getD {}
    let pay := (v.out ++ List.replicate (x.len - v.out.length) 0).take x.len
    (pay, if x.kind = 1 then v.age else 0)

/-- MC_OP and MC_MODE of the frames of the cycle in progress (11 R336, R337). -/
def cbMc (m : ModeChg) : Nat × Nat :=
  match m.sending, m.answer with
  | some x, _ => (1, x)
  | none, some a => a
  | none, none => (0, 0)

/-- TTC_FRAME_TRANSMIT (11 R321 to R328): an ACTIVE node sends the frame of its slot at the action point, on a channel that
is not DISABLED. -/
def execTtcFrameTransmit (slot : Nat) (s : State) : Out :=
  onUnit "slot" slot 512 <| .next <|
    if s.ttc.state ≠ .active then s
    else match s.cbNow.find? fun x => x.num == slot && x.sender == s.node with
      | none => s
      | some x =>
        if (vrd s.ttc.ch x.ch).fn = .disabled ∨ s.ttc.sent.contains slot then s
        else
          let ap := x.ap s.ttc.t0
          let s := s.upTo ap
          let pa := cbPayload x s
          let mc := cbMc s.ttc.mc
          let h : CbHdr := { age := pa.2, typ := kindType x.kind, len := x.len, slot := slot, mode := s.ttc.mode, sender := s.node,
                             mcOp := mc.1, mcMode := mc.2, sig := cbSig s.ttc.ps s.ttc.mode, cycle := cbCycle s.ttc.t0, rxVec := s.ttc.rxVec }
          let st := s.stampOf (38 + x.ch) ap
          let s := s.mdCb x.ch fun c => { c with
            tx := cbFrame h pa.1, txStamp := some st, drive := (ap - 9 * cbSym, ap + (23 + x.len) * cbSym), calTx := if x.kind = 3 then (c.calTx.1, st.at_ % 2 ^ 64) else c.calTx }
          { s with ttc := { s.ttc with sent := slot :: s.ttc.sent } }

/-- SLOT_WINDOW_CLOSE (11 R325, R340, 01 R26): MISSING where no frame was matched, reported as the cause that follows the seven
checks where it is the first miss of its channel's cycle (notes/assumptions 83); a stored value without an accepted frame ages. -/
def execSlotWindowClose (slot : Nat) (s : State) : Out :=
  onUnit "slot" slot 512 <| .next <|
    if s.ttc.state = .off then s
    else match s.cbNow.find? fun x => x.num == slot with
      | none => s
      | some x =>
        if s.ttc.closed.contains slot then s
        else
          let s := s.upTo (cbExpect s x s.ttc.t0 + cbW s)
          let got := s.ttc.seen.any fun v => v.ok && v.slot == slot
          let s := { s with ttc := { s.ttc with
            closed := slot :: s.ttc.closed
            rx := if x.rx && !got then
                s.ttc.rx.map fun v => if v.num = x.value then { v with age := min 255 (v.age + 1) } else v
              else s.ttc.rx } }
          if s.ttc.matched.contains slot then s
          else
            let was := (vrd s.ttc.ch x.ch).rejSeen
            let s := s.mdCb x.ch fun c => { c with rejSeen := true, err := { c.err with missing := incSat 255 c.err.missing } }
            if was then s else raiseEv 90 Sts.OK x.sender 0 (x.ch * 2 ^ 30 + 8) s

/-! ### Mode change (R336, R337) -/

/-- The boundary that ends the cycle after the one in progress is a multiple of a mode's cycle length (11 R336). -/
def mcBoundary (s : State) (m : Nat) : Bool :=
  (s.ttc.t0 + 2 * s.ttc.len) % cbLen s.ttc.ps m == 0

/-- MODE_CHANGE_REQUEST (11 R336): the node's own request goes out in every frame of the cycle now beginning, when its
conditions hold. -/
def execModeChangeRequest (s : State) : Out :=
  .next <| match s.ttc.mc.want with
    | none => s
    | some (m, _) =>
      if s.ttc.state = .active && s.ttc.sent.isEmpty && s.ttc.mc.sending.isNone && s.ttc.mc.answer.isNone && m != s.ttc.mode
          && cbValid s.ttc.ps m && !s.ttc.mc.busyLast && mcBoundary s m then
        { s with ttc := { s.ttc with mc := { s.ttc.mc with sending := some m } } }
      else s

/-- End of a mode change at the node: E89 with the code of Table 11-7, and the ticket of its own request. -/
def mcEnd (code node m : Nat) (s : State) : State :=
  let s := raiseEv 89 Sts.OK node 0 (m * 2 ^ 8 + code) s
  match s.ttc.mc.want with
  | none => s
  | some (w, ticket) =>
    if w ≠ m then s
    else
      let s := { s with ttc := { s.ttc with mc := { s.ttc.mc with want := none } } }
      finishTicket ticket (match code with | 0 => Sts.OK | 1 => Sts.MC_MISSING_ECHO | 2 => Sts.MC_REFUSED | _ => Sts.MC_DEFERRED_LOST) s

/-- Decision at the close of the answering cycle (11 R337): outcome code and the node it names. -/
def mcDecide (members : List Nat) (m node : Nat) (seen : List CbSeen) : Nat × Nat :=
  let ok := seen.filter (·.ok)
  match ok.find? fun v => v.mc.1 == 3 with
  | some v => (2, v.sender)
  | none =>
    match members.find? fun n =>
      let f := ok.filter fun v => v.sender == n
      f.isEmpty || f.any fun v => v.mc != (2, m) with
    | some n => (1, n)
    | none => (0, node)

/-- Mode change at a cell-cycle close, by a node in ACTIVE, PASSIVE or STANDBY (11 R337). -/
def mcClose (s : State) : State :=
  let c := s.ttc.mc
  let ok := s.ttc.seen.filter (·.ok)
  let busy := ok.any (fun v => v.mc.1 != 0) || (!s.ttc.sent.isEmpty && (cbMc c).1 != 0)
  let s := { s with ttc := { s.ttc with mc := { c with sending := none, busyLast := busy } } }
  if c.quiet = 2 then
    let m := match c.answer with | some a => a.2 | none => s.ttc.mode
    let r := mcDecide c.members m s.node s.ttc.seen
    let s := { s with ttc := { s.ttc with mc := { s.ttc.mc with answer := none, members := [], quiet := 1 }
                                          mode := if r.1 = 0 then m else s.ttc.mode
                                          len := if r.1 = 0 then cbLen s.ttc.ps m else s.ttc.len } }
    mcEnd r.1 r.2 m s
  else if c.quiet = 1 then { s with ttc := { s.ttc with mc := { s.ttc.mc with quiet := 0 } } }
  else
    match ok.filter fun v => v.mc.1 == 1 with
    | [] => s
    | v :: vs =>
      let m := v.mc.2
      let all := vs.all fun x => x.mc.2 == m
      let echo := cbValid s.ttc.ps m && mcBoundary s m && all
      let self := if s.ttc.state = .active then [s.node] else []
      { s with ttc := { s.ttc with mc := { s.ttc.mc with
        answer := some (if echo then 2 else 3, m), quiet := 2, members := (ok.map (·.sender) ++ self).eraseDups } } }

/-- The node left ACTIVE: a request of its own that has not gone out is lost (11 Table 11-7); one whose answers it still counts
ends with them (R337). -/
def mcLeave (s : State) : State :=
  let s := match s.ttc.mc.want with
    | some (m, _) =>
      let decides := decide (s.ttc.state = .passive) || decide (s.ttc.state = .standby)
      if s.ttc.state = .active ∨ (decides ∧ (s.ttc.mc.answer.map (·.2)) = some m) then s else mcEnd 3 s.node m s
    | none => s
  if s.ttc.state = .active ∨ s.ttc.state = .passive ∨ s.ttc.state = .standby then s
  else { s with ttc := { s.ttc with mc := { s.ttc.mc with sending := none, answer := none, members := [], quiet := 0 } } }

/-! ### Cell-cycle close (R328 to R334) -/

/-- t of Table 11-6. -/
def cbTrim (k : Nat) : Nat := if k ≤ 2 then 0 else if k ≤ 7 then 1 else 2

/-- The fault-tolerant midpoint (11 R334). -/
def cbMidpoint (devs : List Int) : Int :=
  let l := devs.mergeSort (· ≤ ·)
  let t := cbTrim l.length
  (lget l t + lget l (l.length - 1 - t)) / 2

/-- The node sent a sync frame in the cycle. -/
def sentSync (s : State) : Bool := s.cbNow.any fun x => x.sync && s.ttc.sent.contains x.num

/-- Deviations of the cycle, one a sync sender, of the smaller magnitude, channel A on a tie; the node counts itself with 0
unless it is joining (11 R334, R335). -/
def cbDevs (s : State) : List Int :=
  let use := s.ttc.seen.filter fun v => v.sync && v.sender != s.node && (v.ok || s.joining)
  let one (n : Nat) : List Int :=
    match use.filter fun v => v.sender == n with
    | [] => []
    | v :: vs => [(vs.foldl (fun b x =>
        if x.dev.natAbs < b.dev.natAbs || (x.dev.natAbs == b.dev.natAbs && decide (x.ch < b.ch)) then x else b) v).dev]
  (if sentSync s && !s.joining then [0] else []) ++ (List.range 32).flatMap one

/-- RX_VEC of the cycle that closes (11 R324). -/
def cbRxVec (s : State) : Nat :=
  (List.range 32).foldl (fun acc n =>
    let own := s.cbNow.filter fun x => x.sender == n
    if !own.isEmpty && own.all fun x => s.ttc.seen.any fun v => v.ok && v.slot == x.num then acc + 2 ^ n else acc) 0

/-- The vote of a node that sent in the cycle (11 R330): lost when disagree exceeds agree. -/
def cbVoteLost (s : State) : Bool :=
  if s.ttc.sent.isEmpty then false
  else
    let syncs := (List.range 32).filter fun n => n != s.node && s.cbNow.any fun x => x.sync && x.sender == n
    let bits := syncs.filterMap fun n => (s.ttc.seen.find? fun v => v.vote && v.sender == n).map fun v => v.rxVec.testBit s.node
    decide ((bits.filter (· == true)).length + 1 < (bits.filter (· == false)).length)

/-- The cycle was full valid for the node (11 R331). -/
def cbFull (s : State) : Bool :=
  let acc := s.ttc.seen.filter fun v => v.ok && v.sync
  let syncs := (acc.map (·.sender)).eraseDups.filter (· != s.node)
  let count := syncs.length + bit (sentSync s)
  let vec := acc.foldl (fun a v => a ||| v.rxVec) 0
  !s.ttc.anyBad && !s.ttc.coldSeen && decide (prmN s.ttc.ps Pid.SYNC_MIN 0 ≤ count)
    && s.cbNow.all fun x => !vec.testBit x.sender || s.ttc.seen.any fun v => v.ok && v.slot == x.num

/-- |θ| lies below a limit in 1/64 ns; not where θ was not valid. -/
def thetaIn (t : Option Int) (lim : Time) : Bool := match t with | some v => decide (v.natAbs < lim) | none => false

/-- E94 of a channel: its number and its code of Table 11-13 (11 R342, R350). -/
def raiseCb (ch code : Nat) (s : State) : State := raiseEv 94 Sts.OK s.node 0 (ch * 2 ^ 30 + code) s

/-- Channels whose function is not `fn` any more are reported by E94. -/
def raiseCbs (was : Vector CbChan 2) (s : State) : State :=
  (List.range 2).foldl (fun s i => if (vrd was i).fn = (vrd s.ttc.ch i).fn then s
    else raiseCb i (match (vrd s.ttc.ch i).fn with | .disabled => 0 | .enabled => 1 | .shuttingDown => 2) s) s

/-- The set of the cell bus comes in force at the boundary (11 R348), and with CB_EN the node listens or stops; the length of the
cell cycle stays that of the mode in force until the mode changes (01 R12), and is the set's own where the bus begins. -/
def cbAdopt (s : State) : State :=
  let ps := s.ps
  let on := prmN ps Pid.CB_EN 0 == 1
  let s := { s with ttc := { s.ttc with ps := ps } }
  if on && decide (s.ttc.state = .off) then
    raiseCbs s.ttc.ch <| ttcTo .listen { s with ttc := { s.ttc with
      trafficAt := s.cyc.now, len := cbLen ps s.ttc.mode
      ch := vmapI s.ttc.ch fun i c => { c with
        fn := if prmN ps (if i = 0 then Pid.CH_EN_A else Pid.CH_EN_B) 0 = 1 then .enabled else .disabled } } }
  else if !on && decide (s.ttc.state ≠ .off) then
    raiseCbs s.ttc.ch <| ttcTo .off { s with ttc := { s.ttc with csPhase := 0, csGo := none, ch := vmapI s.ttc.ch fun _ c => { c with fn := .disabled } } }
  else s

/-- Entry to PASSIVE with its cause (11 Table 11-5). -/
def toPassive (cause : Nat) (s : State) : State :=
  ttcTo .passive { s with ttc := { s.ttc with passCause := cause, passCycles := 0, alone := 0 } }

/-- The state table at a cell-cycle close (11 Table 11-5); `before` is θ of the cycle before. -/
def cbState (before : Option Int) (s : State) : State :=
  let corr := prmN s.ttc.ps Pid.CORR_LIMIT 0 * ns
  match s.ttc.state with
  | .coldstart =>
    match s.ttc.csGo with
    | some g => if g ≤ s.cyc.now then ttcTo .active { s with ttc := { s.ttc with csGo := none, lostVotes := 0, modeBad := 0 } } else s
    | none => s
  | .integrating =>
    if s.ttc.full && thetaIn before (cbW s) then
      let s := { s with ttc := { s.ttc with lostVotes := 0, modeBad := 0 } }
      if s.dl.authority && decide (s.ttc.authFrom ≤ s.cyc.now) then ttcTo .active s else ttcTo .standby s
    else s
  | .active =>
    if (match s.ttc.theta with | some v => decide (corr < v.natAbs) | none => false) then
      toPassive 1 (raiseEv 91 Sts.OK s.node 0 1 s)
    else if 2 ≤ s.ttc.lostVotes then toPassive 2 s
    else if 2 ≤ s.ttc.modeBad then toPassive 3 s
    else s
  | .passive =>
    let s := { s with ttc := { s.ttc with passCycles := s.ttc.passCycles + 1 } }
    if s.ttc.full && decide (prmN s.ttc.ps Pid.PASSIVE_MIN 0 ≤ s.ttc.passCycles) && thetaIn before corr then
      ttcTo .active { s with ttc := { s.ttc with lostVotes := 0 } }
    else if 4 ≤ s.ttc.alone ∨ 2 ≤ s.ttc.modeBad then ttcTo .integrating s
    else s
  | .standby =>
    if s.dl.authority && decide (s.ttc.authFrom ≤ s.cyc.now) then
      if s.ttc.full && thetaIn s.ttc.theta corr then ttcTo .active { s with ttc := { s.ttc with lostVotes := 0 } } else ttcTo .integrating s
    else s
  | _ => s

/-- Ages of the values that the mode in force has no slot for, at a cell-cycle start (11 R340). -/
def cbNoSlot (s : State) : State :=
  let vals := (s.cbNow.filter (·.rx)).map (·.value)
  let rx := s.ttc.rx.map fun v =>
    if vals.contains v.num then { v with noSlot := false } else { v with noSlot := true, age := min 255 (v.age + 1) }
  { s with ttc := { s.ttc with rx := rx } }

/-- What is counted and measured over the cycle that closes: θ, SYNC_LOW, votes, mode failures, full validity. -/
def cbMeasure (s : State) : State :=
  let devs := cbDevs s
  let valid := decide (prmN s.ttc.ps Pid.SYNC_MIN 0 ≤ devs.length) && !devs.isEmpty
  let lost := (decide (s.ttc.state = .active) || decide (s.ttc.state = .passive)) && cbVoteLost s
  let others := s.ttc.seen.any fun v => v.ok && v.sender != s.node
  let modeFail := decide (0 < s.ttc.syncBad.1) && decide (s.ttc.syncBad.1 = s.ttc.syncBad.2)
  let was := s.ttc.syncLow
  let s := { s with ttc := { s.ttc with
    theta := if valid then some (cbMidpoint devs) else none
    syncCount := min 31 devs.length, syncLow := !valid, rxVec := cbRxVec s, full := cbFull s
    lostVotes := if lost then s.ttc.lostVotes + 1 else 0
    modeBad := if modeFail then s.ttc.modeBad + 1 else 0
    alone := if others then 0 else s.ttc.alone + 1 } }
  let s := if lost then raiseEv 91 Sts.OK s.node 0 0 s else s
  if was = s.ttc.syncLow then s else raiseEv 91 Sts.OK s.node 0 (if was then 3 else 2) s

/-- The records of a cycle give way to the next one's (11 R345 to R347). -/
def cbClear (s : State) : State :=
  { s with ttc := { s.ttc with
    seen := [], matched := [], closed := [], sent := [], anyBad := false, coldSeen := false, syncBad := (0, 0)
    ch := vmapI s.ttc.ch fun _ c => { c with rejSeen := false, calTx := (c.calTx.2, 0) }
    cal := vmapI s.ttc.cal fun i c =>
      let c := { c with rx := (c.rx.2, 0) }
      if s.ttc.applying then c.stepTo (prmN s.ttc.ps Pid.DELAY_INIT 0 i) else c } }

/-- The delays of a closed cell cycle (11 R329): they are the unit's own once it has held authority with CALIB slots in force, and
cross to a Shadow while they move. -/
def cbOwnDelays (s : State) : State :=
  let s := if s.dl.authority && s.cbNow.any (fun x => x.kind == 3) then { s with ttc := { s.ttc with calOwn := true } } else s
  if s.ttc.applying then mirDelta ledDelay 512 s else s

/-- θ of the close goes to the time base (02 R50, R52, R54, 11 R334): that of the cell bus, or in a Shadow the last one of the heartbeats. -/
def cbDeliver (tau : Time) (s : State) : State :=
  let s := if s.tb.src = 1 ∨ s.tb.src = 3 then
      match s.ttc.theta with
      | some v => tbMeasure v tau s.cyc.now s
      | none => tbMissed s
    else if s.tb.src = 4 then
      let v := s.mlc.hbTheta
      let s := { s with mlc := { s.mlc with hbTheta := none } }
      match v with | some v => tbMeasure v tau s.cyc.now s | none => tbMissed s
    else s
  tbRate s

/-- CELL_CYCLE_CLOSE (01 R10, 11 R328 to R340, R348): the boundary closes one cell cycle and starts the next. -/
def execCellCycleClose (s : State) : Out :=
  .next <|
    if !s.cyc.running then s
    else
      let s := s.upTo s.cyc.nextCell
      let tc := s.cyc.nextCell
      let tau := s.ttc.len
      let before := s.ttc.theta
      let seeks := decide (s.ttc.state ≠ .off) && decide (s.ttc.state ≠ .coldstart)
      let s := if seeks then cbMeasure s else { s with ttc := { s.ttc with theta := none } }
      let s := if s.ttc.state = .active ∨ s.ttc.state = .passive ∨ s.ttc.state = .standby then mcClose s else s
      let s := cbDeliver tau (mcLeave (cbState before s))
      let s := cbAdopt (cbOwnDelays (cbClear s))
      cbNoSlot { s with
        ttc := { s.ttc with t0 := tc }
        cyc := { s.cyc with nextCell := nextAfter s.ttc.len tc } }

/-- A channel that shuts down is DISABLED from the next cell-cycle boundary on, with E94 (11 R342, 01 Table 01-6). -/
def channelOff (ch : Nat) (s : State) : State :=
  let c := vrd s.ttc.ch ch
  if c.fn = .shuttingDown ∧ c.offAt < s.ttc.t0 then
    raiseCb ch 0 (s.mdCb ch fun c => { c with fn := .disabled })
  else s

/-- CHANNEL_DISABLED (11 R342). -/
def execChannelDisabled (ch : Nat) (s : State) : Out := onUnit "cell-bus channel" ch 2 <| .next <| channelOff ch s

end Sys2Proof.Machine
end

