-- ==== Sys2Proof/Machine/Words.lean ====
section
/-!
DEFINITION. The status words and blocks that the snapshot, the commands and BAR0 show, as numbers and bytes: the TB
register block (02 R59), AX_LANEMAP (03 R64), the axis entry of the snapshot (12 Table 12-11), DP_STAT (06 R181),
DLC_PORTSTAT and DLC_PORTERR (10 R317), the SSM and SSV words (08 R243, 09 R280), the TTC words (11 R349), MLC_PAIRSTAT
(14 R427), the Ledger words (15) and the health block (16 R465).
-/
namespace Sys2Proof.Machine

/-! ### Time base -/

/-- Code of a time-base state (02 Table 02-8). -/
def TbState.code : TbState → Nat | .free => 0 | .acquiring => 1 | .locked => 2 | .holdover => 3

/-- TB_CTRL (02 Table 02-7). -/
def TbSt.ctrl (t : TbSt) : Nat := bit t.ppsOutAlways * 128 + bit t.ppsInPol * 64 + bit t.relabelEn * 8 + t.src

/-- TB_STATUS (02 Table 02-8); RATE_CLAMP is the frequency term at ±100 ppm. -/
def TbSt.status (t : TbSt) : Nat :=
  t.ppsInRej * 2 ^ 16 + t.calChan * 2 ^ 8 + bit t.calFault * 128 + bit t.ppsInSeen * 64 + bit t.holdExceeded * 32
    + bit t.slewFastAct * 16 + bit (decide (t.freq.natAbs = 109951163)) * 8 + t.state.code

/-- The TB register block (02 Table 02-6), with the count latched by TB_NOW_FRAC. -/
def tbBlock (t : TbSt) (now : Time) : Bytes :=
  [t.ctrl, t.status, now % ns * 4, t.nowLatch % 2 ^ 32, t.nowLatch / 2 ^ 32 % 2 ^ 32, ofSigned 32 t.rate, ofSigned 32 t.theta,
   t.slewFast * 2 ^ 16 + t.slewRun, t.holdLimit * 2 ^ 16 + t.holdDrift,
   ofSigned 16 t.ppsOutComp * 2 ^ 16 + t.ppsOutWidth * 2 ^ 8].flatMap (leBytes 4)

/-! ### Axes -/

/-- Code of an axis type (03 Table 03-2). -/
def AxType.code : AxType → Nat | .servo => 0 | .stepper => 1 | .external => 2 | .virtual => 3

/-- The axis is defined in the set in force: its hard limits have a value (03 Table 03-2, R67; notes/assumptions 51). -/
def axDefined (ps : ParamSet) (n : Nat) : Bool := (prm ps Pid.V_HARD n 0).isSome

/-- AX_LANEMAP entry (03 Table 03-2). -/
def laneMap (s : State) (n : Nat) : Nat :=
  let lane := (s.laneOf n).getD (n + n / 16)
  prmN s.ps Pid.ARM n * 2 ^ 20 + prmN s.ps Pid.JOINT n * 2 ^ 16 + bit (axDefined s.ps n) * 2 ^ 15
    + bit (decide (lane ≠ n + n / 16)) * 2 ^ 14 + (axType s.ps n).code * 2 ^ 10 + lane

/-- AX_ISTAT (04 Table 04-5). -/
def axIstat (ps : ParamSet) (n : Nat) (a : AxisSt) : Nat :=
  let c := a.cur
  let w : Int × Int × Int := match axType ps n with
    | .stepper => (c.iMag, c.lam, (min c.edgeErr 65535 : Nat))
    | _ => (iMagnitude { c with id := c.idq0.1, iq := c.idq0.2 }, c.idq0.2, c.idq0.1)
  ofSigned 16 w.1 * 2 ^ 48 + ofSigned 16 w.2.1 * 2 ^ 32 + ofSigned 16 w.2.2 * 2 ^ 16 + a.istatFlags

/-- CMD of AX_LSTAT: cmd, v_ref, or the stepper's trim >> PE_SHIFT, saturated (05 Table 05-10). -/
def lstatCmd (ps : ParamSet) (n : Nat) (a : AxisSt) : Int :=
  match axType ps n with
  | .stepper => sat (asr a.loop.corr (prmN ps Pid.PE_SHIFT n))
  | _ => a.loop.cmd

/-- AX_LSTAT (05 Table 05-10). -/
def axLstat (ps : ParamSet) (n : Nat) (a : AxisSt) : Nat :=
  ofSigned 16 a.loop.eq * 2 ^ 80 + ofSigned 16 a.loop.vref * 2 ^ 64 + ofSigned 16 a.loop.vfb * 2 ^ 48
    + ofSigned 16 (lstatCmd ps n a) * 2 ^ 32 + a.loop.feCount * 2 ^ 16 + a.lstatFlags

/-- DP_KSTAT (06 Table 06-6). -/
def dpKstat (a : AxisSt) : Nat :=
  a.cur.expr % 256 * 2 ^ 24 + bit a.cur.encAmpBad * 2 ^ 17 + bit a.cur.encSlip * 2 ^ 16 + a.cur.amp % 65536

/-- Axis entry of a snapshot (12 Table 12-11). -/
def axisEntry (ps : ParamSet) (n : Nat) (a : AxisSt) : Bytes :=
  leBytes 4 a.stat ++ leBytes 2 a.flags.overCount ++ leBytes 2 0 ++ leBytes 8 (ofSigned 64 a.snap.1)
    ++ leBytes 8 (ofSigned 64 a.snap.2) ++ leBytes 8 (axIstat ps n a) ++ leBytes 12 (axLstat ps n a) ++ leBytes 4 (dpKstat a)
    ++ leBytes 16 0

/-- DP_STAT of datapath i (06 Table 06-5). -/
def dpStat (i : Nat) (d : DpSt) : Nat :=
  d.satCount * 2 ^ 24 + d.nanCount * 2 ^ 16 + i * 2 ^ 8 + bit d.retired * 4 + bit d.sat * 2 + bit d.nan

/-! ### Drive links -/

/-- DLC_PORTSTAT (10 Table 10-12). -/
def portStat (p : PortSt) : Nat :=
  let f (i : Nat) : Nat := bit (lget p.inFlags i)
  p.state.code * 2 ^ 28 + f 0 * 2 ^ 27 + f 1 * 2 ^ 26 + f 2 * 2 ^ 25 + f 3 * 2 ^ 24 + f 4 * 2 ^ 23 + bit p.linkFault * 2 ^ 22
    + bit p.rebooted * 2 ^ 21 + bit p.spare.isSome * 2 ^ 20 + min p.badRun 3 * 2 ^ 18 + p.delay

/-- DLC_PORTERR (10 Table 10-13). -/
def portErr (e : PortErr) : Nat :=
  e.crc * 2 ^ 56 + e.code * 2 ^ 48 + e.window * 2 ^ 40 + e.seq * 2 ^ 32 + e.format * 2 ^ 24 + e.missing * 2 ^ 16 + e.extra * 2 ^ 8
    + e.mismatch

/-! ### Separation monitor -/

/-- SSM_VERDICT (08 Table 08-9). -/
def ssmVerdict (a : SsmArm) : Nat :=
  let v := a.v
  dMinWord v * 2 ^ 96 + min v.sp (2 ^ 32 - 1) * 2 ^ 64 + v.obj * 2 ^ 56 + v.cap * 2 ^ 48 + v.cls * 2 ^ 44 + v.pub * 2 ^ 42 + v.raw * 2 ^ 40
    + bit a.stopReq * 2 ^ 39 + bit a.slsReq * 2 ^ 38 + bit v.stale * 2 ^ 37 + bit v.held * 2 ^ 36 + bit v.miss * 2 ^ 35

/-- SSM_STAT (08 Table 08-10). -/
def ssmStat (m : SsmSt) : Nat :=
  ((List.range 16).filter fun k => (vrd m.sensors k).stale).foldl (fun w k => w + 2 ^ (16 + k)) 0
    + bit m.coded * 2 ^ 15 + bit m.xchkFail * 2 ^ 14 + bit m.quotaRej * 2 ^ 13 + bit m.stampRej * 2 ^ 12 + bit m.stopExc * 2 ^ 11
    + m.objCount

/-- SSM_SAFECNT of a sensor (11 Table 11-9). -/
def safeCnt (x : SensorSt) : Nat := x.cResync * 2 ^ 32 + x.cTime * 2 ^ 24 + x.cSeq * 2 ^ 16 + x.cId * 2 ^ 8 + x.cScrc

/-- SSM_OBJ (08 Table 08-2); radii are held in µm, and the coordinates of a FIELD object in L. -/
def objBytes (o : ObjSt) : Bytes :=
  let cs := o.pos.map fun x => leBytes 4 (ofSigned 32 (if o.inL then asr x 4 else x))
  let capsule := decide (o.pos.take 3 ≠ o.pos.drop 3)
  let r := o.radius / 1000
  cs.flatten ++ leBytes 4 0 ++ leBytes 1 (bit capsule * 64) ++ leBytes 1 o.id ++ leBytes 2 r

/-! ### Safety supervisor -/

/-- Code of a monitored stop (09 Table 09-10). -/
def StopKind.code : StopKind → Nat
  | .none => 0 | .f1 => 1 | .f2 => 2 | .prot1 => 3 | .prot2 => 4 | .estop0 => 5 | .estop1 => 6 | .sos => 7

/-- SSV_ARM (09 Table 09-10). -/
def ssvArm (s : State) (k : Nat) : Nat :=
  let b := (s.bk k).count s.cyc.now
  let c := s.sc k
  min (b.timer / sec) (2 ^ 32 - 1) * 2 ^ 32 + b.lastTest * 2 ^ 30 + bit b.clamped * 2 ^ 29 + bit b.failed * 2 ^ 28
    + bit b.switchBad * 2 ^ 27 + bit b.noConfirm * 2 ^ 26 + bit b.due * 2 ^ 25 + bit b.overdue * 2 ^ 24 + c.stop.code * 2 ^ 20
    + bit c.slsEnv.isSome * 2 ^ 19 + bit c.envFail * 2 ^ 18 + bit b.fbh * 2 ^ 15 + bit b.fbl * 2 ^ 14 + bit b.hs * 2 ^ 13
    + bit b.ls * 2 ^ 12 + bit b.stoOut * 2 ^ 11

/-- SSV_SI (09 Table 09-11). -/
def ssvSi (s : State) : Nat :=
  maskBy 16 (fun i => siActive s i) * 2 ^ 48 + maskBy 16 (fun i => (s.sin i).fault) * 2 ^ 32
    + maskBy 8 (fun p => (vrd s.ssv.pairs p).disc) * 2 ^ 24 + maskBy 8 (fun k => vrd s.ssv.tp k) * 2 ^ 16 + s.ssv.mode.code

/-- SSV_CONFIRM (09 Table 09-7), 24 bytes; all 0 without a record. -/
def confirmBytes (c : Option ConfirmRec) : Bytes :=
  match c with
  | none => leBytes 24 0
  | some r =>
    let w := leBytes 3 0 ++ leBytes 1 r.slot ++ leBytes 4 r.eng ++ leBytes 8 r.time ++ leBytes 4 r.check
    leBytes 4 (crc32c w) ++ w

/-- An audit record (13 Table 13-11). -/
def AuditRec.bytes (r : AuditRec) : Bytes :=
  leBytes 4 0 ++ leBytes 4 r.target ++ leBytes 2 r.status ++ leBytes 2 r.opcode ++ leBytes 4 r.check ++ leBytes 4 r.eng
    ++ leBytes 4 r.number ++ leBytes 8 r.time

/-! ### Cell bus -/

/-- MC of TTC_STAT: 1 while a request is sent, 2 in an echo round (11 Table 11-13; notes/assumptions 52). -/
def ModeChg.code (m : ModeChg) : Nat := if m.answer.isSome then 2 else if m.sending.isSome then 1 else 0

/-- TTC_STAT (11 Table 11-13). -/
def ttcStat (t : TtcSt) : Nat :=
  t.state.code * 2 ^ 28 + t.mode * 2 ^ 24 + t.mc.code * 2 ^ 22 + t.passCause * 2 ^ 20 + bit t.syncLow * 2 ^ 19
    + prmN t.ps Pid.NODE_ID 0 % 32 * 2 ^ 14 + t.syncCount * 2 ^ 9 + (vrd t.ch 0).fn.code * 2 ^ 7 + (vrd t.ch 1).fn.code * 2 ^ 5

/-- TTC_CHERR (11 Table 11-14). -/
def cbErrWord (e : CbErr) : Nat :=
  e.code * 2 ^ 56 + e.crc * 2 ^ 48 + e.window * 2 ^ 40 + e.format * 2 ^ 32 + e.mode * 2 ^ 24 + e.cycle * 2 ^ 16 + e.sched * 2 ^ 8
    + e.missing

/-- TTC_RXVAL (11 Table 11-10): AGE, SENDER, NEVER, NO_SLOT, LEN and CYCLE. -/
def rxWord (v : RxVal) : Nat :=
  v.age * 2 ^ 56 + v.sender * 2 ^ 51 + bit v.never * 2 ^ 50 + bit v.noSlot * 2 ^ 49 + v.data.length * 2 ^ 32 + v.cycle

/-! ### Pair -/

/-- Age of the last successful Castling, in ms (14 R421). -/
def State.castleMs (s : State) : Nat := s.mlc.castleAge.1 + (s.cyc.now - s.mlc.castleAge.2) / ms

/-- MLC_PAIRSTAT (14 Table 14-9), 16 bytes. -/
def pairStat (s : State) : Bytes :=
  let m := s.mlc
  let w := m.shadow.code * 2 ^ 30 + m.role.code * 2 ^ 28 + m.cause * 2 ^ 25 + m.laneMask * 2 ^ 20 + bit m.eng * 2 ^ 19
    + bit m.peerEng * 2 ^ 18 + m.staleCount * 2 ^ 8 + m.mismatchCount
  leBytes 4 w ++ leBytes 4 (min (s.castleMs / 60000) (2 ^ 32 - 1)) ++ leBytes 4 s.dl.epoch ++ leBytes 4 m.peerCheck

/-! ### Ledger -/

/-- ARB_REQCFG (15 Table 15-3). -/
def reqCfg (r : ReqSt) : Nat := bit r.sbEn * 2 ^ 17 + bit r.ghEn * 2 ^ 16 + r.ghLimit
/-- ARB_STAT (15 Table 15-4). -/
def arbStat (r : ReqSt) : Nat := r.holdCuts * 2 ^ 24 + r.kMax * 2 ^ 20 + bit r.masked * 2 ^ 19 + bit r.protViol * 2 ^ 18
/-- LDG_BANKMAP (15 Table 15-1). -/
def bankMap (b : BankSt) : Nat := bit b.filling * 128 + b.phys
/-- LDG_BANKSTAT (15 Table 15-5). -/
def bankStat (b : BankSt) : Nat := min b.corr 65535 * 2 ^ 48 + min b.uncorr 255 * 2 ^ 40 + b.claim * 2 ^ 16
/-- LDG_LOCK (15 Table 15-6). -/
def lockWord (l : LockSt) : Nat :=
  l.state * 2 ^ 30 + l.relBad * 2 ^ 24 + l.lease * 2 ^ 8 + (if l.state = 1 then l.owner else 0)

/-! ### Health -/

/-- Code of a unit state (16 Table 16-10). -/
def UState.code : UState → Nat | .inService => 0 | .spare => 1 | .suspect => 2 | .retired => 3

/-- Glints of a unit within the window (16 Table 16-10). -/
def UnitSt.recent (ps : ParamSet) (now : Time) (u : UnitSt) : Nat :=
  (u.glints.filter fun t => decide (now < t + prmN ps Pid.GLINT_WINDOW 0 * 86400 * sec)).length

/-- HLT_UNIT (16 Table 16-10). -/
def unitWord (ps : ParamSet) (now : Time) (u : UnitSt) : Nat :=
  u.cls * 2 ^ 28 + u.idx * 2 ^ 21 + u.st.code * 2 ^ 19 + min (u.recent ps now) 255 * 2 ^ 11 + u.serves * 2 ^ 4

/-- Free board spare ports (16 Table 16-8). -/
def dlSpareFree (s : State) : Nat :=
  ((List.range 4).filter fun e =>
    let p := prmN s.ps Pid.SPARE_PORT 0 e
    decide (p < 36) && !((vlist s.dl.ports).any fun x => x.spare == some p)).length

/-- HLT_SUMMARY (16 Table 16-8), 16 bytes. -/
def healthSummary (s : State) : Bytes :=
  let h := s.hlt
  let glints := (h.units.map fun u => u.recent s.ps s.cyc.now).foldl (· + ·) 0
  let free (c : Nat) : Nat := (s.spares c).length
  let dpMin := ((List.range 4).map s.dpWorking).foldl min 4
  let slices := ((List.range 41).filter fun i => h.slices.testBit i).length
  let lo := (free 0) * 2 ^ 53 + min (free 2) 1 * 2 ^ 52 + (free 3) * 2 ^ 50 + min (free 4) 1 * 2 ^ 49 + min (free 5) 1 * 2 ^ 48
    + dlSpareFree s * 2 ^ 45 + s.roverPlaces * 2 ^ 43 + dpMin * 2 ^ 40 + slices * 2 ^ 34 + min glints 255 * 2 ^ 56
  leBytes 8 lo ++ leBytes 1 h.fuses.repairs.length
    ++ leBytes 1 (h.marginDom % 32 * 8 + bit h.tempoWarn * 4 + bit h.pmbusFail * 2 + bit h.sealEx)
    ++ leBytes 2 (ofSigned 16 h.marginMin) ++ leBytes 2 (ofSigned 16 h.tj) ++ leBytes 2 h.vdd

/-- HLT_TEMPO of domain d (16 Table 16-9). -/
def tempoWord (h : HltSt) (d : Nat) : Nat :=
  ofSigned 16 (lget h.margins d) * 2 ^ 16 + d * 2 ^ 6 + bit (h.low.testBit d) * 2 + bit (h.missProj.testBit d)

/-- The health block by INDEX (16 R465). -/
def healthBlock (s : State) (i : Nat) : Option Bytes :=
  match i with
  | 0 => some (healthSummary s)
  | 1 => some ((List.range 22).flatMap fun d => leBytes 4 (tempoWord s.hlt d))
  | 2 => some ((s.hlt.units.take 280).flatMap fun u => leBytes 4 (unitWord s.ps s.cyc.now u))
  | 3 => some ((List.range 96).flatMap fun r => leBytes 4 (s.hlt.fuses.repairs.getD r 0))
  | 4 => some ((vlist s.ldg.reqs).flatMap (fun r => leBytes 4 (reqCfg r)) ++ (vlist s.ldg.reqs).flatMap (fun r => leBytes 4 (arbStat r))
          ++ s.ldg.table.flatMap (leBytes 1) ++ s.ldg.rank.flatMap (leBytes 1))
  | 5 => some ((vlist s.ldg.banks).flatMap (fun b => leBytes 1 (bankMap b)) ++ (vlist s.ldg.banks).flatMap fun b => leBytes 8 (bankStat b))
  | 6 => some ((vlist s.ldg.locks).flatMap fun l => leBytes 4 (lockWord l))
  | _ => none

end Sys2Proof.Machine
end

