-- ==== Sys2Proof/Machine/SetCheck.lean ====
section
/-!
DEFINITION. CLOSE_SET's judgement of a transaction (09 R272, R492, 12 R373): the serialisation, the range of every value
(03 R67 and the tables of each chapter), the values that must be set, and the rules that tie parameters together.
A refusal names its status and the first failing record in the order of R272.
-/
namespace Sys2Proof.Machine

/-- A failing record of a set: its status and its key (13 R375). -/
structure SetErr where
  status : Nat := 0
  pid : Nat := 0
  inst : Nat := 0
  sub : Nat := 0
  deriving DecidableEq, Repr, Inhabited

/-- Place of a failing record in the order of R272. -/
def SetErr.key (e : SetErr) : Nat := e.pid * 65536 + e.inst * 256 + e.sub

/-- The failure that comes first in the order of R272. -/
def firstErr : List SetErr → Option SetErr
  | [] => none
  | e :: es => match firstErr es with
    | none => some e
    | some f => if f.key < e.key then some f else some e

/-- A judged set: refused, or the records of the part in normal form. -/
inductive Checked where
  | bad (e : SetErr)
  | good (part : ParamSet)
  deriving DecidableEq, Repr

/-! ### Serialisation (09 R272) -/

/-- The records of a serialisation, or the first at which it breaks R272: too short, not in ascending order, a LEN that is
neither 0 nor the parameter's width, or bytes left over. -/
def parseRecs : Nat → Nat → Bytes → List ParamRec → Checked
  | 0, _, b, acc => if b.isEmpty then .good acc.reverse else
      .bad { status := Sts.BAD_PAYLOAD, pid := uAt b 0 2, inst := uAt b 2 1, sub := uAt b 3 1 }
  | n + 1, next, b, acc =>
    let r : ParamRec := { pid := uAt b 0 2, inst := uAt b 2 1, sub := uAt b 3 1, val := slice b 6 (uAt b 4 2) }
    let len := uAt b 4 2
    let wide := match findDef r.pid with | some d => len = 0 || len = d.width | none => decide (len ≤ 4096)
    if b.length < 6 || b.length < 6 + len || recKey r < next || !wide then
      .bad { status := Sts.BAD_PAYLOAD, pid := r.pid, inst := r.inst, sub := r.sub }
    else parseRecs n (recKey r + 1) (b.drop (6 + len)) (r :: acc)

/-- Read a serialisation; a broken header names no record. -/
def parseSet (b : Bytes) : Checked :=
  if b.length < 8 || uAt b 0 4 != 0x53464C46 || uAt b 4 2 != 1 then .bad { status := Sts.BAD_PAYLOAD }
  else parseRecs (uAt b 6 2) 0 (b.drop 8) []

/-! ### One value -/

/-- A gain (M, E) within 13 R384: M to 32 767, E to 15. -/
def gainOk (b : Bytes) : Bool := decide (uAt b 0 2 ≤ 32767) && decide (uAt b 2 1 ≤ 15)

/-- A TTC_SLOT word within 11 Table 11-4. -/
def slotOk (w : Nat) : Bool :=
  let x := cbSlotOf 0 w
  decide (x.kind ≤ 3) && decide (x.len ≤ 2112) && (x.kind != 3 || x.len == 264)

/-- CAR_DIR is 0 or a unit vector to 2^-18 (08 Table 08-8). -/
def dirOk (b : Bytes) : Bool :=
  let x := sAt b 0 4
  let y := sAt b 4 4
  let z := sAt b 8 4
  let q := x * x + y * y + z * z
  decide (q = 0) || decide ((2 ^ 30 - 2 ^ 12 : Int) ^ 2 ≤ q) && decide (q ≤ (2 ^ 30 + 2 ^ 12 : Int) ^ 2)

/-- The res fields of a composite value are 0 (13 R376, R384). -/
def resOk (pid : Nat) (b : Bytes) : Bool :=
  if [Pid.KP, Pid.KVFF, Pid.KV, Pid.KI, Pid.KAFF, Pid.LA_GV, Pid.LA_GT].contains pid then uAt b 3 1 == 0
  else if [Pid.NOTCH1, Pid.NOTCH2, Pid.LOWPASS].contains pid then decide (uAt b 0 2 ≤ 1)
  else if [Pid.CAPSULE, Pid.FIELD].contains pid then uAt b 1 3 == 0 && uAt b 30 2 == 0
  else if pid = Pid.MODE then uAt b 0 4 / 16 == 0
  else if pid = Pid.SLOT then (words64 64 b).all fun w => w / 2 ^ 9 % 2 ^ 15 == 0
  else true

/-- A value that its own entry restricts beyond a plain range. -/
def oddOk (pid : Nat) (v : Int) (b : Bytes) : Bool :=
  if pid = Pid.ARM then decide (v ≤ 7) || decide (v = 15)
  else if pid = Pid.STEPS then decide (v % 4 = 0)
  else if pid = Pid.STEP_INC then decide (v ≠ 0)
  else if pid = Pid.PLAN_PERIOD then decide (v = 500) || decide (v = 1000) || decide (v = 2000)
  else if pid = Pid.BK_OUT || pid = Pid.STO_OUT then decide (v ≤ 7) || decide (v = 255)
  else if pid = Pid.CARRIER then decide (v ≤ 63) || decide (v = 255)
  else if pid = Pid.SPARE_PORT then decide (v ≤ 35) || decide (v = 255)
  else if pid = Pid.SPARE_LIST then b.all fun x => decide (x.toNat < 36) || decide (x.toNat = 255)
  else if pid = Pid.SPARE_SEL then b.all fun x => decide (x.toNat < 16) || decide (x.toNat = 255)
  else if pid = Pid.COUPLE_LIST then
    b == [0xFF, 0xFF] || decide (uAt b 0 1 < 8) && decide (uAt b 1 1 < 24)
  else if [Pid.KP, Pid.KVFF, Pid.KV, Pid.KI, Pid.KAFF, Pid.LA_GV, Pid.LA_GT].contains pid then gainOk b
  else if pid = Pid.QFMT then b.all fun x => decide (1 ≤ x.toNat) && decide (x.toNat ≤ 31)
  else if pid = Pid.CAR_DIR then dirOk b
  else if pid = Pid.CAPSULE then decide (uAt b 0 1 ≤ 13)
  else if pid = Pid.MODE then decide (uAt b 0 4 % 8 ≤ 4)
  else if pid = Pid.SLOT then (words64 64 b).all slotOk
  else true

/-- What is wrong with one record's value on its own: OK, or its status (03 R67, 05 R141, 13 R383, R384). An empty value
stands only where the parameter has no default of its own. -/
def valueStatus (r : ParamRec) : Nat :=
  match findDef r.pid with
  | none => Sts.UNKNOWN_PID
  | some d =>
    if d.inst.count ≤ r.inst || d.subs ≤ r.sub then Sts.OUT_OF_RANGE
    else if r.val.isEmpty then
      match d.dflt with | .unset => Sts.OK | .derived => Sts.OK | _ => Sts.BAD_PAYLOAD
    else if r.val.length != d.width then Sts.BAD_PAYLOAD
    else if !resOk r.pid r.val then Sts.BAD_PAYLOAD
    else
      let v := numOf d r.val
      if v < d.lo || d.hi < v || !oddOk r.pid v r.val then Sts.OUT_OF_RANGE
      else if [Pid.NOTCH1, Pid.NOTCH2, Pid.LOWPASS].contains r.pid && biquadUnstable r.val then Sts.UNSTABLE_FILTER
      else Sts.OK

/-- A record's failure with its key. -/
def ParamRec.err (r : ParamRec) (status : Nat) : SetErr := { status := status, pid := r.pid, inst := r.inst, sub := r.sub }

/-- Failure of one record in a set of a part: a parameter of the other part belongs to no such set (13 R385). -/
def recordErr (safety : Bool) (r : ParamRec) : List SetErr :=
  let st := valueStatus r
  let part := match findDef r.pid with | some d => d.safety | none => safety
  if st = Sts.UNKNOWN_PID then [r.err st]
  else if part != safety then [r.err (if part then Sts.SAFETY_PARAM else Sts.BAD_PAYLOAD)]
  else if st = Sts.OK then [] else [r.err st]

/-- Normal form of a part: no record that only repeats its default, none without value (09 R492). -/
def normalSet (ps : ParamSet) : ParamSet :=
  ps.filter fun r => !r.val.isEmpty && prmB [] r.pid r.inst r.sub != some r.val

/-! ### Values that must be set (03 R67, R492) -/

/-- Keys of a part that must have a value in a set. -/
def mustSet (ps : ParamSet) (safety : Bool) : List (Nat × Nat × Nat) :=
  let each (l : List Nat) (pids : List Nat) : List (Nat × Nat × Nat) := l.flatMap fun i => pids.map fun p => (p, i, 0)
  let axesOf (f : AxType → Bool) : List Nat := (List.range 64).filter fun n => f (axType ps n)
  let arms := (List.range 8).filter fun k => !(armAxes ps k).isEmpty
  if safety then
    each (List.range 64) [Pid.V_HARD, Pid.A_HARD, Pid.D_HARD, Pid.J_HARD]
      ++ each (axesOf fun t => decide (t ≠ .virtual)) [Pid.BK_TEST_I, Pid.SS_DECEL]
      ++ (let on := (List.range 8).filter fun k => prmN ps Pid.SSM_EN k == 1
          each on [Pid.Z_R, Pid.V_CAP_MAX] ++ on.flatMap fun k => (List.range 8).map fun c => (Pid.STOP_TABLE, k, c))
      ++ each ((List.range 16).filter fun k => prmN ps Pid.OBJ_QUOTA k != 0)
          [Pid.C_INTR, Pid.Z_D, Pid.FIELD, Pid.SAFE_ID, Pid.CONN, Pid.SAFE_SEED, Pid.SENS_VALUE]
      ++ each ((List.range 36).filter fun p => prmN ps Pid.PORT_EN p == 1) [Pid.POS_CODE]
  else
    each (axesOf fun t => decide (t = .stepper)) [Pid.S_ON_NOM, Pid.S_FAST_NOM, Pid.S_SLOW_NOM, Pid.R_PH, Pid.L_PH]
      ++ each (axesOf fun t => decide (t = .servo)) [Pid.L_D, Pid.L_Q, Pid.PSI_PM]
      ++ each arms [Pid.RHO, Pid.SIGMA, Pid.W_SL, Pid.W_SQ, Pid.WS_RADIUS]
      ++ (arms.flatMap fun k => (List.range (armAxes ps k).length).flatMap fun j =>
          [Pid.W_Q, Pid.W_V, Pid.W_A, Pid.I_J, Pid.G, Pid.PHI, Pid.TAU_MAX].map fun p => (p, k, j))
      ++ (if prmN ps Pid.CB_EN 0 == 1 then [(Pid.NODE_ID, 0, 0)] else [])

/-- Values a part lacks. -/
def lackErrs (ps : ParamSet) (safety : Bool) : List SetErr :=
  (mustSet ps safety).filterMap fun (p, i, j) =>
    if (prmB ps p i j).isSome then none else some { status := Sts.OUT_OF_RANGE, pid := p, inst := i, sub := j }

/-- A whole SAFETY serialisation leaves out records: one that must have a value is OUT_OF_RANGE, any other breaks the
record count of R272 (09 R492). -/
def missingErrs (recs : ParamSet) (must : List (Nat × Nat × Nat)) : List SetErr :=
  (setRecords [] true).filterMap fun r =>
    if (findRec recs r.pid r.inst r.sub).isSome || must.contains (r.pid, r.inst, r.sub) then none else some (r.err Sts.BAD_PAYLOAD)

/-! ### Rules that tie parameters together -/

/-- A condition on two values, false while either is missing. -/
def both (a b : Option Int) (f : Int → Int → Bool) : Bool :=
  match a, b with | some x, some y => f x y | _, _ => false

/-- A failure under a condition. -/
def errIf (c : Bool) (status pid inst : Nat) (sub : Nat := 0) : List SetErr :=
  if c then [{ status := status, pid := pid, inst := inst, sub := sub }] else []

/-- Rules of one axis (03 R67, R68, 04 R129, 05 Table 05-8, 06 R180, 09 R267). -/
def axisErrs (ps : ParamSet) (n : Nat) : List SetErr :=
  let v (p : Nat) : Option Int := prm ps p n 0
  let gt (a b : Nat) : Bool := both (v a) (v b) fun x y => decide (x > y)
  let ge (a b : Nat) : Bool := both (v a) (v b) fun x y => decide (x ≥ y)
  errIf (gt Pid.VMAX Pid.V_HARD) Sts.ABOVE_HARD_LIMIT Pid.VMAX n
    ++ errIf (gt Pid.AMAX Pid.A_HARD) Sts.ABOVE_HARD_LIMIT Pid.AMAX n
    ++ errIf (gt Pid.DMAX Pid.D_HARD) Sts.ABOVE_HARD_LIMIT Pid.DMAX n
    ++ errIf (gt Pid.JMAX Pid.J_HARD) Sts.ABOVE_HARD_LIMIT Pid.JMAX n
    ++ errIf (both (v Pid.HOME_V) (v Pid.V_HARD) fun h x => decide (h > x / 16)) Sts.OUT_OF_RANGE Pid.HOME_V n
    ++ errIf (both (v Pid.VEL_FS) (v Pid.V_HARD) fun f x => decide (f < x) || decide (f > 8 * x)) Sts.OUT_OF_RANGE Pid.VEL_FS n
    ++ errIf (ge Pid.SOFT_LO Pid.SOFT_HI) Sts.OUT_OF_RANGE Pid.SOFT_LO n
    ++ errIf ((decide (axType ps n = .servo) || decide (axType ps n = .external)) && !hasEnc ps n) Sts.OUT_OF_RANGE Pid.ENC_PERIODS n
    ++ errIf (ge Pid.HOME_BACKOFF Pid.HOME_TRAVEL) Sts.OUT_OF_RANGE Pid.HOME_BACKOFF n
    ++ errIf ((axArm ps n).isNone && prmN ps Pid.JOINT n != 0) Sts.OUT_OF_RANGE Pid.JOINT n
    ++ errIf (ge Pid.I_CEIL Pid.I_TRIP || ge Pid.I_MAX Pid.I_TRIP) Sts.OUT_OF_RANGE Pid.I_TRIP n
    ++ errIf (gt Pid.I_HOLD Pid.I_CEIL) Sts.OUT_OF_RANGE Pid.I_HOLD n
    ++ errIf (gt Pid.I_FLOOR Pid.I_CEIL) Sts.OUT_OF_RANGE Pid.I_FLOOR n
    ++ errIf (ge Pid.ENC_AMP_MIN Pid.ENC_AMP_MAX) Sts.OUT_OF_RANGE Pid.ENC_AMP_MIN n
    ++ errIf (gt Pid.SS_DECEL Pid.DMAX) Sts.BELOW_SAFE_DECEL Pid.DMAX n

/-- An axis whose JOINT breaks the numbering of its arm: a joint named twice, or one above a gap (03 R68). -/
def jointErrs (ps : ParamSet) (k : Nat) : List SetErr :=
  let l := (List.range 64).filter fun n => axArm ps n == some k
  let j (n : Nat) : Nat := prmN ps Pid.JOINT n
  l.flatMap fun n =>
    errIf (l.any (fun m => decide (m < n) && j m == j n) || decide (j n ≥ 1) && !l.any (fun m => j m + 1 == j n))
      Sts.OUT_OF_RANGE Pid.JOINT n

/-- 90 % of the solve window in MACs at 25 × 10^9 a second: 0.9 × 25 000 × (P − 65.625) (07 R212). -/
def macsLimit (p : Nat) : Nat := (p * 1000 - 65625) * 225 / 10

/-- Rules of one arm (07 Table 07-8, R198, R207, R212, 08 R217, R240, Table 08-8). -/
def armErrs (ps : ParamSet) (k : Nat) : List SetErr :=
  let axes := armAxes ps k
  let v (p : Nat) : Option Int := prm ps p k 0
  let p := prmN ps Pid.PLAN_PERIOD k
  let car := prmN ps Pid.CARRIER k
  -- VMAX / D_HARD in µs: (v / 2^16) / (d / 2^12) s
  let worst : Rat := rmax (axes.map fun a =>
    if prmI ps Pid.D_HARD a ≤ 0 then 0 else ((prmI ps Pid.VMAX a * 1000000 : Int) : Rat) / ((16 * prmI ps Pid.D_HARD a : Int) : Rat))
  let span : Rat := ((prmN ps Pid.HORIZON_N k * prmN ps Pid.KNOT_M k * 125 : Nat) : Rat) / 2
  let fm := classFormats ps k
  let stored : Option Bytes := match findDef Pid.QFMT with | some d => Machine.stored ps d k 0 | none => none
  let tab := (List.range 8).map fun c => prmB ps Pid.STOP_TABLE k c
  let falls (o : Nat) : Nat → Bool := fun c => match lget tab c, lget tab (c + 1) with
    | some a, some b => decide (uAt b o 4 < uAt a o 4) | _, _ => false
  jointErrs ps k
    ++ errIf (both (v Pid.DIST_ACTIVE) (v Pid.D_SEP) fun x y => decide (x < y)) Sts.OUT_OF_RANGE Pid.DIST_ACTIVE k
    ++ (if axes.isEmpty then [] else
        errIf (decide ((((prmN ps Pid.FALLBACK_DEPTH k + 1) * p : Nat) : Rat) + worst > span)) Sts.OUT_OF_RANGE Pid.FALLBACK_DEPTH k
          ++ errIf (decide (armMacs ps k > macsLimit p)) Sts.SOLVE_TOO_LONG Pid.ADMM_K k
          ++ errIf (plannerSet ps k && (fm.any (fun m => decide (m > 31)) ||
              (match stored with | some b => b.map (·.toNat) != fm | none => false))) Sts.OUT_OF_RANGE Pid.QFMT k)
    ++ (List.range 24).flatMap (fun c => errIf (decide (uAt (prmR ps Pid.CAPSULE k c) 0 1 > axes.length + 1))
          Sts.OUT_OF_RANGE Pid.CAPSULE k c)
    ++ (if prmN ps Pid.SSM_EN k != 1 then [] else
        (List.range 7).flatMap (fun c => errIf (falls 0 c || falls 4 c) Sts.STOP_TABLE_ORDER Pid.STOP_TABLE k (c + 1))
          ++ errIf (!(axes ++ (if car < 64 then [car] else [])).all fun a => encAbs ps a && hasEnc ps a) Sts.SSM_NOT_ABSOLUTE Pid.SSM_EN k)

/-- The axis of a slot fits its KIND (10 R316). -/
def kindFits (ps : ParamSet) (kind : Nat) (axis : Option Int) : Bool :=
  match axis with
  | none => false
  | some a =>
    let n := a.toNat
    match kind with
    | 1 => decide (axType ps n = .stepper)
    | 2 => decide (axType ps n = .servo)
    | 3 => decide (axType ps n = .external) && prmN ps Pid.EXT_MODE n == 0
    | 4 => decide (axType ps n = .external) && prmN ps Pid.EXT_MODE n == 1
    | _ => true

/-- Rules of one port (10 R316, HOLD_N of a pair). -/
def portErrs (ps : ParamSet) (p : Nat) : List SetErr :=
  if prmN ps Pid.PORT_EN p != 1 then [] else
    errIf (prmN ps Pid.KIND0 p != 0 && !kindFits ps (prmN ps Pid.KIND0 p) (prm ps Pid.AXIS0 p 0)) Sts.OUT_OF_RANGE Pid.KIND0 p
      ++ errIf (prmN ps Pid.KIND1 p != 0 && !kindFits ps (prmN ps Pid.KIND1 p) (prm ps Pid.AXIS1 p 0)) Sts.OUT_OF_RANGE Pid.KIND1 p
      ++ errIf (prmN ps Pid.PAIR_EN 0 == 1 && decide (prmN ps Pid.HOLD_N p < 13)) Sts.OUT_OF_RANGE Pid.HOLD_N p

/-- Entries of a spare field that are used, with the entry they stand in. -/
def spareUses (ps : ParamSet) (pid : Nat) : List (Nat × Nat) :=
  (List.range 4).flatMap fun e => ((prmR ps pid 0 e).filter fun b => b != 0xFF).map fun b => (e, b.toNat)

/-- A value that stands in two places: the entry of the later one. -/
def repeated : List (Nat × Nat) → List Nat → Option Nat
  | [], _ => none
  | (e, x) :: r, seen => if seen.contains x then some e else repeated r (x :: seen)

/-- Rules of the safe inputs and of the SSV values given once (09 R260 to R262, R279, 08 R220, 10 R313, 14 R426,
16 R467). -/
def unitErrs (ps : ParamSet) : List SetErr :=
  let v (p : Nat) : Nat := prmN ps p 0
  let i (p n : Nat) : Nat := prmN ps p n
  errIf (decide (v Pid.BK_ENGAGE < v Pid.BK_SETTLE)) Sts.OUT_OF_RANGE Pid.BK_ENGAGE 0
    ++ errIf (decide (v Pid.BK_RELEASE < v Pid.BK_SETTLE)) Sts.OUT_OF_RANGE Pid.BK_RELEASE 0
    ++ errIf (decide (8 * (v Pid.TP_WIDTH + v Pid.TP_DELAY) > v Pid.TP_PERIOD * 1000)) Sts.OUT_OF_RANGE Pid.TP_WIDTH 0
    ++ errIf (decide (v Pid.SI_FILTER ≤ v Pid.TP_WIDTH + 2 * v Pid.TP_DELAY)) Sts.OUT_OF_RANGE Pid.SI_FILTER 0
    ++ (List.range 8).flatMap (fun p =>
        let a := 2 * p
        let b := 2 * p + 1
        let da := i Pid.SI_MODE a == 1
        let db := i Pid.SI_MODE b == 1
        errIf (da != db) Sts.OUT_OF_RANGE Pid.SI_MODE (if da then a else b)
          ++ errIf (da && db && i Pid.SI_FUNC a != i Pid.SI_FUNC b) Sts.OUT_OF_RANGE Pid.SI_FUNC b
          ++ errIf (da && db && i Pid.SI_ARMS a != i Pid.SI_ARMS b) Sts.OUT_OF_RANGE Pid.SI_ARMS b
          ++ errIf (da && db && i Pid.SI_TP a == i Pid.SI_TP b) Sts.SI_TP_SAME Pid.SI_TP b)
    ++ errIf (decide (((List.range 16).map fun k => i Pid.OBJ_QUOTA k).foldl (· + ·) 0 > 64)) Sts.OUT_OF_RANGE Pid.OBJ_QUOTA 0
    ++ (match repeated (spareUses ps Pid.SPARE_LIST) [] with
        | some e => errIf true Sts.OUT_OF_RANGE Pid.SPARE_LIST 0 e | none => [])
    ++ (match repeated (spareUses ps Pid.SPARE_SEL) [] with
        | some e => errIf true Sts.OUT_OF_RANGE Pid.SPARE_SEL 0 e | none => [])
    ++ errIf (decide (v Pid.CASTLE_LEAD ≥ v Pid.CASTLE_INTERVAL)) Sts.OUT_OF_RANGE Pid.CASTLE_LEAD 0
    ++ errIf (decide (v Pid.M_LOW ≥ v Pid.M_HIGH)) Sts.OUT_OF_RANGE Pid.M_LOW 0
    ++ errIf (decide (v Pid.CORR_LIMIT > v Pid.ACCEPT_W)) Sts.OUT_OF_RANGE Pid.CORR_LIMIT 0
    ++ errIf (v Pid.CB_EN == 1 && !cbValid ps (v Pid.STARTUP_MODE)) Sts.OUT_OF_RANGE Pid.STARTUP_MODE 0

/-- Slots in the order of their action points. -/
def slotsInOrder (l : List CbSlot) : List CbSlot := l.mergeSort fun a b => decide (a.off ≤ b.off)

/-- Pairs of neighbours. -/
def neighbours {α : Type} : List α → List (α × α)
  | a :: b :: r => (a, b) :: neighbours (b :: r)
  | _ => []

/-- Conditions of a VALID mode (11 R327), in ns. -/
def modeErrs (ps : ParamSet) (m : Nat) : List SetErr :=
  if !cbValid ps m then [] else
    let w := prmN ps Pid.ACCEPT_W 0
    let pm := prmN ps Pid.PROP_MAX 0
    let g := 2 * w + pm
    let l := cbSlots ps m
    let err (c : Bool) (x : CbSlot) : List SetErr := errIf c Sts.OUT_OF_RANGE Pid.SLOT m (x.num / 64)
    let fin (x : CbSlot) : Nat := 32 * x.off + (23 + x.len) * 32 + g
    (List.range 2).flatMap (fun c =>
      let o := slotsInOrder (l.filter fun x => x.ch == c)
      (neighbours o).flatMap (fun (p, q) => err (decide (32 * q.off < fin p + 288)) q)
        ++ (match o.head? with | some x => err (decide (32 * x.off < 288 + w + pm)) x | none => [])
        ++ o.flatMap fun x => err (decide (fin x + 16000 > cbLen ps m / ns)) x)
      ++ l.flatMap (fun x => err (x.sync && x.kind != 1) x
          ++ err (x.sync && l.any fun y => decide (y.num < x.num) && y.sync && y.sender == x.sender && y.ch == x.ch) x
          ++ err (l.any fun y => decide (y.num < x.num) && y.value == x.value) x)

/-- Every rule that ties parameters of a set together. -/
def crossErrs (ps : ParamSet) : List SetErr :=
  (List.range 64).flatMap (axisErrs ps) ++ (List.range 8).flatMap (armErrs ps) ++ (List.range 36).flatMap (portErrs ps)
    ++ unitErrs ps ++ (List.range 16).flatMap (modeErrs ps)

/-! ### CLOSE_SET -/

/-- The part that a transaction closes to: written SAFETY segments replace the base whole, OPERATIONAL records lie over
it, and a transaction without segments takes its base as it stands (12 R373). `rest` is the other part in force. -/
def closeCheck (safety : Bool) (base rest : ParamSet) (raw : Bytes) : Checked :=
  match (if raw.isEmpty then Checked.good [] else parseSet raw) with
  | .bad e => .bad e
  | .good recs =>
    let part := normalSet (if raw.isEmpty then base else if safety then recs else mergeSets base recs)
    let whole := mergeSets rest part
    let lacks := lackErrs whole safety
    let errs := recs.flatMap (recordErr safety) ++ lacks
      ++ (if safety && !raw.isEmpty then missingErrs recs (lacks.map fun e => (e.pid, e.inst, e.sub)) else [])
    match firstErr (errs ++ if errs.isEmpty then crossErrs whole else []) with
    | some e => .bad e
    | none => .good part

end Sys2Proof.Machine
end

