-- ==== Sys2Proof/Machine/FwBase.lean ====
section
/-!
DEFINITION. How the firmware runs a command (13 R375 to R380): the checks of R377 in their order, sessions and their leases
(12 R369, R371, Table 12-16), and the frame of a command given on a channel. A command answers with a response, or with
none while its response waits for its effect (R378).
-/
namespace Sys2Proof.Machine

/-- What a command does: its response, none where it waits for the effect (13 R378), and the state after it. -/
abbrev FwRes := Option Rsp × State

/-- A refusal or a plain OK. -/
def rspOf (status : Nat) : Rsp := { status := status }

/-- An OK response with fields. -/
def okRsp (body : Bytes := []) (bulk : Bytes := []) : Rsp := { status := Sts.OK, body := body, bulk := bulk }

/-- ACCEPTED with its ticket and the fields after "T:" (13 R375). -/
def acceptedRsp (ticket : Nat) (body : Bytes := []) : Rsp := { status := Sts.ACCEPTED, body := leBytes 4 ticket ++ body }

/-! ### The checks of R377 -/

/-- The States letters of a command (13 R377): F, A, O with its scope, C; `life`: it is served outside FIELD too (16 R464). -/
structure Letters where
  f : Bool := false
  a : Bool := false
  o : Option Nat := none
  c : Bool := false
  life : Bool := false
  deriving DecidableEq, Repr, Inhabited

/-- First check that fails. -/
def firstFail : List (Bool × Nat) → Option Nat
  | [] => none
  | (b, st) :: r => if b then some st else firstFail r

/-- A sender does not own a scope: a cell-bus binding is an owner of its own, a scope without owner stands open (12 R372;
DEDUCED, notes/assumptions 61). Senders: channel 0–3, 4 the cell bus, 5 the controller itself. -/
def notOwner (who k : Nat) (s : State) : Bool :=
  match (s.sc k).bound, (s.sc k).owner with
  | some _, _ => who != 4
  | none, some c => c != who
  | none, none => false

/-- Steps 1 to 5 of R377 for a sender; the controller's own commands pass them. -/
def gates (who : Nat) (bad : Bool) (l : Letters) (s : State) : List (Bool × Nat) :=
  if who = 5 then [] else
  [ (bad, Sts.BAD_PAYLOAD),
    (s.ssv.f3 && !l.f, Sts.DEVICE_F3),
    (!l.life && decide (s.hlt.fuses.state ≠ 1), Sts.WRONG_LIFECYCLE),
    (l.a && !s.commands, Sts.NO_AUTHORITY),
    ((match l.o with | some k => notOwner who k s | none => false), Sts.NOT_OWNER),
    (l.c && decide (s.ssv.mode = .uncommissioned), Sts.NOT_CONFIRMED) ]

/-- Run a command for a sender: the first check that fails refuses it, otherwise it takes its effect (13 R377). -/
def fwRun (who : Nat) (bad : Bool) (l : Letters) (checks : List (Bool × Nat)) (go : State → FwRes) (s : State) : FwRes :=
  match firstFail (gates who bad l s ++ checks) with
  | some st => (some (rspOf st), s)
  | none => go s

/-- A command that only reports. -/
def fwRead (who : Nat) (bad : Bool) (l : Letters) (checks : List (Bool × Nat)) (r : State → Rsp) (s : State) : FwRes :=
  fwRun who bad l checks (fun s => (some (r s), s)) s

/-- Check for a ninth running ticket of a session (12 R370). -/
def ticketsFull (who : Nat) (s : State) : Bool × Nat :=
  (decide (who < 4) && decide (8 ≤ s.hif.running who (s.chan who).token), Sts.TICKETS_FULL)

/-- Start a ticket for a sender; the controller's own commands have none. -/
def ticketFor (who op : Nat) (s : State) : Nat × State := if who < 4 then newTicket who op s else (0, s)

/-- Scope of a SCOPE field: an arm 0–7, or 0x40 + n for an auxiliary axis An (13, arm class). -/
def scopeField (ps : ParamSet) (x : Nat) : Option Nat :=
  if x < 8 then some x
  else if 0x40 ≤ x ∧ x < 0x80 ∧ (axArm ps (x - 0x40)).isNone then some (8 + (x - 0x40)) else none

/-- Scope of an AXIS field, none for an axis the controller lacks. -/
def axisField (ps : ParamSet) (n : Nat) : Option Nat := if n < 64 then some (axScope ps n) else none

/-! ### Staging (01 R20, 13 R378) -/

/-- Stage a command for a sender. With `wait` the response of a channel's request waits for the effect. -/
def stageFor (who scope axis : Nat) (wait : Bool) (cmd : StagedCmd) (s : State) : State :=
  stagePut { stamp := s.assigned tCtl, at_ := s.effectAt, scope := scope, axis := axis, by_ := who,
             rsp := if wait && decide (who < 4) then some (s.chan who).expect_ else none, cmd := cmd } s

/-- A staged command answers at its effect (13 R378). -/
def stageWait (who scope axis : Nat) (cmd : StagedCmd) (s : State) : FwRes := (none, stageFor who scope axis true cmd s)

/-- The set that will be in force once every staged one is (12 R373). -/
def State.comNext (s : State) : ParamSet := match s.fw.setNext.getLast? with | some x => x.recs | none => s.ps

/-! ### Sessions -/

/-- Instant at which a lease expires (12 R371). -/
def ChanSt.leaseEnd (c : ChanSt) : Time := c.renewAt + c.leaseMs * ms

/-- REMAIN: whole milliseconds of lease left (12 Table 12-8). -/
def ChanSt.remain (c : ChanSt) (now : Time) : Nat := if c.open_ then (c.leaseEnd - now) / ms else 0

/-- A lease as granted: 100 to 60 000 ms, 0 for the default of 1 000 (12 R369). -/
def leaseOk (l : Nat) : Bool := decide (l = 0) || decide (100 ≤ l) && decide (l ≤ 60000)
def leaseGrant (l : Nat) : Nat := if l = 0 then 1000 else l

/-- A new token: a value that is not 0 and none of the channel's last 16 (12 R369); which one is free. -/
def newToken (c : ChanSt) (v : Nat) : Nat :=
  (((List.range 18).map fun i => (v + i) % 2 ^ 32).find? fun x => x != 0 && !c.tokens.contains x).getD 1

/-- Waiting responses of a channel are answered with a status; a stage READ of the channel answers nobody any more. -/
def answerAll (c status : Nat) (s : State) : State :=
  let s := (s.chan c).wait.foldl (fun s w => answer c w.seq (rspOf status) s) s
  { s with dl := { s.dl with ports := vmapI s.dl.ports fun _ p =>
      match p.ctl with | some x => if x.1 = c then { p with ctlSeq := none } else p | none => p } }

/-- Ticket that a staged command carries. -/
def StagedCmd.ticket : StagedCmd → Option Nat
  | .home _ _ _ _ _ t => some t
  | .stopTest t => some t
  | .brakeTest t => some t
  | _ => none

/-- Commands of a channel that are staged and not yet in effect are withdrawn, and their tickets end (12 Table 12-16); a
COMMIT that runs under a ticket goes on. -/
def withdrawStaged (c : Nat) (s : State) : State :=
  let mine := s.fw.staged.filter fun g => g.by_ == c
  let ours (x : StagedSet) : Bool := match x.rsp with | some (d, _) => d == c | none => false
  let s := { s with fw := { s.fw with
    staged := s.fw.staged.filter fun g => g.by_ != c
    setNext := (s.fw.setNext.filter fun x => !ours x || x.ticket.isSome).map fun x => if ours x then { x with rsp := none } else x } }
  (mine.filterMap fun g => g.cmd.ticket).foldl (fun s t => endTicket t 3 Sts.CANCELLED s) s

/-- Running tickets with a cancel point are asked to stop, and the session's injection runs end (12 Table 12-16, 13
Table 13-17). -/
def cancelRuns (c token status : Nat) (s : State) : State :=
  let ask (t : TicketSt) : TicketSt :=
    if t.state == 0 && t.ch == c && t.token == token && t.opcode == 0x0407 then { t with cancel := true } else t
  let s := { s with hif := { s.hif with tickets := s.hif.tickets.map ask } }
  allScopes.foldl (fun s k => match vrd s.fw.inj k with
    | some r => if r.running && r.by_ == (c, token) then endInjection k status s else s
    | none => s) s

/-- Scopes the session owns shut down as on a disable command, with its ending status (12 Table 12-16). -/
def disableOwned (c status : Nat) (s : State) : State :=
  allScopes.foldl (fun s k =>
    if (s.sc k).owner == some c && (s.sc k).bound.isNone && decide ((s.sc k).fn = .enabled)
    then stageFor 5 k 64 false (.disable status) s else s) s

/-- A session ends (12 R371, Table 12-16). -/
def sessionEnd (c status : Nat) (s : State) : State :=
  if !(s.chan c).open_ then s
  else
    let token := (s.chan c).token
    let s := withdrawStaged c (answerAll c status s)
    let s := cancelRuns c token status s
    let noOffer (x : ScopeSt) : ScopeSt :=
      if x.offer == some c || (x.owner == some c && x.offer.isSome) then { x with offer := none } else x
    let s := { s with ssv := { s.ssv with scopes := vmapI s.ssv.scopes fun _ x => noOffer x } }
    let s := disableOwned c status s
    let s := s.mdChan c fun x => { x with
      open_ := false, token := 0, used := false, stored := [], wait := [], mirrored := false, opened := none, trans := none }
    raiseChan c status 0 0 0 3 (mirDelta (ledSession c) 64 s)

/-- A lease that has run out ends its session before a request of this instant is judged (12 R371, R22). -/
def lapse (c : Nat) (t : Time) (s : State) : State :=
  if (s.chan c).open_ && !((s.chan c).mirrored && !s.commands) && atOrAfter t ns (s.chan c).leaseEnd then sessionEnd c Sts.LEASE_EXPIRED s else s

/-- A session opens (12 R369): TOKEN, LEASE_MS and CHANNEL. -/
def sessionOpen (c nonce lease : Nat) (t : Time) (s : State) : Rsp × State :=
  let x := s.chan c
  let tok := newToken x (Config.free32 s.fresh).toNat
  let r := okRsp (leBytes 4 tok ++ leBytes 2 (leaseGrant lease) ++ leBytes 1 c ++ leBytes 1 0)
  let s := s.drawn.mdChan c fun x => { x with
    open_ := true, token := tok, tokens := (tok :: x.tokens).take 16, nonce := nonce, used := false
    leaseMs := leaseGrant lease, renewAt := t, expect_ := 1, stored := [], wait := [], mirrored := false
    opened := some r, trans := none, rsp := r }
  (r, raiseChan c Sts.OK 0 0x0101 0 2 s)

/-- OPEN_SESSION (12 R369): the response, whether it is a stored one, and the state. -/
def openCore (c nonce lease : Nat) (force : Bool) (t : Time) (s : State) : Rsp × Bool × State :=
  let s := lapse c t s
  let x := s.chan c
  if !leaseOk lease then (rspOf Sts.OUT_OF_RANGE, false, s)
  else if x.open_ && x.mirrored && !s.commands then ({ status := Sts.SESSION_BUSY, body := leBytes 2 (x.remain t) }, false, s)
  else if x.open_ && !x.used && x.nonce == nonce then (x.opened.getD {}, true, s)
  else if x.open_ && !force then ({ status := Sts.SESSION_BUSY, body := leBytes 2 (x.remain t) }, false, s)
  else
    let s := sessionEnd c Sts.SESSION_FORCED s
    let (r, s) := sessionOpen c nonce lease t s
    (r, false, s)

/-! ### A request of a channel -/

/-- Execute a request of an open session (12 R368, 13 R378): E advances, the response is stored and, for a request of the
ring, written; a response that waits is noted. -/
def execReq (c crc op : Nat) (idx : Option Nat) (ext : Option (Nat × Nat)) (f : State → FwRes) (s : State) : State :=
  let seq := (s.chan c).expect_
  let tok := (s.chan c).token
  let (r, s) := f s
  let write (r : Rsp) (s : State) : State := match idx with | some n => writeRsp c n op tok seq false ext r s | none => s
  if (s.chan c).open_ && (s.chan c).token == tok then
    let s := s.mdChan c fun x => { x with expect_ := (seq + 1) % 2 ^ 32 }
    match r with
    | some r => write r (storeRsp c seq crc op r s)
    | none => s.mdChan c fun x => { x with wait := x.wait ++ [{ seq := seq, crc := crc, opcode := op, idx := idx }] }
  else
    let r := r.getD {}
    write r (s.mdChan c fun x => { x with rsp := r })

/-- A command given on a channel without its message: it stands for a request that passed checks 1 to 6, with the next
sequence number and a free CRC (DESIGN CHOICE, notes/assumptions 60). On a mirrored session of a unit without authority
nothing runs (14 R415). -/
def hostRow (c op : Nat) (f : State → FwRes) (s : State) : Out :=
  onUnit "channel" c 4 <| .next <|
    if !s.hif.fwReady then s
    else
      let s := lapse c s.cyc.now s
      if !(s.chan c).open_ then s.mdChan c fun x => { x with rsp := rspOf Sts.BAD_SESSION }
      else if (s.chan c).mirrored && !s.commands then s.mdChan c fun x => { x with rsp := rspOf Sts.NO_AUTHORITY }
      else
        let crc := (Config.free32 s.fresh).toNat
        let s := s.drawn.mdChan c fun x => { x with renewAt := s.cyc.now, used := true }
        execReq c crc op none none f s

end Sys2Proof.Machine
end

