-- ==== Sys2Proof/Machine/FwAxis.lean ====
section
/-!
DEFINITION. The axis class 0x04xx (13 Tables 13-5, 13-6, R387; chapter 03): motion commands, staged under 01 R20 and 03 R72
and answered at their effect, homing, and the reads and link commands of the class.
-/
namespace Sys2Proof.Machine

/-! ### Checks -/

/-- A brake test runs on the pair of a scope. -/
def State.testing (s : State) (k : Nat) : Bool := match brakeOf s.ps k with | some b => (s.bk b).test.isSome | none => false

/-- The brake pair of a scope, released where it has none. -/
def State.pairOf (s : State) (k : Nat) : BrakeSt := match brakeOf s.ps k with | some b => s.bk b | none => {}

/-- What refuses every motion command of a scope (03 R73, 09 R252, R258, R259). -/
def scopeChecks (k : Nat) (s : State) : List (Bool × Nat) :=
  let c := s.sc k
  let on := decide (c.fn = .enabled)
  [ (decide (c.fn = .shuttingDown) || decide (c.stop ≠ .none), Sts.AXIS_STOPPING),
    (on && (decide (c.seq ≠ .running) || s.testing k), Sts.BRAKES_ENGAGED),
    (on && (s.pairOf k).failed, Sts.BRAKE_FAILED),
    (on && (s.pairOf k).overdue, Sts.BRAKE_TEST_OVERDUE) ]

/-- What refuses every motion command of an axis; a joint whose arm is entering planned motion takes none (13, axis class). -/
def motionChecks (n : Nat) (s : State) : List (Bool × Nat) :=
  let k := s.axSc n
  scopeChecks k s ++ [(decide (k < 8) && (s.plr k).planned, Sts.WRONG_MODE)]

/-- The generator stands still (03 R71). -/
def AxisSt.atRest (a : AxisSt) : Bool := a.gen.v2 == 0 && a.gen.a == 0

/-- Modes that take a move, a jog or a stop (03 Table 03-4). -/
def takesMotion (m : ProfMode) : Bool := m == .ptp || m == .stepped || m == .geared

/-- A target lies outside [0, MODULUS) of a modulo axis, or outside the active soft limits (03 R66, R94). -/
def targetBad (ps : ParamSet) (n : Nat) (a : AxisSt) (x : Int) : Bool :=
  let m := prmI ps Pid.MODULUS n
  if m ≠ 0 then decide (x < 0) || decide (m ≤ x)
  else match softLimits ps n a with
    | some (lo, hi) => decide (x < lo) || decide (hi < x)
    | none => false

/-- Checks of a move, jog or stop: the fields, then the common ones, then the mode. -/
def motionCmd (n : Nat) (range : Bool) (s : State) : List (Bool × Nat) :=
  (decide (64 ≤ n) || range, Sts.OUT_OF_RANGE) :: motionChecks n s ++ [(!takesMotion (s.ax n).mode, Sts.WRONG_MODE)]

/-- Letters of a motion command. -/
def motionLetters (n : Nat) (c : Bool) (s : State) : Letters := { a := true, o := axisField s.ps n, c := c }

/-! ### Point-to-point -/

/-- MOVE (03 R66, R72, R94). -/
def fwMove (who : Nat) (bad : Bool) (n way : Nat) (target : Int) (s : State) : FwRes :=
  fwRun who bad (motionLetters n true s)
    (motionCmd n (decide (2 < way)) s ++ [(targetBad s.ps n (s.ax n) target, Sts.TARGET_OUT_OF_RANGE)])
    (fun s => stageWait who (s.axSc n) n (.move way target) s) s
def execMove (ch axis way : Nat) (target : Int) (s : State) : Out := hostRow ch 0x0401 (fwMove ch false axis way target) s

/-- JOG (03 R76). -/
def fwJog (who : Nat) (bad : Bool) (n dir : Nat) (s : State) : FwRes :=
  fwRun who bad (motionLetters n true s) (motionCmd n (decide (1 < dir)) s)
    (fun s => stageWait who (s.axSc n) n (.jog (if dir = 0 then 1 else -1)) s) s
def execJog (ch axis dir : Nat) (s : State) : Out := hostRow ch 0x0402 (fwJog ch false axis dir) s

/-- STOP (03 R76). -/
def fwStop (who : Nat) (bad : Bool) (n : Nat) (s : State) : FwRes :=
  fwRun who bad (motionLetters n false s) (motionCmd n false s) (fun s => stageWait who (s.axSc n) n .stop s) s
def execStop (ch axis : Nat) (s : State) : Out := hostRow ch 0x0403 (fwStop ch false axis) s

/-- SET_LIMITS (03 R67, R77, R80, Table 03-4): the limits MASK names, in any mode; a limit above its hard counterpart and a
DMAX below SS_DECEL are refused. -/
def fwSetLimits (who : Nat) (bad : Bool) (n mask v a d j : Nat) (s : State) : FwRes :=
  let on (i : Nat) : Bool := mask.testBit i
  let out (i x hi lo : Nat) : Bool := on i && (decide (x < lo) || decide (hi < x))
  let over_ (i x pid : Nat) : Bool := on i && decide (prmN s.ps pid n < x)
  fwRun who bad (motionLetters n false s)
    [ (decide (64 ≤ n) || decide (15 < mask), Sts.OUT_OF_RANGE),
      (out 0 v 262144000 65536 || out 1 a (2 ^ 30) 1 || out 2 d (2 ^ 30) 1 || out 3 j (16777215 * 256) 1, Sts.OUT_OF_RANGE),
      (over_ 0 v Pid.V_HARD || over_ 1 a Pid.A_HARD || over_ 2 d Pid.D_HARD || over_ 3 j Pid.J_HARD, Sts.ABOVE_HARD_LIMIT),
      (on 2 && decide (d < prmN s.ps Pid.SS_DECEL n), Sts.BELOW_SAFE_DECEL) ]
    (fun s => stageWait who (s.axSc n) n (.setLimits mask v a d j) s) s
def execSetLimits (ch axis mask v a d j : Nat) (s : State) : Out := hostRow ch 0x0404 (fwSetLimits ch false axis mask v a d j) s

/-! ### Gearing and stepping -/

/-- Master an axis will have once the staged commands are in effect (03 R89). -/
def masterOf (s : State) (n : Nat) : Option Nat :=
  let mine := s.fw.staged.filter fun g => g.axis == n
  let now := (s.ax n).gear.map (·.master)
  mine.foldl (fun m g => match g.cmd with
    | .gear k _ _ _ _ _ _ => some k
    | .move _ _ | .jog _ | .stop | .stepFollow _ _ => none
    | _ => m) now

/-- The masters of an axis, nearest first. -/
def masters (s : State) : Nat → Nat → List Nat
  | 0, _ => []
  | f + 1, n => match masterOf s n with | some m => m :: masters s f m | none => []

/-- Links of the chain that a gearing of `n` to `m` belongs to (03 R89): those above the master, the new one, and the longest
run below the slave. -/
def chainLinks (s : State) (n m : Nat) : Nat :=
  let below := (List.range 64).map fun x => (masters s 64 x).findIdx (· == n)
  let deep := ((List.range 64).zip below).foldl (fun acc e => if e.2 < (masters s 64 e.1).length then max acc (e.2 + 1) else acc) 0
  (masters s 64 m).length + 1 + deep

/-- GEAR (03 R89 to R92): from PTP at standstill; a chain may not close, nor be more than four links deep. -/
def fwGear (who : Nat) (bad : Bool) (n m source align : Nat) (num : Int) (den : Nat) (pA mA : Int) (s : State) : FwRes :=
  let a := s.ax n
  let range := decide (63 < m) || decide (1 < source) || decide (1 < align) || decide (den = 0) || decide (2 ^ 32 ≤ den)
  fwRun who bad (motionLetters n true s)
    ((decide (64 ≤ n) || range, Sts.OUT_OF_RANGE) :: motionChecks n s
      ++ [ (decide (a.mode ≠ .ptp), Sts.WRONG_MODE), (!a.atRest, Sts.AXIS_MOVING),
           (n == m || (masters s 64 m).contains n, Sts.GEAR_LOOP),
           (decide (4 < chainLinks s n m), Sts.OUT_OF_RANGE) ])
    (fun s => stageWait who (s.axSc n) n (.gear m (source == 1) (align == 1) num den pA mA) s) s
def execGear (ch axis master source align : Nat) (num : Int) (den : Nat) (pA mA : Int) (s : State) : Out :=
  hostRow ch 0x0405 (fwGear ch false axis master source align num den pA mA) s

/-- A step-input pair is held for another axis, or by a staged command of another session (13 R380). -/
def pairHeld (who n p : Nat) (s : State) : Bool :=
  (match (vrd s.fw.pairs p).axis with | some x => x != n && decide ((s.ax x).mode = .stepped) | none => false)
  || s.fw.staged.any fun g => (g.axis != n || g.by_ != who) && (match g.cmd with | .stepFollow q _ => q == p | _ => false)

/-- STEP_FOLLOW (03 R71, R86): STEP_INC set, then PTP at standstill. -/
def fwStepFollow (who : Nat) (bad : Bool) (n p invert : Nat) (s : State) : FwRes :=
  let a := s.ax n
  fwRun who bad (motionLetters n true s)
    ((decide (64 ≤ n) || decide (7 < p) || decide (1 < invert), Sts.OUT_OF_RANGE) :: motionChecks n s
      ++ [ (decide (axType s.ps n = .virtual) || (prm s.ps Pid.STEP_INC n 0).isNone || decide (a.mode ≠ .ptp), Sts.WRONG_MODE),
           (!a.atRest, Sts.AXIS_MOVING), (pairHeld who n p s, Sts.RESOURCE_BUSY) ])
    (fun s => stageWait who (s.axSc n) n (.stepFollow p (invert == 1)) s) s
def execStepFollow (ch axis pair invert : Nat) (s : State) : Out := hostRow ch 0x0406 (fwStepFollow ch false axis pair invert) s

/-! ### Homing -/

/-- HOME (03 R97, 13 R387): staged under a ticket; for SET, SET_POS is the position of the present feedback, for the other
methods the position of the mark where HAS_POS bit 0 is 1. -/
def fwHome (who : Nat) (bad : Bool) (n method dir gpio hasPos : Nat) (setPos homePos : Int) (s : State) : FwRes :=
  let a := s.ax n
  let range := decide (3 < method) || decide (1 < dir) || decide (15 < gpio) || decide (3 < hasPos)
  let named := method != 0 && hasPos.testBit 1
  fwRun who bad (motionLetters n false s)
    ((decide (64 ≤ n) || range, Sts.OUT_OF_RANGE) :: motionChecks n s
      ++ [ (decide (axType s.ps n = .virtual) || decide (a.mode ≠ .ptp), Sts.WRONG_MODE), (!a.atRest, Sts.AXIS_MOVING),
           (named && targetBad s.ps n { a with pos := .homed } homePos, Sts.TARGET_OUT_OF_RANGE), ticketsFull who s ])
    (fun s =>
      let (t, s) := ticketFor who 0x0407 s
      let set := if method = 0 || hasPos.testBit 0 then some setPos else none
      (some (acceptedRsp t),
       stageFor who (s.axSc n) n false
         (.home method (if dir = 0 then 1 else -1) gpio set (if named then some homePos else none) t) s)) s
def execHome (ch axis method dir gpio hasPos : Nat) (setPos homePos : Int) (s : State) : Out :=
  hostRow ch 0x0407 (fwHome ch false axis method dir gpio hasPos setPos homePos) s

/-! ### Reads and flags -/

/-- Ledger address of the snapshot published last (12 R361, Table 12-10). -/
def State.snapBase (s : State) : Nat := regSnapshot + 0x10000 * (s.hif.snapGen % 2)

/-- GET_AXIS (01 R16, 12 Table 12-11): the axis entry of the last LATCH. -/
def fwGetAxis (who : Nat) (bad : Bool) (n : Nat) (s : State) : FwRes :=
  fwRead who bad { f := true } [(decide (64 ≤ n), Sts.OUT_OF_RANGE)]
    (fun s => okRsp (memRead s.ldg.mem (s.snapBase + 0x40 + 64 * n) 64)) s
def execGetAxis (ch axis : Nat) (s : State) : Out := hostRow ch 0x0408 (fwGetAxis ch false axis) s

/-- Fields of GET_MOVE_PLAN (03 R75). -/
def planFields (p : PlanRec) : Bytes :=
  leBytes 8 (p.start / ns) ++ (List.range 7).flatMap (fun i => leBytes 4 (lget p.n i)) ++ leBytes 4 0
    ++ (List.range 7).flatMap (fun i => leBytes 8 (ofSigned 64 (lget p.js i))) ++ leBytes 8 (ofSigned 64 p.w)

/-- GET_MOVE_PLAN (03 R75): the last plan record of the axis. -/
def fwGetMovePlan (who : Nat) (bad : Bool) (n : Nat) (s : State) : FwRes :=
  fwRead who bad { f := true } [(decide (64 ≤ n), Sts.OUT_OF_RANGE)]
    (fun s => okRsp (planFields ((s.ax n).lastPlan.getD {}))) s
def execGetMovePlan (ch axis : Nat) (s : State) : Out := hostRow ch 0x0409 (fwGetMovePlan ch false axis) s

/-- Flags that CLEAR_AXIS_FLAGS clears by its mask (13 Table 13-6). -/
def AxisSt.clearFlags (mask : Nat) (a : AxisSt) : AxisSt :=
  let keep (i : Nat) (b : Bool) : Bool := b && !mask.testBit i
  { a with
    flags := { a.flags with
      stepOver := keep 0 a.flags.stepOver, overCount := if mask.testBit 0 then 0 else a.flags.overCount
      stepGlitch := keep 0 a.flags.stepGlitch, homeFailed := keep 1 a.flags.homeFailed }
    cur := { a.cur with
      coilFault := keep 2 a.cur.coilFault, overCur := keep 3 a.cur.overCur, busUnder := keep 4 a.cur.busUnder
      chopLimit := keep 5 a.cur.chopLimit, lostStep := keep 6 a.cur.lostStep }
    loop := { a.loop with feFault := keep 7 a.loop.feFault, nan := keep 8 a.loop.nan } }

/-- CLEAR_AXIS_FLAGS (03 R99, 13 Table 13-6): bits 31:9 of MASK are res. -/
def fwClearAxisFlags (who : Nat) (bad : Bool) (n mask : Nat) (s : State) : FwRes :=
  fwRun who (bad || decide (512 ≤ mask)) {} [(decide (64 ≤ n), Sts.OUT_OF_RANGE)]
    (fun s => (some okRsp, s.mdAx n (AxisSt.clearFlags mask))) s
def execClearAxisFlags (ch axis mask : Nat) (s : State) : Out := hostRow ch 0x040A (fwClearAxisFlags ch false axis mask) s

/-! ### Drive links -/

/-- STAGE_READ (10 R314): one READ outstanding a port; its response waits for the stage. -/
def fwStageRead (who : Nat) (bad : Bool) (p addr : Nat) (s : State) : FwRes :=
  fwRun who bad { a := true }
    [ (decide (36 ≤ p) || decide (2 ^ 16 ≤ addr), Sts.OUT_OF_RANGE), ((s.port p).ctl.isSome, Sts.RESOURCE_BUSY) ]
    (fun s => (none, s.mdPort p fun x => { x with
      ctl := some (who, x.ctlTag, addr, 0), ctlTag := if x.ctlTag = 255 then 1 else x.ctlTag + 1
      ctlSeq := if who < 4 then some (s.chan who).expect_ else none })) s
def execStageRead (ch port addr : Nat) (s : State) : Out := hostRow ch 0x040B (fwStageRead ch false port addr) s

/-- Ports of a mask. -/
def portsOf (mask : Nat) : List Nat := (List.range 36).filter fun p => mask.testBit p

/-- DL_RESET (10 R312): at the next control-cycle start the named ports are given a RESET frame to send. -/
def fwDlReset (who : Nat) (bad : Bool) (ports : Nat) (s : State) : FwRes :=
  fwRun who bad { a := true }
    [ (decide (2 ^ 36 ≤ ports), Sts.OUT_OF_RANGE),
      ((portsOf ports).any (fun p => (portAxes s.ps p).any fun e => decide ((s.ax e.2.2).fn ≠ .disabled)), Sts.AXIS_ENABLED) ]
    (fun s =>
      let old := match s.fw.dlReset with | some x => x.2 | none => 0
      (some (effectRsp s.effectAt), { s with fw := { s.fw with dlReset := some (s.effectAt, ports ||| old) } })) s
def execDlReset (ch ports : Nat) (s : State) : Out := hostRow ch 0x040C (fwDlReset ch false ports) s

end Sys2Proof.Machine
end

