-- ==== Sys2Proof/Machine/FwParam.lean ====
section
/-!
DEFINITION. The parameter class 0x03xx (13 Tables 13-3, 13-4, R383 to R386, 12 R373, R374, Table 12-17): transactions,
their confirmation by an engineer (09 R275, R276), COMMIT with its flash slots, and single parameters.
-/
namespace Sys2Proof.Machine

/-! ### Engineers (09 R275) -/

/-- The lockout of an engineer stands at an instant. -/
def Engineer.locked (e : Engineer) (now : Time) : Bool := match e.lockedTo with | some t => decide (now < t) | none => false

/-- An engineer whose lockout is over starts a new count (09 R275). -/
def Engineer.fresh (e : Engineer) (now : Time) : Engineer :=
  match e.lockedTo with | some t => if now < t then e else { e with lockedTo := none, fails := 0 } | none => e

/-- The hash of a passcode equals the stored one; passcodes are 6 to 32 bytes long. -/
def Engineer.opens (e : Engineer) (pass : Bytes) : Bool :=
  decide (6 ≤ pass.length) && decide (pass.length ≤ 32) && sha256 (e.salt ++ pass) == e.hash

/-- The passcode test of an engineer: OK, PASSCODE_BAD or LOCKED_OUT, with the count toward LOCK_N; the failure that locks
raises E86 (09 R275, Table 09-12). -/
def passTest (id : Nat) (pass : Bytes) (s : State) : Nat × State :=
  match s.ssv.eng.find? fun e => e.id == id with
  | none => (Sts.PASSCODE_BAD, s)
  | some e =>
    let put (x : Engineer) (s : State) : State :=
      secTouch { s with ssv := { s.ssv with eng := s.ssv.eng.map fun y => if y.id == id then x else y } }
    let e := e.fresh s.cyc.now
    if e.locked s.cyc.now then (Sts.LOCKED_OUT, s)
    else if e.opens pass then (Sts.OK, put { e with fails := 0 } s)
    else
      let n := e.fails + 1
      if prmN s.ps Pid.LOCK_N 0 ≤ n then
        let until_ := s.cyc.now + prmN s.ps Pid.LOCK_T 0 * 60 * sec
        (Sts.PASSCODE_BAD, raiseEv 86 Sts.PASSCODE_BAD 0xFF id 1 (put { e with fails := n, lockedTo := some until_ } s))
      else (Sts.PASSCODE_BAD, put { e with fails := n } s)

/-- An engineer is locked out now. -/
def lockedOut (id : Nat) (s : State) : Bool :=
  match s.ssv.eng.find? fun e => e.id == id with | some e => e.locked s.cyc.now | none => false

/-! ### Transactions -/

/-- Changes of the committed set, staged ones included (12 R373). -/
def State.setGen (s : State) : Nat := s.sets.gen + s.fw.setNext.length

/-- A flash slot: 1 A, 2 B. -/
def State.slot (s : State) (i : Nat) : Option (ParamSet × Nat) := if i = 1 then s.sets.slotA else if i = 2 then s.sets.slotB else none

/-- Transaction of a channel. -/
def State.trans (s : State) (c : Nat) : Option TransSt := (s.chan c).trans

/-- Another open session holds a SAFETY transaction (12 Table 12-17). -/
def safetyHeld (who : Nat) (s : State) : Bool :=
  (List.range 4).any fun c => c != who && (s.chan c).open_ && (match s.trans c with | some t => t.part == 0 | none => false)

/-- OPEN_SET (12 R373, Table 12-17, 09 R492): the base is copied. A slot without valid content is out of range (DEDUCED,
notes/assumptions 62). -/
def fwOpenSet (who : Nat) (bad : Bool) (part base : Nat) (s : State) : FwRes :=
  fwRun who bad {}
    [ (decide (1 < part) || decide (3 < base), Sts.OUT_OF_RANGE),
      ((base == 1 || base == 2) && (s.slot base).isNone, Sts.OUT_OF_RANGE),
      ((s.trans who).isSome, Sts.TXN_OPEN),
      (part == 0 && safetyHeld who s, Sts.SET_BUSY) ]
    (fun s =>
      let b : ParamSet := if base = 0 then s.comNext else match s.slot base with | some x => x.1 | none => []
      (some okRsp, s.mdChan who fun x => { x with
        trans := some { part := part, base := base, recs := partOf b (part == 0), baseGen := s.setGen } })) s
def execOpenSet (ch part base : Nat) (s : State) : Out := hostRow ch 0x0301 (fwOpenSet ch false part base) s

/-- Largest total of a transaction's segments (12 R373). -/
def setLimit : Nat := 393216

/-- Byte limit of a part (12 R373): the room of the secure region for PART SAFETY (15 R446), else of a transaction buffer. -/
def segLimit (part : Nat) : Nat := if part = 0 then 126976 else setLimit

/-- WRITE_SEG (12 Table 12-17). A closed transaction takes no more bytes (SEG_ORDER; DEDUCED, notes/assumptions 62). -/
def fwWriteSeg (who : Nat) (bad : Bool) (off : Nat) (bulk : Bytes) (s : State) : FwRes :=
  let t := (s.trans who).getD {}
  fwRun who bad {}
    [ ((s.trans who).isNone, Sts.NO_TXN),
      (t.closed || off != t.raw.length, Sts.SEG_ORDER),
      (decide (segLimit t.part < t.raw.length + bulk.length), Sts.SET_TOO_LARGE) ]
    (fun s =>
      (some (okRsp (leBytes 4 (t.raw.length + bulk.length))),
       s.mdChan who fun x => { x with trans := some { t with raw := t.raw ++ bulk, next := t.raw.length + bulk.length } })) s
def execWriteSeg (ch off : Nat) (bulk : Bytes) (s : State) : Out := hostRow ch 0x0302 (fwWriteSeg ch false off bulk) s

/-- Serialisation of a transaction's part beside the other part in force. -/
def TransSt.bytes (t : TransSt) (s : State) : Bytes :=
  serialise (mergeSets (partOf s.comNext (t.part != 0)) t.recs) (t.part == 0)

/-- CLOSE_SET (12 Table 12-17, 09 R272 to R274, R492): CHECK and BYTES, or the refusal with its first failing record. -/
def fwCloseSet (who : Nat) (bad : Bool) (s : State) : FwRes :=
  fwRun who bad {} [((s.trans who).isNone, Sts.NO_TXN)]
    (fun s =>
      let t := (s.trans who).getD {}
      if t.closed then (some (okRsp (leBytes 4 t.check ++ leBytes 4 (t.bytes s).length)), s)
      else
        match closeCheck (t.part == 0) t.recs (partOf s.comNext (t.part != 0)) t.raw with
        | .bad e =>
          (some { status := e.status, body := leBytes 2 e.pid ++ leBytes 1 e.inst ++ leBytes 1 e.sub },
           s.mdChan who fun x => { x with trans := none })
        | .good p =>
          let t := { t with recs := p, closed := true }
          let b := t.bytes s
          (some (okRsp (leBytes 4 (crc32c b) ++ leBytes 4 b.length)),
           s.mdChan who fun x => { x with trans := some { t with check := crc32c b } })) s
def execCloseSet (ch : Nat) (s : State) : Out := hostRow ch 0x0303 (fwCloseSet ch false) s

/-- The committed set has no matching record (09 R275). -/
def unmatched (s : State) : Bool := match s.ssv.conf with | some c => c.check != checkValue s.ps | none => true

/-- CONFIRM (09 R275): a closed set of the session, or the committed set where it has no matching record. Every attempt
raises E86 and adds an audit record. -/
def fwConfirm (who : Nat) (bad : Bool) (check eng : Nat) (pass : Bytes) (s : State) : FwRes :=
  fwRun who bad {} []
    (fun s =>
      let t := s.trans who
      let closed := match t with | some t => t.closed | none => false
      let want := match t with | some t => if t.closed then t.check else checkValue s.ps | none => checkValue s.ps
      let (st, s) :=
        if !closed && !(t.isNone && unmatched s) then (Sts.NO_TXN, s)
        else if lockedOut eng s then (Sts.LOCKED_OUT, s)
        else if check != want then (Sts.CHECK_MISMATCH, s)
        else passTest eng pass s
      let s :=
        if st ≠ Sts.OK then s
        else if closed then s.mdChan who fun x => { x with trans := x.trans.map fun t => { t with confirmedBy := some eng } }
        else
          let s := secTouch { s with ssv := { s.ssv with
            conf := some { check := want, time := s.cyc.now / ns, eng := eng, slot := 0 } } }
          if s.ssv.mode = .uncommissioned then setMode .commissioned s else s
      let s := addAudit eng check 0x0304 st 0 (raiseEv 86 st 0xFF eng 0 s)
      (some (rspOf st), s)) s
def execConfirm (ch check eng : Nat) (pass : Bytes) (s : State) : Out := hostRow ch 0x0304 (fwConfirm ch false check eng pass) s

/-- Axis parameters that change only while the axis is DISABLED (05 R147): PE_SHIFT, VEL_FS, the inputs of IQ_LIM and
EXT_MODE. -/
def axisLocked : List Nat := [Pid.PE_SHIFT, Pid.VEL_FS, Pid.I_MAX, Pid.ID_REF, Pid.T_LIM, Pid.EXT_MODE]

/-- Planner parameters that may change while the arm is ENABLED (07 R215). -/
def plannerLive : List Nat := [Pid.RHO, Pid.SIGMA, Pid.W_Q, Pid.W_V, Pid.W_A, Pid.W_N, Pid.W_SL, Pid.W_SQ, Pid.ALPHA_N,
  Pid.ADMM_K, Pid.D_SEP, Pid.A_CART, Pid.POS_TOL, Pid.RES_TOL]

/-- The status that refuses a change of a parameter now, OK where it may change (01 R12, 05 R147, 07 R215). -/
def changeLock (s : State) (pid inst : Nat) : Nat :=
  if axisLocked.contains pid && decide ((s.ax inst).fn ≠ .disabled) then Sts.AXIS_ENABLED
  else if 0x100 ≤ pid && pid ≤ 0x11A && !plannerLive.contains pid && s.busy inst then Sts.ARM_ENABLED
  else Sts.OK

/-- Values in which two sets differ. -/
def changed (a b : ParamSet) : List (Nat × Nat) :=
  (a.filter fun r => !b.contains r).map (fun r => (r.pid, r.inst)) ++ (b.filter fun r => !a.contains r).map fun r => (r.pid, r.inst)

/-- First lock that a change from one set to another meets. -/
def changeLocks (s : State) (a b : ParamSet) : Nat :=
  match ((changed a b).map fun e => changeLock s e.1 e.2).find? fun st => st != Sts.OK with | some st => st | none => Sts.OK

/-- Stage a set for its control-cycle start (12 R373); with a Shadow that is TRACKING or READY it waits for the Shadow's
acknowledgement, at most 100 ms (14 R424). -/
def stageSet (who : Nat) (ps : ParamSet) (conf : Option ConfirmRec) (part : Nat) (ticket : Option Nat) (s : State) : State :=
  let paired := s.copied
  let at_ := if paired then effectStart (s.cyc.now + 100 * ms) else s.effectAt
  let x : StagedSet := { at_ := at_, recs := ps, conf := conf, part := part, ticket := ticket
                         rsp := if who < 4 then some (who, (s.chan who).expect_) else none }
  let s := { s with fw := { s.fw with setNext := s.fw.setNext ++ [x] } }
  if paired then
    let n := (serialise ps true).length + (serialise ps false).length
    mirDelta ledCommitted 64 (mirDelta (ledCommitted + 64) n
      { s with mlc := { s.mlc with commitWait := some (s.cyc.now + 100 * ms, false) } })
  else s

/-- Stage a set that WRITE_PARAM changed for its control-cycle start; in a pair its STAGE record crosses, and the Shadow's
acknowledgement joins the barrier (13 R385, 14 R405). -/
def stageParam (who : Nat) (ps : ParamSet) (s : State) : State :=
  let x : StagedSet := { at_ := s.effectAt, recs := ps, rsp := if who < 4 then some (who, (s.chan who).expect_) else none
                         ref := if s.copied then some s.mlc.seqTx else none }
  let s := if s.copied then mirSend 0x06 (x.at_ / tCtl % 2 ^ 32) 0 64 (some x.at_) s else s
  { s with fw := { s.fw with setNext := s.fw.setNext ++ [x] } }

/-- A transaction's set beside the other part in force. -/
def TransSt.whole (t : TransSt) (s : State) : ParamSet := mergeSets (partOf s.comNext (t.part != 0)) t.recs

/-- The transaction changes a safety value: neither the set in force nor its confirmation record has its check value (09
R276, 12 R373). -/
def TransSt.changesSafety (t : TransSt) (s : State) : Bool :=
  t.part == 0 && t.check != checkValue s.comNext && !(match s.ssv.conf with | some c => c.check == t.check | none => false)

/-- COMMIT (12 R373, R374, Table 12-17, 09 R276): the set is staged, and a flash slot is written where one is named. -/
def fwCommit (who : Nat) (bad : Bool) (slot : Nat) (s : State) : FwRes :=
  let t := (s.trans who).getD {}
  fwRun who bad { a := true }
    [ (decide (2 < slot), Sts.OUT_OF_RANGE),
      (!t.closed, Sts.NO_TXN),
      (t.base == 0 && t.baseGen != s.setGen, Sts.BASE_CHANGED),
      (t.changesSafety s && s.anyBusy, Sts.ARM_ENABLED),
      (t.changesSafety s && decide (s.ssv.mode ≠ .service) && t.confirmedBy.isNone, Sts.NOT_CONFIRMED),
      (changeLocks s s.comNext (t.whole s) == Sts.AXIS_ENABLED, Sts.AXIS_ENABLED),
      (changeLocks s s.comNext (t.whole s) == Sts.ARM_ENABLED, Sts.ARM_ENABLED),
      (slot != 0 && (ticketsFull who s).1, Sts.TICKETS_FULL) ]
    (fun s =>
      let ps := t.whole s
      let conf : Option ConfirmRec := if t.part = 0 then
          t.confirmedBy.map fun e => { check := t.check, time := s.cyc.now / ns, eng := e, slot := slot } else none
      let s := s.mdChan who fun x => { x with trans := none }
      if slot = 0 then (none, stageSet who ps conf t.part none s)
      else
        let (n, s) := ticketFor who 0x0305 s
        let s := { s with sets := { s.sets with flash := s.sets.flash ++
          [{ slot := slot, set := ps, check := checkValue ps, part := t.part, ticket := n }] } }
        (none, stageSet who ps conf t.part (some n) s)) s
def execCommit (ch slot : Nat) (s : State) : Out := hostRow ch 0x0305 (fwCommit ch false slot) s

/-- FLASH_WRITE_DONE (12 R374): the slot holds the set, or keeps what it held; E126 and the ticket's end. -/
def execFlashWriteDone (ok : Bool) (s : State) : Out :=
  .next <|
    match s.sets.flash with
    | [] => s
    | w :: r =>
      let s := { s with sets := { s.sets with flash := r } }
      if !ok then finishTicket w.ticket Sts.FLASH_FAILED s
      else
        let v := some (w.set, w.check)
        let s := { s with sets := { s.sets with
          slotA := if w.slot = 1 then v else s.sets.slotA, slotB := if w.slot = 2 then v else s.sets.slotB } }
        finishTicket w.ticket Sts.OK (raiseEv 126 Sts.OK w.part (checkValue s.ps) 1 s)

/-- ABORT_SET (12 Table 12-17). -/
def fwAbortSet (who : Nat) (bad : Bool) (s : State) : FwRes :=
  fwRun who bad {} [((s.trans who).isNone, Sts.NO_TXN)]
    (fun s => (some okRsp, s.mdChan who fun x => { x with trans := none })) s
def execAbortSet (ch : Nat) (s : State) : Out := hostRow ch 0x0306 (fwAbortSet ch false) s

/-! ### Reading sets and parameters -/

/-- The records a transaction shows: closed, its own; open, its base under the segments written so far. -/
def TransSt.view (t : TransSt) : ParamSet :=
  if t.closed || t.raw.isEmpty then t.recs
  else match parseSet t.raw with
    | .good r => if t.part = 0 then r else mergeSets t.recs r
    | .bad _ => t.recs

/-- The set that SOURCE names (13 Table 13-3). -/
def sourceSet (who src : Nat) (s : State) : Option ParamSet :=
  match src with
  | 0 => some s.ps
  | 1 => (s.trans who).map fun t => mergeSets (partOf s.comNext (t.part != 0)) t.view
  | 2 => s.sets.slotA.map (·.1)
  | 3 => s.sets.slotB.map (·.1)
  | _ => none

/-- Checks of SOURCE. -/
def sourceChecks (who src : Nat) (s : State) : List (Bool × Nat) :=
  [ (src == 1 && (s.trans who).isNone, Sts.NO_TXN), ((sourceSet who src s).isNone, Sts.OUT_OF_RANGE) ]

/-- READ_PARAM (13 R383, R386): LEN and VALUE, in the bulk extent above 232 bytes; a parameter without value has LEN 0. -/
def fwReadParam (who : Nat) (bad : Bool) (src pid inst sub : Nat) (s : State) : FwRes :=
  let d := findDef pid
  fwRead who bad { f := true }
    ([ (decide (3 < src), Sts.OUT_OF_RANGE), (d.isNone, Sts.UNKNOWN_PID),
       ((match d with | some d => decide (d.inst.count ≤ inst) || decide (d.subs ≤ sub) | none => true), Sts.OUT_OF_RANGE) ]
      ++ sourceChecks who src s)
    (fun s =>
      let ps := (sourceSet who src s).getD []
      let v := if pid = Pid.LA_GV ∨ pid = Pid.LA_GT then
          match laGainOf s ps pid inst with | some g => leBytes 2 g.1 ++ leBytes 2 g.2 | none => []
        else (prmB ps pid inst sub).getD []
      if v.length ≤ 232 then okRsp (leBytes 2 v.length ++ leBytes 2 0 ++ v) else okRsp (leBytes 2 v.length ++ leBytes 2 0) v) s
def execReadParam (ch src pid inst sub : Nat) (s : State) : Out := hostRow ch 0x0307 (fwReadParam ch false src pid inst sub) s

/-- Check value that a flash slot keeps, 0 where it is not valid. -/
def slotCheck (x : Option (ParamSet × Nat)) : Nat := match x with | some (_, c) => c | none => 0

/-- GET_SET_INFO (09 R273, 13 Table 13-3). -/
def fwGetSetInfo (who : Nat) (bad : Bool) (s : State) : FwRes :=
  fwRead who bad { f := true } []
    (fun s => okRsp (leBytes 4 (checkValue s.ps) ++ leBytes 1 (bit s.confirmed) ++ leBytes 3 0 ++ confirmBytes s.ssv.conf
      ++ leBytes 4 (slotCheck s.sets.slotA) ++ leBytes 4 (slotCheck s.sets.slotB)
      ++ leBytes 1 (bit s.sets.slotA.isSome + 2 * bit s.sets.slotB.isSome) ++ leBytes 3 0)) s
def execGetSetInfo (ch : Nat) (s : State) : Out := hostRow ch 0x0308 (fwGetSetInfo ch false) s

/-- READ_SET (09 R272): the serialisation of a part from OFFSET. -/
def fwReadSet (who : Nat) (bad : Bool) (src part off : Nat) (s : State) : FwRes :=
  let b (s : State) : Bytes := serialise ((sourceSet who src s).getD []) (part == 0)
  fwRead who bad { f := true }
    ([(decide (3 < src) || decide (1 < part), Sts.OUT_OF_RANGE)] ++ sourceChecks who src s
      ++ [(decide ((b s).length < off), Sts.OUT_OF_RANGE)])
    (fun s => okRsp (leBytes 4 (b s).length) ((b s).drop off)) s
def execReadSet (ch src part off : Nat) (s : State) : Out := hostRow ch 0x0309 (fwReadSet ch false src part off) s

/-- First rule that ties parameters together and that a set breaks. -/
def crossStatus (ps : ParamSet) : Nat := match firstErr (crossErrs ps) with | some e => e.status | none => Sts.OK

/-- WRITE_PARAM (13 R385, R386): one operational record, in force from its control-cycle start. -/
def fwWriteParam (who : Nat) (bad : Bool) (pid inst sub : Nat) (val : Bytes) (s : State) : FwRes :=
  let r : ParamRec := { pid := pid, inst := inst, sub := sub, val := val }
  let d := findDef pid
  let ps := normalSet (putRec r s.comNext)
  let st := valueStatus r
  fwRun who (bad || val.isEmpty || decide (4096 < val.length)) { a := true }
    [ (d.isNone, Sts.UNKNOWN_PID),
      ((match d with | some d => d.safety | none => false), Sts.SAFETY_PARAM),
      (st == Sts.BAD_PAYLOAD, Sts.BAD_PAYLOAD), (st == Sts.OUT_OF_RANGE, Sts.OUT_OF_RANGE),
      (st == Sts.UNSTABLE_FILTER, Sts.UNSTABLE_FILTER),
      (crossStatus ps != Sts.OK, crossStatus ps),
      (changeLock s pid inst != Sts.OK, changeLock s pid inst) ]
    (fun s => (none, stageParam who ps s)) s
def execWriteParam (ch pid inst sub : Nat) (val : Bytes) (s : State) : Out :=
  hostRow ch 0x030A (fwWriteParam ch false pid inst sub val) s

end Sys2Proof.Machine
end

