-- ==== Sys2Proof/Machine/FwTrace.lean ====
section
/-!
DEFINITION. The trace and injection class 0x0Bxx (13 Table 13-15, R392, 05 R149 to R156) and the life-cycle class 0x0Cxx
(13 Table 13-16, 16 R456, R463).
-/
namespace Sys2Proof.Machine

/-! ### Capture areas (13 R392) -/

/-- Captures that exist, by number. -/
def State.capList (s : State) : List (Nat × CapSt) :=
  (List.range 16).filterMap fun i => (vrd s.fw.caps i).map fun c => (i, c)

/-- Lowest offset at which an area of a size fits beside the given ones (DESIGN CHOICE, notes/assumptions 67). -/
def areaFor (size : Nat) (used : List CapSt) : Option Nat :=
  let ok (o : Nat) : Bool := decide (o + size ≤ traceLen) && used.all fun c => decide (o + size ≤ c.area) || decide (c.area + c.size ≤ o)
  ((0 :: used.map fun c => (c.area + c.size + 7) / 8 * 8).mergeSort (· ≤ ·)).find? ok

/-- Number and area of a new capture, and the captures that make way for it: areas that may be freed go, the oldest first,
until one fits (13 R392). -/
def placeCap (size : Nat) (now : Time) : Nat → List (Nat × CapSt) → Option (Nat × Nat × List Nat)
  | 0, _ => none
  | n + 1, l =>
    let num := (List.range 16).find? fun i => !(l.any fun e => e.1 == i)
    match num, areaFor size (l.map (·.2)) with
    | some i, some a => some (i, a, [])
    | _, _ =>
      let old := l.foldl (fun (b : Option (Nat × CapSt)) e =>
        if !e.2.freeable now then b
        else match b with | some x => if e.2.stopAt < x.2.stopAt then some e else b | none => some e) none
      match old with
      | none => none
      | some e => (placeCap size now n (l.filter fun x => x.1 != e.1)).map fun r => (r.1, r.2.1, e.1 :: r.2.2)

/-- Where a capture of a size would lie now. -/
def State.place (s : State) (size : Nat) : Option (Nat × Nat × List Nat) := placeCap size s.cyc.now 17 s.capList

/-- Length of a capture's area with its header, and the result of a run behind it (13 R392). Samples that just fill the region
leave their header no place in it (05 R153: 131 072 samples of 8 signals fill it). -/
def CapSt.bytes (c : CapSt) : Nat :=
  let n := 2 * c.sel.length * c.room
  if n ≤ traceLen ∧ traceLen < n + capHeader ∧ c.extra = 0 then traceLen else n + capHeader + c.extra

/-- Put a capture at its place. -/
def putCap (c : CapSt) (at_ : Nat × Nat × List Nat) (s : State) : State :=
  let s := at_.2.2.foldl (fun s i => { s with fw := { s.fw with caps := vwr s.fw.caps i none } }) s
  { s with fw := { s.fw with caps := vwr s.fw.caps at_.1 (some { c with area := at_.2.1, size := c.bytes }) } }

/-- The session that started something: channel and token. -/
def sessionOf (who : Nat) (s : State) : Nat × Nat := (who, if who < 4 then (s.chan who).token else 0)

/-- Something that another open session started (13 R380). -/
def heldByOther (who : Nat) (by_ : Nat × Nat) (s : State) : Bool :=
  by_.1 != who && decide (by_.1 < 4) && (s.chan by_.1).open_ && (s.chan by_.1).token == by_.2

/-- Codes of SEL: eight bytes, 0 for none (05 Table 05-6). -/
def selCodes (sel : Nat) : List Nat := ((List.range 8).map fun i => sel / 256 ^ i % 256).filter (· != 0)

/-- START_CAPTURE (05 R153, 13 R392): CAPTURE, AREA and SIZE. -/
def fwStartCapture (who : Nat) (bad : Bool) (n kind div count sel : Nat) (s : State) : FwRes :=
  let c : CapSt := { axis := n, ring := kind == 1, div := div, count := count, sel := selCodes sel, by_ := sessionOf who s }
  let at_ := s.place c.bytes
  fwRun who bad { a := true }
    [ (decide (63 < n) || decide (1 < kind) || decide (div = 0) || decide (256 < div) || decide (count = 0) || decide (2 ^ 32 ≤ count)
        || c.sel.isEmpty || c.sel.any (fun x => decide (15 < x)), Sts.OUT_OF_RANGE),
      (at_.isNone, Sts.RESOURCE_BUSY) ]
    (fun s =>
      let p := at_.getD (0, 0, [])
      (some (okRsp (leBytes 1 p.1 ++ leBytes 3 0 ++ leBytes 4 p.2.1 ++ leBytes 4 c.bytes)), putCap c p s)) s
def execStartCapture (ch axis kind div count sel : Nat) (s : State) : Out :=
  hostRow ch 0x0B01 (fwStartCapture ch false axis kind div count sel) s

/-- Capture of a number, if it exists. -/
def State.cap (s : State) (i : Nat) : Option CapSt := if i < 16 then vrd s.fw.caps i else none

/-- STOP_CAPTURE (05 R153): a ONESHOT stops, a RING takes its POST samples; SAMPLES are those stored so far. -/
def fwStopCapture (who : Nat) (bad : Bool) (i : Nat) (s : State) : FwRes :=
  let c := (s.cap i).getD {}
  fwRun who bad {} [ ((s.cap i).isNone, Sts.OUT_OF_RANGE), (heldByOther who c.by_ s, Sts.RESOURCE_BUSY) ]
    (fun s =>
      (some (okRsp (leBytes 4 c.n)),
       if c.stopped then s
       else if c.ring then { s with fw := { s.fw with caps := vwr s.fw.caps i (some { c with post := some (c.post.getD c.count) }) } }
       else stopCap i Sts.OK s)) s
def execStopCapture (ch cap : Nat) (s : State) : Out := hostRow ch 0x0B02 (fwStopCapture ch false cap) s

/-! ### Injection (05 R149 to R152) -/

/-- The axis types of an injection point (05 Table 05-3). -/
def pointOk (ps : ParamSet) (n point : Nat) : Bool :=
  match axType ps n, point with
  | .servo, _ => true
  | .external, 0 => true
  | .external, 1 => true
  | .external, 2 => prmN ps Pid.EXT_MODE n == 1
  | _, _ => false

/-- Record length of a PRBS (05 Table 05-4). -/
def prbsLen (n clk : Nat) : Nat := (2 ^ n - 1) * clk

/-- A run as the fields of START_INJECTION give it. -/
def injOf (n point signal prbsN amp clkDiv sCount len m x y : Nat) (bins : List Nat) : InjSt :=
  { axis := n, point := point, signal := signal, prbsN := prbsN, amp := amp, clkDiv := max 1 clkDiv, s := sCount,
    len := if signal = 2 then prbsLen prbsN clkDiv else len, m := m, xy := (x, y), bins := bins, shift := 2 ^ prbsN - 1,
    table := if signal = 1 then multisine amp len bins else [] }

/-- The fields of START_INJECTION are out of range (05 R149 to R155, Table 05-4). -/
def injBad (ps : ParamSet) (r : InjSt) (clkDiv len : Nat) : Bool :=
  let l := if r.signal = 2 then prbsLen r.prbsN clkDiv else len
  decide (63 < r.axis) || decide (3 < r.point) || decide (2 < r.signal) || !pointOk ps r.axis r.point
    || decide (prmN ps Pid.INJ_MAX r.axis < r.amp) || decide (r.m < 1) || decide (16 < r.m)
    || (if r.signal = 2 then decide (r.prbsN < 7) || decide (16 < r.prbsN) || decide (clkDiv < 1) || decide (16 < clkDiv) || len != 0
        else r.prbsN != 0 || decide (len < 256) || decide (65536 < len))
    || decide (r.xy.1 < 1) || decide (15 < r.xy.1) || decide (r.xy.2 < 1) || decide (15 < r.xy.2)
    || r.bins.isEmpty || decide (1024 < r.bins.length) || r.bins.any fun k => decide (k < 1) || decide ((l - 1) / 2 < k)

/-- A run is refused unless its axis is ENABLED in PTP at standstill and no joint of the arm is in PLANNED mode (05 R150). -/
def injMode (n : Nat) (s : State) : Bool :=
  let a := s.ax n
  let k := s.axSc n
  decide (a.fn = .enabled) && decide (a.mode = .ptp) && a.atRest && decide ((s.sc k).stop = .none)
    && (s.scAxes k).all fun j => decide ((s.ax j).mode ≠ .planned)

/-- START_INJECTION (05 R149 to R153): staged for a control-cycle start; the run has its own ONESHOT capture of X and Y. -/
def fwStartInjection (who : Nat) (bad : Bool) (n point signal prbsN amp clkDiv sCount len m x y : Nat) (bins : List Nat)
    (s : State) : FwRes :=
  let r := injOf n point signal prbsN amp clkDiv sCount len m x y bins
  let k := s.axSc n
  let c : CapSt := { axis := n, count := r.total, sel := [x, y], by_ := sessionOf who s, extra := 32 + 8 * bins.length }
  let at_ := s.place c.bytes
  fwRun who bad { a := true, o := axisField s.ps n }
    [ (injBad s.ps r clkDiv len, Sts.OUT_OF_RANGE), (!injMode n s, Sts.WRONG_MODE),
      ((vrd s.fw.inj k).isSome || at_.isNone, Sts.RESOURCE_BUSY), ticketsFull who s ]
    (fun s =>
      let p := at_.getD (0, 0, [])
      let (t, s) := ticketFor who 0x0B03 s
      let s := putCap c p s
      let s := { s with fw := { s.fw with inj := vwr s.fw.inj k (some { r with ticket := t, cap := p.1, by_ := sessionOf who s }) } }
      (some (acceptedRsp t (leBytes 1 p.1 ++ leBytes 3 0)), stageFor who k n false .inject s)) s
def execStartInjection (ch axis point signal prbsN amp clkDiv s_ len m x y : Nat) (bins : List Nat) (s : State) : Out :=
  hostRow ch 0x0B03 (fwStartInjection ch false axis point signal prbsN amp clkDiv s_ len m x y bins) s

/-- STOP_INJECTION (05 R151): the run of an arm ends; without one it has no effect. -/
def fwStopInjection (who : Nat) (bad : Bool) (k : Nat) (s : State) : FwRes :=
  let other := match vrd s.fw.inj k with | some r => r.running && heldByOther who r.by_ s | none => false
  fwRun who bad {} [ (decide (8 ≤ k), Sts.OUT_OF_RANGE), (other, Sts.RESOURCE_BUSY) ]
    (fun s => (some okRsp, endInjection k Sts.OK s)) s
def execStopInjection (ch arm : Nat) (s : State) : Out := hostRow ch 0x0B04 (fwStopInjection ch false arm) s

/-- GET_FRF (05 R156, 13 R392): the header and COUNT entries from FIRST on; the capture of the run counts as read. -/
def fwGetFrf (who : Nat) (bad : Bool) (n first count : Nat) (s : State) : FwRes :=
  let res := if n < 64 then vrd s.fw.frf n else none
  let r := res.getD {}
  fwRun who bad { f := true }
    [ (res.isNone || decide (892 < count) || decide (r.bins.length < first + count), Sts.OUT_OF_RANGE) ]
    (fun s =>
      (some (okRsp [] (r.head ++ ((r.bins.drop first).take count).flatMap (·.bytes))),
       { s with fw := { s.fw with caps := vmapI s.fw.caps fun _ c => c.map fun x =>
           if x.axis == n && x.stopped && x.first.map (·.at_) == some r.at_.at_ then { x with read := true } else x } })) s
def execGetFrf (ch axis first count : Nat) (s : State) : Out := hostRow ch 0x0B05 (fwGetFrf ch false axis first count) s

/-! ### Life cycle -/

/-- GET_LIFECYCLE (16 R461, R462, 15 R448). -/
def fwGetLifecycle (who : Nat) (bad : Bool) (s : State) : FwRes :=
  fwRead who bad { f := true, life := true } []
    (fun s => okRsp (leBytes 4 s.hlt.fuses.lifecycle ++ leBytes 1 s.modeCode ++ leBytes 1 s.ldg.wipeCause ++ leBytes 2 0
      ++ leBytes 1 s.hlt.fuses.repairs.length ++ leBytes 3 0)) s
def execGetLifecycle (ch : Nat) (s : State) : Out := hostRow ch 0x0C01 (fwGetLifecycle ch false) s

/-- KEY of RETIRE (13 Table 13-16). -/
def retireKey : Nat := 0x00006408

/-- The part is RETIRED (16 Table 16-7): RETIRED_GRP and all wipe-count bits burned, the region wiped with cause 4, E119; the
drive links send LISTEN frames only and the cell-bus transmitter is off. -/
def retireEffect (s : State) : State :=
  let s := { s with hlt := { s.hlt with fuses := { s.hlt.fuses with retiredGrp := 255, wipes := 64 } } }
  let s := wipe 4 (raiseEv 119 Sts.OK 0 s.hlt.fuses.lifecycle 0 s)
  ttcDrop { s with dl := { s.dl with authority := false } }

/-- RETIRE (16 R463). -/
def fwRetire (who : Nat) (bad : Bool) (eng key : Nat) (pass : Bytes) (s : State) : FwRes :=
  fwRun who bad {} [ (key != retireKey, Sts.OUT_OF_RANGE), (s.anyBusy, Sts.ARM_ENABLED) ]
    (fun s =>
      let (st, s) := passTest eng pass s
      (some (rspOf st), if st = Sts.OK then retireEffect s else s)) s
def execRetire (ch eng key : Nat) (pass : Bytes) (s : State) : Out := hostRow ch 0x0C02 (fwRetire ch false eng key pass) s

/-- SELF_TEST (16 R456). -/
def fwSelfTest (who : Nat) (bad : Bool) (unit idx : Nat) (s : State) : FwRes :=
  let u := s.unit unit idx
  fwRun who bad { a := true }
    [ (!isUnit unit idx || decide (u.st = .retired), Sts.OUT_OF_RANGE),
      (decide (u.st = .suspect) || (decide (u.st = .inService) && hasPool unit && (s.spareFor unit idx).isNone), Sts.RESOURCE_BUSY),
      ticketsFull who s ]
    (fun s =>
      let (t, s) := ticketFor who 0x0C03 s
      (some (acceptedRsp t), suspect unit idx Sts.OK (some t) s)) s
def execSelfTest (ch unit index : Nat) (s : State) : Out := hostRow ch 0x0C03 (fwSelfTest ch false unit index) s

end Sys2Proof.Machine
end

