-- ==== Sys2Proof/Machine/Power.lean ====
section
/-!
DEFINITION. Power, internal reset, start-up and the pins of chapter 17, with the host-link rows that chapter 17 and
chapter 12 add (AER, link width and rate, PERST#).
-/
namespace Sys2Proof.Machine

/-- The internal reset is held (17 R472, R473): every register returns to its reset value; the fuses, the flash with the
sealed journal and the set slots, the latched tamper event and the levels on the pins stay. Cycle events stop. -/
def holdReset (s : State) : State :=
  { State.reset with
    pending := s.pending
    fresh := s.fresh
    cyc := { State.reset.cyc with running := false }
    sets := { State.reset.sets with slotA := s.sets.slotA, slotB := s.sets.slotB }
    ldg := { State.reset.ldg with
      journal := s.ldg.journal, journalRecs := s.ldg.journalRecs, journalGen := s.ldg.journalGen,
      journalKey := s.ldg.journalKey, erasing := s.ldg.erasing, wipeCause := s.ldg.wipeCause }
    hlt := { State.reset.hlt with fuses := s.hlt.fuses, sealEx := decide (s.hlt.fuses.wipes = 64), therm := s.hlt.therm }
    pwr := { s.pwr with held := true, boot := .reset, uart := [], uartDrop := 0, clkreq := false, removed := false,
                        jtag := 1, jtagDr := 0x16408DE3 } }

/-- A wipe while the internal reset holds or begins: the journal no longer authenticates (15 R448). -/
def wipeInReset (cause : Nat) (s : State) : State :=
  let n := min 64 (s.hlt.fuses.wipes + 1)
  { s with
    hlt := { s.hlt with fuses := { s.hlt.fuses with wipes := n }, sealEx := decide (n = 64) }
    ldg := { s.ldg with journal := none, journalRecs := 0, journalKey := n, wipeCause := cause, erasing := true }
    pwr := { s.pwr with tamper := 0 } }

/-- SUPPLY_RISE (17 R472). -/
def execSupplyRise (i : Nat) (s : State) : Out :=
  onUnit "supply" i 5 <| .next { s with pwr := { s.pwr with supply := vwr s.pwr.supply i true } }

/-- The RANGE reaction (17 R476): F3 inside the safety channel, whose STO and brake reaction the reset's pad states
complete, then the internal reset. -/
def rangeFault (i : Nat) (s : State) : State :=
  let s := if s.pwr.held then s else holdReset (faultF3 true Sts.OK s)
  { s with pwr := { s.pwr with
      supply := if i < 5 then vwr s.pwr.supply i false else s.pwr.supply
      tempOut := if i = 5 then true else s.pwr.tempOut } }

/-- SUPPLY_RANGE_FAULT (17 R476): a supply (0–4) or the junction temperature (5) outside its RANGE window. -/
def execSupplyRangeFault (i : Nat) (s : State) : Out :=
  onUnit "supply" i 6 <| .next (rangeFault i s)

/-- TRIP (17 R476, 15 R448): the RANGE reaction and the wipe, cause 2 for a supply and 3 for temperature. -/
def execTrip (i : Nat) (s : State) : Out :=
  onUnit "supply" i 6 <| .next (wipeInReset (if i = 5 then 3 else 2) (rangeFault i s))

/-- TEMPERATURE_RECOVERY (17 R476). -/
def execTemperatureRecovery (s : State) : Out := .next { s with pwr := { s.pwr with tempOut := false } }

/-- RESET_N (17 R472, R477): RESET_N or PWR_GOOD low for at least 100 ns is a device reset; shorter pulses are ignored. -/
def execResetN (which : Nat) (low : Bool) (held : Nat) (s : State) : Out :=
  .next <|
    if held < 100 * ns then s
    else
      let s := if low then holdReset s else s
      { s with pwr := { s.pwr with
          resetN := if which = 0 then !low else s.pwr.resetN
          pwrGood := if which = 0 then s.pwr.pwrGood else !low } }

/-- TEST_PIN (17 R472): TEST0 or TEST1 high holds the internal reset. -/
def execTestPin (which : Nat) (high : Bool) (s : State) : Out :=
  .next <|
    let s := if high then holdReset s else s
    { s with pwr := { s.pwr with
        test0 := if which = 0 then high else s.pwr.test0
        test1 := if which = 0 then s.pwr.test1 else high } }

/-- PRESENT_N_REMOVAL (17 R479): F3 outside the safety channel with CAUSE 0xF001; transmission stops at once; a READY
Shadow takes over, otherwise every arm goes to F2. Nothing is wiped. -/
def execPresentNRemoval (s : State) : Out :=
  .next <|
    let s := { s with pwr := { s.pwr with presentN := true, seated := false } }
    if s.pwr.held || s.pwr.removed then s
    else dropAuthority (faultF3 false 0xF001 { s with pwr := { s.pwr with removed := true } })

/-- PRESENT_N_INSERTION (17 R472): the 10 ms start. -/
def execPresentNInsertion (s : State) : Out :=
  .next { s with pwr := { s.pwr with presentN := false, seated := false } }

/-- Every condition of R472 for releasing the internal reset, with the times since the last supply rose and since
PRESENT_N fell in µs. -/
def mayRelease (p : PwrSt) (sinceSupply sincePresent : Nat) : Bool :=
  p.held && (vlist p.supply).all id && decide (2000 ≤ sinceSupply) && !p.tempOut && p.pwrGood && p.resetN
    && !p.presentN && decide (10000 ≤ sincePresent) && !p.test0 && !p.test1

/-- INTERNAL_RESET_RELEASE (17 R472, R474, 02 R39): cell time 0, time base FREE, cycle events from 0; FAULT_N asserted. -/
def execInternalResetRelease (sinceSupply sincePresent : Nat) (s : State) : Out :=
  .next <|
    if mayRelease s.pwr sinceSupply sincePresent then
      { s with
        pwr := { s.pwr with held := false, boot := .fuseLoad, tr := 0, seated := true }
        cyc := { s.cyc with running := true } }
    else s

/-- A group with 1 to 4 bits burned is completed (16 R462). -/
def completeGrp (v : Nat) : Nat := if 1 ≤ bitCount v ∧ bitCount v ≤ 4 then 255 else v

/-- Apply one repair record at fuse load (16 R458, R459). -/
def applyRepair (s : State) (r : Nat) : State :=
  if !repairOk r then s else
  let cls := r / 2 ^ 28 % 16
  let idx := r / 2 ^ 21 % 128
  let sp := r / 2 ^ 14 % 128
  if !isUnit cls idx then s else
  let sv := (s.unit cls idx).serves
  let s := s.mdUnit cls idx fun u => { u with st := .retired, serves := 127 }
  let s := if sp < 127 && sp < testedUnits cls && sp != idx then
      s.mdUnit cls sp fun u => if u.st = .spare then { u with st := .inService, serves := sv } else u else s
  match cls with
  | 0 => { s with lanes := vmapI s.lanes fun i l =>
      if i = idx then { l with axis := none } else if i = sp ∧ sv < 64 then { l with axis := some sv } else l }
  | 1 => { s with dps := vmd s.dps idx fun d => { d with retired := true } }
  | 2 =>
    { s with
      tiles := vmapI s.tiles fun i t => if i = idx then { t with arm := none } else if i = sp ∧ sv < 8 then { t with arm := some sv } else t
      planners := vmapI s.planners fun k p => if k = sv then { p with tile := if sp < 9 then some sp else none } else p }
  | 3 => { s with ldg := { s.ldg with banks := vmapI s.ldg.banks fun _ b =>
      if b.phys = idx ∧ sp < 34 then { b with phys := sp } else b } }
  | 6 => { s with hlt := { s.hlt with slices := Nat.xor s.hlt.slices (2 ^ idx) } }
  | 7 => s.mdPort idx fun p => { p with retired := true }
  | 8 => { s with tb := { s.tb with
      interp := vmd s.tb.interp idx fun i => { i with retired := true }
      rovers := vmapI s.tb.rovers fun i v => if 60 + i = sp then { v with fixed := true, chan := idx } else v } }
  | _ => s

/-- FUSE_LOAD_END (17 Table 17-4, 16 R458, R462): interrupted burns completed, repair records applied, CLKREQ_N low. -/
def execFuseLoadEnd (s : State) : Out :=
  .next <|
    if s.pwr.held || decide (s.pwr.boot ≠ .fuseLoad) then s
    else
      let f := s.hlt.fuses
      let f' := { f with fieldGrp := completeGrp f.fieldGrp, retiredGrp := completeGrp f.retiredGrp }
      let s := s.upTo (200 * us)
      let s := { s with
        hlt := { s.hlt with fuses := f' }
        pwr := { s.pwr with boot := .cores, clkreq := true, tamper := if f'.lifecycle = f.lifecycle then s.pwr.tamper else 4 } }
      let s := f'.repairs.foldl applyRepair s
      if f'.lifecycle = f.lifecycle then s else raiseEv 119 Sts.OK 0 f'.lifecycle 0 s

/-- CORE_SELF_TEST_END (17 Table 17-4): a latched tamper or TRIP event, or a life-cycle change, has wiped the region at
t_r + 1.2 ms; the cores pass and the journal replay begins. -/
def execCoreSelfTestEnd (s : State) : Out :=
  .next <|
    if s.pwr.held || decide (s.pwr.boot ≠ .cores) then s
    else
      let s := s.upTo (1200 * us)
      let s := if s.pwr.tamper = 0 then s else
        let c := s.pwr.tamper
        { wipe c s with pwr := { (wipe c s).pwr with tamper := 0 } }
      let s := s.upTo (3200 * us)
      { s with
        pwr := { s.pwr with boot := .rom }
        ldg := { s.ldg with replay := if s.ldg.journalKey = s.hlt.fuses.wipes then s.ldg.journal else none } }

/-- ROM_SELF_TEST_END (17 Table 17-4, 16 R458): interpolators calibrated; each failed unit is retired and its record
burned, its spare taking its place; a failed block is F3. -/
def execRomSelfTestEnd (failed : List (Nat × Nat)) (s : State) : Out :=
  .next <|
    if s.pwr.held || decide (s.pwr.boot ≠ .rom) then s
    else
      let s := s.upTo (43200 * us)
      let s := { s with
        pwr := { s.pwr with boot := .replay }
        tb := { s.tb with interp := vmapI s.tb.interp fun _ i => { i with calAt := s.cyc.now } } }
      let s := failed.foldl (fun s u =>
        if !isUnit u.1 u.2 || decide ((s.unit u.1 u.2).st = .retired) then s
        else if u.1 = 9 then faultF3 (u.2 == 0 || u.2 == 1) Sts.SELFTEST_FAILED s
        else
          let sp := (s.spareFor u.1 u.2).getD 127
          let s := burnRecord u.1 u.2 sp 0 s
          applyRepair s (repairBits u.1 u.2 sp 0)) s
      (List.range 4).foldl (fun s c => clusterDown c s) s

/-- FW_READY (17 Table 17-4, 16 R464, 14 R396, R397): the replayed image is restored and the mode set; mailboxes are
served; FAULT_N is released unless in F3. A VOUT_MODE that is not linear sets PMBUS_FAIL, and 850 mV is commanded (16 R451). A unit
with PAIR_EN starts PAIR_WAIT. -/
def execFwReady (s : State) : Out :=
  .next <|
    if s.pwr.held || decide (s.pwr.boot ≠ .replay) then s
    else
      let s := s.upTo (45000 * us)
      let s := match s.ldg.replay with | some i => restoreImage i s | none => setInForce s.ps s
      let s := { s with
        ldg := { s.ldg with replay := none }
        pwr := { s.pwr with boot := .ready }
        hif := { s.hif with fwReady := true }
        hlt := { s.hlt with vdd := 850, voutWait := some s.cyc.now, pmbusFail := !Config.voutLinear }
        ssv := { s.ssv with faultN := s.ssv.f3, mode := .uncommissioned } }
      let s := if Config.voutLinear then s else raiseEv 113 Sts.OK 0 850 2 s
      let s := if s.hlt.fuses.state = 1 && s.confirmed then setMode .commissioned s else s
      if prmN s.ps Pid.PAIR_EN 0 = 1 then
        tbMirror { s with mlc := { s.mlc with role := .shadow, waitEnd := some (s.cyc.now + prmN s.ps Pid.PAIR_WAIT 0 * ms) } }
      else s

/-- AER_ERROR (12 R359): an error reported through Advanced Error Reporting raises E124 with KIND 1 or 2. -/
def execAerError (unc : Bool) (status : Nat) (s : State) : Out :=
  .next <|
    let s := { s with hif := { s.hif with
      aerCor := if unc then s.hif.aerCor else s.hif.aerCor ||| status % 2 ^ 32
      aerUnc := if unc then s.hif.aerUnc ||| status % 2 ^ 32 else s.hif.aerUnc } }
    raiseEv 124 Sts.OK 0 (status % 2 ^ 32) (if unc then 2 else 1) s

/-- LINK_WIDTH_RATE_CHANGE (12 R359, Table 12-5): E125 with KIND 2. -/
def execLinkWidthRateChange (width speed : Nat) (s : State) : Out :=
  .next <|
    if !s.hif.linkUp then s
    else raiseEv 125 Sts.OK 0 (width * 2 ^ 28 + speed * 2 ^ 24) 2 { s with hif := { s.hif with width := width, speed := speed } }

/-- PERST_N_RELEASE (17 R475): link training starts within 20 ms of the later of t_r + 0.2 ms and the release. -/
def execPerstNRelease (s : State) : Out :=
  .next { s with
    pwr := { s.pwr with perstN := true }
    hif := { s.hif with trainBy := some (max s.cyc.now (200 * us) + 20 * ms) } }

/-- MIRROR_LANE_UP (14 R400, Table 14-4): a lane gains symbol lock, counts heartbeats from 0, and HELLO is sent with this
unit's nonce (R422). -/
def execMirrorLaneUp (lane : Nat) (s : State) : Out :=
  onUnit "Mirror lane" lane 5 <| .next <|
    let s := if s.mlc.nonce ≠ 0 then s
      else { s with mlc := { s.mlc with nonce := (Config.entropy s.fresh).toNat % 2 ^ 128 } }.drawn
    sendHello
      { s with mlc := { s.mlc with lanes := vmd s.mlc.lanes lane fun l => { l with lock := true, good := 0 } } }

/-- JOURNAL_ERASE_END (17 R474): appends resume. -/
def execJournalEraseEnd (s : State) : Out :=
  .next { s with ldg := { s.ldg with erasing := false, journalDue := s.ldg.journalDue || s.ldg.erasing } }

/-- UART_CTS_N (17 Table 17-8): high pauses the event-log output, low sends what the buffer holds. -/
def execUartCtsN (high : Bool) (s : State) : Out :=
  .next <|
    if high then { s with pwr := { s.pwr with ctsN := true } }
    else { s with pwr := { s.pwr with ctsN := false, uartSent := s.pwr.uartSent + s.pwr.uart.length, uart := [],
                                      uartDrop := if s.pwr.uart.isEmpty then s.pwr.uartDrop else 0 } }

/-- JTAG_INSTRUCTION (17 Table 17-8): with TEST0 low only BYPASS (0), IDCODE (1) and SAMPLE/PRELOAD (2) act and every other
instruction acts as BYPASS; with TEST0 high EXTEST (3), INTEST (4) and the IEEE 1149.6 instructions (5, 6) act too. -/
def execJtagInstruction (ir : Nat) (s : State) : Out :=
  .next <|
    let i := if ir ≤ 2 then ir else if s.pwr.test0 && decide (ir ≤ 6) then ir else 0
    { s with pwr := { s.pwr with jtag := i, jtagDr := if i = 1 then 0x16408DE3 else if i = 0 then 0 else s.pwr.jtagDr } }

end Sys2Proof.Machine
end

