-- ==== Sys2Proof/Machine/HostPort.lean ====
section
/-!
DEFINITION. The PCI Express function (chapter 12): link and conventional resets (R356), power states (R355), the BAR2 windows
(R353, R354, R360), the mailbox rings (R362 to R365), events and interrupts (R358), and the registers by their access codes
(00 R5, 12 Tables 12-2 to 12-9).
-/
namespace Sys2Proof.Machine

/-! ### Link and resets -/

/-- The HIF after a conventional reset (12 R356): configuration space, BAR0 registers, MSI-X and event map at their reset
values, the mailbox RAM zero and every ring index 0; LINK_DOWNS, the link's state, sessions, tickets and the log are kept. -/
def hifReset (s : State) : State :=
  let h := s.hif
  let h0 : HifSt := {}
  { s with hif := { h with
    bar2Abort := 0, bar2Wr := 0, resetSeen := true, dbBad := 0, ackBad := 0, collide := 0, evstat := 0, evmask := h0.evmask
    evmap := h0.evmap, msix := h0.msix, pba := 0, vpend := 0, busMaster := false, msixEn := false, funcMask := false, d3 := false
    bar0 := 0, bar2 := 0, aerCor := 0, aerUnc := 0, ram := [], readData := [], readAbort := false
    ch := vmapI h.ch fun _ c => { c with
      reqProd := 0, reqCons := 0, rspProd := 0, rspAck := 0, posts := [], wait := c.wait.map fun w => { w with idx := none } } } }

/-- DETAIL [63:32] of E125: WIDTH and SPEED (13 Table 13-19). -/
def linkDetail (h : HifSt) : Nat := h.width * 2 ^ 28 + h.speed * 2 ^ 24

/-- LINK_DOWN (12 R356, R359): E125 with KIND 0, then the reset of the HIF; in F3 too it is no device reset. -/
def execLinkDown (s : State) : Out :=
  .next <|
    if !s.hif.linkUp then s
    else
      let s := hifReset { s with hif := { s.hif with
        linkUp := false, width := 0, speed := 0, linkDowns := incSat 255 s.hif.linkDowns } }
      raiseEv 125 Sts.OK 0 (linkDetail s.hif) 0 s

/-- LINK_UP (17 R475, 12 R351): the link is up at a width of 1 or 2 and a rate code of 1 to 3; E125 with KIND 1. -/
def execLinkUp (width speed : Nat) (s : State) : Out :=
  .next <|
    if width < 1 ∨ 2 < width ∨ speed < 1 ∨ 3 < speed ∨ s.pwr.held then s
    else
      let s := { s with hif := { s.hif with linkUp := true, width := width, speed := speed, trainBy := none } }
      raiseEv 125 Sts.OK 0 (linkDetail s.hif) 1 s

/-- CONVENTIONAL_RESET (12 R356): PERST# (0) or a hot reset (1) resets the HIF; in F3 it is a device reset (01 R33). -/
def execConventionalReset (kind : Nat) (s : State) : Out :=
  .next <|
    let s := if kind = 0 then { s with pwr := { s.pwr with perstN := false } } else s
    if s.ssv.f3 then holdReset s else hifReset s

/-- POWER_STATE_WRITE (12 R355): in D3hot the function answers configuration requests only; nothing else changes. -/
def execPowerStateWrite (d3 : Bool) (s : State) : Out := .next { s with hif := { s.hif with d3 := d3 } }

/-! ### BAR2 -/

/-- A byte of BAR2 (12 Table 12-10): the index page, and the Ledger behind the other windows; undefined offsets read 0. -/
def bar2Byte (s : State) (off : Nat) : Byte :=
  if off < 0x1000 then
    (leBytes 8 s.hif.snapGen ++ leBytes 4 s.hif.logNext ++ leBytes 4 1).getD off 0
  else if 0x10000 ≤ off ∧ off < 0x30000 then memByte s.ldg.mem (regSnapshot + (off - 0x10000))
  else if 0x100000 ≤ off ∧ off < 0x200000 then memByte s.ldg.mem (regLog + (off - 0x100000))
  else if 0x200000 ≤ off ∧ off < 0x280000 then memByte s.ldg.mem (regPlans + (off - 0x200000))
  else if 0x400000 ≤ off ∧ off < 0x600000 then memByte s.ldg.mem (regTrace + (off - 0x400000))
  else 0

/-- A read of the trace window touches a capture's area. -/
def CapSt.touched (c : CapSt) (off len : Nat) : Bool :=
  decide (off < 0x400000 + c.area + c.size) && decide (0x400000 + c.area < off + len)

/-- BAR2_READ (12 R353, R360): served from the Ledger; a stopped capture counts as read (13 R392). In D3hot only
configuration requests are answered (R355). -/
def execBar2Read (off len : Nat) (s : State) : Out :=
  .next <|
    if s.hif.d3 then s
    else
      { s with
        hif := { s.hif with readData := (List.range len).map fun i => bar2Byte s (off + i), readAbort := false }
        fw := { s.fw with caps := vmapI s.fw.caps fun _ c => c.map fun x =>
          if x.stopped && x.touched off len then { x with read := true } else x } }

/-- BAR2_READ_ABORT (12 R353): not served within 1 ms: Completer Abort, BAR2_ABORT, E124 with KIND 0. -/
def execBar2ReadAbort (off : Nat) (s : State) : Out :=
  .next <|
    if s.hif.d3 then s
    else raiseEv 124 Sts.OK 0 off 0 { s with hif := { s.hif with
      bar2Abort := incSat 255 s.hif.bar2Abort, readData := [], readAbort := true } }

/-- BAR2_WRITE (12 R354): discarded and counted, wherever it goes. -/
def execBar2Write (off : Nat) (s : State) : Out :=
  .next <| if s.hif.d3 then s else { s with hif := { s.hif with bar2Wr := if off < 2 ^ 24 then incSat 255 s.hif.bar2Wr else s.hif.bar2Wr } }

/-! ### Rings (12 R362 to R365) -/

/-- Difference of two ring indices (12 R362). -/
def ringDiff (a b : Nat) : Nat := (a + 2 ^ 16 - b % 2 ^ 16) % 2 ^ 16

/-- A doorbell write at a stamp (12 R363): taken, or ignored with DB_BAD and the channel's event. -/
def doorbellWrite (c v t : Nat) (s : State) : State :=
  let x := s.chan c
  let v := v % 2 ^ 16
  if s.hif.fwReady && decide (0 < ringDiff v x.reqProd) && decide (ringDiff v x.reqCons ≤ 16) then
    s.mdChan c fun x => { x with reqProd := v, posts := x.posts ++ [(v, coarse t)] }
  else raiseChan c Sts.OK 0 0 0 4 { s with hif := { s.hif with dbBad := s.hif.dbBad ||| 2 ^ c } }

/-- DOORBELL (12 R363, 02 R41). -/
def execDoorbell (ch v t : Nat) (s : State) : Out :=
  onUnit "channel" ch 4 <| .next <|
    let s := s.upTo t
    if s.hif.d3 then s else doorbellWrite ch v t s

/-- An acknowledgement write (12 R363). -/
def rspAckWrite (c v : Nat) (s : State) : State :=
  let x := s.chan c
  let v := v % 2 ^ 16
  if 0 < ringDiff v x.rspAck ∧ ringDiff v x.rspAck ≤ ringDiff x.rspProd x.rspAck then s.mdChan c fun x => { x with rspAck := v }
  else raiseChan c Sts.OK 0 0 0 5 { s with hif := { s.hif with ackBad := s.hif.ackBad ||| 2 ^ c } }

/-- RSP_ACK (12 R363). -/
def execRspAck (ch v : Nat) (s : State) : Out :=
  onUnit "channel" ch 4 <| .next <| if s.hif.d3 then s else rspAckWrite ch v s

/-- Channel whose part of the mailbox RAM holds a BAR0 offset (12, Mailbox rings). -/
def ramChan (off : Nat) : Nat := (off - 0x1000) / 0x3C00

/-- A host write to the mailbox RAM; bytes beyond BAR0 fall away. -/
def ramWrite (off : Nat) (b : Bytes) (s : State) : State :=
  if off < 0x1000 ∨ 0x10000 ≤ off then s else ramPut off (b.take (0x10000 - off)) s

/-- MAILBOX_RAM_WRITE (12 R365): where the firmware writes the same word in the same handshake, the host's write is lost. -/
def execMailboxRamWrite (off : Nat) (bytes : Bytes) (collide : Bool) (s : State) : Out :=
  .next <|
    if s.hif.d3 ∨ off < 0x1000 ∨ 0x10000 ≤ off then s
    else if collide then
      raiseChan (ramChan off) Sts.OK 0 0 0 6 { s with hif := { s.hif with collide := s.hif.collide ||| 2 ^ ramChan off } }
    else ramWrite off bytes s

/-! ### Events and interrupts (12 R358) -/

/-- Vectors of the sources of a set that are not masked. -/
def HifSt.vectorsOf (h : HifSt) (srcs : Nat) : Nat :=
  (List.range 128).foldl (fun acc i => if srcs.testBit i && !h.evmask.testBit i then acc ||| 2 ^ (lget h.evmap i % 32) else acc) 0

/-- A W1C of HIF_EVSTATn; `again` are bits that events set in the same handshake: they stay 1 and count as a rise. -/
def evstatWrite (n mask again : Nat) (s : State) : State :=
  let m := mask % 2 ^ 32 * 2 ^ (32 * n)
  let a := again % 2 ^ 32 * 2 ^ (32 * n)
  let h := { s.hif with evstat := (s.hif.evstat &&& (2 ^ 128 - 1 - m)) ||| a }
  { s with hif := h.settle (h.vectorsOf (a &&& m)) }

/-- EVSTAT_CLEAR (12 R358). -/
def execEvstatClear (n mask again : Nat) (s : State) : Out :=
  onUnit "EVSTAT" n 4 <| .next <| if s.hif.d3 then s else evstatWrite n mask again s

/-- A write of HIF_EVMASKn. -/
def evmaskWrite (n mask : Nat) (s : State) : State :=
  let keep := s.hif.evmask &&& (2 ^ 128 - 1 - (2 ^ 32 - 1) * 2 ^ (32 * n))
  { s with hif := ({ s.hif with evmask := keep + mask % 2 ^ 32 * 2 ^ (32 * n) }).settle }

/-- EVMASK_WRITE (12 R358). -/
def execEvmaskWrite (n mask : Nat) (s : State) : Out :=
  onUnit "EVMASK" n 4 <| .next <| if s.hif.d3 then s else evmaskWrite n mask s

/-- MSIX_UNMASK (12 R352, R358): what prevented messages falls away, and those held in the PBA go out. -/
def execMsixUnmask (what vec : Nat) (s : State) : Out :=
  .next <|
    let h := s.hif
    let h := match what with
      | 0 => { h with msix := vmd h.msix vec fun e => { e with mask := false } }
      | 1 => { h with funcMask := false }
      | _ => { h with busMaster := true }
    { s with hif := h.flush }

/-! ### Registers -/

/-- HIF_STATUS (12 Table 12-4). -/
def hifStatus (s : State) : Nat :=
  s.hif.bar2Abort * 2 ^ 24 + s.hif.bar2Wr * 2 ^ 16 + bit (decide (s.mlc.role = .shadow)) * 32
    + bit (s.dl.authority && !s.dl.lost) * 16 + bit s.ssv.f3 * 8 + s.modeCode * 2 + bit s.hif.fwReady

/-- HIF_HOTPLUG (12 Table 12-5). -/
def hifHotplug (h : HifSt) : Nat := h.linkDowns * 2 ^ 24 + h.speed * 2 ^ 16 + h.width * 2 ^ 12 + bit h.resetSeen

/-- HIF_COLLISION (12 Table 12-6). -/
def hifCollision (h : HifSt) : Nat := h.dbBad * 256 + h.ackBad * 16 + h.collide

/-- TXN of HIF_LEASEc (12 Table 12-8). -/
def txnCode (t : Option TransSt) : Nat :=
  match t with | none => 0 | some t => if t.confirmedBy.isSome then 3 else if t.closed then 2 else 1

/-- HIF_LEASEc (12 Table 12-8). -/
def hifLease (c : ChanSt) (now : Time) : Nat := bit c.open_ * 2 ^ 30 + txnCode c.trans * 2 ^ 28 + min 0xFFFF (c.remain now)

/-- A 32-bit word of BAR0 (12 Table 12-2); undefined offsets read 0 (R354). -/
def bar0Word (s : State) (off : Nat) : Nat :=
  let h := s.hif
  let e := vrd h.msix ((off - 0x800) / 16)
  if off = 0x000 then 0x6408B101
  else if off = 0x004 then 4 * 2 ^ 16 + 2
  else if off = 0x010 then hifStatus s
  else if off = 0x014 then hifHotplug h
  else if off = 0x018 then hifCollision h
  else if 0x040 ≤ off ∧ off < 0x080 then
    let c := s.chan ((off - 0x40) / 16)
    match off / 4 % 4 with | 0 => c.reqProd | 1 => c.reqCons | 2 => c.rspProd | _ => c.rspAck
  else if 0x080 ≤ off ∧ off < 0x090 then hifLease (s.chan ((off - 0x80) / 4)) s.cyc.now
  else if 0x100 ≤ off ∧ off < 0x110 then h.evstat / 2 ^ (8 * (off - 0x100)) % 2 ^ 32
  else if 0x110 ≤ off ∧ off < 0x120 then h.evmask / 2 ^ (8 * (off - 0x110)) % 2 ^ 32
  else if 0x120 ≤ off ∧ off < 0x1A0 then ofLe ((List.range 4).map fun i => BitVec.ofNat 8 (lget h.evmap (off - 0x120 + i)))
  else if 0x800 ≤ off ∧ off < 0xA00 then
    match off / 4 % 4 with | 0 => e.addr % 2 ^ 32 | 1 => e.addr / 2 ^ 32 | 2 => e.data | _ => bit e.mask
  else if off = 0xA00 then h.pba
  else if 0x1000 ≤ off ∧ off < 0x10000 then ofLe (memRead h.ram off 4)
  else 0

/-- A 32-bit word of configuration space (12 Table 12-1); what the table does not list reads 0. The codes of the capabilities are
those of the PCI Express Base Specification that R351 names (PRESUMED, notes/assumptions 54). -/
def cfgWord (s : State) (off : Nat) : Nat :=
  let h := s.hif
  match off with
  | 0x00 => 0x64081D7F
  | 0x04 => 0x00100000 + bit h.busMaster * 4
  | 0x08 => 0x088000B1
  | 0x10 => h.bar0
  | 0x18 => h.bar2 % 2 ^ 32 + 0xC
  | 0x1C => h.bar2 / 2 ^ 32
  | 0x2C => Config.subsysId.toNat * 2 ^ 16 + Config.subsysVid.toNat
  | 0x34 => 0x40
  | 0x40 => 0x00035001
  | 0x44 => 8 + bit h.d3 * 3
  | 0x50 => 0x00029010
  | 0x54 => 0x21
  | 0x5C => 0x23
  | 0x60 => h.width * 2 ^ 20 + h.speed * 2 ^ 16
  | 0x74 => 3
  | 0x90 => bit h.msixEn * 2 ^ 31 + bit h.funcMask * 2 ^ 30 + 31 * 2 ^ 16 + 0x11
  | 0x94 => 0x800
  | 0x98 => 0xA00
  | 0x100 => 0x14020001
  | 0x104 => h.aerUnc
  | 0x110 => h.aerCor
  | 0x140 => 0x00010003
  | 0x144 => Config.serial.toNat % 2 ^ 32
  | 0x148 => Config.serial.toNat / 2 ^ 32
  | _ => 0

/-- READ_CLEAR_ACCESS (00 R5): a host read of a BAR0 word returns it; the RC fields it shows are cleared: BAR2_ABORT and
BAR2_WR of HIF_STATUS, LINK_DOWNS of HIF_HOTPLUG. Offsets from 64 KiB on name configuration space (DESIGN CHOICE,
notes/assumptions 54), which answers in D3hot too (12 R355). -/
def execReadClearAccess (off : Nat) (s : State) : Out :=
  .next <|
    if 0x10000 ≤ off then
      { s with hif := { s.hif with readData := leBytes 4 (cfgWord s ((off - 0x10000) / 4 * 4)), readAbort := false } }
    else if s.hif.d3 then s
    else
      let o := off / 4 * 4
      let h := { s.hif with readData := leBytes 4 (bar0Word s o), readAbort := false }
      { s with hif :=
        if o = 0x010 then { h with bar2Abort := 0, bar2Wr := 0 }
        else if o = 0x014 then { h with linkDowns := 0 }
        else h }

/-- A write of a word of the MSI-X table (12 Table 12-1). -/
def msixWrite (off v : Nat) (s : State) : State :=
  let put (e : MsixEnt) : MsixEnt :=
    match off / 4 % 4 with
    | 0 => { e with addr := e.addr / 2 ^ 32 * 2 ^ 32 + v }
    | 1 => { e with addr := v * 2 ^ 32 + e.addr % 2 ^ 32 }
    | 2 => { e with data := v }
    | _ => { e with mask := v.testBit 0 }
  { s with hif := ({ s.hif with msix := vmd s.hif.msix ((off - 0x800) / 16) put }).flush }

/-- A 32-bit write to BAR0 by the access codes (00 R5, 12 Tables 12-2 to 12-9); RO fields and undefined offsets ignore it. -/
def bar0Write (off v : Nat) (s : State) : State :=
  let h := s.hif
  let nv := 2 ^ 32 - 1 - v
  if off = 0x014 then { s with hif := { h with resetSeen := h.resetSeen && !v.testBit 0 } }
  else if off = 0x018 then
    { s with hif := { h with dbBad := h.dbBad &&& nv / 256 % 16, ackBad := h.ackBad &&& nv / 16 % 16, collide := h.collide &&& nv % 16 } }
  else if 0x040 ≤ off ∧ off < 0x080 then
    match off / 4 % 4 with
    | 0 => doorbellWrite ((off - 0x40) / 16) v s.cyc.now s
    | 3 => rspAckWrite ((off - 0x40) / 16) v s
    | _ => s
  else if 0x100 ≤ off ∧ off < 0x110 then evstatWrite ((off - 0x100) / 4) v 0 s
  else if 0x110 ≤ off ∧ off < 0x120 then evmaskWrite ((off - 0x110) / 4) v s
  else if 0x120 ≤ off ∧ off < 0x1A0 then
    let put (l : List Nat) (i : Nat) : List Nat := l.set (off - 0x120 + i) (v / 256 ^ i % 32)
    { s with hif := ({ h with evmap := (List.range 4).foldl put h.evmap }).settle }
  else if 0x800 ≤ off ∧ off < 0xA00 then msixWrite off v s
  else if 0x1000 ≤ off then ramWrite off (leBytes 4 v) s
  else s

/-- A 32-bit write to configuration space (12 Table 12-1): Bus Master Enable, the BARs, the power state, the MSI-X control and
the AER status; every other bit ignores it. -/
def cfgWrite (off v : Nat) (s : State) : State :=
  let h := s.hif
  if off = 0x04 then { s with hif := ({ h with busMaster := v.testBit 2 }).flush }
  else if off = 0x10 then { s with hif := { h with bar0 := v / 2 ^ 16 * 2 ^ 16 } }
  else if off = 0x18 then { s with hif := { h with bar2 := h.bar2 / 2 ^ 32 * 2 ^ 32 + v / 2 ^ 24 * 2 ^ 24 } }
  else if off = 0x1C then { s with hif := { h with bar2 := v * 2 ^ 32 + h.bar2 % 2 ^ 32 } }
  else if off = 0x44 then { s with hif := { h with d3 := if v % 4 = 3 then true else if v % 4 = 0 then false else h.d3 } }
  else if off = 0x90 then { s with hif := ({ h with msixEn := v.testBit 31, funcMask := v.testBit 30 }).flush }
  else if off = 0x104 then { s with hif := { h with aerUnc := h.aerUnc &&& (2 ^ 32 - 1 - v) } }
  else if off = 0x110 then { s with hif := { h with aerCor := h.aerCor &&& (2 ^ 32 - 1 - v) } }
  else s

/-- A write of LDG_LOCK i: LEASE (15 Table 15-6). -/
def lockWrite (i v : Nat) (s : State) : State :=
  { s with ldg := { s.ldg with locks := vmd s.ldg.locks i fun l => { l with lease := v / 256 % 2 ^ 16 } } }

/-- A write of ARB_REQCFG r (15 Table 15-3); numbers 21 to 31 keep their reset values (R436), and a GH_LIMIT outside 1 to 1 024
is not taken (DEDUCED, notes/assumptions 68). -/
def reqCfgWrite (r v : Nat) (s : State) : State :=
  if 21 ≤ r then s
  else
    let lim := v % 2 ^ 11
    { s with ldg := { s.ldg with reqs := vmd s.ldg.reqs r fun x => { x with
      sbEn := v.testBit 17, ghEn := v.testBit 16, ghLimit := if 1 ≤ lim ∧ lim ≤ 1024 then lim else x.ghLimit } } }

/-- REGISTER_WRITE (00 R5): a 32-bit write to BAR0 (0), configuration space (1), lock word `off` (2) or ARB_REQCFG `off` (3). -/
def execRegisterWrite (space off val : Nat) (s : State) : Out :=
  .next <|
    let v := val % 2 ^ 32
    match space with
    | 0 => if s.hif.d3 then s else bar0Write (off / 4 * 4) v s
    | 1 => cfgWrite (off / 4 * 4) v s
    | 2 => lockWrite off v s
    | 3 => reqCfgWrite off v s
    | _ => s

end Sys2Proof.Machine
end

