-- ==== Sys2Proof/Machine/FwCell.lean ====
section
/-!
DEFINITION. The cell-bus class 0x09xx (13 Tables 13-12, 13-13): the time of day (02 R50, R51), mode changes (11 R336), the
channels (11 R342), calibration (11 R347), values (11 R339, R340) and the counters (11 R349).
-/
namespace Sys2Proof.Machine

/-- The cell bus is not configured (13, after Table 13-18). -/
def noCellBus (s : State) : Bool × Nat := (prmN s.ps Pid.CB_EN 0 != 1, Sts.CB_NOT_CONFIGURED)

/-- Whole seconds that the 64-bit cell time can hold (02 R39; DEDUCED, notes/assumptions 65). -/
def maxSeconds : Nat := 2 ^ 64 / 10 ^ 9 - 1

/-- SET_TIME_OF_DAY (02 R50, R51): the shift by whole seconds takes effect at the first multiple of 4 ms after the staging
stamp. -/
def fwSetTimeOfDay (who : Nat) (bad : Bool) (seconds : Nat) (s : State) : FwRes :=
  fwRun who bad { a := true } [ (decide (maxSeconds < seconds), Sts.OUT_OF_RANGE), noCellBus s, (s.anyBusy, Sts.TIME_IN_USE) ]
    (fun s =>
      let due := nextAfter (4 * ms) s.cyc.now
      (some okRsp, { s with tb := { s.tb with todShift := some (due, (seconds : Int) - (due / sec : Nat)) } })) s
def execSetTimeOfDay (ch seconds : Nat) (s : State) : Out := hostRow ch 0x0901 (fwSetTimeOfDay ch false seconds) s

/-- MODE_CHANGE (11 R336, R337): the request waits for a cycle that meets the conditions of R336. A mode that could never meet
them is out of range, and a second request waits for the first one's end (DEDUCED, notes/assumptions 66). -/
def fwModeChange (who : Nat) (bad : Bool) (m : Nat) (s : State) : FwRes :=
  fwRun who bad { a := true }
    [ (decide (15 < m), Sts.OUT_OF_RANGE), noCellBus s,
      (!cbValid s.ttc.ps m || m == s.ttc.mode, Sts.OUT_OF_RANGE),
      (s.ttc.mc.want.isSome, Sts.RESOURCE_BUSY), ticketsFull who s ]
    (fun s =>
      let (t, s) := ticketFor who 0x0902 s
      (some (acceptedRsp t), { s with ttc := { s.ttc with mc := { s.ttc.mc with want := some (m, t) } } })) s
def execModeChange (ch mode : Nat) (s : State) : Out := hostRow ch 0x0902 (fwModeChange ch false mode) s

/-- CHANNEL_ENABLE (11 R342, 01 R29, R30). -/
def fwChannelEnable (who : Nat) (bad : Bool) (cb : Nat) (s : State) : FwRes :=
  let fn := (vrd s.ttc.ch cb).fn
  fwRun who bad { a := true }
    [ (decide (1 < cb), Sts.OUT_OF_RANGE), noCellBus s, (decide (fn = .shuttingDown), Sts.BUSY_SHUTDOWN) ]
    (fun s => if fn = .enabled then (some (effectRsp s.cyc.t0), s) else stageWait who 72 64 (.chanEnable cb) s) s
def execChannelEnable (ch cb : Nat) (s : State) : Out := hostRow ch 0x0903 (fwChannelEnable ch false cb) s

/-- CHANNEL_DISABLE (11 R342, 01 R30). -/
def fwChannelDisable (who : Nat) (bad : Bool) (cb : Nat) (s : State) : FwRes :=
  fwRun who bad { a := true } [(decide (1 < cb), Sts.OUT_OF_RANGE), noCellBus s]
    (fun s => stageWait who 72 64 (.chanDisable cb) s) s
def execChannelDisable (ch cb : Nat) (s : State) : Out := hostRow ch 0x0904 (fwChannelDisable ch false cb) s

/-- APPLY_CALIBRATION (11 R347): the delays in use begin to move; E93. -/
def fwApplyCalibration (who : Nat) (bad : Bool) (s : State) : FwRes :=
  fwRun who bad {} [noCellBus s]
    (fun s => (some okRsp, raiseEv 93 Sts.OK s.node 0 0 { s with ttc := { s.ttc with applying := true } })) s
def execApplyCalibration (ch : Nat) (s : State) : Out := hostRow ch 0x0905 (fwApplyCalibration ch false) s

/-- LEN of the own slot that carries a value in the mode in force. -/
def txSlotLen (s : State) (v : Nat) : Option Nat :=
  (s.cbNow.find? fun x => x.sender == s.node && (x.kind == 1 || x.kind == 2) && x.value == v).map (·.len)

/-- WRITE_VALUE (11 R339, 13 Table 13-12): staged with its stamp; without a slot of the value it is only stored. -/
def fwWriteValue (who : Nat) (bad : Bool) (v : Nat) (data : Bytes) (s : State) : FwRes :=
  fwRun who bad { a := true }
    [ (decide (511 < v), Sts.OUT_OF_RANGE),
      ((match txSlotLen s v with | some l => l != data.length | none => false), Sts.OUT_OF_RANGE), noCellBus s ]
    (fun s => (some (okRsp (leBytes 8 (s.cyc.now / ns))), writeTx v data s.cyc.now who s)) s
def execWriteValue (ch value : Nat) (data : Bytes) (s : State) : Out := hostRow ch 0x0906 (fwWriteValue ch false value data) s

/-- READ_VALUE (11 R340, Table 11-10, 01 R19): of the value as handed over, TTC_RXVAL, the stamp of reception, the payload. -/
def fwReadValue (who : Nat) (bad : Bool) (v : Nat) (s : State) : FwRes :=
  fwRead who bad { f := true } [(decide (511 < v), Sts.OUT_OF_RANGE)]
    (fun s =>
      let slotless := decide (0 < s.ttc.t0) && s.cbNow.all fun x => !(x.rx && x.value == v)
      let r := (rxOf s.ttc.rxOut v).getD { num := v, noSlot := slotless }
      okRsp [] (leBytes 8 (rxWord r) ++ r.stamp.bytes ++ r.data)) s
def execReadValue (ch value : Nat) (s : State) : Out := hostRow ch 0x0907 (fwReadValue ch false value) s

/-- The RC counters of the cell bus cleared (11 R349). -/
def cbErrClear (s : State) : State := { s with ttc := { s.ttc with ch := vmapI s.ttc.ch fun _ c => { c with err := {} } } }

/-- GET_TTC (11 R349, 13 Table 13-12): the RC counters it returns are cleared, those of the cell bus and PPSIN_REJ. -/
def fwGetTtc (who : Nat) (bad : Bool) (s : State) : FwRes :=
  fwRun who bad { f := true } []
    (fun s =>
      (some (okRsp (leBytes 4 (ttcStat s.ttc) ++ leBytes 4 s.tb.status ++ leBytes 8 (cbErrWord (vrd s.ttc.ch 0).err)
        ++ leBytes 8 (cbErrWord (vrd s.ttc.ch 1).err))), cbErrClear { s with tb := { s.tb with ppsInRej := 0 } })) s
def execGetTtc (ch : Nat) (s : State) : Out := hostRow ch 0x0908 (fwGetTtc ch false) s

/-- CLEAR_TTC (11 R349). -/
def fwClearTtc (who : Nat) (bad : Bool) (s : State) : FwRes :=
  fwRun who bad {} [noCellBus s] (fun s => (some okRsp, cbErrClear s)) s
def execClearTtc (ch : Nat) (s : State) : Out := hostRow ch 0x0909 (fwClearTtc ch false) s

/-- GET_CALIBRATION (11 R346, 13 Table 13-12): MEASURED, 0 before the first measurement, and IN_USE of every sender. -/
def fwGetCalibration (who : Nat) (bad : Bool) (cb : Nat) (s : State) : FwRes :=
  fwRead who bad { f := true } [(decide (1 < cb), Sts.OUT_OF_RANGE)]
    (fun s => okRsp [] ((List.range 32).flatMap fun j =>
      leBytes 2 ((vrd s.ttc.cal (32 * cb + j)).measured.getD 0) ++ leBytes 2 (cbDelay s j cb))) s
def execGetCalibration (ch cb : Nat) (s : State) : Out := hostRow ch 0x090A (fwGetCalibration ch false cb) s

end Sys2Proof.Machine
end

