-- ==== Sys2Proof/Machine/FwPair.lean ====
section
/-!
DEFINITION. The redundancy class 0x0Axx (13 Table 13-14): the pair status (14 R427), Castling (14 R419), pairing (14 R422,
R423) and UNPAIR (14 R425), with the changes of the Shadow state (14 R398) and of a ticketed Castling's end.
-/
namespace Sys2Proof.Machine

/-! ### Castling -/

/-- Boundary B: the first cell-cycle boundary at least two cell cycles after now (14 R419). -/
def castleB (s : State) : Time :=
  let len := s.cyc.nextCell - s.ttc.t0
  let n := (s.cyc.now + 2 * len - s.cyc.nextCell + len - 1) / len
  s.cyc.nextCell + n * len

/-- Start a Castling under a ticket, 0 for an automatic one: CASTLE_PREP(B) goes out (14 R419, R421). -/
def castleStart (ticket : Nat) (s : State) : State :=
  let b := castleB s
  let s := mirSend 0x0A (s.cyc.t0 / tCtl % 2 ^ 32) 0 16 (some b) s
  raiseCastle Sts.OK 0xFF b 1 { s with mlc := { s.mlc with castle := some { b := b, ticket := ticket, epoch := s.dl.epoch + 1 } } }

/-! ### Commands -/

/-- GET_PAIR (14 R427). -/
def fwGetPair (who : Nat) (bad : Bool) (s : State) : FwRes :=
  fwRead who bad { f := true } [] (fun s => okRsp [] (pairStat s)) s
def execGetPair (ch : Nat) (s : State) : Out := hostRow ch 0x0A01 (fwGetPair ch false) s

/-- CASTLE (14 R419). -/
def fwCastle (who : Nat) (bad : Bool) (s : State) : FwRes :=
  fwRun who bad { a := true, c := true }
    [ (decide (s.mlc.role ≠ .active) || !castleReady s, Sts.SHADOW_NOT_READY), (s.mlc.castle.isSome, Sts.RESOURCE_BUSY),
      ticketsFull who s ]
    (fun s =>
      let (t, s) := ticketFor who 0x0A02 s
      (some (acceptedRsp t), castleStart t s)) s
def execCastle (ch : Nat) (s : State) : Out := hostRow ch 0x0A02 (fwCastle ch false) s

/-- Bytes of the pairing transfer (14 R422): the committed safety and operational sets, the engineer table and the
confirmation record, behind the lengths of the first three (DESIGN CHOICE, notes/assumptions 70). -/
def pairBytes (s : State) : Bytes :=
  let a := serialise s.ps true
  let b := serialise s.ps false
  let c := s.ssv.eng.flatMap fun e => leBytes 4 e.id ++ e.salt ++ e.hash
  leBytes 4 a.length ++ leBytes 4 b.length ++ leBytes 4 c.length ++ a ++ b ++ c ++ confirmBytes s.ssv.conf

/-- PARAM frames of at most 4 096 bytes from an offset on (14 Table 14-4). -/
def sendParams : Nat → Nat → Nat → State → State
  | 0, _, _, s => s
  | n + 1, off, left, s =>
    if left = 0 then s
    else sendParams n (off + 4096) (left - 4096) (mirSend 0x09 (s.cyc.t0 / tCtl % 2 ^ 32) off (min left 4096) none s)

/-- PAIR_BEGIN (14 R423). -/
def fwPairBegin (who : Nat) (bad : Bool) (s : State) : FwRes :=
  let m := s.mlc
  fwRun who bad { a := true }
    [ (s.fw.unpairAt.isSome || m.unpairing.isSome, Sts.BUSY_SHUTDOWN),
      (decide (m.role ≠ .active) || decide (m.shadow ≠ .joining) || m.cause != 1, Sts.NO_SHADOW), (m.transfer.isSome, Sts.RESOURCE_BUSY), ticketsFull who s ]
    (fun s =>
      let (t, s) := ticketFor who 0x0A03 s
      let n := (pairBytes s).length
      let s := { s with mlc := { s.mlc with transfer := some (t, n), pairBy := none, peerCheck := 0 } }
      (some (acceptedRsp t), sendParams (n / 4096 + 1) 0 n s)) s
def execPairBegin (ch : Nat) (s : State) : Out := hostRow ch 0x0A03 (fwPairBegin ch false) s

/-- PAIR_CONFIRM (14 R423): both units hold the new secret afterwards, and the Shadow is TRACKING. -/
def fwPairConfirm (who : Nat) (bad : Bool) (check eng : Nat) (pass : Bytes) (s : State) : FwRes :=
  let m := s.mlc
  let mine := match s.ssv.conf with | some c => c.check == check | none => false
  let waits := decide (m.shadow = .joining) && (match m.pairBy with | some t => decide (s.cyc.now < t) | none => false)
  fwRun who bad { a := true }
    [ (!waits || check != m.peerCheck || !mine, Sts.PAIR_MISMATCH) ]
    (fun s =>
      let (st, s) := passTest eng pass s
      if st ≠ Sts.OK then (some (rspOf st), s)
      else
        let secret := leBytes 32 (Config.entropy s.fresh).toNat
        let serial := match s.mlc.peer with | some p => p.1 | none => 0
        let s := mirSend 0x0A (s.cyc.t0 / tCtl % 2 ^ 32) 0 40 none s.drawn
        let s := secTouch { s with mlc := { s.mlc with
          secret := some secret, pairSerial := serial, pairBy := none, transfer := none } }
        let s := raiseEv 109 Sts.OK 0 eng 2 (addAudit eng check 0x0A04 Sts.OK 0 s)
        (some okRsp, shadowTo .tracking 0 s)) s
def execPairConfirm (ch check eng : Nat) (pass : Bytes) (s : State) : Out :=
  hostRow ch 0x0A04 (fwPairConfirm ch false check eng pass) s

/-- A pairing under way is abandoned (01 R30): the transfer of PAIR_BEGIN ends, its ticket FAILED with CANCELLED, and no PAIR_CONFIRM
is awaited any more. -/
def abandonPairing (s : State) : State :=
  let m := s.mlc
  let s := { s with mlc := { m with
    transfer := none, pairBy := none, peerCheck := 0
    unacked := if m.transfer.isSome then m.unacked.filter (fun f => f.typ != 9) else m.unacked } }
  match m.transfer with | some (t, _) => endTicket t 2 Sts.CANCELLED s | none => s

/-- UNPAIR (14 R425): the copy stops at the next control-cycle start, which EFFECT names; without a pair it has no effect. -/
def fwUnpair (who : Nat) (bad : Bool) (s : State) : FwRes :=
  fwRun who bad { a := true } []
    (fun s => (some (effectRsp s.effectAt),
      if s.mlc.unpairing.isSome || decide (s.mlc.role ≠ .active) then s
      else let s := abandonPairing s; { s with fw := { s.fw with unpairAt := some s.effectAt } })) s
def execUnpair (ch : Nat) (s : State) : Out := hostRow ch 0x0A05 (fwUnpair ch false) s

end Sys2Proof.Machine
end

