-- ==== Sys2Proof/Machine/FwArm.lean ====
section
/-!
DEFINITION. The arm and motion class 0x05xx (13 Table 13-7, R388, R389), the planner class 0x06xx (Table 13-8) and the
separation class 0x07xx (Table 13-9, R390): enable and disable, fault acknowledgement (01 R33, 09 R270), planned motion,
paths, ownership (12 R372), and the records of the solver and the SSM.
-/
namespace Sys2Proof.Machine

/-! ### Enable and disable -/

/-- The scope a SCOPE field names, arm 0 where it names none: a value the range check refuses before it is used. -/
def scopeOf (s : State) (x : Nat) : Nat := (scopeField s.ps x).getD 0

/-- The SCOPE field names no scope. -/
def scopeBad (s : State) (x : Nat) : Bool × Nat := ((scopeField s.ps x).isNone, Sts.OUT_OF_RANGE)

/-- A safe-input function whose reaction applies to a scope in the present mode is in demand (09 R252, Table 09-4): ESTOP,
GUARD and SLS always, ENABLE in SERVICE, REPORT never. -/
def siDemands (s : State) (k : Nat) : Bool :=
  (List.range 16).any fun i =>
    let f := prmN s.ps Pid.SI_FUNC i
    siActive s i && (siArms s.ps i).contains k && (decide (f < 3) || (f == 3 && decide (s.ssv.mode = .service)))

/-- An axis is AVAILABLE; a VIRTUAL one always is (03 Table 03-7), as long as a lane serves it (16 R453). -/
def State.avail (s : State) (n : Nat) : Bool := ((s.ax n).flags.available || decide (axType s.ps n = .virtual)) && s.served n

/-- The preconditions of an enable in the order of 09 R252. An enable needs the acknowledgement of a fault before it (01 Table
01-7), judged before NOT_AVAILABLE (DEDUCED, notes/assumptions 63). -/
def enableChecks (k : Nat) (s : State) : List (Bool × Nat) :=
  let c := s.sc k
  let service := decide (s.ssv.mode = .service)
  [ (s.shutting k, Sts.BUSY_SHUTDOWN),
    (siDemands s k, Sts.SI_DEMAND),
    (monitored s.ps k && prmN s.ps Pid.PROT_STOP k == 1 && decide ((s.ssmArm k).v.raw = 2), Sts.SSM_UMBRA),
    (decide (k < 8) && (s.ssmArm k).tableBad, Sts.STOP_TABLE_INVALID),
    (!service && (s.pairOf k).switchBad, Sts.BRAKE_SWITCH),
    (!service && (s.pairOf k).failed, Sts.BRAKE_FAILED),
    (c.ackDue, Sts.FAULT_PRESENT),
    (!(s.scAxes k).all s.avail, Sts.NOT_AVAILABLE) ]

/-- ENABLE (01 R29, R30, 09 R252, 12 R372): OK at once for a scope that is ENABLED already; otherwise staged, and the session
becomes the owner at the effect. -/
def fwEnable (who : Nat) (bad : Bool) (scope : Nat) (s : State) : FwRes :=
  let k := scopeOf s scope
  let on := decide ((s.sc k).fn = .enabled)
  fwRun who bad { a := true, c := true }
    ([ scopeBad s scope, (decide ((s.sc k).fn ≠ .disabled) && notOwner who k s, Sts.NOT_OWNER) ]
      ++ (if on then [] else enableChecks k s))
    (fun s => if on then (some (effectRsp s.cyc.t0), s) else stageWait who k 64 .enable s) s
def execEnable (ch scope : Nat) (s : State) : Out := hostRow ch 0x0501 (fwEnable ch false scope) s

/-- DISABLE (01 R30): accepted in every state. -/
def fwDisable (who : Nat) (bad : Bool) (scope : Nat) (s : State) : FwRes :=
  fwRun who bad { a := true, o := scopeField s.ps scope } [scopeBad s scope]
    (fun s => stageWait who (scopeOf s scope) 64 (.disable Sts.OK) s) s
def execDisable (ch scope : Nat) (s : State) : Out := hostRow ch 0x0502 (fwDisable ch false scope) s

/-- The last good frame's data of the slot that serves an axis; none while its port brings no good frames. -/
def slotNow (s : State) (n : Nat) : Option SlotIn :=
  match axSlot s.ps n with
  | some (p, sl) =>
    let x := s.port p
    if x.state.counts && x.badRun == 0 && decide (inHdrLen ≤ x.lastRx.length) then
      some (readSlot x.lastRx (inHdrLen + if sl = 0 then 0 else slotSize (prmN s.ps Pid.KIND0 p))
        (prmN s.ps (if sl = 0 then Pid.KIND0 else Pid.KIND1) p) sl)
    else none
  | none => none

/-- The cause an axis gives for a fault is still there as the latest frame and the registers show it (01 Table 01-7): the
condition of 03 R95 and R98, 04 R117, R125 and R126, 06 R171, 10 R303 or R310 (DEDUCED, notes/assumptions 84). -/
def axisCause (s : State) (n status : Nat) : Bool :=
  let x := slotNow s n
  let a := s.ax n
  let port := (axSlot s.ps n).map fun e => (s.port e.1).state
  if status = Sts.OVERCURRENT then x.any fun x => overCurrent s.ps n x
  else if status = Sts.BUS_UNDERVOLT then
    decide (axType s.ps n = .servo) && x.all fun x => decide (x.vdc < prmN s.ps Pid.V_DC_MIN n)
  else if status = Sts.SAMPLE_LOST then x.isNone || hasEnc s.ps n && !a.fb.valid
  else if status = Sts.ENC_INVALID then
    x.any fun x => (hasEnc s.ps n && !a.fb.valid) || announcedAbs s n && !x.absOk
  else if status = Sts.LINK_FAULT then decide (port = some .faulted)
  else if status = Sts.STAGE_REBOOT then !decide (port = some .ready)
  else if status = Sts.SOFT_LIMIT_CROSSED then a.crossed s.ps n
  else false

/-- The cause of a scope's fault still stands (01 R33, Table 01-7, 09 R270, Table 09-4, 08 R219, R220, 10 R310). -/
def causeStands (s : State) (k : Nat) : Bool :=
  let c := s.sc k
  let estop := (List.range 16).any fun i => prmN s.ps Pid.SI_FUNC i == 0 && siActive s i && (siArms s.ps i).contains k
  let noConf := match stoOf s.ps k with | some o => (s.bk o).noConfirm | none => false
  noConf || (c.status == Sts.BRAKE_SWITCH && (s.pairOf k).switchBad) || (c.status == Sts.BRAKE_FAILED && (s.pairOf k).failed)
    || (c.status == Sts.ESTOP && estop) || (s.scAxes k).any (fun n => axisCause s n c.status)
    || (c.status == Sts.SSM_DEADLINE && s.ssm.missRun != 0) || (c.status == Sts.SSM_CODED && s.ssm.codedNow)
    || (c.status == Sts.SET_ALTERED && !s.ssv.copyOk)
    || (c.status == Sts.SSM_XCHK && decide (k < 8) && (s.ssmArm k).xchk.any fun x => decide (2 ≤ x))

/-- FAULT_ACK (01 R33, 09 R270): FAULT_PRESENT while the reaction still runs or the cause stands. -/
def fwFaultAck (who : Nat) (bad : Bool) (scope : Nat) (s : State) : FwRes :=
  let k := scopeOf s scope
  let due := (s.sc k).ackDue
  fwRun who bad { a := true }
    [ scopeBad s scope, (due && (decide ((s.sc k).fn ≠ .disabled) || causeStands s k), Sts.FAULT_PRESENT) ]
    (fun s => (some okRsp, if due then s.mdSc k fun c => { c with ackDue := false, level := 0, status := Sts.OK, rank := 0 } else s)) s
def execFaultAck (ch scope : Nat) (s : State) : Out := hostRow ch 0x0503 (fwFaultAck ch false scope) s

/-! ### Planned motion -/

/-- ENTER_PLANNED (03 R71, Table 03-4, R96): every joint in PTP, at standstill and HOMED. -/
def fwEnterPlanned (who : Nat) (bad : Bool) (scope : Nat) (s : State) : FwRes :=
  let k := scopeOf s scope
  let axes := s.scAxes k
  let wrong := decide (8 ≤ k) || axes.isEmpty || (s.plr k).planned
    || axes.any fun n => decide (axType s.ps n = .virtual) || decide ((s.ax n).mode ≠ .ptp)
  fwRun who bad { a := true, o := scopeField s.ps scope, c := true }
    (scopeBad s scope :: scopeChecks k s
      ++ [ (wrong, Sts.WRONG_MODE), (axes.any fun n => !(s.ax n).atRest, Sts.AXIS_MOVING),
           (axes.any fun n => decide ((s.ax n).pos ≠ .homed), Sts.AXIS_UNREFERENCED) ])
    (fun s => stageWait who k 64 .enterPlanned s) s
def execEnterPlanned (ch scope : Nat) (s : State) : Out := hostRow ch 0x0504 (fwEnterPlanned ch false scope) s

/-- LEAVE_PLANNED (07 R205, Table 03-4): a stop along the plan, then PTP. -/
def fwLeavePlanned (who : Nat) (bad : Bool) (scope : Nat) (s : State) : FwRes :=
  let k := scopeOf s scope
  fwRun who bad { a := true, o := scopeField s.ps scope }
    (scopeBad s scope :: scopeChecks k s ++ [(decide (8 ≤ k) || !(s.plr k).planned, Sts.WRONG_MODE)])
    (fun s => stageWait who k 64 .leavePlanned s) s
def execLeavePlanned (ch scope : Nat) (s : State) : Out := hostRow ch 0x0505 (fwLeavePlanned ch false scope) s

/-- Entries of a path bulk: COUNT lists of (r, ṙ) per joint (13 R388). -/
def pathEntries (joints : Nat) (b : Bytes) : Nat → Nat → List (List (Int × Int))
  | _, 0 => []
  | o, n + 1 =>
    ((List.range joints).map fun j => (sAt b (o + 16 * j) 8, sAt b (o + 16 * j + 8) 8)) :: pathEntries joints b (o + 16 * joints) n

/-- SET_PATH (13 R388, 07 R185): the path goes to the buffer that governs the next solve; GEN counts accepted paths. -/
def fwSetPath (who : Nat) (bad : Bool) (scope : Nat) (bulk : Bytes) (s : State) : FwRes :=
  let k := scopeOf s scope
  let t := uAt bulk 0 8
  let count := uAt bulk 8 1
  let joints := uAt bulk 9 1
  let form := decide (bulk.length < 16) || uAt bulk 10 6 != 0 || bulk.length != 16 + 16 * (count * joints)
  fwRun who (bad || form) { a := true, o := scopeField s.ps scope }
    [ scopeBad s scope,
      (t % 62500 != 0 || decide (count < 2) || decide (36 < count) || joints != (s.scAxes k).length, Sts.OUT_OF_RANGE),
      (decide (8 ≤ k), Sts.WRONG_MODE) ]
    (fun s =>
      let g := ((s.plr k).pathGen + 1) % 2 ^ 32
      (some (okRsp (leBytes 4 g)),
       let s := if s.copied then mirSend 0x06 (s.cyc.t0 / tCtl % 2 ^ 32) 0 64 none s else s
       s.mdPlr k fun r => { r with pathNext := some (pathEntries joints bulk 16 count), pathTNext := t, pathGen := g })) s
def execSetPath (ch scope : Nat) (bulk : Bytes) (s : State) : Out := hostRow ch 0x0506 (fwSetPath ch false scope bulk) s

/-! ### Ownership -/

/-- HANDOVER (13 R389, 12 R372): an offer to a channel stands until it is accepted; a binding to the cell bus holds at once,
and frames received before it are not its commands. -/
def fwHandover (who : Nat) (bad : Bool) (scope target value : Nat) (s : State) : FwRes :=
  let k := scopeOf s scope
  fwRun who bad { a := true, o := scopeField s.ps scope }
    [ scopeBad s scope, (decide (4 < target) || decide (511 < value), Sts.OUT_OF_RANGE),
      (decide ((s.sc k).owner ≠ some who), Sts.NOT_OWNER) ]
    (fun s =>
      if target = 4 then
        let s := s.mdSc k fun c => { c with owner := none, offer := none, bound := some value }
        (some okRsp, { s with ttc := { s.ttc with rx := s.ttc.rx.map fun v => if v.num = value then { v with new := false } else v } })
      else (some okRsp, raiseChan target Sts.OK 0 0x0507 0 7 (s.mdSc k fun c => { c with offer := some target }))) s
def execHandover (ch scope target value : Nat) (s : State) : Out := hostRow ch 0x0507 (fwHandover ch false scope target value) s

/-- ACCEPT_HANDOVER (12 R372, 13 R389). -/
def fwAcceptHandover (who : Nat) (bad : Bool) (scope : Nat) (s : State) : FwRes :=
  let k := scopeOf s scope
  fwRun who bad { a := true } [ scopeBad s scope, (decide ((s.sc k).offer ≠ some who), Sts.NO_HANDOVER) ]
    (fun s =>
      let from_ := ((s.sc k).owner).getD who
      (some okRsp, raiseChan from_ Sts.OK 0 0x0508 0 8 (s.mdSc k fun c => { c with owner := some who, offer := none }))) s
def execAcceptHandover (ch scope : Nat) (s : State) : Out := hostRow ch 0x0508 (fwAcceptHandover ch false scope) s

/-- RECLAIM (13 Table 13-7): the session takes a scope back from the cell bus. -/
def fwReclaim (who : Nat) (bad : Bool) (scope : Nat) (s : State) : FwRes :=
  let k := scopeOf s scope
  fwRun who bad { a := true } [ scopeBad s scope, ((s.sc k).bound.isNone, Sts.NOT_OWNER) ]
    (fun s => (some okRsp, s.mdSc k fun c => { c with owner := some who, bound := none, offer := none })) s
def execReclaim (ch scope : Nat) (s : State) : Out := hostRow ch 0x0509 (fwReclaim ch false scope) s

/-- OWNER of GET_ARM. -/
def ownerCode (c : ScopeSt) : Nat := match c.bound, c.owner with | some _, _ => 4 | none, some o => o | none, none => 0xFF

/-- GET_ARM (12 R372, 13 Table 13-7); an auxiliary axis has no verdict, no result and no SSV word, which read as their reset
values. -/
def fwGetArm (who : Nat) (bad : Bool) (scope : Nat) (s : State) : FwRes :=
  fwRead who bad { f := true } [scopeBad s scope]
    (fun s =>
      let k := scopeOf s scope
      let c := s.sc k
      let w := if k < 8 then leBytes 16 (ssmVerdict (s.ssmArm k)) ++ leBytes 16 (s.plr k).res.word ++ leBytes 8 (ssvArm s k)
        else leBytes 16 (ssmVerdict {}) ++ leBytes 16 (QtResult.word {}) ++ leBytes 8 0
      okRsp (leBytes 1 c.fn.code ++ leBytes 1 (ownerCode c) ++ leBytes 2 0 ++ w)) s
def execGetArm (ch scope : Nat) (s : State) : Out := hostRow ch 0x050A (fwGetArm ch false scope) s

/-! ### Planner class -/

/-- An ARM field is out of range. -/
def armBad (k : Nat) : Bool × Nat := (decide (8 ≤ k), Sts.OUT_OF_RANGE)

/-- GET_RESULT (07 R214). -/
def fwGetResult (who : Nat) (bad : Bool) (k : Nat) (s : State) : FwRes :=
  fwRead who bad { f := true } [armBad k] (fun s => okRsp (leBytes 16 (s.plr k).res.word)) s
def execGetResult (ch arm : Nat) (s : State) : Out := hostRow ch 0x0601 (fwGetResult ch false arm) s

/-- Plan slot with the larger GEN (07 R213). -/
def PlannerSt.shownSlot (r : PlannerSt) : Nat := if r.gens.2 ≤ r.gens.1 then 0 else 1

/-- GET_PLAN (07 R213): SLOT 0 the published slot, 1 the other one. -/
def fwGetPlan (who : Nat) (bad : Bool) (k slot : Nat) (s : State) : FwRes :=
  fwRead who bad { f := true } [armBad k, (decide (1 < slot), Sts.OUT_OF_RANGE)]
    (fun s =>
      let p := (s.plr k).shownSlot
      okRsp [] (memRead s.ldg.mem (slotAddr k (if slot = 0 then p else 1 - p)) 0x8000)) s
def execGetPlan (ch arm slot : Nat) (s : State) : Out := hostRow ch 0x0602 (fwGetPlan ch false arm slot) s

/-- LOAD of GET_SIZING: ⌈100 S / (25 × 10^9 × window)⌉ with the window P − 65.625 µs (07 R212). -/
def sizingLoad (ps : ParamSet) (k : Nat) : Nat := cdivN (100 * armMacs ps k) (25 * max 1 (prmN ps Pid.PLAN_PERIOD k * 1000 - 65625))

/-- GET_SIZING (07 R211, R212, 13 Table 13-8): the class formats in the order of Table 07-3, S, and LOAD. -/
def fwGetSizing (who : Nat) (bad : Bool) (k : Nat) (s : State) : FwRes :=
  fwRead who bad { f := true } [armBad k]
    (fun s => okRsp ((List.range 11).flatMap (fun c => leBytes 1 (classM s.ps k c)) ++ leBytes 1 0 ++ leBytes 4 (armMacs s.ps k)
      ++ leBytes 1 (sizingLoad s.ps k) ++ leBytes 3 0)) s
def execGetSizing (ch arm : Nat) (s : State) : Out := hostRow ch 0x0603 (fwGetSizing ch false arm) s

/-! ### Separation class -/

/-- GET_VERDICT (08 R243). -/
def fwGetVerdict (who : Nat) (bad : Bool) (k : Nat) (s : State) : FwRes :=
  fwRead who bad { f := true } [armBad k] (fun s => okRsp (leBytes 16 (ssmVerdict (s.ssmArm k)))) s
def execGetVerdict (ch arm : Nat) (s : State) : Out := hostRow ch 0x0701 (fwGetVerdict ch false arm) s

/-- GET_SSM_STAT (08 R243, 11 Table 11-9): the counters it returns are cleared. -/
def fwGetSsmStat (who : Nat) (bad : Bool) (s : State) : FwRes :=
  fwRun who bad { f := true } []
    (fun s =>
      (some (okRsp (leBytes 4 (ssmStat s.ssm) ++ leBytes 4 0 ++ (vlist s.ssm.sensors).flatMap fun x => leBytes 8 (safeCnt x))),
       { s with ssm := { s.ssm with sensors := vmapI s.ssm.sensors fun _ x =>
           { x with cResync := 0, cTime := 0, cSeq := 0, cId := 0, cScrc := 0 } } })) s
def execGetSsmStat (ch : Nat) (s : State) : Out := hostRow ch 0x0702 (fwGetSsmStat ch false) s

/-- RESUME (08 R233): judged at the control-cycle start of its effect. -/
def fwResume (who : Nat) (bad : Bool) (k : Nat) (s : State) : FwRes :=
  fwRun who bad { a := true, o := if k < 8 then some k else none } [armBad k] (fun s => stageWait who k 64 .resume s) s
def execResume (ch arm : Nat) (s : State) : Out := hostRow ch 0x0703 (fwResume ch false arm) s

/-- What a RESUME answers at its effect (08 R233). -/
def resumeStatus (k : Nat) (s : State) : Nat :=
  let m := s.ssmArm k
  if (s.sc k).prot.isEmpty then Sts.OK
  else if !(atRest s k || decide ((s.sc k).fn = .disabled)) then Sts.AXIS_MOVING
  else if m.stopReq && (decide (m.v.raw = 2) || decide (m.resumeRun < 4 * prmN s.ps Pid.RESUME_HOLD k)) then Sts.SSM_UMBRA
  else if (s.sc k).prot.any fun r => r.1 != 0
      && (siActive s (r.1 - 1) || (match (s.sc k).protRun.find? fun x => x.1 == r.1 with
        | some x => decide (x.2 < 16 * prmN s.ps Pid.RESUME_HOLD k) | none => true)) then Sts.SSM_UMBRA
  else Sts.OK

/-- A RESUME takes effect: the category 2 requests of the arm are released (08 R233, 09 Table 09-4). -/
def resumeEffect (k : Nat) (s : State) : State :=
  if resumeStatus k s ≠ Sts.OK then s
  else
    let two := (s.sc k).prot.filter fun r => r.2 == 2
    two.foldl (fun s r => if r.1 = 0 then releaseStop k s.cyc.now s else protRelease k r.1 s) s

/-- A joint of the arm moves, by its lane. -/
def armMoves (s : State) (k : Nat) : Bool := (armAxes s.ps k).any fun n => !(s.ax n).still

/-- STOP_TEST (13 R390). -/
def fwStopTest (who : Nat) (bad : Bool) (k : Nat) (s : State) : FwRes :=
  let c := s.sc k
  fwRun who bad { a := true, o := if k < 8 then some k else none, c := true }
    [ armBad k, (!monitored s.ps k, Sts.SSM_NOT_MONITORED),
      (decide (c.fn ≠ .enabled) || !armMoves s k || !c.prot.isEmpty || decide (c.stop ≠ .none) || !c.sls.isEmpty, Sts.AXIS_MOVING),
      ticketsFull who s ]
    (fun s =>
      let (t, s) := ticketFor who 0x0704 s
      (some (acceptedRsp t), stageFor who k 64 false (.stopTest t) s)) s
def execStopTest (ch arm : Nat) (s : State) : Out := hostRow ch 0x0704 (fwStopTest ch false arm) s

/-- GET_STOP_TEST (08 R241): the last measurement; STAMP is its trigger (DEDUCED, notes/assumptions 64). -/
def fwGetStopTest (who : Nat) (bad : Bool) (k : Nat) (s : State) : FwRes :=
  fwRead who bad { f := true } [armBad k]
    (fun s =>
      let m := (s.ssmArm k).lastStop
      okRsp (leBytes 4 (min m.1 (2 ^ 32 - 1)) ++ leBytes 4 (min m.2.1 (2 ^ 32 - 1)) ++ leBytes 1 m.2.2.1 ++ leBytes 3 0 ++ leBytes 8 m.2.2.2)) s
def execGetStopTest (ch arm : Nat) (s : State) : Out := hostRow ch 0x0705 (fwGetStopTest ch false arm) s

/-- One object slot of GET_OBJECTS: SSM_OBJ, R_EFF in µm, AGE in µs. -/
def objectEntry (o : ObjSt) (rEff age : Nat) : Bytes := objBytes o ++ leBytes 4 (min rEff (2 ^ 32 - 1)) ++ leBytes 4 (min (age / 1000) (2 ^ 32 - 1))

/-- Object slots of the configured sensors, in slot order (08 R220): each sensor's slots from its first on, the unused ones 0. -/
def objectSlots (s : State) : List Bytes :=
  (List.range 16).flatMap fun k =>
    if sensorOn s.ps k then
      let x := vrd s.ssm.sensors k
      let q := prmN s.ps Pid.OBJ_QUOTA k
      let used := ((listOf s.ps k x).zip (sensorTargets s.ps k 0 x)).map fun e => objectEntry e.1 e.2.rEff x.age
      (used ++ List.replicate (q - used.length) (leBytes 40 0)).take q
    else []

/-- GET_OBJECTS (08 R236, 13 Table 13-9). -/
def fwGetObjects (who : Nat) (bad : Bool) (s : State) : FwRes :=
  fwRead who bad { f := true } []
    (fun s =>
      let l := objectSlots s
      okRsp [] ((l ++ List.replicate (64 - l.length) (leBytes 40 0)).take 64).flatten) s
def execGetObjects (ch : Nat) (s : State) : Out := hostRow ch 0x0706 (fwGetObjects ch false) s

/-- CLEAR_SSM_FLAGS (08 R243): the W1C fields of SSM_STAT. -/
def fwClearSsmFlags (who : Nat) (bad : Bool) (s : State) : FwRes :=
  fwRun who bad {} []
    (fun s => (some okRsp, { s with ssm := { s.ssm with
      coded := false, xchkFail := false, quotaRej := false, stampRej := false, stopExc := false } })) s
def execClearSsmFlags (ch : Nat) (s : State) : Out := hostRow ch 0x0707 (fwClearSsmFlags ch false) s

end Sys2Proof.Machine
end

