-- ==== Sys2Proof/Machine/FwSafety.lean ====
section
/-!
DEFINITION. The safety class 0x08xx (13 Tables 13-10, 13-11, R391): brake tests (09 R257), SERVICE (09 R277), the safety
status (09 R280), engineers and the audit log.
-/
namespace Sys2Proof.Machine

/-- BRAKE_TEST (09 R257): every joint of the arm ENABLED in PTP at standstill, outside planned motion. -/
def fwBrakeTest (who : Nat) (bad : Bool) (k : Nat) (s : State) : FwRes :=
  let c := s.sc k
  let ready := decide (c.fn = .enabled) && decide (c.seq = .running) && decide (c.stop = .none) && !s.testing k
    && !(s.plr k).planned && (s.scAxes k).all fun n => decide ((s.ax n).mode = .ptp) && (s.ax n).atRest
  fwRun who bad { a := true, o := if k < 8 then some k else none }
    [ armBad k, (!ready, Sts.AXIS_MOVING), ticketsFull who s ]
    (fun s =>
      let (t, s) := ticketFor who 0x0801 s
      (some (acceptedRsp t), stageFor who k 64 false (.brakeTest t) s)) s
def execBrakeTest (ch arm : Nat) (s : State) : Out := hostRow ch 0x0801 (fwBrakeTest ch false arm) s

/-- An input of the ENABLE function is configured (09 Table 09-6). -/
def enableInput (ps : ParamSet) : Bool := (List.range 16).any fun i => prmN ps Pid.SI_FUNC i == 3

/-- ENTER_SERVICE (09 R277, R275): with an engineer's passcode; SERVICE_T runs from the entry. -/
def fwEnterService (who : Nat) (bad : Bool) (eng : Nat) (pass : Bytes) (s : State) : FwRes :=
  fwRun who bad { a := true } [(!enableInput s.ps, Sts.NO_ENABLE_INPUT)]
    (fun s =>
      let (st, s) := passTest eng pass s
      let s :=
        if st ≠ Sts.OK || s.ssv.mode = .service then s
        else
          let s := setMode .service { s with ssv := { s.ssv with
            serviceTo := s.cyc.now + prmN s.ps Pid.SERVICE_T 0 * 3600 * sec } }
          raiseEv 86 Sts.OK 0xFF eng 2 s
      (some (rspOf st), s)) s
def execEnterService (ch eng : Nat) (pass : Bytes) (s : State) : Out := hostRow ch 0x0802 (fwEnterService ch false eng pass) s

/-- LEAVE_SERVICE (09 R277): outside SERVICE it has no effect. -/
def fwLeaveService (who : Nat) (bad : Bool) (s : State) : FwRes :=
  fwRun who bad { a := true } [(s.anyBusy, Sts.ARM_ENABLED)]
    (fun s => (some okRsp, if s.ssv.mode = .service then leaveServiceMode s else s)) s
def execLeaveService (ch : Nat) (s : State) : Out := hostRow ch 0x0803 (fwLeaveService ch false) s

/-- GET_SAFETY (09 R280). -/
def fwGetSafety (who : Nat) (bad : Bool) (s : State) : FwRes :=
  fwRead who bad { f := true } []
    (fun s => okRsp ((List.range 8).flatMap (fun k => leBytes 8 (ssvArm s k)) ++ leBytes 8 (ssvSi s) ++ confirmBytes s.ssv.conf)) s
def execGetSafety (ch : Nat) (s : State) : Out := hostRow ch 0x0804 (fwGetSafety ch false) s

/-- CLEAR_SAFETY_FLAGS (09 R280, Table 09-10): ENVELOPE_FAIL is the W1C field. -/
def fwClearSafetyFlags (who : Nat) (bad : Bool) (s : State) : FwRes :=
  fwRun who bad {} []
    (fun s => (some okRsp, { s with ssv := { s.ssv with scopes := vmapI s.ssv.scopes fun _ c => { c with envFail := false } } })) s
def execClearSafetyFlags (ch : Nat) (s : State) : Out := hostRow ch 0x0805 (fwClearSafetyFlags ch false) s

/-! ### Engineers and the audit log -/

/-- The engineer test of R391: with no engineer at all the AUTH fields must be 0, which is permitted in UNCOMMISSIONED only;
otherwise the hash test of R275. -/
def authTest (id : Nat) (pass : Bytes) (s : State) : Nat × State :=
  if !s.ssv.eng.isEmpty then passTest id pass s
  else if id ≠ 0 || pass.length ≠ 0 then (Sts.OUT_OF_RANGE, s)
  else if s.ssv.mode = .uncommissioned then (Sts.OK, s)
  else (Sts.NOT_CONFIRMED, s)

/-- A new salt: 16 bytes that are free (13 R391). -/
def newSalt (s : State) : Bytes := leBytes 16 (Config.entropy s.fresh).toNat

/-- The engineer table with a passcode created or replaced. -/
def withEngineer (id : Nat) (pass salt : Bytes) (l : List Engineer) : List Engineer :=
  let e : Engineer := { id := id, salt := salt, hash := sha256 (salt ++ pass) }
  if l.any fun x => x.id == id then l.map fun x => if x.id == id then e else x else l ++ [e]

/-- SET_ENGINEER (13 R391): each attempt is audited, one whose fields are out of range too. -/
def fwSetEngineer (who : Nat) (bad : Bool) (auth target : Nat) (authPass newPass : Bytes) (s : State) : FwRes :=
  let range := decide (target = 0) || decide (2 ^ 32 ≤ target) || decide (newPass.length < 6) || decide (32 < newPass.length)
  fwRun who bad {} []
    (fun s =>
      let (st, s) := if range then (Sts.OUT_OF_RANGE, s) else authTest auth authPass s
      let full := !(s.ssv.eng.any fun e => e.id == target) && decide (32 ≤ s.ssv.eng.length)
      let st := if st = Sts.OK && full then Sts.OUT_OF_RANGE else st
      let s := if st ≠ Sts.OK then s
        else secTouch { s.drawn with ssv := { s.ssv with eng := withEngineer target newPass (newSalt s) s.ssv.eng } }
      (some (rspOf st), addAudit auth 0 0x0806 st target s)) s
def execSetEngineer (ch authId targetId : Nat) (authPass newPass : Bytes) (s : State) : Out :=
  hostRow ch 0x0806 (fwSetEngineer ch false authId targetId authPass newPass) s

/-- REMOVE_ENGINEER (13 R391): the last ID, or one that is not there, is out of range. -/
def fwRemoveEngineer (who : Nat) (bad : Bool) (auth target : Nat) (authPass : Bytes) (s : State) : FwRes :=
  let range := decide (target = 0) || decide (2 ^ 32 ≤ target)
  fwRun who bad {} []
    (fun s =>
      let (st, s) := if range then (Sts.OUT_OF_RANGE, s) else authTest auth authPass s
      let wrong := !(s.ssv.eng.any fun e => e.id == target) || decide (s.ssv.eng.length ≤ 1)
      let st := if st = Sts.OK && wrong then Sts.OUT_OF_RANGE else st
      let s := if st ≠ Sts.OK then s
        else secTouch { s with ssv := { s.ssv with eng := s.ssv.eng.filter fun e => e.id != target } }
      (some (rspOf st), addAudit auth 0 0x0807 st target s)) s
def execRemoveEngineer (ch authId targetId : Nat) (authPass : Bytes) (s : State) : Out :=
  hostRow ch 0x0807 (fwRemoveEngineer ch false authId targetId authPass) s

/-- Largest bulk extent, in bytes (12 R367): the bulk area of a channel. -/
def bulkMax : Nat := 7168

/-- READ_AUDIT (13 Table 13-10): the records kept from number FIRST on, as many as the extent holds, and the number that
follows the last of them. -/
def fwReadAudit (who : Nat) (bad : Bool) (first room : Nat) (s : State) : FwRes :=
  fwRead who bad { f := true } []
    (fun s =>
      let l := (s.ssv.audit.filter fun r => decide (first ≤ r.number)).take (room / 32)
      let next := match l.getLast? with | some r => r.number + 1 | none => s.ssv.auditNext
      okRsp (leBytes 4 next) (l.flatMap AuditRec.bytes)) s
def execReadAudit (ch first : Nat) (s : State) : Out := hostRow ch 0x0808 (fwReadAudit ch false first bulkMax) s

end Sys2Proof.Machine
end

