-- ==== Sys2Proof/Machine/FwSession.lean ====
section
/-!
DEFINITION. The session class 0x01xx and the identity and health class 0x02xx (13 Tables 13-1, 13-2, R381, R382), each as
the firmware runs it and as the row that gives it on a channel.
-/
namespace Sys2Proof.Machine

/-- Letters of the session class and of the identity and health class: served in F3 and in every life-cycle state. -/
def openLetters : Letters := { f := true, life := true }

/-- OPEN_SESSION given on a channel (12 R369). -/
def execOpenSession (ch nonce leaseMs : Nat) (force : Bool) (s : State) : Out :=
  onUnit "channel" ch 4 <| .next <|
    if !s.hif.fwReady then s
    else
      let (r, _, s) := openCore ch nonce leaseMs force s.cyc.now s
      s.mdChan ch fun x => { x with rsp := r }

/-- CLOSE_SESSION (12 R371). -/
def fwCloseSession (who : Nat) (bad : Bool) (s : State) : FwRes :=
  fwRun who bad openLetters [] (fun s => (some okRsp, sessionEnd who Sts.SESSION_CLOSED s)) s
def execCloseSession (ch : Nat) (s : State) : Out := hostRow ch 0x0102 (fwCloseSession ch false) s

/-- KEEPALIVE (12 R369). -/
def fwKeepalive (who : Nat) (bad : Bool) (s : State) : FwRes :=
  fwRead who bad openLetters [] (fun s => okRsp (leBytes 2 ((s.chan who).remain s.cyc.now) ++ leBytes 2 0)) s
def execKeepalive (ch : Nat) (s : State) : Out := hostRow ch 0x0103 (fwKeepalive ch false) s

/-- A ticket among the 64 most recent ones (12 R370). -/
def ticketOf (num : Nat) (s : State) : Option TicketSt :=
  if num + 64 < s.hif.ticketNext then none else s.hif.tickets.find? fun t => t.num == num

/-- TICKET_STATUS (12 R370). -/
def fwTicketStatus (who : Nat) (bad : Bool) (num : Nat) (s : State) : FwRes :=
  fwRead who bad openLetters [((ticketOf num s).isNone, Sts.UNKNOWN_TICKET)]
    (fun s => match ticketOf num s with
      | some t => okRsp (leBytes 1 t.state ++ leBytes 1 t.progress ++ leBytes 2 t.final ++ leBytes 2 t.opcode ++ leBytes 1 t.ch
          ++ leBytes 1 0)
      | none => {}) s
def execTicketStatus (ch ticket : Nat) (s : State) : Out := hostRow ch 0x0104 (fwTicketStatus ch false ticket) s

/-- A ticket's command has a cancel point: HOME and START_INJECTION (13 Table 13-17). -/
def hasCancelPoint (op : Nat) : Bool := op == 0x0407 || op == 0x0B03

/-- CANCEL_TICKET (13 R381): takes effect at the next cancel point; an ended ticket answers its state. -/
def fwCancelTicket (who : Nat) (bad : Bool) (num : Nat) (s : State) : FwRes :=
  let t := (ticketOf num s).getD {}
  fwRun who bad openLetters
    [ ((ticketOf num s).isNone, Sts.UNKNOWN_TICKET),
      (t.ch != who || t.token != (s.chan who).token, Sts.NOT_OWNER),
      (t.state == 0 && !hasCancelPoint t.opcode, Sts.NO_CANCEL_POINT) ]
    (fun s =>
      (some (okRsp (leBytes 1 t.state ++ leBytes 3 0)),
       { s with hif := { s.hif with tickets := s.hif.tickets.map fun x =>
           if x.num == num && x.state == 0 then { x with cancel := true } else x } })) s
def execCancelTicket (ch ticket : Nat) (s : State) : Out := hostRow ch 0x0105 (fwCancelTicket ch false ticket) s

/-- SET_LEASE (12 R371). -/
def fwSetLease (who : Nat) (bad : Bool) (lease : Nat) (s : State) : FwRes :=
  fwRun who bad openLetters [(!leaseOk lease, Sts.OUT_OF_RANGE)]
    (fun s => (some (okRsp (leBytes 2 (leaseGrant lease) ++ leBytes 2 0)),
      s.mdChan who fun x => { x with leaseMs := leaseGrant lease })) s
def execSetLease (ch leaseMs : Nat) (s : State) : Out := hostRow ch 0x0106 (fwSetLease ch false leaseMs) s

/-! ### Identity and health -/

/-- GET_IDENTITY (00 R2, 13 Table 13-2). -/
def fwGetIdentity (who : Nat) (bad : Bool) (s : State) : FwRes :=
  fwRead who bad openLetters []
    (fun s => okRsp (leBytes 2 0x6408 ++ leBytes 1 0xB1 ++ leBytes 1 1 ++ leBytes 2 4 ++ leBytes 2 2
      ++ leBytes 8 Config.serial.toNat ++ leBytes 2 Config.subsysVid.toNat ++ leBytes 2 Config.subsysId.toNat
      ++ leBytes 4 s.hlt.fuses.lifecycle ++ leBytes 1 s.modeCode ++ leBytes 1 s.mlc.role.code ++ leBytes 2 0)) s
def execGetIdentity (ch : Nat) (s : State) : Out := hostRow ch 0x0201 (fwGetIdentity ch false) s

/-- GET_HEALTH (16 R465). -/
def fwGetHealth (who : Nat) (bad : Bool) (s : State) : FwRes :=
  fwRead who bad openLetters [] (fun s => okRsp [] (healthSummary s)) s
def execGetHealth (ch : Nat) (s : State) : Out := hostRow ch 0x0202 (fwGetHealth ch false) s

/-- Reading the time-base block reads TB_NOW_FRAC, which latches the two words after it (02 R59). -/
def latchNow (block : Nat) (s : State) : State :=
  if block = 0 then { s with tb := { s.tb with nowLatch := s.cyc.now / ns % 2 ^ 64 } } else s

/-- A block of READ_BLOCK by BLOCK and INDEX (13 R382). -/
def blockBytes (s : State) (block index : Nat) : Option Bytes :=
  match block with
  | 0 => if index = 0 then some (tbBlock (latchNow 0 s).tb s.cyc.now) else none
  | 1 => if index = 0 then some ((List.range 64).flatMap fun n => leBytes 4 (laneMap s n)) else none
  | 2 => if index < 36 then some (leBytes 4 (portStat (s.port index)) ++ leBytes 8 (portErr (s.port index).err)) else none
  | 3 => if index < 16 then some (leBytes 4 (dpStat index (vrd s.dps index))) else none
  | 4 => if index < 64 then some (leBytes 4 (dpKstat (s.ax index))) else none
  | 5 => healthBlock s index
  | _ => none

/-- Clear the RC fields of a block (13 R382): PPSIN_REJ, the port counters, the datapath counts, HOLD_CUTS and K_MAX, CORR and
UNCORR, RELEASE_BAD. -/
def clearRc (block index : Nat) (s : State) : State :=
  match block with
  | 0 => { s with tb := { s.tb with ppsInRej := 0 } }
  | 2 => s.mdPort index fun p => { p with err := {} }
  | 3 => { s with dps := vmd s.dps index fun d => { d with satCount := 0, nanCount := 0 } }
  | 5 => match index with
    | 4 => { s with ldg := { s.ldg with reqs := vmapI s.ldg.reqs fun _ r => { r with holdCuts := 0, kMax := 0 } } }
    | 5 => { s with ldg := { s.ldg with banks := vmapI s.ldg.banks fun _ b => { b with corr := 0, uncorr := 0 } } }
    | 6 => { s with ldg := { s.ldg with locks := vmapI s.ldg.locks fun _ l => { l with relBad := 0 } } }
    | _ => s
  | _ => s

/-- Clear the W1C fields of a block: CAL_FAULT, LINK_FAULT and REBOOTED, DP_SAT and DP_NAN, PROT_VIOL. -/
def clearW1c (block index : Nat) (s : State) : State :=
  match block with
  | 0 => { s with tb := { s.tb with calFault := false } }
  | 2 => s.mdPort index fun p => { p with linkFault := false, rebooted := false }
  | 3 => { s with dps := vmd s.dps index fun d => { d with sat := false, nan := false } }
  | 5 => match index with
    | 4 => { s with ldg := { s.ldg with reqs := vmapI s.ldg.reqs fun _ r => { r with protViol := false } } }
    | _ => s
  | _ => s

/-- READ_BLOCK (13 R382). -/
def fwReadBlock (who : Nat) (bad : Bool) (block index : Nat) (s : State) : FwRes :=
  fwRun who bad openLetters [((blockBytes s block index).isNone, Sts.OUT_OF_RANGE)]
    (fun s => (some (okRsp [] ((blockBytes s block index).getD [])), clearRc block index (latchNow block s))) s
def execReadBlock (ch block index : Nat) (s : State) : Out := hostRow ch 0x0203 (fwReadBlock ch false block index) s

/-- CLEAR_BLOCK (13 R382). -/
def fwClearBlock (who : Nat) (bad : Bool) (block index : Nat) (s : State) : FwRes :=
  fwRun who bad openLetters [((blockBytes s block index).isNone, Sts.OUT_OF_RANGE)]
    (fun s => (some okRsp, clearW1c block index (clearRc block index s))) s
def execClearBlock (ch block index : Nat) (s : State) : Out := hostRow ch 0x0204 (fwClearBlock ch false block index) s

/-- Present fault level of an arm, 3 for every arm in F3 (13 Table 13-2). -/
def armLevel (s : State) (k : Nat) : Nat := if s.ssv.f3 then 3 else (s.sc k).level

/-- GET_FAULT (13 Table 13-2). -/
def fwGetFault (who : Nat) (bad : Bool) (s : State) : FwRes :=
  fwRead who bad openLetters []
    (fun s =>
      okRsp (leBytes 1 (bit s.ssv.f3) ++ leBytes 1 (bit s.ssv.f3Inside) ++ leBytes 2 s.ssv.f3Status
        ++ (if s.ssv.f3 then s.ssv.f3At.bytes else leBytes 16 0) ++ (List.range 8).flatMap fun k => leBytes 1 (armLevel s k))) s
def execGetFault (ch : Nat) (s : State) : Out := hostRow ch 0x0205 (fwGetFault ch false) s

end Sys2Proof.Machine
end

