-- ==== Sys2Proof/Machine/Request.lean ====
section
/-!
DEFINITION. Requests of the mailbox rings: their payload layouts (13 R375, R376), the checks of 12 Table 12-15, the sequence
rule (12 R368), and the expiry of a lease (12 R371).
-/
namespace Sys2Proof.Machine

/-! ### Payload layouts (13 R375) -/

/-- Bytes of the fields of a request's fixed part in order, a res field negative; none for an opcode that does not exist. -/
def reqLayout (op : Nat) : Option (List Int) :=
  match op with
  | 0x0101 => some [4, 2, -2] | 0x0102 => some [] | 0x0103 => some [] | 0x0104 => some [4] | 0x0105 => some [4]
  | 0x0106 => some [2, -2]
  | 0x0201 => some [] | 0x0202 => some [] | 0x0203 => some [1, 1, -2] | 0x0204 => some [1, 1, -2] | 0x0205 => some []
  | 0x0301 => some [1, 1, -2] | 0x0302 => some [4] | 0x0303 => some [] | 0x0304 => some [4, 4, 1, -3, 32]
  | 0x0305 => some [1, -3] | 0x0306 => some [] | 0x0307 => some [1, -1, 2, 1, 1, -2] | 0x0308 => some []
  | 0x0309 => some [1, 1, -2, 4] | 0x030A => some [2, 1, 1, 2, -2]
  | 0x0401 => some [1, 1, -2, 8] | 0x0402 => some [1, 1, -2] | 0x0403 => some [1, -3]
  | 0x0404 => some [1, 1, -2, 4, 4, 4, 4] | 0x0405 => some [1, 1, 1, 1, 4, 4, 8, 8] | 0x0406 => some [1, 1, 1, -1]
  | 0x0407 => some [1, 1, 1, 1, 1, -3, 8, 8] | 0x0408 => some [1, -3] | 0x0409 => some [1, -3] | 0x040A => some [1, -3, 4]
  | 0x040B => some [1, -1, 2] | 0x040C => some [8]
  | 0x0501 => some [1, -3] | 0x0502 => some [1, -3] | 0x0503 => some [1, -3] | 0x0504 => some [1, -3] | 0x0505 => some [1, -3]
  | 0x0506 => some [1, -3] | 0x0507 => some [1, 1, 2] | 0x0508 => some [1, -3] | 0x0509 => some [1, -3] | 0x050A => some [1, -3]
  | 0x0601 => some [1, -3] | 0x0602 => some [1, 1, -2] | 0x0603 => some [1, -3]
  | 0x0701 => some [1, -3] | 0x0702 => some [] | 0x0703 => some [1, -3] | 0x0704 => some [1, -3] | 0x0705 => some [1, -3]
  | 0x0706 => some [] | 0x0707 => some []
  | 0x0801 => some [1, -3] | 0x0802 => some [4, 1, -3, 32] | 0x0803 => some [] | 0x0804 => some [] | 0x0805 => some []
  | 0x0806 => some [4, 1, 1, -2, 4, 32, 32] | 0x0807 => some [4, 1, -3, 4, 32] | 0x0808 => some [4]
  | 0x0901 => some [8] | 0x0902 => some [1, -3] | 0x0903 => some [1, -3] | 0x0904 => some [1, -3] | 0x0905 => some []
  | 0x0906 => some [2, 2] | 0x0907 => some [2, -2] | 0x0908 => some [] | 0x0909 => some [] | 0x090A => some [1, -3]
  | 0x0A01 => some [] | 0x0A02 => some [] | 0x0A03 => some [] | 0x0A04 => some [4, 4, 1, -3, 32] | 0x0A05 => some []
  | 0x0B01 => some [1, 1, 2, 4, 8] | 0x0B02 => some [1, -3]
  | 0x0B03 => some [1, 1, 1, 1, 2, 1, 1, 4, 1, 1, 1, -1, 2, -2] | 0x0B04 => some [1, -3] | 0x0B05 => some [1, -1, 2, 2, -2]
  | 0x0C01 => some [] | 0x0C02 => some [4, 1, -3, 32, 4] | 0x0C03 => some [1, 1, -2]
  | _ => none

/-- Commands whose request carries bulk data (13 R375). -/
def bulkIn : List Nat := [0x0302, 0x0506, 0x0B03]

/-- Commands that return bulk data: their request names the extent (12 R367). -/
def bulkOut : List Nat := [0x0202, 0x0203, 0x0309, 0x0602, 0x0706, 0x0808, 0x0907, 0x090A, 0x0A01, 0x0B05]

/-- Commands whose last field goes inline or in bulk by its length, with the largest inline length (13 R386, Table 13-12). -/
def bulkByLen : List (Nat × Nat) := [(0x030A, 232), (0x0906, 236)]

/-- The fields of a fixed part and what follows them; none where it is short or a res field is not 0. -/
def readFields : List Int → Bytes → Option (List Nat × Bytes)
  | [], b => some ([], b)
  | k :: ks, b =>
    let n := k.natAbs
    if b.length < n then none
    else if k < 0 then if ofLe (b.take n) = 0 then readFields ks (b.drop n) else none
    else (readFields ks (b.drop n)).map fun r => (ofLe (b.take n) :: r.1, r.2)

/-- A request's fields and data; none for BAD_PAYLOAD (13 R376, R386). `bulk`: the data of its extent. -/
def readReq (op : Nat) (payload : Bytes) (bulk : Option Bytes) : Option (List Nat × Bytes) :=
  match readFields ((reqLayout op).getD []) payload with
  | none => none
  | some (f, rest) =>
    match bulkByLen.find? fun e => e.1 == op with
    | some e =>
      let len := lget f (if op = 0x030A then 3 else 1)
      if len ≤ e.2 then if bulk.isNone && rest.length == len then some (f, rest) else none
      else match bulk with
        | some b => if rest.isEmpty && b.length == len then some (f, b) else none
        | none => none
    | none =>
      if !rest.isEmpty then none
      else match bulk with
        | some b =>
          if op = 0x0B03 then if b.length = 2 * lget f 11 then some (f, b) else none
          else if bulkIn.contains op then some (f, b)
          else if bulkOut.contains op || op == 0x0307 then some (f, [])
          else none
        | none =>
          if op = 0x0B03 ∧ lget f 11 = 0 then some (f, [])
          else if bulkIn.contains op || bulkOut.contains op then none else some (f, [])

/-- A passcode from its PLEN and its field of 32 bytes; a length no passcode has gives bytes that open nothing (09 R275). -/
def passOf (plen v : Nat) : Bytes :=
  if plen = 0 ∧ v = 0 then [] else if 6 ≤ plen ∧ plen ≤ 32 then (leBytes 32 v).take plen else leBytes 33 v

/-- Half-words of a bulk list. -/
def halves : Nat → Bytes → List Nat
  | 0, _ => []
  | n + 1, b => ofLe (b.take 2) :: halves n (b.drop 2)

/-- A command by its opcode with the fields of its request; `room` is the length of the extent for its bulk data. -/
def runOp (who op : Nat) (bad : Bool) (f : List Nat) (b : Bytes) (room : Nat) (s : State) : FwRes :=
  let x := lget f
  match op with
  | 0x0102 => fwCloseSession who bad s
  | 0x0103 => fwKeepalive who bad s
  | 0x0104 => fwTicketStatus who bad (x 0) s
  | 0x0105 => fwCancelTicket who bad (x 0) s
  | 0x0106 => fwSetLease who bad (x 0) s
  | 0x0201 => fwGetIdentity who bad s
  | 0x0202 => fwGetHealth who bad s
  | 0x0203 => fwReadBlock who bad (x 0) (x 1) s
  | 0x0204 => fwClearBlock who bad (x 0) (x 1) s
  | 0x0205 => fwGetFault who bad s
  | 0x0301 => fwOpenSet who bad (x 0) (x 1) s
  | 0x0302 => fwWriteSeg who bad (x 0) b s
  | 0x0303 => fwCloseSet who bad s
  | 0x0304 => fwConfirm who bad (x 0) (x 1) (passOf (x 2) (x 3)) s
  | 0x0305 => fwCommit who bad (x 0) s
  | 0x0306 => fwAbortSet who bad s
  | 0x0307 => fwReadParam who bad (x 0) (x 1) (x 2) (x 3) s
  | 0x0308 => fwGetSetInfo who bad s
  | 0x0309 => fwReadSet who bad (x 0) (x 1) (x 2) s
  | 0x030A => fwWriteParam who bad (x 0) (x 1) (x 2) b s
  | 0x0401 => fwMove who bad (x 0) (x 1) (toSigned 64 (x 2)) s
  | 0x0402 => fwJog who bad (x 0) (x 1) s
  | 0x0403 => fwStop who bad (x 0) s
  | 0x0404 => fwSetLimits who bad (x 0) (x 1) (x 2) (x 3) (x 4) (x 5) s
  | 0x0405 => fwGear who bad (x 0) (x 1) (x 2) (x 3) (toSigned 32 (x 4)) (x 5) (toSigned 64 (x 6)) (toSigned 64 (x 7)) s
  | 0x0406 => fwStepFollow who bad (x 0) (x 1) (x 2) s
  | 0x0407 => fwHome who bad (x 0) (x 1) (x 2) (x 3) (x 4) (toSigned 64 (x 5)) (toSigned 64 (x 6)) s
  | 0x0408 => fwGetAxis who bad (x 0) s
  | 0x0409 => fwGetMovePlan who bad (x 0) s
  | 0x040A => fwClearAxisFlags who bad (x 0) (x 1) s
  | 0x040B => fwStageRead who bad (x 0) (x 1) s
  | 0x040C => fwDlReset who bad (x 0) s
  | 0x0501 => fwEnable who bad (x 0) s
  | 0x0502 => fwDisable who bad (x 0) s
  | 0x0503 => fwFaultAck who bad (x 0) s
  | 0x0504 => fwEnterPlanned who bad (x 0) s
  | 0x0505 => fwLeavePlanned who bad (x 0) s
  | 0x0506 => fwSetPath who bad (x 0) b s
  | 0x0507 => fwHandover who bad (x 0) (x 1) (x 2) s
  | 0x0508 => fwAcceptHandover who bad (x 0) s
  | 0x0509 => fwReclaim who bad (x 0) s
  | 0x050A => fwGetArm who bad (x 0) s
  | 0x0601 => fwGetResult who bad (x 0) s
  | 0x0602 => fwGetPlan who bad (x 0) (x 1) s
  | 0x0603 => fwGetSizing who bad (x 0) s
  | 0x0701 => fwGetVerdict who bad (x 0) s
  | 0x0702 => fwGetSsmStat who bad s
  | 0x0703 => fwResume who bad (x 0) s
  | 0x0704 => fwStopTest who bad (x 0) s
  | 0x0705 => fwGetStopTest who bad (x 0) s
  | 0x0706 => fwGetObjects who bad s
  | 0x0707 => fwClearSsmFlags who bad s
  | 0x0801 => fwBrakeTest who bad (x 0) s
  | 0x0802 => fwEnterService who bad (x 0) (passOf (x 1) (x 2)) s
  | 0x0803 => fwLeaveService who bad s
  | 0x0804 => fwGetSafety who bad s
  | 0x0805 => fwClearSafetyFlags who bad s
  | 0x0806 => fwSetEngineer who bad (x 0) (x 3) (passOf (x 1) (x 4)) (passOf (x 2) (x 5)) s
  | 0x0807 => fwRemoveEngineer who bad (x 0) (x 2) (passOf (x 1) (x 3)) s
  | 0x0808 => fwReadAudit who bad (x 0) room s
  | 0x0901 => fwSetTimeOfDay who bad (x 0) s
  | 0x0902 => fwModeChange who bad (x 0) s
  | 0x0903 => fwChannelEnable who bad (x 0) s
  | 0x0904 => fwChannelDisable who bad (x 0) s
  | 0x0905 => fwApplyCalibration who bad s
  | 0x0906 => fwWriteValue who bad (x 0) b s
  | 0x0907 => fwReadValue who bad (x 0) s
  | 0x0908 => fwGetTtc who bad s
  | 0x0909 => fwClearTtc who bad s
  | 0x090A => fwGetCalibration who bad (x 0) s
  | 0x0A01 => fwGetPair who bad s
  | 0x0A02 => fwCastle who bad s
  | 0x0A03 => fwPairBegin who bad s
  | 0x0A04 => fwPairConfirm who bad (x 0) (x 1) (passOf (x 2) (x 3)) s
  | 0x0A05 => fwUnpair who bad s
  | 0x0B01 => fwStartCapture who bad (x 0) (x 1) (x 2) (x 3) (x 4) s
  | 0x0B02 => fwStopCapture who bad (x 0) s
  | 0x0B03 => fwStartInjection who bad (x 0) (x 1) (x 2) (x 3) (x 4) (x 5) (x 6) (x 7) (x 8) (x 9) (x 10) (halves (x 11) b) s
  | 0x0B04 => fwStopInjection who bad (x 0) s
  | 0x0B05 => fwGetFrf who bad (x 0) (x 1) (x 2) s
  | 0x0C01 => fwGetLifecycle who bad s
  | 0x0C02 => fwRetire who bad (x 0) (x 3) (passOf (x 1) (x 2)) s
  | 0x0C03 => fwSelfTest who bad (x 0) (x 1) s
  | _ => (some (rspOf Sts.UNKNOWN_OPCODE), s)

/-- The command of a request; its payload may be bad (13 R376). -/
def runReq (who op : Nat) (payload : Bytes) (bulk : Option Bytes) (room : Nat) (s : State) : FwRes :=
  match readReq op payload bulk with
  | some (f, b) => runOp who op false f b room s
  | none => runOp who op true [] [] room s

/-! ### The checks of Table 12-15 -/

/-- A request as copied from its slot (12 Table 12-14, R367). -/
structure ReqMsg where
  len : Nat := 0
  bulkFlag : Bool := false
  force : Bool := false
  op : Nat := 0
  token : Nat := 0
  seq : Nat := 0
  crc : Nat := 0
  payload : Bytes := []
  raw : Bytes := []
  deriving DecidableEq, Repr, Inhabited

/-- Read the 256 bytes of a slot. -/
def reqMsg (b : Bytes) : ReqMsg :=
  let len := uAt b 0 1
  let fl := uAt b 1 1
  { len := len, bulkFlag := fl.testBit 0, force := fl.testBit 3, op := uAt b 2 2, token := uAt b 4 4, seq := uAt b 8 4,
    crc := uAt b 12 4, payload := slice b 16 len, raw := b.take 12 ++ leBytes 4 0 ++ slice b 16 len }

/-- OFFSET and LENGTH of the descriptor. -/
def ReqMsg.ext (m : ReqMsg) : Option (Nat × Nat) := if m.bulkFlag then some (uAt m.payload 0 2, uAt m.payload 2 2) else none

/-- Check 1: BAD_LENGTH. -/
def ReqMsg.lengthBad (m : ReqMsg) : Bool :=
  decide (240 < m.len) || match m.ext with
    | some (o, l) => decide (m.len < 8) || o % 8 != 0 || decide (l < 1) || decide (bulkMax < l) || decide (bulkMax < o + l)
    | none => false

/-- Data of the extent. -/
def ReqMsg.data (m : ReqMsg) (c : Nat) (s : State) : Option Bytes := m.ext.map fun e => memRead s.hif.ram (bulkBase c + e.1) e.2

/-- Check 3: BAD_CRC. Check 2 never fails: one request is served at a time, and no waiting one keeps an extent (12 R364). -/
def ReqMsg.crcBad (m : ReqMsg) (d : Option Bytes) : Bool :=
  crc32c m.raw != m.crc || match d with | some b => crc32c b != uAt m.payload 4 4 | none => false

/-- The sequence rule (12 R368): the next number runs the command, an earlier one among the last 16 gives the stored response,
any other SEQ_ERROR. -/
def seqRun (c n : Nat) (m : ReqMsg) (d : Option Bytes) (s : State) : State :=
  let x := s.chan c
  let write (dup : Bool) (r : Rsp) (s : State) : State := writeRsp c n m.op m.token m.seq dup m.ext r s
  let payload := if m.bulkFlag then m.payload.drop 8 else m.payload
  let room := match m.ext with | some e => e.2 | none => 0
  if m.seq = x.expect_ then execReq c m.crc m.op (some n) m.ext (runReq c m.op payload d room) s
  else match x.stored.find? fun r => r.seq == m.seq with
  | some r =>
    if r.crc = m.crc then write true { status := uAt r.payload 0 2, body := r.payload.drop 4, bulk := r.bulk } s
    else write false (rspOf Sts.SEQ_REUSED) s
  | none =>
    if m.seq < x.expect_ ∧ x.expect_ ≤ m.seq + 16 then write false (rspOf Sts.SEQ_REUSED) s
    else write false { status := Sts.SEQ_ERROR, body := leBytes 4 x.expect_ } s

/-- OPEN_SESSION in a request (12 R369): it carries TOKEN 0, and the sequence rule does not concern it. -/
def openReq (c n : Nat) (m : ReqMsg) (d : Option Bytes) (t : Time) (s : State) : State :=
  let write (dup : Bool) (r : Rsp) (s : State) : State :=
    writeRsp c n m.op m.token m.seq dup none r (s.mdChan c fun x => { x with rsp := r })
  if m.token ≠ 0 then write false (rspOf Sts.BAD_SESSION) s
  else match readReq m.op m.payload d with
    | none => write false (rspOf Sts.BAD_PAYLOAD) s
    | some (f, _) =>
      let (r, dup, s) := openCore c (lget f 0) (lget f 1) m.force t s
      write dup r s

/-- A request taken at its doorbell stamp: the checks of Table 12-15 in their order. -/
def judgeReq (c n : Nat) (m : ReqMsg) (t : Time) (s : State) : State :=
  let d := m.data c s
  let refuse (st : Nat) (s : State) : State := writeRsp c n m.op m.token m.seq false none (rspOf st) s
  if m.lengthBad then refuse Sts.BAD_LENGTH s
  else if m.crcBad d then refuse Sts.BAD_CRC s
  else if m.op = 0x0101 then openReq c n m d t s
  else
    let s := lapse c t s
    if !(s.chan c).open_ || (s.chan c).token != m.token then refuse Sts.BAD_SESSION s
    else if (s.chan c).mirrored && !s.commands then refuse Sts.NO_AUTHORITY s
    else seqRun c n m d (s.mdChan c fun x => { x with renewAt := max x.renewAt t, used := true })

/-- A channel has a request that may be taken: posted, and its response slot is free (12 R364). -/
def ChanSt.takeable (x : ChanSt) : Bool := x.reqCons != x.reqProd && decide (ringDiff x.reqCons x.rspAck < 16)

/-- No request waits for its effect: the firmware serves one at a time (12 R364), and one sent again finds the stored response of
the first (R368). -/
def State.fwIdle (s : State) : Bool := s.hif.fwReady && (vlist s.hif.ch).all fun x => x.wait.isEmpty

/-- The channel served next: in turn from HIF's turn on (12 R364). -/
def State.nextChan (s : State) : Option Nat :=
  ((List.range 4).map fun i => (s.hif.turn + i) % 4).find? fun c => (s.chan c).takeable

/-- REQUEST_TAKEN (12 R364): the request is copied, REQ_CONS passes it, and it is judged at its doorbell stamp. -/
def execRequestTaken (ch : Nat) (s : State) : Out :=
  onUnit "channel" ch 4 <| .next <|
    if !s.fwIdle || s.nextChan != some ch then s
    else
      let x := s.chan ch
      let n := x.reqCons
      let t := match x.posts.find? fun p => decide (0 < ringDiff p.1 n) && decide (ringDiff p.1 n ≤ 16) with
        | some p => p.2 | none => s.cyc.now
      let m := reqMsg (memRead s.hif.ram (reqSlot ch n) 256)
      let s := s.mdChan ch fun x => { x with
        reqCons := (n + 1) % 2 ^ 16, posts := x.posts.filter fun p => decide (0 < ringDiff p.1 (n + 1)) && decide (ringDiff p.1 (n + 1) ≤ 16) }
      judgeReq ch n m t { s with hif := { s.hif with turn := (ch + 1) % 4 } }

/-- LEASE_EXPIRY (12 R371): at the last renewal plus LEASE_MS the session ends. A request stamped before that instant is judged
first, and a mirrored session of a unit without authority has no lease of its own (14 R415). -/
def execLeaseExpiry (ch : Nat) (s : State) : Out :=
  onUnit "channel" ch 4 <| .next <|
    let x := s.chan ch
    if !x.open_ || (x.mirrored && !s.commands) then s
    else if x.posts.any fun p => !atOrAfter p.2 ns x.leaseEnd then s
    else sessionEnd ch Sts.LEASE_EXPIRED (s.upTo x.leaseEnd)

end Sys2Proof.Machine
end

