-- ==== Sys2Proof/Machine/Mirrored.lean ====
section
/-!
DEFINITION. The mirrored regions (14 R403, R406, R415, R424, 11 R329): what a unit without authority takes from the DELTA lines of
the session table and the stored responses, the tickets, the transmit values, the parameter sets, the secure region (15
Table 15-10) and the warm starts. The regions lie where 15 Table 15-2 puts them; within a region whose inner layout the spec does
not give, the layout is the model's own (DESIGN CHOICE, notes/assumptions 74).
-/
namespace Sys2Proof.Machine

/-- A DELTA of `len` bytes at `a` touches the `n` bytes at `lo`. -/
def touches (a len lo n : Nat) : Bool := decide (a < lo + n) && decide (lo < a + len)

/-- Bytes of the Ledger. -/
def State.led (s : State) (a n : Nat) : Bytes := memRead s.ldg.mem a n

/-! ### Sessions, stored responses and tickets (region 0) -/

/-- Session of channel c: OPEN, USED, TOKEN, NONCE, lease, expected sequence number and the instant of the last renewal; while this
unit has no authority an open one is a mirrored session (14 R415). -/
def takeSession (c : Nat) (s : State) : State :=
  let b := s.led (ledSession c) 40
  s.mdChan c fun x => { x with
    open_ := uAt b 0 1 == 1, used := uAt b 1 1 == 1, token := uAt b 4 4, nonce := uAt b 8 4, leaseMs := uAt b 12 4
    expect_ := uAt b 16 4, renewAt := uAt b 24 8 * ns, mirrored := uAt b 0 1 == 1 }

/-- Newest first. -/
def putRspBySeq (x : StoredRsp) (l : List StoredRsp) : List StoredRsp := keepRsp x (l.filter fun y => y.seq != x.seq)

/-- Stored response j of channel c: SEQ, CRC of the request, OPCODE, the lengths of its payload and bulk data, which follow the
line (12 R368, 14 R415). -/
def takeStored (c j : Nat) (s : State) : State :=
  let a := ledStored c j
  let b := s.led a 64
  if uAt b 14 1 = 0 then s
  else s.mdChan c fun x => { x with stored := putRspBySeq (
    { seq := uAt b 0 4, crc := uAt b 4 4, opcode := uAt b 8 2, payload := s.led (uAt b 16 4) (uAt b 10 2)
      bulk := s.led (uAt b 20 4) (uAt b 12 2) } : StoredRsp) x.stored }

/-- Put a ticket in its place, newest first. -/
def putTicket (t : TicketSt) : List TicketSt → List TicketSt
  | [] => [t]
  | x :: xs => if x.num < t.num then t :: x :: xs else if x.num = t.num then t :: xs else x :: putTicket t xs

/-- Ticket line i (12 R370). -/
def takeTicket (i : Nat) (s : State) : State :=
  let b := s.led (ledTicket i) 32
  let n := uAt b 0 4
  if n = 0 then s
  else { s with hif := { s.hif with
    ticketNext := max s.hif.ticketNext (n + 1)
    tickets := trimTickets (putTicket { num := n, token := uAt b 4 4, opcode := uAt b 8 2, state := uAt b 10 1, progress := uAt b 11 1
                                        final := uAt b 12 2, ch := uAt b 14 1, cancel := uAt b 15 1 == 1 } s.hif.tickets) } }

/-! ### Parameter sets (region 1) and the secure region (region 15) -/

/-- The header line of the committed sets comes last: with it the set is whole, and governs from the first control-cycle start
after its acknowledgement (14 R424). -/
def takeCommitted (s : State) : State :=
  let b := s.led ledCommitted 8
  let x := uAt b 0 4
  let y := uAt b 4 4
  match parseSet (s.led (ledCommitted + 64) x), parseSet (s.led (ledCommitted + 64 + x) y) with
  | .good p, .good q =>
    let recs := mergeSets p q
    { s with fw := { s.fw with setNext := s.fw.setNext ++
      [{ at_ := s.effectAt, recs := recs, part := if checkValue recs = checkValue s.comNext then 1 else 0 }] } }
  | _, _ => s

/-- A confirmation record read back (09 Table 09-7). -/
def readConfirm (b : Bytes) : Option ConfirmRec :=
  if b.length < 24 || b.all (· == 0) then none
  else some { check := uAt b 20 4, time := uAt b 12 8, eng := uAt b 8 4, slot := uAt b 7 1 }

/-- Engineers of the table of 15 Table 15-10; an entry of zeros is none. -/
def readTable : Nat → Bytes → List Engineer
  | 0, _ => []
  | n + 1, b =>
    let e : Engineer := { id := uAt b 0 4, salt := slice b 4 16, hash := slice b 20 32, fails := uAt b 52 1
                          lockedTo := if uAt b 56 8 = 0 then none else some (uAt b 56 8 * ns) }
    if b.length < 64 then [] else if (b.take 64).all (· == 0) then readTable n (b.drop 64) else e :: readTable n (b.drop 64)

/-- The mirrored parts of the secure region: confirmation record, brake-test timers and engineer table (14 Table 14-4, 15
Table 15-10). -/
def takeSecure (a len : Nat) (s : State) : State :=
  let s := if touches a len (regSecure + 0x40) 24
    then secTouch { s with ssv := { s.ssv with conf := readConfirm (s.led (regSecure + 0x40) 24) } } else s
  let s := if touches a len (regSecure + 0xC0) 64
    then secTouch { s with ssv := { s.ssv with brakes := vmapI s.ssv.brakes fun k b =>
      let v := uAt (s.led (regSecure + 0xC0 + 8 * k) 8) 0 8
      { b with timer := v * sec, saved := v } } } else s
  if touches a len (regSecure + 0x400) 2048
    then secTouch { s with ssv := { s.ssv with eng := readTable 32 (s.led (regSecure + 0x400) 2048) } } else s

/-! ### Warm starts (region 7) -/

/-- Words put into the places of a list. -/
def fillQ : List QW → List Int → List QW × List Int
  | [], w => ([], w)
  | q :: qs, w => let r := fillQ qs w.tail; ({ q with w := w.headD 0, sat := false } :: r.1, r.2)

/-- The words of z in the order of a knot: positions, velocities, accelerations, slacks. -/
def fillZ : List ZKnot → List Int → List ZKnot × List Int
  | [], w => ([], w)
  | k :: ks, w =>
    let (q, w) := fillQ k.q w
    let (v, w) := fillQ k.v w
    let (a, w) := fillQ k.a w
    let (x, w) := fillQ k.s w
    let r := fillZ ks w
    ({ q := q, v := v, a := a, s := x } :: r.1, r.2)

/-- The words of w or y in the order of Table 07-1. -/
def fillW : List WKnot → List Int → List WKnot × List Int
  | [], w => ([], w)
  | k :: ks, w =>
    let (q, w) := fillQ k.q w
    let (v, w) := fillQ k.v w
    let (a, w) := fillQ k.a w
    let (t, w) := fillQ k.t w
    let (c, w) := fillQ k.c w
    let (p, w) := fillQ k.p w
    let (x, w) := fillQ k.s w
    let r := fillW ks w
    ({ q := q, v := v, a := a, t := t, c := c, p := p, s := x } :: r.1, r.2)

/-- Number of words of a warm start. -/
def WarmSt.size (x : WarmSt) : Nat :=
  let z := x.z.foldl (fun n k => n + k.q.length + k.v.length + k.a.length + k.s.length) 0
  let w (l : List WKnot) : Nat := l.foldl (fun n k => n + k.q.length + k.v.length + k.a.length + k.t.length + k.c.length + k.p.length
    + k.s.length) 0
  z + w x.w + w x.y

/-- A warm start takes the words of a record. -/
def WarmSt.fill (x : WarmSt) (w : List Int) : WarmSt :=
  let (z, w) := fillZ x.z w
  let (a, w) := fillW x.w w
  let (y, _) := fillW x.y w
  { z := z, w := a, y := y }

/-- The header line of a warm start comes last: the words behind it replace the arm's own z, w and y, in the formats of its last
solve, and the comparison of the arm goes on (14 R406). -/
def takeWarm (k : Nat) (s : State) : State :=
  let r := s.plr k
  let x := r.warm.getD (match r.solve with | some v => coldStart v.inp | none => {})
  let b := s.led (ledWarm k + 64) (4 * x.size)
  let s := s.mdPlr k fun r => { r with warm := some (x.fill ((List.range x.size).map fun i => sAt b (4 * i) 4)) }
  { s with mlc := { s.mlc with warmLack := s.mlc.warmLack &&& (255 - 2 ^ k) } }

/-! ### Transmit values and delays (region 12) -/

/-- Transmit value v: FRESH, AGE, producer, the stamps and lengths of its payload as last written, of the one that waits and of the one
latched, which lie at the addresses given (11 R329, R339). -/
def takeTxVal (v : Nat) (s : State) : State :=
  let b := s.led (ledTx v) 64
  if uAt b 0 1 = 0 then s
  else
    let later := if uAt b 6 2 = 0xFFFF then none else some (s.led (uAt b 36 4) (uAt b 6 2), uAt b 24 8 * ns)
    let x : TxVal := { num := v, fresh := uAt b 1 1 == 1, age := uAt b 2 1, by_ := uAt b 3 1, data := s.led (uAt b 32 4) (uAt b 4 2)
                       at_ := uAt b 16 8 * ns, later := later, out := s.led (uAt b 40 4) (uAt b 8 2) }
    { s with ttc := { s.ttc with tx := putTx x s.ttc.tx } }

/-- The delays in use of the other unit (11 R329); 2^64 − 1 is none. -/
def takeDelays (s : State) : State :=
  { s with ttc := { s.ttc with calPeer := (List.range 64).map fun i =>
      let v := uAt (s.led (ledDelay + 8 * i) 8) 0 8
      if v = 2 ^ 64 - 1 then none else some v } }

/-! ### DELTA -/

/-- What a line of a mirrored region changes beside the Ledger's bytes. -/
def takeDelta (a len : Nat) (s : State) : State :=
  let s := (List.range 4).foldl (fun s c => if touches a len (ledSession c) 40 then takeSession c s else s) s
  let s := (List.range 256).foldl (fun s i => if touches a len (ledTicket i) 32 then takeTicket i s else s) s
  let s := (List.range 64).foldl (fun s i => if touches a len (ledStored (i / 16) (i % 16)) 64 then takeStored (i / 16) (i % 16) s else s) s
  let s := if touches a len ledCommitted 8 then takeCommitted s else s
  let s := (List.range 8).foldl (fun s k => if touches a len (ledWarm k) 64 then takeWarm k s else s) s
  let s := (List.range 512).foldl (fun s v => if touches a len (ledTx v) 64 then takeTxVal v s else s) s
  let s := if touches a len ledDelay 512 then takeDelays s else s
  if touches a len regSecure 0xC00 then takeSecure a len s else s

end Sys2Proof.Machine
end

