-- ==== Sys2Proof/Machine/Mirror.lean ====
section
/-!
DEFINITION. The Mirror link and the pair (chapter 14): heartbeats (R402), frames and acknowledgements (R401), the records of
Table 14-4 as the receiver takes them (R403 to R406), the outputs of a unit without authority (R410, R411), takeover
(R412 to R418), Castling (R419 to R421), pairing (R422 to R424) and the start-up of a pair (R395 to R398).
-/
namespace Sys2Proof.Machine

/-! ### Authority -/

/-- MIR_ENG goes high: E111 KIND 0 (14 R410). -/
def engRaise (s : State) : State :=
  if s.mlc.eng then s else raiseEv 111 Sts.OK 0xFF 0 0 { s with mlc := { s.mlc with eng := true } }

/-- Largest EPOCH_ACK any port has reported (10 R305). -/
def maxAck (s : State) : Nat := ((vlist s.dl.ports).map (·.epochAck)).foldl max 0

/-- The unit holds authority with an epoch from now on: its sessions are its own, and MIR_ENG is high (14 R395, R410, R415). -/
def takeAuthority (epoch : Nat) (s : State) : State :=
  engRaise { s with
    dl := { s.dl with authority := true, lost := false, lostNext := false, epoch := epoch, epochNext := 0
                      ports := vmapI s.dl.ports fun _ p => { p with listen := false, ackDue := false, staleRun := 0 } }
    mlc := { s.mlc with planLack := 0, warmLack := 0, armBad := 0, sysOwn := none }
    hif := { s.hif with ch := vmapI s.hif.ch fun _ c => { c with mirrored := false } } }

/-- E104: the role, the epoch and a status (14 Table 14-10). -/
def raiseAuthority (status : Nat) (s : State) : State := raiseEv 104 status 0 s.dl.epoch (s.mlc.role.code * 2 ^ 30 + status) s

/-- The unit gives up authority at an agreed instant: LISTEN frames, no cell-bus transmission, its sessions mirrored ones (14
R419). -/
def yieldAuthority (s : State) : State :=
  ttcDrop { s with
    dl := { s.dl with authority := false }
    hif := { s.hif with ch := vmapI s.hif.ch fun _ c => { c with mirrored := c.open_ } } }

/-- SINGLE_AUTHORITY (14 R396, 10 R305): a SINGLE unit in FIELD takes authority at FW_READY. -/
def execSingleAuthority (s : State) : Out :=
  .next <|
    if !s.hif.fwReady || decide (s.mlc.role ≠ .single) || decide (s.hlt.fuses.state ≠ 1) || s.dl.authority then s
    else takeAuthority (maxAck s + 1) s

/-- A valid HELLO has come within 2 ms: the units see each other (14 Table 14-4, R397). -/
def helloLive (s : State) : Bool := s.mlc.helloSince.isSome && decide (s.cyc.now ≤ s.mlc.helloAt + 2 * ms)

/-- PAIR_WAIT_END (14 R397): authority is taken unless the peer has it, a stage showed it on its other port, or a peer with
the lower serial number is there. -/
def execPairWaitEnd (s : State) : Out :=
  .next <|
    match s.mlc.waitEnd with
    | none => s
    | some t =>
      let s := s.upTo t
      let s := { s with mlc := { s.mlc with waitEnd := none } }
      let second := helloLive s && (match s.mlc.peer with | some p => decide (p.1 < Config.serial.toNat) | none => false)
      if s.mlc.otherAuth then raiseAuthority Sts.AUTHORITY_LOST s
      else if s.mlc.peerAuth || second then s
      else
        -- out of the Shadow role the firmware writes the SRC of the set again (02 R50)
        let s := tbWriteSrc (prmN s.ps Pid.TB_SRC 0) { s with mlc := { s.mlc with role := .active } }
        raiseAuthority Sts.OK (takeAuthority (max s.dl.epoch (maxAck s) + 1) s)

/-! ### Outputs of a unit without authority (14 R410, R411) -/

/-- Latest mirrored state of arm k. -/
def State.sysArm (s : State) (k : Nat) : SysArm := match s.mlc.sys with | some r => r.arms.getD k {} | none => {}

/-- Outputs that the record asks to be high: STO output high and switches closed, unless this unit applied them itself. -/
def sysRelease (s : State) : State :=
  if s.drives || s.mlc.sys.isNone then s
  else (List.range 8).foldl (fun s k =>
    if (s.sysArm k).stoOut && !s.mlc.ownApply.testBit k then (joinPair k s).mdBk k fun b => { b with stoOut := true } else s) s

/-- Outputs that the record asks to be low, from a control-cycle start on. -/
def sysApply (s : State) : State :=
  if s.drives || s.mlc.sys.isNone then s
  else (List.range 8).foldl (fun s k =>
    if (s.sysArm k).stoOut then s else (cutPair k s).mdBk k fun b => { b with stoOut := false }) s

/-- Every switch readback has matched its command for BK_SETTLE (14 R410). -/
def readbacksOk (s : State) : Bool :=
  (vlist s.ssv.brakes).all fun b =>
    b.fbh == b.hs && b.fbl == b.ls && b.diffAt.isNone && decide (b.changedAt + prmN s.ps Pid.BK_SETTLE 0 * ms ≤ s.cyc.now)

/-- The arm starts the next cycle from the mirrored state (14 R406): fault level, stop with its trigger, and function state as
far as the record gives it. -/
def adoptArm (k : Nat) (m : SysArm) (s : State) : State :=
  let c := s.sc k
  let fn : FnState := if m.disabled then .disabled else if m.level ≠ 0 then .shuttingDown
    else if c.level ≠ 0 then .enabled else c.fn
  let env : Option Envelope := match m.stop with
    | .none | .f2 | .estop0 | .sos => none
    | _ => match c.env with
      | some e => if e.trig = m.trig then some e else some { trig := m.trig, v0 := (s.ssmArm k).speeds }
      | none => some { trig := m.trig, v0 := (s.ssmArm k).speeds }
  let s := s.mdSc k fun c => { c with
    fn := fn, level := m.level, stop := m.stop, env := env
    seq := match fn with
      | .disabled => .idle
      | .enabled => if c.seq = .idle then .running else c.seq
      | .shuttingDown => if c.seq = .idle ∨ c.seq = .running then .stopping else c.seq }
  s.mdAxes (s.scAxes k) fun a => { a with fn := if fn = .disabled then .disabled else if a.fn = .disabled then .disabled else fn }

/-- A record of control cycle `cycle` that is complete at t belongs to the copy of the cycle in progress: it is that cycle's, and t
is assigned before its copy deadline (01 R23 to R25, 14 R403; the completion's stamp is COARSE). -/
def copyInTime (cycle : Nat) (t : Time) (s : State) : Bool :=
  decide (cycle = s.cyc.t0 / tCtl % 2 ^ 32) && !atOrAfter (coarse t) ns (s.cyc.t0 + tCtl)

/-- The mirrored state of an arm differs from the own one at the end of the cycle (14 R406): timestamps are not compared, nor two
solves of which either missed its deadline. -/
def armDiffers (a b : SysArm) : Bool :=
  a.stoOut != b.stoOut || a.level != b.level || a.disabled != b.disabled || decide (a.stop ≠ b.stop) || a.owner != b.owner
    || (a.plan.1 != b.plan.1 && a.plan.1 != 4 && b.plan.1 != 4)

/-- The arm takes the owner, the solve outcome and FALLBACK_N of the active unit; where the outcomes differ its warm start may
differ too, and the Shadow asks for the other's (14 R406). -/
def adoptPlan (k : Nat) (m : SysArm) (s : State) : State :=
  let differs := decide ((s.plr k).res.outcome ≠ m.plan.1)
  let s := s.mdSc k fun c => { c with owner := m.owner }
  let s := s.mdPlr k fun r => { r with res := { r.res with outcome := m.plan.1, fallbackN := m.plan.2 } }
  if differs then mirSend 0x0A (s.cyc.t0 / tCtl % 2 ^ 32) 0 16 none { s with mlc := { s.mlc with warmLack := s.mlc.warmLack ||| 2 ^ k } }
  else s

/-- SYSTEM_RECORD (14 R403, R411): the latest mirrored record of a unit without authority; one that is not complete by its
deadline counts as missing (R418). An owner is a channel, 4 for a bound
cell-bus value, more for none. -/
def execSystemRecord (copy : CopyRx) (epoch sto disabled : Nat) (levels : List Nat) (stops : List (Nat × Nat))
    (plans : List (Nat × Nat × Nat)) (s : State) : Out :=
  .next <|
    let s := s.upTo copy.at_
    if s.drives || !copyInTime copy.cycle copy.at_ s then s
    else
      let kinds : List StopKind := [.none, .f1, .f2, .prot1, .prot2, .estop0, .estop1, .sos]
      let arms := (List.range 8).map fun k =>
        ({ stoOut := sto.testBit k, level := lget levels k, disabled := disabled.testBit k
           stop := kinds.getD (lget stops k).1 .none, trig := (lget stops k).2
           owner := if 4 < (plans.getD k (5, 0, 0)).1 then none else some (plans.getD k (5, 0, 0)).1
           plan := (plans.getD k (5, 0, 0)).2 } : SysArm)
      let own := s.mlc.sysOwn.getD s.ownSys
      let bad := maskBy 8 fun k => armDiffers (own.arms.getD k {}) (arms.getD k {}) && !s.mlc.warmLack.testBit k
      let s := { s with
        dl := { s.dl with epoch := max s.dl.epoch epoch }
        mlc := { s.mlc with
          sys := some { cycle := copy.cycle, epoch := epoch, arms := arms }, got := (true, s.mlc.got.2), sysMiss := 0, armBad := bad
          ownApply := (List.range 8).foldl (fun w k => if disabled.testBit k then w &&& (255 - 2 ^ k) else w) s.mlc.ownApply } }
      let s := if s.mlc.role = .shadow ∧ (s.mlc.shadow = .tracking ∨ s.mlc.shadow = .ready)
        then (List.range 8).foldl (fun s k => adoptPlan k (arms.getD k {}) (adoptArm k (arms.getD k {}) s)) s else s
      sysRelease s

/-! ### Heartbeats (14 R402) -/

/-- MLC_HB as numbers (14 Table 14-3). -/
structure Heartbeat where
  tx : Nat
  rx : Nat
  epoch : Nat
  role : Role
  shadow : ShState
  cause : Nat
  f3 : Bool
  safeFail : Bool
  mismatch : Bool
  stale : Bool
  staleRun : Nat
  deriving DecidableEq, Repr

/-- Role of its code (14 Table 14-3). -/
def roleOf (n : Nat) : Role := match n % 4 with | 0 => .single | 1 => .active | 2 => .shadow | _ => .deposed
/-- Shadow state of its code (14 Table 14-3). -/
def shStateOf (n : Nat) : ShState := match n % 4 with | 0 => .absent | 1 => .joining | 2 => .tracking | _ => .ready

/-- Read MLC_HB (14 Table 14-3). -/
def readHb (b : Bytes) : Heartbeat :=
  let w := uAt b 0 4
  { tx := uAt b 16 8, rx := uAt b 8 8, epoch := uAt b 4 4, role := roleOf (w / 2 ^ 30), shadow := shStateOf (w / 2 ^ 28)
    cause := w / 2 ^ 25 % 8, f3 := w.testBit 24, safeFail := w.testBit 23, mismatch := w.testBit 22, stale := w.testBit 21
    staleRun := w / 2 ^ 8 % 256 }

/-- Instant E at which the peer's heartbeat is expected (14 R402). -/
def hbExpect (s : State) : Time := s.mlc.hbT0 + tCur + s.mlc.delay

/-- Half-window HB_WIN. -/
def hbWin (s : State) : Time := prmN s.ps Pid.HB_WIN 0 * ns

/-- MIR_DELAY: the lower median of the last 64 values (14 R402). -/
def hbDelay (l : List Nat) (old : Nat) : Nat := if l.length < 64 then old else lget (l.mergeSort (· ≤ ·)) 31

/-- What the active unit takes from its Shadow's heartbeat (14 Table 14-1, R399, R407). -/
def hbOfShadow (h : Heartbeat) (s : State) : State :=
  let s := { s with mlc := { s.mlc with
    stale := h.stale, staleRun := h.staleRun, mismatch := h.mismatch
    staleCount := if h.stale then incSat 255 s.mlc.staleCount else s.mlc.staleCount
    mismatchCount := if h.mismatch then incSat 255 s.mlc.mismatchCount else s.mlc.mismatchCount
    peerF3 := h.f3 } }
  if h.f3 && decide (s.mlc.shadow ≠ .absent) then
    shadowTo .absent h.cause (if (match s.mlc.castle with | some c => !c.done | none => false) then castleFail Sts.DEVICE_F3 0xFF s else s)
  else s

/-- What a unit without authority takes from the active unit's heartbeat: the mirrored epoch and the Shadow state; a DEPOSED
unit outside F3 that the active unit lets join is SHADOW again (14 R398, R413, R417). -/
def hbOfActive (h : Heartbeat) (s : State) : State :=
  let s := { s with dl := { s.dl with epoch := max s.dl.epoch h.epoch } }
  let s := if s.mlc.role = .deposed ∧ !s.ssv.f3 ∧ h.shadow ≠ .absent then tbMirror { s with mlc := { s.mlc with role := .shadow } } else s
  if s.mlc.role = .shadow ∧ !s.ssv.f3 ∧ h.shadow ≠ s.mlc.shadow then shadowTo h.shadow h.cause s else s

/-- HEARTBEAT_RECEIVED (14 R402): the stamps feed MIR_DELAY and the time base of a Shadow (02 R58); a heartbeat in its window
is valid and counts for the lanes that carried it (R400). -/
def execHeartbeatReceived (mask t : Nat) (bytes : Bytes) (s : State) : Out :=
  .next <|
    if s.mlc.role = .single || bytes.length != 24 then s
    else
      let s := s.upTo t
      let st := s.stampOf 40 t
      let t := st.at_
      let h := readHb bytes
      let m := s.mlc
      let valid := inWindow t (stampUnit st.coarse) (hbExpect s - hbWin s) (hbExpect s + hbWin s) && !m.hbGot
      let stamps := h.tx != 0 && h.rx != 0 && m.hbRx.1 != 0 && m.hbTx.2 != 0
      let fwd : Int := (m.hbRx.1 : Int) - h.tx
      let back : Int := (h.rx : Int) - m.hbTx.2
      let fresh := if stamps && valid then (((fwd + back) / 2).toNat :: m.delays).take 64 else m.delays
      let s := { s with mlc := { m with
        hbRx := (t, m.hbRx.1), delays := fresh, delay := hbDelay fresh m.delay
        hbGot := m.hbGot || valid, missRun := if valid then 0 else m.missRun
        lanes := vmapI m.lanes fun i l => if !valid then l else { l with good := if mask.testBit i && l.lock then min 64 (l.good + 1) else 0 }
        peerHb := if valid then some (h.role, h.shadow, h.cause, h.f3, h.safeFail, h.epoch) else m.peerHb } }
      let s := if stamps && m.role = .shadow then { s with mlc := { s.mlc with hbTheta := some ((fwd - back) / 2) } } else s
      if !valid then s
      else if m.role = .active then (if h.role = .active then s else hbOfShadow h s)
      else if h.role = .active then hbOfActive h s
      else s

/-- The Shadow's condition at a cycle close as the active unit sees it (14 R399): the cause that withdraws READY, 0 where the
cycle is clean but for staleness. -/
def shadowCause (s : State) : Nat :=
  let c := match s.mlc.peerHb with | some h => h.2.2.1 | none => 0
  if s.mlc.mismatch then 3 else if c ≠ 0 ∧ c ≠ 2 then c else if s.mlc.overdue then 6 else 0

/-- The active unit decides the Shadow's state at a cycle close (14 Table 14-1, R399). -/
def judgeShadow (s : State) : State :=
  let m := s.mlc
  let c := shadowCause s
  match m.shadow with
  | .tracking => { s with mlc := { m with
      clean := if c = 0 && !m.stale then m.clean + 1 else 0
      cause := if c ≠ 0 then c else if m.stale then 2 else 0 } }
  | .ready =>
    if c ≠ 0 then shadowTo .tracking c s
    else if prmN s.ps Pid.STALE_MAX 0 < m.staleRun then shadowTo .tracking 2 s
    else s
  | _ => s

/-- A heartbeat of the peer is expected: the pair has been formed, or heartbeats have begun (notes/assumptions 69). -/
def hbExpected (s : State) : Bool :=
  decide (s.mlc.role ≠ .single) && (decide (s.mlc.shadow ≠ .absent) || s.mlc.hbRx.1 != 0)

/-- The Mirror link is lost after the second missed heartbeat: a READY Shadow decides a takeover, every other state becomes
ABSENT (14 Table 14-1, Table 14-6, R400). -/
def linkLost (s : State) : State :=
  let s := (List.range 5).foldl (fun s i => laneOut i s) { s with mlc := { s.mlc with helloSince := none, proof := false, hbRx := (0, 0) } }
  if s.mlc.role = .shadow ∧ s.mlc.shadow = .ready then { s with mlc := { s.mlc with tkDue := some s.cyc.now } }
  else if s.mlc.shadow = .absent then s
  else shadowTo .absent s.mlc.cause s

/-- HEARTBEAT_WINDOW_CLOSE (14 R402, R398, R412): an empty window is a missed heartbeat with E106; the active unit judges its
Shadow. -/
def execHeartbeatWindowClose (s : State) : Out :=
  .next <|
    if !s.cyc.running || decide (s.cyc.t0 < s.mlc.hbT0) then s
    else
      let s := s.upTo (hbExpect s + hbWin s)
      let got := s.mlc.hbGot
      let want := hbExpected s
      let s := { s with mlc := { s.mlc with hbGot := false, hbT0 := s.mlc.hbT0 + tCtl } }
      if got then if s.mlc.role = .active then judgeShadow s else s
      else if !want then s
      else
        let n := incSat 255 s.mlc.missRun
        let s := { s with mlc := { s.mlc with missRun := n, lanes := vmapI s.mlc.lanes fun _ l => { l with good := 0 } } }
        let s := raiseEv 106 Sts.OK s.mlc.laneMask n s.mlc.staleRun s
        if n = 2 then linkLost s else s

/-- MIRROR_LANE_IN_SERVICE (14 R400): symbol lock and 64 consecutive good heartbeats. -/
def execMirrorLaneInService (lane : Nat) (s : State) : Out :=
  onUnit "Mirror lane" lane 5 <| .next <|
    let l := vrd s.mlc.lanes lane
    if !l.lock || l.inService || decide (l.good < 64) || decide ((s.unit 5 lane).st = .suspect) || decide ((s.unit 5 lane).st = .retired) then s
    else
      let s := { s with mlc := { s.mlc with lanes := vmd s.mlc.lanes lane fun l => { l with inService := true } } }
      raiseEv 110 Sts.OK lane s.mlc.laneMask 0 s

/-- MIR_PEER_ENG_CHANGE (14 R409). -/
def execMirPeerEngChange (high : Bool) (s : State) : Out :=
  .next <| if s.mlc.peerEng = high then s else raiseEv 111 Sts.OK 0xFF 0 1 { s with mlc := { s.mlc with peerEng := high } }

/-! ### Frames (14 R401) -/

/-- Data lanes: the lowest four in service (14 R400). -/
def dataLanes (m : MlcSt) : Nat := min 4 ((List.range 5).filter fun i => (vrd m.lanes i).inService).length

/-- Time a frame of LEN payload bytes takes on the data lanes, at 0.5 byte/ns each (14 R400, Table 14-2). -/
def frameTime (m : MlcSt) (len : Nat) : Time := cdivN (2 * (len + 20) * ns) (max 1 (dataLanes m))

/-- A frame without a good ACK: it is sent again, at most twice and only if it can still complete before its deadline;
otherwise it is given up, and a SYSTEM or AXIS record with it is incomplete. What a
STAGE record that was given up carries takes effect one control cycle later (14 R405). -/
def resend (f : MFrame) (t : Time) (s : State) : State :=
  let ok := decide (f.tries < 2) && (match f.due with | some d => decide (t + frameTime s.mlc f.len ≤ d) | none => true)
  if ok then { s with mlc := { s.mlc with
    unacked := s.mlc.unacked.map fun x => if x.seq = f.seq then { x with at_ := t, tries := x.tries + 1 } else x } }
  else
    let later (ref : Option Nat) (at_ : Time) : Time := if ref = some f.seq then at_ + tCtl else at_
    { s with
      fw := { s.fw with
        staged := s.fw.staged.map fun g => { g with at_ := later g.ref g.at_, ref := if g.ref = some f.seq then none else g.ref }
        setNext := s.fw.setNext.map fun g => { g with at_ := later g.ref g.at_, ref := if g.ref = some f.seq then none else g.ref } }
      mlc := { s.mlc with
        unacked := s.mlc.unacked.filter (fun x => x.seq != f.seq), incomplete := s.mlc.incomplete || f.typ == 4 || f.typ == 5 } }

/-- MIRROR_ACK (14 R401): a good ACK takes the frame off the list, a bad one resends it. -/
def execMirrorAck (seq : Nat) (good : Bool) (s : State) : Out :=
  .next <|
    match s.mlc.unacked.find? (fun f => f.seq == seq) with
    | none => s
    | some f =>
      if good then { s with mlc := { s.mlc with unacked := s.mlc.unacked.filter fun x => x.seq != seq } }
      else resend f s.cyc.now s

/-- MIRROR_ACK_TIMEOUT (14 R401): no ACK within 2 µs. -/
def execMirrorAckTimeout (seq : Nat) (s : State) : Out :=
  .next <|
    match s.mlc.unacked.find? (fun f => f.seq == seq) with
    | none => s
    | some f => let s := s.upTo (f.at_ + 2 * us); resend f (f.at_ + 2 * us) s

/-! ### The copy (14 R403 to R407) -/

/-- A unit that receives the copy. -/
def receives (s : State) : Bool := !s.drives

/-- The Shadow takes part in the copy: TRACKING or READY. -/
def State.tracks (s : State) : Bool :=
  decide (s.mlc.role = .shadow) && (decide (s.mlc.shadow = .tracking) || decide (s.mlc.shadow = .ready))

/-- MIRROR_COPY_COMPLETE (14 R406, R407): the committed references and feedbacks are compared with the mirrored ones, and the
state of the arms with the mirrored SYSTEM record; a difference raises E107 and sets the self-test of the lane or the tile going. A copy that misses its deadline is none (01 R23, R25). -/
def execMirrorCopyComplete (copy : CopyRx) (axes : List (Int × Int)) (skip : List Nat) (s : State) : Out :=
  .next <|
    let s := s.upTo copy.at_
    if !receives s || !copyInTime copy.cycle copy.at_ s then s
    else
      let s := { s with mlc := { s.mlc with got := (s.mlc.got.1, true), axis := axes } }
      if !s.tracks then s
      else
        let bad := (List.range (min 64 axes.length)).filter fun n =>
          !skip.contains n && !(s.axSc n < 8 && (s.mlc.planLack ||| s.mlc.warmLack).testBit (s.axSc n))
            && decide ((s.ax n).snap ≠ lget axes n)
        let s := { s with mlc := { s.mlc with
          mismatch := !bad.isEmpty || s.mlc.armBad != 0
          mismatchCount := if bad.isEmpty && s.mlc.armBad == 0 then s.mlc.mismatchCount else incSat 255 s.mlc.mismatchCount } }
        let s := ((List.range 8).filter fun k => s.mlc.armBad.testBit k).foldl (fun s k =>
          let s := raiseEv 107 Sts.OK (0x40 + k) (copy.cycle % 2 ^ 32) 4 s
          match (s.plr k).tile with | some q => suspect 2 q Sts.OK none s | none => s) s
        bad.foldl (fun s n =>
          let s := raiseEv 107 Sts.OK n (copy.cycle % 2 ^ 32) 5 s
          match s.laneOf n with | some l => suspect 0 l Sts.OK none s | none => s) s

/-- The condition of this unit as a Shadow (14 R399): the cause it reports, 0 in a clean cycle. -/
def ownCause (s : State) : Nat :=
  let links := (List.range 36).all fun p =>
    decide ((s.port p).state = .ready) || (portAxes s.ps p).all fun e => decide ((s.ax e.2.2).fn ≠ .enabled)
  let time := decide (s.tb.state = .locked) && s.tb.src == 4 && decide (s.tb.theta.natAbs < 50 * ns)
    && (decide (s.ttc.state = .standby) || prmN s.ps Pid.CB_EN 0 == 0)
  let peer : Bool := match s.mlc.peer, s.ssv.conf with | some p, some c => p.2.2.2.2 == c.check | _, _ => true
  let safe := decide (s.ssv.mode = .commissioned) && s.confirmed && peer && s.mlc.eng
    && (vlist s.ssv.brakes).all fun b => b.fbh == b.hs && b.fbl == b.ls
  if s.mlc.mismatch then 3 else if !links then 4 else if !time then 5 else if s.mlc.overdue then 6 else if !safe then 7
  else if s.mlc.stale then 2 else 0

/-- A STALE cycle is a missed deadline and raises an event of the redundancy group (01 R26): E105 with the state unchanged and the
cause STALE (notes/assumptions 83). -/
def raiseStale (s : State) : State :=
  let serial := match s.mlc.peer with | some p => p.1 | none => s.mlc.pairSerial
  raiseEv 105 Sts.OK 0 (serial % 2 ^ 32) (s.mlc.shadow.code * 2 ^ 30 + s.mlc.shadow.code * 2 ^ 28 + 2 * 2 ^ 25) s

/-- COPY_DEADLINE (14 R404, R411): the Shadow marks the cycle STALE when its SYSTEM or AXIS record, or a plan that governs
from here, is incomplete; a unit without authority counts missing SYSTEM records; the Shadow raises MIR_ENG in TRACKING. -/
def execCopyDeadline (s : State) : Out :=
  .next <|
    if !s.cyc.running || s.cyc.copyDone then s
    else
      let at_ := s.cyc.t0 + tCtl
      let s := s.upTo at_
      let s := { s with cyc := { s.cyc with copyDone := true } }
      if !receives s then { s with mlc := { s.mlc with incomplete := false } }
      else
        let lack := maskBy 8 fun k =>
          match (s.plr k).next with
          | some p => decide (p.ts = at_) && s.mlc.planGen.getD k 0 != p.gen
          | none => false
        let stale := !s.mlc.got.1 || !s.mlc.got.2 || s.mlc.incomplete || lack != 0
        let m := s.mlc
        let m := { m with sysMiss := if m.got.1 then 0 else incSat 255 m.sysMiss, got := (false, false), incomplete := false, armBad := 0, sysOwn := none }
        if !s.tracks then { s with mlc := m }
        else
          let m := { m with
            stale := stale, planLack := m.planLack ||| lack, staleRun := if stale then incSat 255 m.staleRun else 0
            staleCount := if stale then incSat 255 m.staleCount else m.staleCount }
          let s := { s with mlc := m }
          let s := if stale then raiseStale s else s
          let s := if !m.eng && m.sys.isSome && readbacksOk s then engRaise s else s
          { s with mlc := { s.mlc with cause := ownCause s } }

/-- STAGE_RECORD (14 R405): the command the active unit staged is staged here for the same control-cycle start, without the
checks it passed there. -/
def execStageRecord (at_ op : Nat) (payload bulk : Bytes) (s : State) : Out :=
  .next <|
    if !receives s then s
    else
      let n := s.fw.staged.length
      let m := s.fw.setNext.length
      let s' := (runReq 5 op payload (if bulk.isEmpty then none else some bulk) 0 s).2
      { s' with fw := { s'.fw with
          staged := s'.fw.staged.take n ++ (s'.fw.staged.drop n).map fun g => { g with at_ := at_, ref := none }
          setNext := s'.fw.setNext.take m ++ (s'.fw.setNext.drop m).map fun g => { g with at_ := at_, ref := none } } }

/-- Read a plan record (07 R213). -/
def readPlan (b : Bytes) : PlanData :=
  let n := uAt b 17 1
  let j := uAt b 16 1
  let m := uAt b 15 1
  { ts := uAt b 24 8 * ns, gen := uAt b 20 4, knotM := uAt b 18 2, n := n, joints := j
    tile := uAt b 14 1 % 16, withdrawn := (uAt b 13 1).testBit 1, static := (uAt b 13 1).testBit 0
    knots := (List.range (n + 1)).map fun k => (List.range j).map fun i =>
      (sAt b (32 + 16 * (k * j + i)) 8, sAt b (32 + 16 * (k * j + i) + 8) 8)
    caps := (List.range (n + 1)).map fun k => (List.range m).map fun c => (List.range 6).map fun x =>
      sAt b (32 + 16 * (n + 1) * j + 24 * (k * m + c) + 4 * x) 4 }

/-- PLAN_RECORD (14 R403, R404, R406): the active unit's published plan replaces this unit's own of that generation; one that comes
after its t_s governs at once. -/
def execPlanRecord (arm : Nat) (bytes : Bytes) (s : State) : Out :=
  onUnit "arm" arm 8 <| .next <|
    if !receives s || decide (bytes.length < 32) || decide (32768 < bytes.length) then s
    else
      let p := readPlan bytes
      let r := s.plr arm
      let late := !p.static && !p.withdrawn && r.planned && decide (p.ts ≤ s.cyc.t0) && s.mlc.planLack.testBit arm
      let slot := if r.gens.1 = p.gen then 0 else if r.gens.2 = p.gen then 1 else if r.gens.1 ≤ r.gens.2 then 0 else 1
      let s := s.ldgWrite (slotAddr arm slot) bytes
      let s := s.mdPlr arm fun r => { r with
        gens := if slot = 0 then (p.gen, r.gens.2) else (r.gens.1, p.gen)
        shownPrev := if r.shown.map (·.gen) = some p.gen then r.shownPrev else r.shown
        shown := some p
        next := if p.static || late then r.next else if r.cur.map (·.gen) = some p.gen then r.next else some p
        cur := if late || decide (r.cur.map (·.gen) = some p.gen) then some p else r.cur }
      { s with mlc := { s.mlc with
          planLack := s.mlc.planLack &&& (255 - 2 ^ arm)
          planGen := ((List.range 8).map fun k => s.mlc.planGen.getD k 0).set arm p.gen } }

/-- DELTA (14 R403, R406): lines of the mirrored regions, and what they change in the tables they belong to. -/
def execDelta (addr : Nat) (bytes : Bytes) (s : State) : Out :=
  .next <|
    if !receives s || decide (0x00800000 < addr + bytes.length) then s
    else takeDelta addr bytes.length (s.ldgWrite addr bytes)

/-- WARM_REQ (14 R406): the active unit sends the warm-start record of the arm as DELTA. -/
def execWarmReq (arm : Nat) (s : State) : Out :=
  onUnit "arm" arm 8 <| .next <|
    if s.mlc.role ≠ .active then s
    else
      let n := match (s.plr arm).warm with | some x => 4 * x.size | none => 0
      mirDelta (ledWarm arm) 64 (mirDelta (ledWarm arm + 64) n s)

/-! ### Takeover (14 R412 to R418) -/

/-- TAKEOVER_RECORD (14 Table 14-6): decided at receipt. -/
def execTakeoverRecord (t : Nat) (s : State) : Out :=
  .next <|
    let s := s.upTo t
    if s.mlc.role = .shadow ∧ s.mlc.shadow = .ready then { s with mlc := { s.mlc with tkDue := some (s.mlc.tkDue.getD t) } } else s

/-- First outbound launch at or after an instant (10 R285). -/
def launchFrom (s : State) (t : Time) : Time :=
  let l := s.cyc.tk + tLaunch
  l + cdivN (t - l) tCur * tCur

/-- A brake test ends ABORTED, and the new unit runs its ramp-back and its release step (14 R416, 09 Table 09-3). -/
def takeTest (k : Nat) (s : State) : State :=
  match (s.bk k).test with
  | none => s
  | some t =>
    let torque := decide (1 ≤ t.step) && decide (t.step ≤ 5)
    let from_ := t.iHold.map fun x => (x.1, (s.ax x.1).relCmd)
    let s := raiseEv 82 Sts.OK k 0 (3 + 0xFF * 2 ^ 8) (endTicket t.ticket 2 Sts.CANCELLED s)
    let s := s.mdBk k fun b => { b with
      lastTest := 3
      test := some { t with ticket := 0, aborted := true, slip := none, at_ := s.cyc.now, iFrom := from_, step := if torque then 5 else 6 } }
    if torque then s else closePair k s

/-- Tickets after a takeover (14 R416): HOME, STOP_TEST and START_INJECTION go on, every other one ends FAILED. -/
def takeTickets (s : State) : State :=
  let s := (List.range 8).foldl (fun s k => takeTest k s) s
  s.hif.tickets.foldl (fun s t =>
    if t.state = 0 ∧ t.opcode ≠ 0x0407 ∧ t.opcode ≠ 0x0704 ∧ t.opcode ≠ 0x0B03 then endTicket t.num 2 Sts.AUTHORITY_LOST s else s) s

/-- TAKEOVER_DECISION (14 R412, R413): a READY Shadow takes authority at the mirrored epoch + 1 and commands from T_tk on. -/
def execTakeoverDecision (s : State) : Out :=
  .next <|
    match s.mlc.tkDue with
    | none => s
    | some d =>
      let s := { s with mlc := { s.mlc with tkDue := none } }
      if s.mlc.role ≠ .shadow ∨ s.mlc.shadow ≠ .ready then s
      else
        let tk := launchFrom s (d + 2 * us)
        let s := { s with mlc := { s.mlc with role := .active, tk := some tk, ackDue := true, peerHb := none }
                          ttc := { s.ttc with authFrom := tk + 31250 * ns } }
        let s := takeAuthority (s.dl.epoch + 1) s
        let s := tbTakeover (prmN s.ps Pid.TB_SRC 0) s
        let s := raiseAuthority Sts.OK s
        takeTickets (shadowTo .absent 0 s)

/-- EPOCH_ACK_CHECK (14 R413): at T_tk + 3 current periods a port without the new epoch counts a bad frame under R310. -/
def execEpochAckCheck (s : State) : Out :=
  .next <|
    match s.mlc.ackDue, s.mlc.tk with
    | true, some t =>
      let s := s.upTo (t + 3 * tCur)
      { s with
        mlc := { s.mlc with ackDue := false }
        dl := { s.dl with ports := vmapI s.dl.ports fun _ p =>
          if p.state.counts && p.epochAck != s.dl.epoch then
            { p with badRun := incSat 3 p.badRun, goodRun := 0, err := { p.err with missing := incSat 255 p.err.missing } }
          else p } }
    | _, _ => s

/-! ### Castling (14 R419 to R421) -/

/-- CASTLE_PREP (14 R419): the Shadow notes B and answers CASTLE_ACK. -/
def execCastlePrep (b : Nat) (s : State) : Out :=
  .next <|
    if s.mlc.role ≠ .shadow ∨ !castleReady s then s
    else mirSend 0x0A (s.cyc.t0 / tCtl % 2 ^ 32) 0 16 (some b)
      { s with mlc := { s.mlc with castle := some { b := b, outgoing := false, epoch := s.dl.epoch + 1 } } }

/-- CASTLE_ACK (14 R419). -/
def execCastleAck (b : Nat) (s : State) : Out :=
  .next { s with mlc := { s.mlc with castle := s.mlc.castle.map fun c => if c.b = b then { c with acked := true } else c } }

/-- The outgoing unit at B: LISTEN frames from here, the copy comes in, the time base follows the Mirror link (14 R419). -/
def castleOut (s : State) : State :=
  let s := yieldAuthority { s with mlc := { s.mlc with
    role := .shadow, sys := some s.ownSys, sysMiss := 0, castle := s.mlc.castle.map fun c => { c with done := true } } }
  shadowTo .tracking 0 (tbMirror s)

/-- The incoming unit at B: authority at the mirrored epoch + 1; the new Shadow is READY at its first clean cycle. -/
def castleIn (c : CastleSt) (s : State) : State :=
  let s := { s with
    mlc := { s.mlc with role := .active, tk := none, castled := true, castle := some { c with done := true }, stale := false
                        mismatch := false, staleRun := 0 }
    ttc := { s.ttc with authFrom := c.b } }
  let s := raiseAuthority Sts.OK (takeAuthority c.epoch s)
  shadowTo .tracking 0 (tbTakeover (prmN s.ps Pid.TB_SRC 0) s)

/-- CASTLE_BOUNDARY (14 R419, R420): at B the roles swap, unless the Castling has been abandoned. -/
def execCastleBoundary (s : State) : Out :=
  .next <|
    match s.mlc.castle with
    | none => s
    | some c =>
      if c.done then s
      else
        let s := s.upTo c.b
        if c.outgoing then
          if s.mlc.role ≠ .active ∨ s.mlc.peerF3 ∨ s.ssv.f3 then castleFail Sts.DEVICE_F3 0xFF s
          else if !castleReady s || !c.acked then castleFail Sts.SHADOW_NOT_READY 0xFF s
          else castleOut s
        else if s.mlc.role ≠ .shadow ∨ s.ssv.f3 ∨ !castleReady s then { s with mlc := { s.mlc with castle := none } }
        else castleIn c s

/-- First port that serves an ENABLED axis and has not reported the epoch (14 R420). -/
def ackMissing (s : State) (epoch : Nat) : Option Nat :=
  (List.range 36).find? fun p =>
    (portAxes s.ps p).any (fun e => decide ((s.ax e.2.2).fn = .enabled)) && (s.port p).epochAck != epoch

/-- A Castling has succeeded: E108 KIND 2, and its age starts at 0 in the secure region (14 R421). -/
def castleDone (c : CastleSt) (s : State) : State :=
  let s := secTouch { s with mlc := { s.mlc with
    castle := none, castleAge := (0, s.cyc.now), castleDue := false, overdue := false } }
  let s := raiseCastle Sts.OK 0xFF c.b 2 s
  if c.ticket = 0 then s else finishTicket c.ticket Sts.OK s

/-- CASTLE_EPOCH_CHECK (14 R420): at B + 4 current periods every port of an ENABLED axis has the new epoch, or the outgoing
unit takes authority back with the next one and the incoming unit is Shadow again with cause LINKS. -/
def execCastleEpochCheck (s : State) : Out :=
  .next <|
    match s.mlc.castle with
    | none => s
    | some c =>
      if !c.done then s
      else
        let s := s.upTo (c.b + 4 * tCur)
        match ackMissing s c.epoch with
        | none => castleDone c s
        | some p =>
          let s := castleFail Sts.LINK_FAULT p s
          if c.outgoing then
            let s := { s with mlc := { s.mlc with role := .active, tk := none }, ttc := { s.ttc with authFrom := s.cyc.now } }
            let s := raiseAuthority Sts.LINK_FAULT (takeAuthority (c.epoch + 1) s)
            shadowTo .tracking 4 (tbTakeover (prmN s.ps Pid.TB_SRC 0) s)
          else
            let s := yieldAuthority { s with mlc := { s.mlc with
              role := .shadow, castled := false, tk := none, sys := some s.ownSys, sysMiss := 0 } }
            shadowTo .tracking 4 (tbMirror s)

/-- SHADOW_READY (14 Table 14-1, R419): READY_MIN consecutive clean cycles; after a Castling the first one. -/
def execShadowReady (s : State) : Out :=
  .next <|
    let need := if s.mlc.castled then 1 else prmN s.ps Pid.READY_MIN 0
    if s.mlc.role = .active ∧ s.mlc.shadow = .tracking ∧ need ≤ s.mlc.clean then
      shadowTo .ready 0 { s with mlc := { s.mlc with castled := false } }
    else s

/-- An automatic Castling may start: CASTLE_AUTO, a READY Shadow, and no CASTLE, PAIR_BEGIN or MODE_CHANGE ticket running (14
R421). -/
def autoCastle (s : State) : State :=
  let quiet := s.mlc.castle.isNone && s.hif.tickets.all fun t => t.state != 0 || !([0x0A02, 0x0A03, 0x0902].contains t.opcode)
  if prmN s.ps Pid.CASTLE_AUTO 0 == 1 && decide (s.mlc.role = .active) && decide (s.mlc.shadow = .ready) && quiet
  then castleStart 0 s else s

/-- CASTLE_DUE (14 R421): at CASTLE_INTERVAL − CASTLE_LEAD E108 reports it, and a Castling may start. -/
def execCastleDue (s : State) : Out :=
  .next <|
    if s.mlc.role = .single ∨ s.mlc.castleDue ∨ s.castleMs < wipeCastle s.ps then s
    else
      let s := raiseCastle Sts.OK 0xFF 0 0 { s with mlc := { s.mlc with castleDue := true, retryAt := s.cyc.now + 60 * sec } }
      autoCastle s

/-- CASTLE_AUTO_RETRY (14 R421): every 60 s while a Castling is due. -/
def execCastleAutoRetry (s : State) : Out :=
  .next <|
    if !s.mlc.castleDue then s
    else
      let s := s.upTo s.mlc.retryAt
      autoCastle { s with mlc := { s.mlc with retryAt := s.mlc.retryAt + 60 * sec } }

/-- CASTLE_OVERDUE (14 R421): READY is withdrawn until a Castling succeeds. -/
def execCastleOverdue (s : State) : Out :=
  .next <|
    if s.mlc.role = .single ∨ s.mlc.overdue ∨ s.castleMs < prmN s.ps Pid.CASTLE_INTERVAL 0 * 3600000 then s
    else
      let s := { s with mlc := { s.mlc with overdue := true } }
      if s.mlc.role = .active ∧ s.mlc.shadow = .ready then shadowTo .tracking 6 s else s

/-! ### Pairing (14 R422 to R424) -/

/-- The transfer of PAIR_BEGIN has been acknowledged and the peer has answered with its check value: the ticket ends DONE, and
PAIR_T runs (14 R422). -/
def transferDone (check : Nat) (s : State) : State :=
  match s.mlc.transfer with
  | none => s
  | some (ticket, _) =>
    if s.mlc.unacked.any (fun f => f.typ == 9) then s
    else
      let s := { s with mlc := { s.mlc with
        transfer := none, peerCheck := check, pairBy := some (s.cyc.now + prmN s.ps Pid.PAIR_T 0 * 60 * sec) } }
      finishTicket ticket Sts.OK (raiseEv 109 Sts.OK 0 0 1 s)

/-- HELLO (14 R397, R398, R422): the peer is seen; a JOINING Shadow whose proof, serial and check value are right moves to
TRACKING, another has cause UNPAIRED. -/
def execHello (t serial nonce role epoch check : Nat) (proof : Bytes) (s : State) : Out :=
  .next <|
    if s.mlc.role = .single then s
    else
      let s := s.upTo t
      let m := s.mlc
      let cont := m.helloSince.isSome && decide (t ≤ m.helloAt + 2 * ms)
      let good := match m.secret with
        | some k => proof == pairProof k nonce m.nonce serial Config.serial.toNat
        | none => false
      let s := { s with mlc := { m with
        peer := some (serial, nonce, roleOf role, epoch, check), helloAt := t
        helloSince := if cont then m.helloSince else some t
        proof := good && serial == m.pairSerial
        peerAuth := m.peerAuth || (m.waitEnd.isSome && decide (roleOf role = .active)) } }
      let s := if s.mlc.role = .active then transferDone check s else s
      if s.mlc.role ≠ .active ∨ s.mlc.shadow ≠ .joining then s
      else
        let mine := match s.ssv.conf with | some c => c.check == check | none => false
        if s.mlc.proof && mine then shadowTo .tracking 0 (raiseEv 109 Sts.OK 0 0 0 s)
        else { s with mlc := { s.mlc with cause := 1 } }

/-- SHADOW_JOINING (14 Table 14-1, R422): at least three lanes in service and valid HELLOs for DET_DEBOUNCE. -/
def execShadowJoining (s : State) : Out :=
  .next <|
    let m := s.mlc
    let lanes := ((List.range 5).filter fun i => (vrd m.lanes i).inService).length
    match m.helloSince with
    | some h =>
      let at_ := h + prmN s.ps Pid.DET_DEBOUNCE 0 * ms
      if m.role = .active ∧ m.shadow = .absent ∧ !m.peerF3 ∧ 3 ≤ lanes ∧ at_ ≤ max s.cyc.now m.helloAt ∧ s.cyc.now ≤ m.helloAt + 2 * ms
      then shadowTo .joining (if m.proof then 0 else 1) s else s
    | none => s

/-- Place received bytes of the transfer. -/
def putBytes (b : Bytes) (off : Nat) (x : Bytes) : Bytes :=
  (b ++ List.replicate (off - b.length) 0).take off ++ x ++ b.drop (off + x.length)

/-- PARAM_RECORD (14 R423): a joining Shadow keeps the transfer; with its last frame PAIR_T begins. -/
def execParamRecord (off : Nat) (bytes : Bytes) (last : Bool) (s : State) : Out :=
  .next <|
    if s.mlc.role ≠ .shadow ∨ s.mlc.shadow ≠ .joining ∨ 2 ^ 22 < off + bytes.length then s
    else
      let s := { s with mlc := { s.mlc with paramRx := putBytes (if off = 0 then [] else s.mlc.paramRx) off bytes } }
      if last then { s with mlc := { s.mlc with pairBy := some (s.cyc.now + prmN s.ps Pid.PAIR_T 0 * 60 * sec) } } else s

/-- The four parts of a transfer (notes/assumptions 70). -/
def pairParts (b : Bytes) : Bytes × Bytes × Bytes × Bytes :=
  let x := uAt b 0 4
  let y := uAt b 4 4
  let z := uAt b 8 4
  (slice b 12 x, slice b (12 + x) y, slice b (12 + x + y) z, b.drop (12 + x + y + z))

/-- Engineers of a transferred table. -/
def readEngineers : Nat → Bytes → List Engineer
  | 0, _ => []
  | n + 1, b => if b.length < 52 then [] else { id := uAt b 0 4, salt := slice b 4 16, hash := slice b 20 32 } :: readEngineers n (b.drop 52)

/-- PAIR_SECRET (14 R423): the Shadow stores the secret, the peer's serial and the transferred sets, engineers and
confirmation record, and writes an audit record. -/
def execPairSecret (secret : Bytes) (s : State) : Out :=
  .next <|
    if s.mlc.role ≠ .shadow ∨ s.mlc.shadow ≠ .joining ∨ secret.length ≠ 32 ∨ s.mlc.paramRx = [] then s
    else
      let (a, b, c, d) := pairParts s.mlc.paramRx
      match parseSet a, parseSet b with
      | .good x, .good y =>
        let conf := readConfirm d
        let s := setInForce (mergeSets x y) s
        let s := { s with
          ssv := { s.ssv with conf := conf, eng := readEngineers 64 c }
          mlc := { s.mlc with
            secret := some secret, pairSerial := (match s.mlc.peer with | some p => p.1 | none => 0), paramRx := [], pairBy := none } }
        let s := if s.confirmed then setMode .commissioned s else s
        let e : Nat × Nat := match conf with | some r => (r.eng, r.check) | none => (0, 0)
        addAudit e.1 e.2 0x0A04 Sts.OK 0 s
      | _, _ => s

/-- PAIR_T_EXPIRY (14 R423): the transferred data is discarded. -/
def execPairTExpiry (s : State) : Out :=
  .next <|
    match s.mlc.pairBy with
    | none => s
    | some t =>
      let s := s.upTo t
      { s with mlc := { s.mlc with pairBy := none, peerCheck := 0, transfer := none, paramRx := [] } }

/-- PAIR_COMMIT_EFFECT (14 R424): a committed set governs from the first control-cycle start after the Shadow acknowledged its
last byte, or after 100 ms, which withdraws READY with cause SAFETY. -/
def execPairCommitEffect (acked : Bool) (s : State) : Out :=
  .next <|
    match s.mlc.commitWait with
    | none => s
    | some (t, _) =>
      let s := { s with mlc := { s.mlc with commitWait := none } }
      if acked then
        { s with fw := { s.fw with setNext := s.fw.setNext.map fun x => { x with at_ := min x.at_ s.effectAt } } }
      else
        let s := s.upTo t
        if s.mlc.shadow = .ready then shadowTo .tracking 7 s else { s with mlc := { s.mlc with cause := 7, clean := 0 } }

end Sys2Proof.Machine
end

