-- ==== Sys2Proof/Machine/Cycle.lean ====
section
/-!
DEFINITION. The control cycle (01 R14 to R21): CONTROL_CYCLE_EVENT with the staged commands and sets that take effect
(12 R373, 13 R378), the values bound to the cell bus (11 R341, 13 R389), the profile generators (chapter 03), and LATCH
with the loops (chapter 05), the snapshot (12 R361), captures and injection records (05 R150 to R153).
-/
namespace Sys2Proof.Machine

/-! ### Sets and staged commands -/

/-- A point-to-point motion is under way that a change of limits replans (03 R77); the stop at a soft limit under D_HARD and J_HARD
(R95) is not one. -/
def AxisSt.underWay (a : AxisSt) : Bool := decide (a.mode = .ptp) && !a.still && decide (a.cmd ≠ .hold) && !a.hardEnd

/-- The scope runs motion commands: ENABLED, and no stop in force. -/
def canMove (s : State) (k : Nat) : Bool := decide ((s.sc k).fn = .enabled) && decide ((s.sc k).stop = .none) && decide ((s.sc k).level = 0)

/-- A committed set comes in force at a control-cycle start (12 R373, 09 R276, R277): the set, its confirmation record and the
operating mode with it; E126, and the response that waited. -/
def takeSet (t0 : Time) (x : StagedSet) (s : State) : State :=
  let was := s.confirmed
  let old := s.axes
  let s := setInForce x.recs s
  let s := if x.part ≠ 0 then s
    else match x.conf with
      | some c => secTouch { s with ssv := { s.ssv with conf := some c } }
      | none => secTouch s
  let s := if s.ssv.mode = .service ∨ s.hlt.fuses.state ≠ 1 then s
    else setMode (if s.confirmed then .commissioned else .uncommissioned) s
  let s := raiseEv 126 Sts.OK x.part (checkValue s.ps) 0 s
  let s := if was && !s.confirmed then raiseEv 126 Sts.OK 0 (checkValue s.ps) 2 s else s
  let ps := s.ps
  let moves (n : Nat) : Bool := canMove s (s.axSc n)
  let s := { s with axes := vmapI s.axes fun n a =>
    if a.lim ≠ (vrd old n).lim ∧ a.underWay ∧ moves n then a.replan ps n t0 false a.cmd else a }
  match x.rsp with
  | none => s
  | some (c, q) =>
    answer c q (match x.ticket with | some t => acceptedRsp t (leBytes 8 (t0 / ns)) | none => effectRsp t0) s

/-- The sets whose control-cycle start has come; an acknowledgement of a lane that came too late, or the Shadow's for one of them,
moves them on together (01 R21, 14 R405). -/
def takeSets (late : List Nat) (t0 : Time) (s : State) : State :=
  let due := s.fw.setNext.filter fun x => decide (x.at_ ≤ t0)
  let s := { s with fw := { s.fw with setNext := s.fw.setNext.filter fun x => !decide (x.at_ ≤ t0) } }
  if late.isEmpty && !(due.any fun x => unackedRef s x.ref) then due.foldl (fun s x => takeSet t0 x s) s
  else { s with fw := { s.fw with setNext := due.map (fun x => { x with at_ := t0 + tCtl, ref := none }) ++ s.fw.setNext } }

/-- The response to a staged command at its effect: EFFECT, with further fields behind it (13 R378). -/
def effectWith (t0 : Time) (more : Bytes) : Rsp := { body := leBytes 8 (t0 / ns) ++ more }

/-- FLAGS of MOVE: REVERSAL_PLANNED, OVERSHOOT_PLANNED, TARGET_CLIPPED and DECEL_RAISED as AX_STAT places them (13 Table 13-5). -/
def moveFlags (a : AxisSt) : Bytes := leBytes 2 (a.stat / 2 ^ 10 % 16) ++ leBytes 2 0

/-- Why a motion command cannot take effect at its start (03 R71, R73): the scope stops, or the axis is no longer in a mode that
takes it. `stand` tells whether it needs PTP at standstill. The mode that an earlier command of the same start has set gives way
(DEDUCED, notes/assumptions 85). -/
def effectStatus (s : State) (n : Nat) (t0 : Time) (stand : Bool) : Nat :=
  let a := s.ax n
  if !canMove s (s.axSc n) then Sts.AXIS_STOPPING
  else if a.modeAt = t0 then Sts.OK
  else if stand then
    if a.mode ≠ .ptp then Sts.WRONG_MODE else if a.atRest then Sts.OK else Sts.AXIS_MOVING
  else if takesMotion a.mode then Sts.OK else Sts.WRONG_MODE

/-- A motion command of an axis ends the injection run of its arm (05 R151), and a homing sequence that was to begin at the same
start: its ticket is CANCELLED (03 R73). -/
def clearWay (n : Nat) (s : State) : State :=
  let k := s.axSc n
  let s := if (match vrd s.fw.inj k with | some r => r.begun && r.running | none => false) then endInjection k Sts.INJ_INTERRUPTED s else s
  match (s.ax n).home with
  | some h => (endTicket h.ticket 3 Sts.CANCELLED s).mdAx n fun a => { a with home := none }
  | none => s

/-- A point-to-point command takes effect: out of STEPPED or GEARED the generator takes over first (03 R71). -/
def motionEffect (n : Nat) (t0 : Time) (c : AxisSt → MotionCmd) (s : State) : State :=
  let ps := s.ps
  (clearWay n s).mdAx n fun a =>
    let a := match a.mode with
      | .stepped | .geared => a.adopt
      | _ => a
    { (a.replan ps n t0 false (c a)) with mode := .ptp }

/-- SET_LIMITS takes effect (03 R67, R77, Table 03-4). -/
def limitsEffect (n mask v a d j : Nat) (t0 : Time) (s : State) : State :=
  let ps := s.ps
  let go := canMove s (s.axSc n)
  let put (i x old : Nat) : Nat := if mask.testBit i then x else old
  s.mdAx n fun x =>
    let x := { x with lim := { v := put 0 v x.lim.v, a := put 1 a x.lim.a, d := put 2 d x.lim.d, j := put 3 j x.lim.j } }
    if go && x.underWay then x.replan ps n t0 false x.cmd else x

/-- HOME takes effect (03 R97, Table 03-6, 13 R387); where the axis can no longer begin, its ticket fails. -/
def homeEffect (n method : Nat) (dir : Int) (gpio : Nat) (setPos homePos : Option Int) (ticket : Nat) (t0 : Time) (s : State) : State :=
  let st := effectStatus s n t0 true
  if st ≠ Sts.OK then finishTicket ticket st s
  else
    let ps := s.ps
    (clearWay n s).mdAx n fun a =>
      let h : HomeSt := { method := method, dir := dir, startPos := a.refP, homePos := homePos, gpio := gpio,
                          label := setPos.getD (prmI ps Pid.HOME_OFFSET n), ticket := ticket }
      let a := { a with mode := .homing, modeAt := t0, gear := none, home := some h }
      if method = 0 then { a with plan := none, cmd := .hold }
      else a.replan ps n t0 false (.jog dir)

/-- GEAR takes effect (03 R89 to R91): the engagement ramp begins. -/
def gearEffect (n m : Nat) (fb align : Bool) (num : Int) (den : Nat) (pA mA : Int) (t0 : Time) (s : State) : State :=
  let g : GearSt := { master := m, srcFb := fb, num := num, den := den, g := max 1 (prmN s.ps Pid.GEAR_RAMP n),
                      align := if align then some (pA, mA) else none }
  (clearWay n s).mdAx n fun a => { a with
    mode := .geared, modeAt := t0, gear := some g, plan := none, cmd := .hold, dms := [], cap := none
    flags := { a.flags with gearSlipped := false, targetReached := false } }

/-- STEP_FOLLOW takes effect (03 R71, R86): the counter starts at 0 from the present position. -/
def stepEffect (n p : Nat) (invert : Bool) (t0 : Time) (s : State) : State :=
  let s := (clearWay n s).mdAx n fun a => { a with
    mode := .stepped, modeAt := t0, gear := none, plan := none, cmd := .hold, cap := none
    step := { pair := p, invert := invert, anchor := a.refP, segT0 := t0, segP0 := a.refP, segT1 := t0, segP1 := a.refP }
    flags := { a.flags with stepSlipped := false, targetReached := false } }
  { s with fw := { s.fw with pairs := vmapI s.fw.pairs fun i x =>
      if i = p then { axis := some n } else if x.axis = some n then { axis := none } else x } }

/-- ENTER_PLANNED takes effect (03 Table 03-4): the arm waits for the first plan that governs. -/
def enterEffect (k : Nat) (t0 : Time) (s : State) : State :=
  let ok := canMove s k && (armAxes s.ps k).all fun n => decide ((s.ax n).mode = .ptp) && (s.ax n).atRest
  if 8 ≤ k ∨ !ok then s
  else s.mdPlr k fun r => { r with planned := true, enterAt := t0, cur := none, next := none, along := none, warm := none
                                   warmPrev := none }

/-- ENABLE takes effect (01 R29, R30, R32, 09 R252, 12 R372): refused by an emergency stop now in demand or by a fault of this
instant, or where another session has enabled the scope meanwhile; the session becomes the owner. -/
def enableEffect (g : Staged) (t0 : Time) (s : State) : State :=
  let k := g.scope
  let estop := (List.range 16).any fun i => prmN s.ps Pid.SI_FUNC i == 0 && siActive s i && (siArms s.ps i).contains k
  if estop then g.answer (rspOf Sts.ESTOP) s
  else if (s.sc k).fn = .enabled then
    g.answer (if notOwner g.by_ k s then rspOf Sts.NOT_OWNER else effectRsp t0) s
  else if s.shutting k then g.answer (rspOf Sts.BUSY_SHUTDOWN) s
  else match (s.sc k).faultAt with
  | some (t, st) => if t = t0 then g.answer (rspOf st) s else enableNow g t0 s
  | none => enableNow g t0 s
where
  /-- The enable itself. -/
  enableNow (g : Staged) (t0 : Time) (s : State) : State :=
    let k := g.scope
    let s := (beginEnable k t0 s).mdSc k fun c => { c with owner := if g.by_ < 4 then some g.by_ else c.owner, offer := none }
    g.answer (effectRsp t0) s

/-- A staged command takes effect (01 R20, 03 R72, R73, 13 R378), and its response goes out where one waits. -/
def stagedEffect (t0 : Time) (g : Staged) (s : State) : State :=
  let ok (s : State) : State := g.answer (effectRsp t0) s
  let n := g.axis
  let k := g.scope
  let motion (stand : Bool) (f : State → State) : State :=
    let st := effectStatus s n t0 stand
    if st = Sts.OK then f s else g.answer (rspOf st) s
  match g.cmd with
  | .move way target => motion false fun s =>
    let m := prmI s.ps Pid.MODULUS n
    let s := motionEffect n t0 (fun a => .move (wayTarget m a.refP target way)) s
    g.answer (effectWith t0 (moveFlags (s.ax n))) s
  | .jog dir => motion false fun s => ok (motionEffect n t0 (fun _ => .jog dir) s)
  | .stop => motion false fun s => ok (motionEffect n t0 (fun _ => .stop) s)
  | .setLimits mask v a d j => ok (limitsEffect n mask v a d j t0 s)
  | .gear m fb align num den pA mA => motion true fun s => ok (gearEffect n m fb align num den pA mA t0 s)
  | .stepFollow p invert => motion true fun s => ok (stepEffect n p invert t0 s)
  | .home method dir gpio setPos homePos ticket => homeEffect n method dir gpio setPos homePos ticket t0 s
  | .enable => enableEffect g t0 s
  | .disable status => ok (beginDisable k status true t0 s)
  | .enterPlanned => ok (enterEffect k t0 s)
  | .leavePlanned => ok (if (s.plr k).planned then beginAlong k t0 s else s)
  | .stopTest ticket =>
    if canMove s k then protStop k 0 (prmN s.ps Pid.PROT_STOP k) t0 (some ticket) (s.mdSsmArm k fun m => { m with stopReq := true })
    else finishTicket ticket Sts.AXIS_STOPPING s
  | .resume => resumeEffect k (g.answer (if resumeStatus k s = Sts.OK then effectRsp t0 else rspOf (resumeStatus k s)) s)
  | .brakeTest ticket =>
    if canMove s k then beginBrakeTest k t0 true ticket s else endTicket ticket 2 Sts.CANCELLED s
  | .inject =>
    if canMove s k then
      { s with fw := { s.fw with inj := vmd s.fw.inj k fun i => i.map fun r => { r with begun := r.running, start := { s.nowStamp with at_ := t0 } } } }
    else endInjection k Sts.INJ_INTERRUPTED s
  | .chanEnable cb =>
    ok (raiseCb cb 1 (s.mdCb cb fun c => { c with fn := .enabled }))
  | .chanDisable cb =>
    ok (s.mdCb cb fun c => if c.fn = .enabled then { c with fn := .shuttingDown, offAt := t0 } else c)

/-- Axes whose lanes take part in a staged command. -/
def Staged.lanes (g : Staged) (s : State) : List Nat := if g.axis < 64 then [g.axis] else s.scAxes g.scope

/-- The barrier of a staged command has not completed (01 R21, 14 R405): a lane acknowledged too late, or the Shadow has not
acknowledged its STAGE record. -/
def Staged.waits (late : List Nat) (s : State) (g : Staged) : Bool :=
  (g.lanes s).any (fun n => late.contains n) || unackedRef s g.ref

/-- The staged commands whose control-cycle start has come, in the order of their staging (03 R73). One whose barrier has not completed
takes effect one control cycle later; the STAGE record delays it once (01 R21, 14 R405). -/
def takeStaged (late : List Nat) (t0 : Time) (s : State) : State :=
  let due := s.fw.staged.filter fun g => decide (g.at_ ≤ t0)
  let wait := due.filter fun g => g.waits late s
  let go := due.filter fun g => !g.waits late s
  let s := { s with fw := { s.fw with
    staged := wait.map (fun g => { g with at_ := t0 + tCtl, ref := none }) ++ s.fw.staged.filter fun g => !decide (g.at_ ≤ t0) } }
  go.foldl (fun s g => stagedEffect t0 g s) s

/-- Cancel points (13 R381, Table 13-17): a search stops under its ticket, an injection run ends. -/
def takeCancels (t0 : Time) (s : State) : State :=
  s.hif.tickets.foldl (fun s t =>
    if t.state ≠ 0 ∨ !t.cancel then s
    else if t.opcode = 0x0B03 then
      allScopes.foldl (fun s k => match vrd s.fw.inj k with
        | some r => if r.ticket == t.num then endInjection k Sts.OK (endTicket t.num 3 Sts.CANCELLED s) else s
        | none => s) s
    else
      let ps := s.ps
      { s with axes := vmapI s.axes fun n a => match a.home with
          | some h => if h.ticket = t.num ∧ h.phase ≤ 2 ∧ h.result ≠ Sts.CANCELLED then a.failSearch ps n t0 Sts.CANCELLED else a
          | none => a }) s

/-! ### Values bound to the cell bus -/

/-- E95 of a bound value (11 R341, 13 R389, Table 13-19). -/
def raiseBound (status v : Nat) (s : State) : State := raiseEv 95 status s.node v 0 s

/-- Receive values are handed to their consumers at the first control-cycle start that follows their reception stamp (01 R19, R24,
11 R340); until then a consumer sees the pair of value and age it saw before. -/
def handValues (t0 : Time) (s : State) : State :=
  let late (v : RxVal) : Bool := !v.never && atOrAfter v.stamp.at_ (stampUnit v.stamp.coarse) t0
  { s with ttc := { s.ttc with
      rxOut := s.ttc.rx.filterMap fun v => if late v then rxOf s.ttc.rxOut v.num else some v
      rx := s.ttc.rx.map fun v => if late v then v else { v with new := false } } }

/-- The value bound as the command source of a scope (11 R341, 13 R389): a frame that came before this control-cycle start is
applied as the command of the cell bus; a value too old faults an ENABLED scope F1. -/
def takeBound (k : Nat) (s : State) : State :=
  match (s.sc k).bound with
  | none => s
  | some v =>
    let r := (rxOf s.ttc.rxOut v).getD { num := v }
    let s := if !r.new ∨ r.age ≠ 0 then s
      else
        let (a, s) := if k < 8 then fwSetPath 4 false k r.data s
          else if uAt r.data 0 1 = k - 8 then runReq 4 0x0401 r.data none 0 s else (some (rspOf Sts.OUT_OF_RANGE), s)
        match a with
        | some x => if x.status = Sts.OK then s else raiseBound x.status v s
        | none => s
    if (s.sc k).fn = .enabled ∧ prmN s.ttc.ps Pid.BIND_AGE 0 < r.age then
      faultF1 k Sts.CELLBUS_STALE 7 (raiseBound Sts.CELLBUS_STALE v s)
    else s

/-! ### Generators -/

/-- The injection sample of a control cycle (05 R150, Table 05-4). -/
def InjSt.sample (r : InjSt) : Int :=
  match r.signal with
  | 0 => sineSample r.amp r.phase
  | 1 => lget r.table (r.i % max 1 r.len)
  | _ => prbsSample r.amp r.prbsN r.shift

/-- The generator of a run after a control cycle: the sample index, the phase of the sweep, the shift register (05 R150). At each bin
the phase starts from 0 again (DESIGN CHOICE, notes/assumptions 14). -/
def InjSt.advance (r : InjSt) : InjSt :=
  let stretch := (r.s + r.m) * r.len
  let i := r.i + 1
  let bin := lget r.bins (r.i / max 1 stretch)
  { r with
    i := i
    phase := if r.signal ≠ 0 then r.phase else if i % max 1 stretch = 0 then 0 else (r.phase + bin * 2 ^ 32 / max 1 r.len) % 2 ^ 32
    shift := if r.signal = 2 && i % max 1 r.clkDiv == 0 then prbsNext r.prbsN r.shift else r.shift }

/-- A run injects in the control cycle. -/
def InjSt.live (r : InjSt) : Bool := r.begun && r.running && decide (r.i < r.total)

/-- Injection samples of the control cycle that begins (05 R150, R151). -/
def takeInjection (s : State) : State :=
  { s with axes := vmapI s.axes fun n a =>
      match vrd s.fw.inj (s.axSc n) with
      | some r => { a with loop := { a.loop with injCyc := if r.axis = n && r.live then some r.sample else none } }
      | none => { a with loop := { a.loop with injCyc := none } } }

/-- A stepper with an encoder that lost a step is HOMED again once the loop has corrected its position (03 R98, 04 R114). -/
def takeRecovery (s : State) : State :=
  { s with axes := vmapI s.axes fun n a =>
      if a.cur.recover && decide (prmN s.ps Pid.STALL_N n ≤ a.cur.recoverRun) then
        { a with pos := .homed, cur := { a.cur with recover := false, recoverRun := 0 } }
      else a }

/-- Master position and increment of a geared axis (03 R89): the two snapshots latched before this control cycle. -/
def masterOfCycle (s : State) (a : AxisSt) : Int × Int :=
  match a.gear with
  | none => (0, 0)
  | some g =>
    let m := s.ax g.master
    let md := prmI s.ps Pid.MODULUS g.master
    if g.srcFb then (m.snap.2, wrapMod md (m.snap.2 - m.snapPrev.2)) else (m.snap.1, wrapMod md (m.snap.1 - m.snapPrev.1))

/-- Planner samples of every joint for the control cycle (03 R82 to R85, 07 R205). -/
def planSamples (t0 : Time) (s : State) : List (Nat × Sample) × State :=
  (List.range 8).foldl (fun (r : List (Nat × Sample) × State) k =>
    let (xs, s) := planStep k t0 (planTs k t0 r.2)
    (r.1 ++ (armAxes s.ps k).zip xs, s)) ([], s)

/-- Every lane's generator runs for the control cycle (03 R70); what it finds wrong is an F1 of its scope (03 R85, R88, R92,
R95). -/
def generators (t0 : Time) (s0 : State) : State :=
  let (xs, s) := planSamples t0 s0
  let run (n : Nat) (a : AxisSt) : AxisSt × CycleFault :=
    let (mp, dm) := masterOfCycle s a
    axisCycle s.ps n t0 ((xs.find? fun e => e.1 == n).map (·.2)) mp dm a
  let out := (List.range 64).map fun n => run n (s.ax n)
  let ps := s.ps
  let s := { s with axes := vmapI s.axes fun n _ =>
    let a := (out.getD n (default, none)).1
    { a with flags := { a.flags with targetReached := a.reached }
             softCross := a.crossed ps n && (a.powered || decide (axType ps n = .virtual ∧ a.fn ≠ .disabled)) } }
  (List.range 64).foldl (fun s n =>
    let bad := (out.getD n (default, none)).2
    let c := s.sc (s.axSc n)
    let cross := (s.ax n).softCross && (!(s0.ax n).softCross || (decide (c.fn = .enabled) && decide (c.level = 0)))
    let s := match bad with | some st => faultF1 (s.axSc n) st 7 (raiseAxis n st s) | none => s
    if cross then faultF1 (s.axSc n) Sts.SOFT_LIMIT_CROSSED 7 (raiseAxis n Sts.SOFT_LIMIT_CROSSED s) else s) s

/-- What the control-cycle start carries out besides the staged commands: RESET of ports (10 R312), and the end of the copy of an
UNPAIR (14 R425). -/
def takeLinks (t0 : Time) (s : State) : State :=
  let s := match s.fw.dlReset with
    | some (t, m) => if t0 < t then s else
        { s with
          fw := { s.fw with dlReset := none }
          dl := { s.dl with ports := vmapI s.dl.ports fun p x => if m.testBit p then { x with resetDue := true } else x } }
    | none => s
  match s.fw.unpairAt with
  | some t => if t0 < t then s else
      { s with fw := { s.fw with unpairAt := none }, mlc := { s.mlc with unpairing := some t0, unacked := s.mlc.unacked.filter fun f => f.typ != 4 && f.typ != 5 } }
  | none => s

/-- Spare lanes take over their axes (01 R28). -/
def takeLanes (s : State) : State :=
  { s with lanes := vmapI s.lanes fun _ l => match l.next with
      | some n => { axis := some n }
      | none => if l.axis.isSome && (vlist s.lanes).any (fun x => decide (x.next = l.axis)) then { axis := none } else l }

/-- CONTROL_CYCLE_EVENT (01 R14, R19 to R21, R28): spare lanes take over, staged commands and sets take effect, and the safe inputs
are evaluated. Stops begin and the generators advance from the cut-off on (`cycleWork`), after everything else that the same
instant brings (01 R11, Table 01-2). -/
def execControlCycleEvent (late : List Nat) (s : State) : Out :=
  .next <|
    if !s.cyc.running then s
    else
      let t0 := s.cyc.nextT0
      let s := s.upTo t0
      let s := { s with
        cyc := { s.cyc with t0 := t0, nextT0 := t0 + tCtl, latchDone := false, copyDone := false }
        mlc := { s.mlc with hbT0 := max s.mlc.hbT0 t0 } }
      let s := takeLinks t0 (sysApply (takeLanes s))
      let s := takeCancels t0 (takeStaged late t0 (takeSets late t0 s))
      let s := allScopes.foldl (fun s k => takeBound k s) (handValues t0 s)
      siEvaluate t0 { s with cyc := { s.cyc with genDone := false } }

/-- The work of a control cycle from its feedback cut-off on (01 Table 01-2): plan periods that began with it, stops, and the
generators; every event of the cycle's first instant has come by then (DESIGN CHOICE, notes/assumptions 82). -/
def cycleWork (s : State) : State :=
  let t0 := s.cyc.t0
  let s := (List.range 8).foldl (fun s k => planWork k s) { s with cyc := { s.cyc with genDone := true } }
  generators t0 (takeInjection (takeRecovery (beginStops t0 s)))

/-- FEEDBACK_CUTOFF (01 R14, 10 R310): the feedback of the period is fixed and its current loops run; in current period 0 the
generators of the control cycle advance. -/
def execFeedbackCutoff (s : State) : Out :=
  .next <|
    if !s.cyc.running || s.cyc.cutDone then s
    else
      let s := cutFeedback s
      if decide (s.cyc.tk = s.cyc.t0) && !s.cyc.genDone then cycleWork s else s

/-! ### Loops at LATCH -/

/-- Parameters of the loops of an axis (05 Table 05-8, R138, R142). -/
def loopPrm (ps : ParamSet) (n : Nat) : LoopPrm :=
  { peShift := prmN ps Pid.PE_SHIFT n, velFs := max 1 (prmN ps Pid.VEL_FS n), accW := max 1 (max (prmN ps Pid.A_HARD n) (prmN ps Pid.D_HARD n))
    kp := prmG ps Pid.KP n, kvff := prmG ps Pid.KVFF n, kv := prmG ps Pid.KV n, ki := prmG ps Pid.KI n, kaff := prmG ps Pid.KAFF n
    bq1 := biquadOf (prmR ps Pid.NOTCH1 n), bq2 := biquadOf (prmR ps Pid.NOTCH2 n), bq3 := biquadOf (prmR ps Pid.LOWPASS n)
    iqLim := if axType ps n = .external then prmI ps Pid.T_LIM n else iqLimOf (prmI ps Pid.I_MAX n) (prmI ps Pid.ID_REF n)
    feLimit := prmI ps Pid.FE_LIMIT n, feTime := prmN ps Pid.FE_TIME n, ksM := prmI ps Pid.KS_M n
    corrMax := corrMaxPos (prmN ps Pid.CORR_MAX_US n) (max 1 (prmN ps Pid.STEPS n)) (max 1 (prmN ps Pid.MOTOR_N n)) (prmN ps Pid.MOTOR_D n)
    modulus := prmI ps Pid.MODULUS n }

/-- Injection at the loops' points; the current point acts beyond them (05 Table 05-3). -/
def injectOf (s : State) (n : Nat) (l : LoopSt) : Inject :=
  match vrd s.fw.inj (s.axSc n) with
  | some r => match l.injCyc with | some i => if r.axis = n then (r.point + 1, i) else (0, 0) | none => (0, 0)
  | none => (0, 0)

/-- The current path saturated in periods 1 to 3 of the cycle before, or the external drive did (05 R139, R143). -/
def pathFroze (ps : ParamSet) (n : Nat) (a : AxisSt) : Bool :=
  [1, 2, 3].any fun i => if axType ps n = .external then lget a.fb.extSats i else lget a.cur.refSat i || lget a.cur.uSat i

/-- The loops of one control cycle computed from the committed state (05 R131 to R144); a stage that the axis's type does not run
leaves its signals 0. -/
def runLoops (ps : ParamSet) (n : Nat) (inj : Inject) (a : AxisSt) : DpLog × LoopSt :=
  let p := loopPrm ps n
  let fb := a.fb.pos0
  let ep := wrapMod p.modulus (a.rel.1 - fb)
  let d0 := match a.loop.pfbPrev with | some x => wrapMod p.modulus (fb - x) | none => 0
  let vfb := vfbOf (if a.loop.owed = 0 then d0 else fdiv d0 2) p.velFs
  let aff := affOf a.ac p.accW
  let vff := vffOf a.vc p.velFs
  let l := a.loop.quiet
  let fe (l : LoopSt) : LoopSt := feStep p { l with ep := ep } ep a.hardSearch
  match axType ps n with
  | .servo | .external =>
    let (g, eq, vref) := invoke (positionLoop p ep vff inj) []
    let l := { l with eq := eq, vref := vref, vff := vff }
    if hasVel ps n then
      let (g, l) := velocityLoop p { l with vfb := vfb, aff := aff } vref vfb aff inj (pathFroze ps n a) g
      (g, fe l)
    else (g, fe { l with cmd := vref })
  | .stepper => ([], if hasEnc ps n then fe (trimStep p l ep a.cur.atCeil0) else l)
  | .virtual => ([], l)

/-- A cycle of the loops in which the outputs are held and no state is committed (05 R136, R145, R146): `late` for an overrun,
`lost` for an invalid sample, which is no overrun, `bad` for a NaN. -/
def AxisSt.holdCycle (late lost bad : Bool) (a : AxisSt) : AxisSt :=
  let u := a.unwind
  { u with loop := { a.loop with
      held := true, overrun := late && !lost, overRun := if late && !lost then incSat 2 a.loop.overRun else 0, fbHold := lost
      owed := a.loop.owed + 1, nan := a.loop.nan || bad, injAct := false, injCyc := none } }

/-- What every cycle that is not held leaves in the loop state; `inj` is the sample it added. -/
def LoopSt.commit (inj : Option Int) (l : LoopSt) : LoopSt :=
  { l with held := false, overrun := false, overRun := 0, fbHold := false, owed := 0, inj := inj.getD 0, injAct := inj.isSome
           injCyc := none }

/-- An axis at LATCH (05 R132 to R146): commit, or hold and owe the generator's update. What it answers besides are the kernel
invocations and whether a signal was NaN. -/
def latchAxis (s : State) (t0 : Time) (overrun : List Nat) (n : Nat) (a : AxisSt) : AxisSt × DpLog × Bool :=
  let ps := s.ps
  if !a.powered && decide (axType ps n ≠ .virtual) then
    ({ a with dms := [], loop := { a.loop.quiet.commit none with feCount := 0, feWarn := false, frozen := false } }, [], false)
  else
    let late := overrun.contains n
    let lost := hasEnc ps n && !a.fb.valid0
    if late || lost then (a.holdCycle late lost false, [], false)
    else
      let (g, l) := runLoops ps n (injectOf s n a.loop) a
      if l.isNan then (a.holdCycle false false true, g, true)
      else
        let a := { a with dms := [] }
        match testOverride s n (t0 + tLatch) with
        | some c => ({ a with loop := { a.loop.commit none with cmd := c, ep := l.ep } }, g, false)
        | none => ({ a with loop := { l.commit a.loop.injCyc with pfbPrev := some a.fb.pos0 } }, g, false)

/-- The new reference is released to the current path (01 R15, R16), in a held cycle the one before, at which a stepper's field
stands (05 R145), and with it the sample injected at the current point (DEDUCED, notes/assumptions 14): with the wrap of a modulo axis the field keeps its angle (03 R66). The snapshot's feedback word of an axis without an encoder is its reference (DEDUCED, notes/assumptions 72). -/
def AxisSt.release (ps : ParamSet) (n : Nat) (curPoint : Bool) (a : AxisSt) : AxisSt :=
  { a with
    rel := (a.refP, if a.loop.held then a.refP else a.refPrev + a.shift), relCorr := a.loop.corr, relCmd := a.loop.cmd
    relInj := if a.loop.held then a.relInj else if curPoint then a.loop.inj else 0, shift := 0
    cur := { a.cur with eOff := if a.shift = 0 then a.cur.eOff else eOffMoved ps n (a.refP - a.shift) a.refP a.cur.eOff }
    snapPrev := (a.snap.1 + a.shift, a.snap.2), snap := (a.refP, if hasEnc ps n then a.fb.pos0 else a.refP) }

/-- The current-point injection of an axis is live (05 Table 05-3). -/
def curPoint (s : State) (n : Nat) : Bool :=
  match vrd s.fw.inj (s.axSc n) with | some r => r.axis == n && r.point == 3 && (s.ax n).loop.injAct | none => false

/-! ### Traces -/

/-- A trace signal of an axis at the end of its loop computation (05 Table 05-6); the integrator reads 0 where no velocity loop runs
(R131). -/
def traceSignal (ps : ParamSet) (n : Nat) (a : AxisSt) (code : Nat) : Int :=
  let l := a.loop
  match code with
  | 1 => l.eq | 2 => l.vref | 3 => l.vfb | 4 => l.ev | 5 => l.upi | 6 => l.n1 | 7 => l.n2 | 8 => l.ulp | 9 => lstatCmd ps n a
  | 10 => a.cur.idq0.2 | 11 => a.cur.idq0.1 | 12 => l.inj | 13 => l.vff | 14 => l.aff
  | 15 =>
    let x := ofSigned 16 (if hasVel ps n then sat (asr l.integ 15) else 0)
    toSigned 16 (x / 2 * 2 + bit l.held)
  | _ => 0

/-- The record of a run in its control cycle (05 R150, R155). -/
def recordInjection (s : State) : State :=
  { s with fw := { s.fw with inj := vmapI s.fw.inj fun _ i => i.map fun r =>
      if !r.begun then r
      else if !r.live then r
      else
        let a := s.ax r.axis
        { r.advance with recs := (traceSignal s.ps r.axis a r.xy.1, traceSignal s.ps r.axis a r.xy.2, a.loop.held) :: r.recs } } }

/-- The capture belongs to a run that has not begun (05 R153). -/
def capWaits (s : State) (i : Nat) : Bool :=
  (vlist s.fw.inj).any fun x => match x with | some r => r.cap == i && r.running && !r.begun | none => false

/-- A capture stores its sample of a control cycle, if the cycle is one of its (05 R153). The cell time of sample 0 is that of its
control-cycle start (DESIGN CHOICE, notes/assumptions 50). -/
def storeSample (t0 : Time) (i : Nat) (s : State) : State :=
  match vrd s.fw.caps i with
  | none => s
  | some c =>
    if c.stopped || c.full || capWaits s i then s
    else
      let put (c : CapSt) (s : State) : State := { s with fw := { s.fw with caps := vwr s.fw.caps i (some c) } }
      if c.cyc % max 1 c.div ≠ 0 then put { c with cyc := c.cyc + 1 } s
      else
        let a := s.ax c.axis
        let b := c.sel.flatMap fun x => leBytes 2 (ofSigned 16 (traceSignal s.ps c.axis a x))
        let s := s.ldgWrite (regTrace + c.area + 2 * c.sel.length * (c.n % max 1 c.room)) b
        put { c with n := c.n + 1, cyc := c.cyc + 1, first := some (c.first.getD { s.nowStamp with at_ := t0 }), post := c.post.map (· - 1) } s

/-! ### Snapshot -/

/-- Body of a snapshot between its generation words (12 Table 12-11). -/
def snapBody (s : State) : List (Nat × Bytes) :=
  [ (0x0010, s.nowStamp.bytes),
    (0x0040, (List.range 64).flatMap fun n => axisEntry s.ps n (s.ax n)),
    (0x1040, (List.range 8).flatMap fun k =>
      leBytes 16 (ssmVerdict (s.ssmArm k)) ++ leBytes 16 (s.plr k).res.word ++ leBytes 8 (ssvArm s k) ++ leBytes 24 0),
    (0x1240, leBytes 4 (ssmStat s.ssm) ++ leBytes 4 (ttcStat s.ttc) ++ leBytes 8 (ssvSi s) ++ leBytes 4 s.tb.status) ]

/-- The snapshot of a LATCH is published under the next generation (12 R361). -/
def publishSnapshot (s : State) : State :=
  let g := s.hif.snapGen + 1
  let base := regSnapshot + 0x10000 * (g % 2)
  let s' := ((0, leBytes 8 g) :: snapBody s ++ [(0xFFF8, leBytes 8 g)]).foldl
    (fun (s : State) (e : Nat × Bytes) => s.ldgWrite (base + e.1) e.2) s
  { s' with hif := { s'.hif with snapGen := g } }

/-! ### Mirror -/

/-- MLC_HB as the unit sends it (14 Table 14-3). -/
def hbBytes (s : State) : Bytes :=
  let m := s.mlc
  leBytes 4 (m.role.code * 2 ^ 30 + m.shadow.code * 2 ^ 28 + m.cause * 2 ^ 25 + bit s.ssv.f3 * 2 ^ 24 + bit s.ssv.f3Inside * 2 ^ 23
    + bit m.mismatch * 2 ^ 22 + bit m.stale * 2 ^ 21 + m.laneMask * 2 ^ 16 + m.staleRun * 2 ^ 8)
    ++ leBytes 4 s.dl.epoch ++ leBytes 8 m.hbRx.1 ++ leBytes 8 m.hbTx.1

/-- What the unit sends on the Mirror link after LATCH (14 R402, R403, R418): its heartbeat; every 1 ms until TRACKING a HELLO over a
lane that has come up; and as the active unit SYSTEM and AXIS, while at least three lanes carry data. Records of the last cycle
that were not acknowledged are past their deadline. A unit without authority keeps its own state of the arms for the comparison
(R406). -/
def mirrorSend (t0 : Time) (s : State) : State :=
  if s.mlc.role = .single then s
  else
    let s := { s with mlc := { s.mlc with hbOut := hbBytes s, hbTx := ((s.stampOf 41 s.cyc.now).at_, s.mlc.hbTx.1) } }
    let greet := decide (t0 % ms = 0) && (vlist s.mlc.lanes).any (·.lock) && decide (s.mlc.shadow ≠ .tracking) && decide (s.mlc.shadow ≠ .ready)
    let s := if greet then sendHello s else s
    let on := decide (s.mlc.role = .active) && decide (3 ≤ dataLanes s.mlc) && s.mlc.unpairing.isNone
      && (match s.mlc.tk with | some t => decide (t ≤ t0) | none => true)
    if !on then if s.drives then s else { s with mlc := { s.mlc with sysOwn := some s.ownSys } }
    else
      let cy := t0 / tCtl % 2 ^ 32
      let due := some (t0 + tCtl)
      let s := { s with mlc := { s.mlc with unacked := s.mlc.unacked.filter fun f => f.typ != 4 && f.typ != 5 } }
      let s := mirSend 4 cy 0 1024 due s
      [0, 4096, 8192].foldl (fun s o => mirSend 5 cy o 4096 due s) s

/-- A homing sequence at LATCH, and its ticket where it has ended (03 R97, 13 R387). -/
def latchHome (t0 : Time) (n : Nat) (s : State) : State :=
  match (s.ax n).home with
  | none => s
  | some h =>
    if (s.ax n).loop.held then s
    else
      let (a, st) := homeCycle s.ps n t0 (s.ax n)
      let s := s.mdAx n fun _ => a
      match st with
      | some st => if st = Sts.CANCELLED then endTicket h.ticket 3 Sts.CANCELLED s else finishTicket h.ticket st s
      | none => s

/-- LATCH (01 R14 to R16, R26, 05 R145, R146): the loops commit or hold, the references are released, the snapshot is taken, and
captures and injection records are written. -/
def execLatch (overrun : List Nat) (s : State) : Out :=
  .next <|
    if !s.cyc.running || s.cyc.latchDone then s
    else
      let t0 := s.cyc.t0
      let s := s.upTo (t0 + tLatch)
      let late := overrun.filter fun n => n < 64 && (s.ax n).powered
      let out := (List.range 64).map fun n => latchAxis s t0 late n (s.ax n)
      let s := { s with
        cyc := { s.cyc with latchDone := true }
        axes := vmapI s.axes fun n _ => (lget out n).1 }
      let s := (List.range 64).foldl (fun s n => s.serve (s.clusterOf n) (lget out n).2.1) s
      let s := (List.range 64).foldl (fun s n => latchHome t0 n s) s
      let s := { s with axes := vmapI s.axes fun n a => a.release s.ps n (curPoint s n) }
      let s := recordInjection ((List.range 16).foldl (fun s i => storeSample t0 i s) s)
      let s := (late.filter fun n => (s.ax n).loop.overrun).foldl (fun s n => raiseAxis n Sts.LOOP_OVERRUN s) s
      let s := ((List.range 64).filter fun n => (lget out n).2.2).foldl
        (fun s n => faultF2 (s.axSc n) Sts.LOOP_NAN 6 (raiseAxis n Sts.LOOP_NAN s)) s
      let s := publishSnapshot s
      mirrorSend t0 ((List.range 8).foldl (fun s k => latchSolve k t0 s) s)

end Sys2Proof.Machine
end

