-- ==== Sys2Proof/Machine/Ledger.lean ====
section
/-!
DEFINITION. The Ledger (chapter 15): banks and the ply arbiter, protection, check bits, lock words, the secure
region's journal and the tamper wipe. Each ply of a bank is one arbitration; a command that presents a request runs
the bank's next ply.
-/
namespace Sys2Proof.Machine

/-- Protection class of a requester (15 R444). -/
def protClass (req : Nat) : Nat :=
  if req = 0 then 0 else if req ≤ 9 then 1 else if req ≤ 13 then 2 else if req = 14 then 3 else if req = 15 then 4
  else if req = 16 then 5 else if req = 17 then 6 else if req = 18 then 7 else if req = 19 then 8
  else if req = 20 then 9 else 15

/-- Compute-class requesters (15 Table 15-11). -/
def isCompute (req : Nat) : Bool := req < 16 || req == 20

/-- Start addresses of the regions (15 Table 15-2). -/
def regionStarts : List Nat := [0, 0x20000, 0x80000, 0x200000, 0x210000, 0x220000, 0x240000, 0x280000, 0x2F0000, 0x370000,
  0x380000, 0x3B0000, 0x3C0000, 0x4C0000, 0x5C0000, 0x7C0000]

/-- Region of a byte address. -/
def regionOf (a : Nat) : Nat := (regionStarts.filter fun r => decide (r ≤ a)).length - 1

/-- Access code of a requester in a region (15 Tables 15-8, 15-9); code 3 acts as NONE. -/
def LdgSt.code (l : LdgSt) (req region : Nat) : Nat :=
  let c := (lget l.access region).getD (protClass req) 0
  if c = 3 then 0 else c

/-- May a requester make this access: the matrix, and the lock of R445 while an arm is not DISABLED. -/
def State.mayAccess (s : State) (req a : Nat) (write : Bool) : Bool :=
  let g := regionOf a
  let c := s.ldg.code req g
  if write then c == 2 && !(s.anyBusy && s.ldg.lock.testBit g && req != 14 && req != 15) else c != 0

/-- Bank of a byte address (15 R429). -/
def bankOf (a : Nat) : Nat := a / 8 % 32

/-- Change bank b. -/
def State.mdBank (s : State) (b : Nat) (f : BankSt → BankSt) : State :=
  { s with ldg := { s.ldg with banks := vmd s.ldg.banks b f } }

/-- Change requester r. -/
def State.mdReq (s : State) (r : Nat) (f : ReqSt → ReqSt) : State :=
  { s with ldg := { s.ldg with reqs := vmd s.ldg.reqs r f } }

/-- How a requester's unit handles an error it receives (15 R439); the targeted self-test of a tile or a core starts with it. The TTC
is spoiled in its next transmit value (bit 16) or, after a write, in its next frame (bit 21). -/
def unitError (req : Nat) (write : Bool) (s : State) : State :=
  if 1 ≤ req ∧ req ≤ 9 then
    suspect 2 (req - 1) Sts.OK none s
  else if req = 10 ∨ req = 11 ∨ req = 12 ∨ req = 13 ∨ req = 14 then
    { s with ldg := { s.ldg with spoiled := s.ldg.spoiled ||| 2 ^ req } }
  else match req with
    | 0 => suspect 4 0 Sts.OK none s
    | 15 => faultF3 true Sts.SELFTEST_FAILED s
    | 16 => { s with ldg := { s.ldg with spoiled := s.ldg.spoiled ||| (if write then 2 ^ 21 else 2 ^ 16) } }
    | 17 => { s with mlc := { s.mlc with incomplete := true } }
    | 18 => { s with hif := { s.hif with readAbort := true } }
    | 19 => { s with fw := { s.fw with caps := vmapI s.fw.caps fun _ c => c.map fun r =>
        if r.stopped then r else { r with stopped := true, stopAt := s.cyc.now, status := Sts.TRACE_OVERFLOW } } }
    | _ => s

/-- The reaction to an uncorrectable error (15 R432, 09 Table 09-1): for a read by the SSM or the SSV all arms F2 and
F3 inside the safety channel, otherwise F3 outside it. -/
def uncorrectable (req : Nat) (write : Bool) (s : State) : State :=
  let s := unitError req write s
  if req = 14 ∨ req = 15 then faultF3 true Sts.SELFTEST_FAILED (faultF2s allScopes Sts.SELFTEST_FAILED 7 s)
  else faultF3 false Sts.SELFTEST_FAILED s

/-- A refused access (15 R444): PROT_VIOL, and the reaction of the requester's class. -/
def protViol (req : Nat) (write : Bool) (s : State) : State :=
  let s := s.mdReq req fun r => { r with protViol := true }
  let s := { s with ldg := { s.ldg with readData := none } }
  if req = 14 ∨ req = 15 then faultF3 true Sts.SELFTEST_FAILED s
  else if isCompute req then faultF3 false Sts.SELFTEST_FAILED s
  else unitError req write s

/-- Rank of a requester: its place in the background ranking, 32 if it is not there. -/
def rankOf (rank : List Nat) (req : Nat) : Nat := rank.findIdx (· == req)

/-- Best of a list by rank. -/
def bestRank (rank : List Nat) : List LReq → Option LReq
  | [] => none
  | x :: xs =>
    match bestRank rank xs with
    | none => some x
    | some y => if rankOf rank y.req < rankOf rank x.req then some y else some x

/-- Who wins a ply among the requests presented (15 R435). -/
def plyWinner (rank : List Nat) (b : BankSt) (named : Nat) (l : List LReq) : Option LReq :=
  match (if b.span then l.find? (fun r => r.req == b.owner) else none) with
  | some r => some r
  | none =>
    if b.span then none
    else match (if named < 21 then l.find? (fun r => r.req == named) else none) with
      | some r => some r
      | none => match bestRank rank (l.filter fun r => isCompute r.req) with
        | some r => some r
        | none => bestRank rank (l.filter fun r => !isCompute r.req)

/-- Plies an access takes: a partial write is a read-modify-write over two (15 R431). -/
def LReq.plies (r : LReq) : Nat := if r.write && r.data.length < 8 then 2 else 1

/-- Loss of a request in ply n (15 R437): its count rises to at most 10, and it presents again 2^k plies later. -/
def LReq.lose (r : LReq) (n : Nat) : LReq :=
  let k := min (r.k + 1) 10
  { r with k := k, again := n + 2 ^ k }

/-- What the secure region holds, as pieces at their offsets (15 Table 15-10); the widths of the four header fields are the model's
(DESIGN CHOICE, notes/assumptions 80). -/
def State.secPieces (s : State) : List (Nat × Bytes) :=
  let eng := s.ssv.eng.flatMap fun e =>
    leBytes 4 e.id ++ e.salt ++ e.hash ++ leBytes 1 e.fails ++ leBytes 3 0 ++ leBytes 8 (match e.lockedTo with | some t => t / ns | none => 0)
  [ (0, leBytes 4 0x53454352 ++ leBytes 4 1 ++ leBytes 4 s.ldg.journalGen ++ leBytes 4 s.ldg.wipeCause),
    (0x40, confirmBytes s.ssv.conf),
    (0x80, match s.mlc.secret with | some k => k ++ leBytes 8 s.mlc.pairSerial | none => []),
    (0xC0, (vlist s.ssv.brakes).flatMap (fun b => leBytes 8 b.saved) ++ leBytes 8 (s.secImage).castle),
    (0x400, eng),
    (0x1000, serialise s.ps true),
    (0x20000, s.ssv.audit.flatMap AuditRec.bytes) ]

/-- A byte of the Ledger as a read delivers it: the index page of the snapshot region and the secure region read what the
controller keeps there, every other address its data byte. -/
def State.ldgByte (s : State) (a : Nat) : Byte :=
  if 0x380000 ≤ a ∧ a < 0x381000 then (leBytes 8 s.hif.snapGen ++ leBytes 4 s.hif.logNext ++ leBytes 4 1).getD (a - 0x380000) 0
  else if regSecure ≤ a then
    let o := a - regSecure
    match s.secPieces.find? fun p => decide (p.1 ≤ o) && decide (o < p.1 + p.2.length) with
    | some p => p.2.getD (o - p.1) 0
    | none => 0
  else memByte s.ldg.mem a

/-- Perform a granted access with the error its word has: 0 none, 1 single-bit, 2 uncorrectable (15 R432). -/
def perform (r : LReq) (len err : Nat) (s : State) : State :=
  let b := bankOf r.addr
  let w := r.addr / 8 * 8
  let err := if s.ldg.bad.contains w then 2 else err
  if err = 2 && (!r.write || r.data.length < 8) then
    let s := s.mdBank b fun k => { k with uncorr := incSat 255 k.uncorr }
    let s := suspect 3 (vrd s.ldg.banks b).phys Sts.OK none s
    uncorrectable r.req r.write { s with ldg := { s.ldg with
      readData := none, bad := if s.ldg.bad.contains w then s.ldg.bad else w :: s.ldg.bad } }
  else
    let s := if err = 1 && (!r.write || r.data.length < 8) then
        s.mdBank b fun k => { k with corr := incSat 65535 k.corr, fix := k.fix ++ [w] } else s
    if r.write then
      { s with ldg := { s.ldg with
          mem := memWrite s.ldg.mem (r.addr + r.off) r.data
          bad := if r.data.length < 8 then s.ldg.bad else s.ldg.bad.filter (· != w) } }
    else { s with ldg := { s.ldg with readData := some ((List.range len).map fun i => s.ldgByte (r.addr + r.off + i)) } }

/-- CLAIM of the last whole millisecond (15 Table 15-5). -/
def BankSt.count (b : BankSt) (now : Time) (n : Nat) (compute : Bool) : BankSt :=
  let b := if b.msAt / ms < now / ms then
      { b with claim := if b.used.2 = 0 then 0 else min 65535 (b.used.1 * 65536 / b.used.2), used := (0, 0), msAt := now }
    else b
  { b with plies := b.plies + n, used := (b.used.1 + (if compute then n else 0), b.used.2 + n) }

/-- One ply of bank b with a presented request; what waits and is due, or is named, presents with it (15 R435, R437). -/
def plyOf (b : Nat) (r : LReq) (len err : Nat) (s : State) : State :=
  let k := vrd s.ldg.banks b
  let n := k.plies
  let named := k.tbl.getD (n % 64) 255
  -- the requester keeps its loss count for the bank until a grant (R437)
  let r := match k.waiting.find? fun x => x.req == r.req with | some x => { r with k := x.k } | none => r
  let others := k.waiting.filter fun x => x.req != r.req
  let due := others.filter fun x => decide (x.again ≤ n) || x.req == named
  let back := others.filter fun x => !(decide (x.again ≤ n) || x.req == named)
  match plyWinner s.ldg.rank k named (r :: due) with
  | none =>
    let lost := (r :: due).map (·.lose n)
    let s := lost.foldl (fun s x => s.mdReq x.req fun q => { q with kMax := max q.kMax x.k }) s
    s.mdBank b fun k => { k.count s.cyc.now 1 true with waiting := back ++ lost, run := k.run + 1 }
  | some w =>
    let lost := ((r :: due).filter fun x => x.req != w.req).map (·.lose n)
    let s := lost.foldl (fun s x => s.mdReq x.req fun q => { q with kMax := max q.kMax x.k }) s
    let hold := w.data.isEmpty && !w.write && decide (len = 0) && w.req == r.req
    let s := s.mdBank b fun k => { k.count s.cyc.now w.plies (isCompute w.req) with
      waiting := back ++ lost, owner := w.req, span := hold, run := if hold then k.run + 1 else 0 }
    if hold then s else perform w (if w.req = r.req then len else 8 - w.off) (if w.req = r.req then err else 0) s

/-- LEDGER_REQUEST (15 R431, R435, R444): a requester presents an access of one word; `len` 0 presents a hold. A masked
requester is ignored (R438). -/
def execLedgerRequest (req addr len : Nat) (write : Bool) (data : Bytes) (err : Nat) (s : State) : Out :=
  onUnit "requester" req 21 <| onUnit "Ledger byte" addr 0x800000 <| .next <|
    let q := vrd s.ldg.reqs req
    if q.masked then s
    else if !s.mayAccess req addr write then protViol req write s
    else plyOf (bankOf addr)
      { req := req, addr := addr / 8 * 8, off := addr % 8, write := write,
        data := if write then data.take (8 - addr % 8) else [] } (min len (8 - addr % 8)) err s

/-- LEDGER_BACKOFF_EXPIRY (15 R437): a waiting request presents again in its 2^k-th ply. -/
def execLedgerBackoffExpiry (req bank : Nat) (s : State) : Out :=
  onUnit "requester" req 21 <| onUnit "bank" bank 32 <| .next <|
    match (vrd s.ldg.banks bank).waiting.find? (fun r => r.req == req) with
    | none => s
    | some r =>
      if (vrd s.ldg.reqs req).masked then s
      else plyOf bank r (8 - r.off) 0 (s.mdBank bank fun k => { k with plies := max k.plies r.again })

/-- HOLD_CUT (15 R438): with GH_EN = 1 a grant held for GH_LIMIT plies is revoked with an error. -/
def execHoldCut (req bank : Nat) (s : State) : Out :=
  onUnit "requester" req 21 <| onUnit "bank" bank 32 <| .next <|
    let q := vrd s.ldg.reqs req
    let k := vrd s.ldg.banks bank
    if q.ghEn && k.span && k.owner == req then
      let s := s.mdBank bank fun k => { k.count s.cyc.now (q.ghLimit - k.run) (isCompute req) with span := false, run := 0 }
      unitError req false ((s.mdReq req fun q => { q with holdCuts := incSat 255 q.holdCuts }))
    else s

/-- SIDEBAND_MASK (15 R438, R443): a requester in reset or power-down is masked, its grant released, its locks broken. -/
def execSidebandMask (req : Nat) (on : Bool) (s : State) : Out :=
  onUnit "requester" req 21 <| .next <|
    let q := vrd s.ldg.reqs req
    if !q.sbEn then s
    else if !on then s.mdReq req fun q => { q with masked := false }
    else
      let s := s.mdReq req fun q => { q with masked := true }
      breakLocks req { s with ldg := { s.ldg with banks := vmapI s.ldg.banks fun _ k =>
        { k with waiting := k.waiting.filter (fun r => r.req != req),
                 span := k.span && k.owner != req, run := if k.owner == req then 0 else k.run } } }

/-- PLY_TABLE_WRITE (15 R440): a table is staged for every bank, a ranking governs from the next ply. -/
def execPlyTableWrite (kind : Nat) (entries : List Nat) (s : State) : Out :=
  .next <|
    if kind = 0 then
      if entries.length = 64 then
        { s with ldg := { s.ldg with staged := some entries, banks := vmapI s.ldg.banks fun _ k => { k with due := true } } }
      else s
    else if entries.length = 32 then { s with ldg := { s.ldg with rank := entries } }
    else s

/-- PLY_TABLE_ADOPT (15 R440): a bank adopts the staged table at its own next wrap; loss counts and grants stay. -/
def execPlyTableAdopt (bank : Nat) (s : State) : Out :=
  onUnit "bank" bank 32 <| .next <|
    match s.ldg.staged with
    | none => s
    | some t =>
      if !(vrd s.ldg.banks bank).due then s
      else
        let s := s.mdBank bank fun k => { k with tbl := t, due := false, plies := (k.plies + 63) / 64 * 64 }
        if (vlist s.ldg.banks).any (·.due) then s
        else { s with ldg := { s.ldg with table := t, staged := none } }

/-! ### Lock words -/

/-- End of a lock's lease. -/
def LockSt.leaseEnd (l : LockSt) : Time := l.at_ + l.lease * us

/-- A lease that has expired by a stamp breaks its lock before the operation (15 R443). -/
def LockSt.lapse (l : LockSt) (t : Time) : LockSt :=
  if l.state = 1 && l.lease != 0 && decide (l.leaseEnd ≤ t) then { l with state := 2, owner := 0 } else l

/-- Acquire by a requester: the code of Table 15-7 and the lock afterwards. -/
def LockSt.acquire (l : LockSt) (req : Nat) (t : Time) : Nat × LockSt :=
  let l := l.lapse t
  match l.state with
  | 0 => (0, { l with state := 1, owner := req, at_ := t })
  | 1 => if l.owner = req then (3, l) else (1, l)
  | _ => (2, { l with state := 1, owner := req, at_ := t })

/-- Release by a requester: only the owner frees it. -/
def LockSt.release (l : LockSt) (req : Nat) (t : Time) : LockSt :=
  let l := l.lapse t
  if l.state = 1 ∧ l.owner = req then { l with state := 0, owner := 0 } else { l with relBad := incSat 3 l.relBad }

/-- Put lock i. -/
def State.putLock (s : State) (i : Nat) (l : LockSt) : State :=
  { s with ldg := { s.ldg with locks := vwr s.ldg.locks i l } }

/-- LOCK_ACQUIRE (15 R443, Table 15-7). -/
def execLockAcquire (req lock t : Nat) (s : State) : Out :=
  onUnit "requester" req 21 <| onUnit "lock" lock 64 <| .next <|
    if (vrd s.ldg.reqs req).masked then s.upTo t
    else
      let r := (vrd s.ldg.locks lock).acquire req t
      let s := (s.upTo t).putLock lock r.2
      { s with ldg := { s.ldg with acq := r.1 } }

/-- LOCK_RELEASE (15 R443). -/
def execLockRelease (req lock t : Nat) (s : State) : Out :=
  onUnit "requester" req 21 <| onUnit "lock" lock 64 <| .next <|
    if (vrd s.ldg.reqs req).masked then s.upTo t
    else (s.upTo t).putLock lock ((vrd s.ldg.locks lock).release req t)

/-- LOCK_LEASE_EXPIRY (15 R443): at the acquisition stamp plus LEASE a held lock is broken. -/
def execLockLeaseExpiry (lock : Nat) (s : State) : Out :=
  onUnit "lock" lock 64 <| .next <|
    let l := vrd s.ldg.locks lock
    if l.state = 1 ∧ l.lease ≠ 0 then (s.upTo l.leaseEnd).putLock lock (l.lapse l.leaseEnd) else s

/-! ### Check bits, scrubbing, fill -/

/-- CORRECTED_WRITEBACK (15 R432): the corrected word goes back in a ply no requester claims. -/
def execCorrectedWriteback (bank : Nat) (s : State) : Out :=
  onUnit "bank" bank 32 <| .next <|
    s.mdBank bank fun k => match k.fix with
      | [] => k
      | _ :: r => { k.count s.cyc.now 1 false with fix := r }

/-- 24 hours (16 Table 16-3). -/
def day : Time := 86400 * sec

/-- SCRUB (15 R433): the scrubber reads its next word; a word it corrects twice within 24 h makes the bank SUSPECT
(16 Table 16-3). -/
def execScrub (err : Nat) (s : State) : Out :=
  .next <|
    let w := s.ldg.scrubAt
    let b := bankOf w
    let s := { s with ldg := { s.ldg with scrubAt := (w + 8) % 0x800000 } }
    let s := s.mdBank b fun k => k.count s.cyc.now 1 true
    if err = 1 then
      let again := s.ldg.scrubHist.any fun x => x.1 == w && decide (s.cyc.now < x.2 + day)
      let s := s.mdBank b fun k => { k with corr := incSat 65535 k.corr, fix := k.fix ++ [w] }
      let s := { s with ldg := { s.ldg with
        scrubHist := (w, s.cyc.now) :: s.ldg.scrubHist.filter fun x => x.1 != w && decide (s.cyc.now < x.2 + day) } }
      if again then suspect 3 (vrd s.ldg.banks b).phys Sts.OK none s else s
    else if err = 2 then
      let s := s.mdBank b fun k => { k with uncorr := incSat 255 k.uncorr }
      uncorrectable 20 false (suspect 3 (vrd s.ldg.banks b).phys Sts.OK none s)
    else s

/-- BANK_FILL_COMPLETE (15 R434): PHYS switches after 32 768 plies of the bank. -/
def execBankFillComplete (bank : Nat) (s : State) : Out :=
  onUnit "bank" bank 32 <| .next <|
    s.mdBank bank fun k =>
      if k.filling then { k.count s.cyc.now 32768 true with filling := false, phys := k.fillTo } else k

/-! ### Journal and tamper -/

/-- JOURNAL_APPEND (15 R447, 17 R474): a change of the secure region is appended, unless the old journal is being erased
or the wipe count is exhausted. -/
def execJournalAppend (s : State) : Out :=
  .next <|
    if s.ldg.journalDue && !s.ldg.erasing && !s.hlt.sealEx then
      { s with ldg := { s.ldg with journal := some s.secImage, journalRecs := s.ldg.journalRecs + 1,
                                   journalKey := s.hlt.fuses.wipes, journalDue := false } }
    else s

/-- JOURNAL_COMPACTION (15 R447): a fresh image replaces the full journal. -/
def execJournalCompaction (s : State) : Out :=
  .next <|
    if !s.ldg.erasing && !s.hlt.sealEx then
      { s with ldg := { s.ldg with journal := some s.secImage, journalRecs := 0, journalGen := s.ldg.journalGen + 1,
                                   journalKey := s.hlt.fuses.wipes, journalDue := false } }
    else s

/-- TAMPER_N (15 R448): low for at least 10 µs is latched; while the controller runs it is acted on at once, else at
start-up. -/
def execTamperN (held : Nat) (s : State) : Out :=
  .next <|
    if held < 10 * us then s
    else if s.pwr.held || decide (s.pwr.boot = .fuseLoad) then { s with pwr := { s.pwr with tamper := 1 } }
    else wipe 1 s

end Sys2Proof.Machine
end

