-- ==== Sys2Proof/Machine/Shutdown.lean ====
section
/-!
DEFINITION. The end of a shutdown (01 R31, Table 01-6): scopes, tiles, cell-bus channels and the pairing.
-/
namespace Sys2Proof.Machine

/-- The shutdown of a scope has run to its end (01 Table 01-6): torque is off, standstill is confirmed, and both switches of its
brakes read back open. A unit whose outputs follow a mirrored record takes the state of its arms from it (14 R411). -/
def shutDone (s : State) (k : Nat) : Bool :=
  let open_ : Bool := match brakeOf s.ps k with | some b => !(s.bk b).fbh && !(s.bk b).fbl | none => true
  let ended : Bool := match (s.sc k).seq with | .ending _ => true | _ => false
  s.drives && decide ((s.sc k).fn = .shuttingDown) && ended && open_ && atRest s k && (s.scAxes k).all fun n => (s.ax n).sto

/-- What a DISABLED scope leaves: its fault level stays until it is acknowledged (01 R33); the ownership ends (12 R372). -/
def ScopeSt.shut (c : ScopeSt) : ScopeSt :=
  { c with fn := .disabled, stop := .none, env := none, sos := none, seq := .idle, stopAt := none, byDisable := false
           owner := none, bound := none, offer := none }

/-- A stop request of the SSM with PROT_STOP = 1 is released once the arm is DISABLED (08 R233), unless the raw verdict would
raise it again. -/
def releaseDisabled (k : Nat) (s : State) : State :=
  if k < 8 && (s.ssmArm k).stopReq && prmN s.ps Pid.PROT_STOP k == 1 && decide ((s.ssmArm k).v.raw ≠ 2) then releaseStop k s.cyc.now s
  else s

/-- A scope becomes DISABLED: its axes, with their events, then the scope itself; the arm publishes one STATIC record (07 R187)
and returns to its home tile (07 R209). -/
def scopeDisabled (k : Nat) (s : State) : State :=
  let status := (s.sc k).status
  let s := s.mdAxes (s.scAxes k) fun a => { a with fn := .disabled, mode := .idle, home := none }
  let s := s.mdSc k ScopeSt.shut
  let s := match stoOf s.ps k with | some o => stoSettle o s | none => s
  let s := (s.scAxes k).foldl (fun s n => raiseAxis n status s) s
  if k < 8 then
    let s := raiseArm k status 0 (publishStatic k s.cyc.t0 s)
    releaseDisabled k (homeTile k s)
  else s

/-- The tile of an arm is idle: its shutdown ends (01 Table 01-6). -/
def tileDisabled (k : Nat) (s : State) : State :=
  let r := s.plr k
  let idle : Bool := match r.solve with | none => true | some v => v.done
  if decide (r.tileFn = .shuttingDown) && idle then
    raiseArm k (s.sc k).status 0 (s.mdPlr k fun r => { r with tileFn := .disabled, solve := none })
  else s

/-- The pairing is over (14 R425, 01 Table 01-6): the copy has stopped and the Mirror lanes carry no frame any more; the active unit reports its Shadow ABSENT; the Shadow that hears so opens its switches, lowers
its STO outputs and then MIR_ENG. Both erase the secret. -/
def unpaired (s : State) : State :=
  let erase (s : State) : State :=
    raiseEv 109 Sts.OK 0 0 3 (secTouch { s with mlc := { s.mlc with secret := none, pairSerial := 0, unpairing := none } })
  let idle := s.mlc.unacked.isEmpty
  if decide (s.mlc.role = .active) && s.mlc.unpairing.isSome then if idle then erase (shadowTo .absent 1 s) else s
  else if decide (s.mlc.role = .shadow) && s.mlc.secret.isSome && idle && !s.mlc.got.1 && !s.mlc.got.2
    && (match s.mlc.peerHb with | some h => decide (h.1 = .active) && decide (h.2.1 = .absent) && h.2.2.1 == 1 | none => false) then
    let s := (List.range 8).foldl (fun s k => (cutPair k s).mdBk k fun b => { b with stoOut := false }) s
    let s := if s.mlc.eng then raiseEv 111 Sts.OK 0xFF 0 0 { s with mlc := { s.mlc with eng := false } } else s
    erase (shadowTo .absent 1 s)
  else s

/-- SHUTDOWN_END (01 R31, Table 01-6). `kind`: 0 a scope, 1 the tile of an arm, 2 a cell-bus channel, 3 the pairing; a port has
no shutdown of its own in Table 01-6, its axes have. -/
def execShutdownEnd (kind idx : Nat) (s : State) : Out :=
  match kind with
  | 0 => onUnit "scope" idx 72 <| .next <| if shutDone s idx then scopeDisabled idx s else s
  | 1 => onUnit "arm" idx 8 <| .next <| tileDisabled idx s
  | 2 => onUnit "cell-bus channel" idx 2 <| .next <| channelOff idx s
  | 3 => .next (unpaired s)
  | _ => .next s

end Sys2Proof.Machine
end

