-- ==== Sys2Proof/Machine/Dispatch.lean ====
section
/-!
DEFINITION. The meaning of each command: one arm for each constructor of Instr, in the order of the table.
-/
namespace Sys2Proof.Machine

def exec (i : Instr) (s : State) : Host.Outcome State Fault Refusal :=
  match i with
  | .currentPeriodEvent => Sys2Proof.Machine.execCurrentPeriodEvent s
  | .controlCycleEvent late => Sys2Proof.Machine.execControlCycleEvent late s
  | .separationCycleEvent => Sys2Proof.Machine.execSeparationCycleEvent s
  | .planPeriodEvent arm => Sys2Proof.Machine.execPlanPeriodEvent arm s
  | .cellCycleClose => Sys2Proof.Machine.execCellCycleClose s
  | .feedbackCutoff => Sys2Proof.Machine.execFeedbackCutoff s
  | .outboundLaunch missed => Sys2Proof.Machine.execOutboundLaunch missed s
  | .latch overrun => Sys2Proof.Machine.execLatch overrun s
  | .copyDeadline => Sys2Proof.Machine.execCopyDeadline s
  | .ssmPublish late divFail flip => Sys2Proof.Machine.execSsmPublish late divFail flip s
  | .solveDeadline arm => Sys2Proof.Machine.execSolveDeadline arm s
  | .solveComplete arm t iter order lanes => Sys2Proof.Machine.execSolveComplete arm t iter order lanes s
  | .tileError tile t => Sys2Proof.Machine.execTileError tile t s
  | .laneSpareTakeover axis => Sys2Proof.Machine.execLaneSpareTakeover axis s
  | .shutdownEnd kind idx => Sys2Proof.Machine.execShutdownEnd kind idx s
  | .relabel => Sys2Proof.Machine.execRelabel s
  | .timeOfDayShift => Sys2Proof.Machine.execTimeOfDayShift s
  | .holdoverEntry => Sys2Proof.Machine.execHoldoverEntry s
  | .holdExceeded => Sys2Proof.Machine.execHoldExceeded s
  | .ppsInEdge edge width => Sys2Proof.Machine.execPpsInEdge edge width s
  | .ppsOutRise => Sys2Proof.Machine.execPpsOutRise s
  | .ppsOutFall => Sys2Proof.Machine.execPpsOutFall s
  | .roverParallelEnd rover diff => Sys2Proof.Machine.execRoverParallelEnd rover diff s
  | .interpolatorCalDone ts counts => Sys2Proof.Machine.execInterpolatorCalDone ts counts s
  | .inboundCycleFrame port t tEnd codeErr bytes => Sys2Proof.Machine.execInboundCycleFrame port t tEnd codeErr bytes s
  | .discoveryFrame port t bytes => Sys2Proof.Machine.execDiscoveryFrame port t bytes s
  | .dlSymbolLock port => Sys2Proof.Machine.execDlSymbolLock port s
  | .dlSymbolLockLost port => Sys2Proof.Machine.execDlSymbolLockLost port s
  | .portReady port => Sys2Proof.Machine.execPortReady port s
  | .portRecovered port => Sys2Proof.Machine.execPortRecovered port s
  | .linkFault port => Sys2Proof.Machine.execLinkFault port s
  | .authorityLost => Sys2Proof.Machine.execAuthorityLost s
  | .stageNoResponse port => Sys2Proof.Machine.execStageNoResponse port s
  | .sparePortMove port => Sys2Proof.Machine.execSparePortMove port s
  | .stepEdge pair t low high stable dir => Sys2Proof.Machine.execStepEdge pair t low high stable dir s
  | .stepFinalSegment axis => Sys2Proof.Machine.execStepFinalSegment axis s
  | .gpioEdge pin t level => Sys2Proof.Machine.execGpioEdge pin t level s
  | .stallImminent axis => Sys2Proof.Machine.execStallImminent axis s
  | .holdDelayExpiry axis => Sys2Proof.Machine.execHoldDelayExpiry axis s
  | .coilFault axis => Sys2Proof.Machine.execCoilFault axis s
  | .phaseSum axis => Sys2Proof.Machine.execPhaseSum axis s
  | .busUndervolt axis => Sys2Proof.Machine.execBusUndervolt axis s
  | .sampleLost axis => Sys2Proof.Machine.execSampleLost axis s
  | .followingError axis => Sys2Proof.Machine.execFollowingError axis s
  | .laneOverrunRepeat axis => Sys2Proof.Machine.execLaneOverrunRepeat axis s
  | .hardStopDetected axis => Sys2Proof.Machine.execHardStopDetected axis s
  | .injectionRunEnd scope => Sys2Proof.Machine.execInjectionRunEnd scope s
  | .frfAnalysisDone scope => Sys2Proof.Machine.execFrfAnalysisDone scope s
  | .captureEnd cap => Sys2Proof.Machine.execCaptureEnd cap s
  | .traceOverflow cap => Sys2Proof.Machine.execTraceOverflow cap s
  | .captureAreaFree cap => Sys2Proof.Machine.execCaptureAreaFree cap s
  | .listStale sensor => Sys2Proof.Machine.execListStale sensor s
  | .ssmXchk arm => Sys2Proof.Machine.execSsmXchk arm s
  | .verdictFallClear arm => Sys2Proof.Machine.execVerdictFallClear arm s
  | .stopRequestRelease arm => Sys2Proof.Machine.execStopRequestRelease arm s
  | .standstill arm => Sys2Proof.Machine.execStandstill arm s
  | .safetyWatchdog => Sys2Proof.Machine.execSafetyWatchdog s
  | .torqueBuildEnd scope => Sys2Proof.Machine.execTorqueBuildEnd scope s
  | .bkSettleCheck pair fbh fbl => Sys2Proof.Machine.execBkSettleCheck pair fbh fbl s
  | .brakeSwitch pair => Sys2Proof.Machine.execBrakeSwitch pair s
  | .bkReleaseEnd scope => Sys2Proof.Machine.execBkReleaseEnd scope s
  | .bkEngageEnd scope => Sys2Proof.Machine.execBkEngageEnd scope s
  | .brakeTestStepEnd arm => Sys2Proof.Machine.execBrakeTestStepEnd arm s
  | .brakeTestDue arm => Sys2Proof.Machine.execBrakeTestDue arm s
  | .brakeTestOverdue arm => Sys2Proof.Machine.execBrakeTestOverdue arm s
  | .brakeTimerSave => Sys2Proof.Machine.execBrakeTimerSave s
  | .testPulse k => Sys2Proof.Machine.execTestPulse k s
  | .safeInputEdge i_ t level => Sys2Proof.Machine.execSafeInputEdge i_ t level s
  | .siDemand i_ => Sys2Proof.Machine.execSiDemand i_ s
  | .discrepancy pair => Sys2Proof.Machine.execDiscrepancy pair s
  | .siFaultClear i_ => Sys2Proof.Machine.execSiFaultClear i_ s
  | .stoConfirmCheck arm => Sys2Proof.Machine.execStoConfirmCheck arm s
  | .checkValueRecompute ok => Sys2Proof.Machine.execCheckValueRecompute ok s
  | .lockoutEnd id => Sys2Proof.Machine.execLockoutEnd id s
  | .serviceExpired => Sys2Proof.Machine.execServiceExpired s
  | .cbFrameReceived ch t codeErr bytes => Sys2Proof.Machine.execCbFrameReceived ch t codeErr bytes s
  | .slotWindowClose slot => Sys2Proof.Machine.execSlotWindowClose slot s
  | .valueLatch slot => Sys2Proof.Machine.execValueLatch slot s
  | .ttcFrameTransmit slot => Sys2Proof.Machine.execTtcFrameTransmit slot s
  | .coldstartEntry => Sys2Proof.Machine.execColdstartEntry s
  | .coldstartWaitEnd => Sys2Proof.Machine.execColdstartWaitEnd s
  | .coldstartWatchEnd clean => Sys2Proof.Machine.execColdstartWatchEnd clean s
  | .coldstartFrame ch t bytes => Sys2Proof.Machine.execColdstartFrame ch t bytes s
  | .modeChangeRequest => Sys2Proof.Machine.execModeChangeRequest s
  | .channelDisabled ch => Sys2Proof.Machine.execChannelDisabled ch s
  | .linkDown => Sys2Proof.Machine.execLinkDown s
  | .linkUp width speed => Sys2Proof.Machine.execLinkUp width speed s
  | .conventionalReset kind => Sys2Proof.Machine.execConventionalReset kind s
  | .bar2Read off len => Sys2Proof.Machine.execBar2Read off len s
  | .bar2ReadAbort off => Sys2Proof.Machine.execBar2ReadAbort off s
  | .bar2Write off => Sys2Proof.Machine.execBar2Write off s
  | .powerStateWrite d3 => Sys2Proof.Machine.execPowerStateWrite d3 s
  | .doorbell ch v t => Sys2Proof.Machine.execDoorbell ch v t s
  | .rspAck ch v => Sys2Proof.Machine.execRspAck ch v s
  | .mailboxRamWrite off bytes collide => Sys2Proof.Machine.execMailboxRamWrite off bytes collide s
  | .requestTaken ch => Sys2Proof.Machine.execRequestTaken ch s
  | .evstatClear n mask again => Sys2Proof.Machine.execEvstatClear n mask again s
  | .evmaskWrite n mask => Sys2Proof.Machine.execEvmaskWrite n mask s
  | .msixUnmask what vec => Sys2Proof.Machine.execMsixUnmask what vec s
  | .tbNowFracRead => Sys2Proof.Machine.execTbNowFracRead s
  | .readClearAccess off => Sys2Proof.Machine.execReadClearAccess off s
  | .registerWrite space off val => Sys2Proof.Machine.execRegisterWrite space off val s
  | .leaseExpiry ch => Sys2Proof.Machine.execLeaseExpiry ch s
  | .openSession ch nonce leaseMs force => Sys2Proof.Machine.execOpenSession ch nonce leaseMs force s
  | .closeSession ch => Sys2Proof.Machine.execCloseSession ch s
  | .keepalive ch => Sys2Proof.Machine.execKeepalive ch s
  | .ticketStatus ch ticket => Sys2Proof.Machine.execTicketStatus ch ticket s
  | .cancelTicket ch ticket => Sys2Proof.Machine.execCancelTicket ch ticket s
  | .setLease ch leaseMs => Sys2Proof.Machine.execSetLease ch leaseMs s
  | .getIdentity ch => Sys2Proof.Machine.execGetIdentity ch s
  | .getHealth ch => Sys2Proof.Machine.execGetHealth ch s
  | .readBlock ch block index => Sys2Proof.Machine.execReadBlock ch block index s
  | .clearBlock ch block index => Sys2Proof.Machine.execClearBlock ch block index s
  | .getFault ch => Sys2Proof.Machine.execGetFault ch s
  | .openSet ch part base => Sys2Proof.Machine.execOpenSet ch part base s
  | .writeSeg ch off bulk => Sys2Proof.Machine.execWriteSeg ch off bulk s
  | .closeSet ch => Sys2Proof.Machine.execCloseSet ch s
  | .confirm ch check eng pass => Sys2Proof.Machine.execConfirm ch check eng pass s
  | .commit ch slot => Sys2Proof.Machine.execCommit ch slot s
  | .flashWriteDone ok => Sys2Proof.Machine.execFlashWriteDone ok s
  | .abortSet ch => Sys2Proof.Machine.execAbortSet ch s
  | .readParam ch src pid inst sub => Sys2Proof.Machine.execReadParam ch src pid inst sub s
  | .getSetInfo ch => Sys2Proof.Machine.execGetSetInfo ch s
  | .readSet ch src part off => Sys2Proof.Machine.execReadSet ch src part off s
  | .writeParam ch pid inst sub val => Sys2Proof.Machine.execWriteParam ch pid inst sub val s
  | .move ch axis way target => Sys2Proof.Machine.execMove ch axis way target s
  | .jog ch axis dir => Sys2Proof.Machine.execJog ch axis dir s
  | .stop ch axis => Sys2Proof.Machine.execStop ch axis s
  | .setLimits ch axis mask v a d j => Sys2Proof.Machine.execSetLimits ch axis mask v a d j s
  | .gear ch axis master source align num den pA mA => Sys2Proof.Machine.execGear ch axis master source align num den pA mA s
  | .stepFollow ch axis pair invert => Sys2Proof.Machine.execStepFollow ch axis pair invert s
  | .home ch axis method dir gpio hasPos setPos homePos => Sys2Proof.Machine.execHome ch axis method dir gpio hasPos setPos homePos s
  | .getAxis ch axis => Sys2Proof.Machine.execGetAxis ch axis s
  | .getMovePlan ch axis => Sys2Proof.Machine.execGetMovePlan ch axis s
  | .clearAxisFlags ch axis mask => Sys2Proof.Machine.execClearAxisFlags ch axis mask s
  | .stageRead ch port addr => Sys2Proof.Machine.execStageRead ch port addr s
  | .dlReset ch ports => Sys2Proof.Machine.execDlReset ch ports s
  | .enable ch scope => Sys2Proof.Machine.execEnable ch scope s
  | .disable ch scope => Sys2Proof.Machine.execDisable ch scope s
  | .faultAck ch scope => Sys2Proof.Machine.execFaultAck ch scope s
  | .enterPlanned ch scope => Sys2Proof.Machine.execEnterPlanned ch scope s
  | .leavePlanned ch scope => Sys2Proof.Machine.execLeavePlanned ch scope s
  | .setPath ch scope bulk => Sys2Proof.Machine.execSetPath ch scope bulk s
  | .handover ch scope target value => Sys2Proof.Machine.execHandover ch scope target value s
  | .acceptHandover ch scope => Sys2Proof.Machine.execAcceptHandover ch scope s
  | .reclaim ch scope => Sys2Proof.Machine.execReclaim ch scope s
  | .getArm ch scope => Sys2Proof.Machine.execGetArm ch scope s
  | .getResult ch arm => Sys2Proof.Machine.execGetResult ch arm s
  | .getPlan ch arm slot => Sys2Proof.Machine.execGetPlan ch arm slot s
  | .getSizing ch arm => Sys2Proof.Machine.execGetSizing ch arm s
  | .getVerdict ch arm => Sys2Proof.Machine.execGetVerdict ch arm s
  | .getSsmStat ch => Sys2Proof.Machine.execGetSsmStat ch s
  | .resume ch arm => Sys2Proof.Machine.execResume ch arm s
  | .stopTest ch arm => Sys2Proof.Machine.execStopTest ch arm s
  | .getStopTest ch arm => Sys2Proof.Machine.execGetStopTest ch arm s
  | .getObjects ch => Sys2Proof.Machine.execGetObjects ch s
  | .clearSsmFlags ch => Sys2Proof.Machine.execClearSsmFlags ch s
  | .brakeTest ch arm => Sys2Proof.Machine.execBrakeTest ch arm s
  | .enterService ch eng pass => Sys2Proof.Machine.execEnterService ch eng pass s
  | .leaveService ch => Sys2Proof.Machine.execLeaveService ch s
  | .getSafety ch => Sys2Proof.Machine.execGetSafety ch s
  | .clearSafetyFlags ch => Sys2Proof.Machine.execClearSafetyFlags ch s
  | .setEngineer ch authId targetId authPass newPass => Sys2Proof.Machine.execSetEngineer ch authId targetId authPass newPass s
  | .removeEngineer ch authId targetId authPass => Sys2Proof.Machine.execRemoveEngineer ch authId targetId authPass s
  | .readAudit ch first => Sys2Proof.Machine.execReadAudit ch first s
  | .setTimeOfDay ch seconds => Sys2Proof.Machine.execSetTimeOfDay ch seconds s
  | .modeChange ch mode => Sys2Proof.Machine.execModeChange ch mode s
  | .channelEnable ch cb => Sys2Proof.Machine.execChannelEnable ch cb s
  | .channelDisable ch cb => Sys2Proof.Machine.execChannelDisable ch cb s
  | .applyCalibration ch => Sys2Proof.Machine.execApplyCalibration ch s
  | .writeValue ch value data => Sys2Proof.Machine.execWriteValue ch value data s
  | .readValue ch value => Sys2Proof.Machine.execReadValue ch value s
  | .getTtc ch => Sys2Proof.Machine.execGetTtc ch s
  | .clearTtc ch => Sys2Proof.Machine.execClearTtc ch s
  | .getCalibration ch cb => Sys2Proof.Machine.execGetCalibration ch cb s
  | .getPair ch => Sys2Proof.Machine.execGetPair ch s
  | .castle ch => Sys2Proof.Machine.execCastle ch s
  | .pairBegin ch => Sys2Proof.Machine.execPairBegin ch s
  | .pairConfirm ch check eng pass => Sys2Proof.Machine.execPairConfirm ch check eng pass s
  | .unpair ch => Sys2Proof.Machine.execUnpair ch s
  | .startCapture ch axis kind div count sel => Sys2Proof.Machine.execStartCapture ch axis kind div count sel s
  | .stopCapture ch cap => Sys2Proof.Machine.execStopCapture ch cap s
  | .startInjection ch axis point signal prbsN amp clkDiv s_ len m x y bins => Sys2Proof.Machine.execStartInjection ch axis point signal prbsN amp clkDiv s_ len m x y bins s
  | .stopInjection ch arm => Sys2Proof.Machine.execStopInjection ch arm s
  | .getFrf ch axis first count => Sys2Proof.Machine.execGetFrf ch axis first count s
  | .getLifecycle ch => Sys2Proof.Machine.execGetLifecycle ch s
  | .retire ch eng key pass => Sys2Proof.Machine.execRetire ch eng key pass s
  | .selfTest ch unit index => Sys2Proof.Machine.execSelfTest ch unit index s
  | .heartbeatReceived mask t bytes => Sys2Proof.Machine.execHeartbeatReceived mask t bytes s
  | .heartbeatWindowClose => Sys2Proof.Machine.execHeartbeatWindowClose s
  | .takeoverDecision => Sys2Proof.Machine.execTakeoverDecision s
  | .epochAckCheck => Sys2Proof.Machine.execEpochAckCheck s
  | .mirrorAck seq good => Sys2Proof.Machine.execMirrorAck seq good s
  | .mirrorAckTimeout seq => Sys2Proof.Machine.execMirrorAckTimeout seq s
  | .systemRecord copy epoch sto disabled levels stops plans => Sys2Proof.Machine.execSystemRecord copy epoch sto disabled levels stops plans s
  | .mirrorCopyComplete copy axes skip => Sys2Proof.Machine.execMirrorCopyComplete copy axes skip s
  | .stageRecord at_ op payload bulk => Sys2Proof.Machine.execStageRecord at_ op payload bulk s
  | .planRecord arm bytes => Sys2Proof.Machine.execPlanRecord arm bytes s
  | .delta addr bytes => Sys2Proof.Machine.execDelta addr bytes s
  | .paramRecord off bytes last => Sys2Proof.Machine.execParamRecord off bytes last s
  | .hello t serial nonce role epoch check proof => Sys2Proof.Machine.execHello t serial nonce role epoch check proof s
  | .takeoverRecord t => Sys2Proof.Machine.execTakeoverRecord t s
  | .castlePrep b => Sys2Proof.Machine.execCastlePrep b s
  | .castleAck b => Sys2Proof.Machine.execCastleAck b s
  | .pairSecret secret => Sys2Proof.Machine.execPairSecret secret s
  | .warmReq arm => Sys2Proof.Machine.execWarmReq arm s
  | .mirrorLaneInService lane => Sys2Proof.Machine.execMirrorLaneInService lane s
  | .pairWaitEnd => Sys2Proof.Machine.execPairWaitEnd s
  | .singleAuthority => Sys2Proof.Machine.execSingleAuthority s
  | .shadowJoining => Sys2Proof.Machine.execShadowJoining s
  | .shadowReady => Sys2Proof.Machine.execShadowReady s
  | .castleBoundary => Sys2Proof.Machine.execCastleBoundary s
  | .castleEpochCheck => Sys2Proof.Machine.execCastleEpochCheck s
  | .castleDue => Sys2Proof.Machine.execCastleDue s
  | .castleAutoRetry => Sys2Proof.Machine.execCastleAutoRetry s
  | .castleOverdue => Sys2Proof.Machine.execCastleOverdue s
  | .pairTExpiry => Sys2Proof.Machine.execPairTExpiry s
  | .pairCommitEffect acked => Sys2Proof.Machine.execPairCommitEffect acked s
  | .mirPeerEngChange high => Sys2Proof.Machine.execMirPeerEngChange high s
  | .ledgerRequest req addr len write data err => Sys2Proof.Machine.execLedgerRequest req addr len write data err s
  | .ledgerBackoffExpiry req bank => Sys2Proof.Machine.execLedgerBackoffExpiry req bank s
  | .holdCut req bank => Sys2Proof.Machine.execHoldCut req bank s
  | .sidebandMask req on => Sys2Proof.Machine.execSidebandMask req on s
  | .plyTableWrite kind entries => Sys2Proof.Machine.execPlyTableWrite kind entries s
  | .plyTableAdopt bank => Sys2Proof.Machine.execPlyTableAdopt bank s
  | .lockAcquire req lock t => Sys2Proof.Machine.execLockAcquire req lock t s
  | .lockRelease req lock t => Sys2Proof.Machine.execLockRelease req lock t s
  | .lockLeaseExpiry lock => Sys2Proof.Machine.execLockLeaseExpiry lock s
  | .correctedWriteback bank => Sys2Proof.Machine.execCorrectedWriteback bank s
  | .scrub err => Sys2Proof.Machine.execScrub err s
  | .bankFillComplete bank => Sys2Proof.Machine.execBankFillComplete bank s
  | .journalAppend => Sys2Proof.Machine.execJournalAppend s
  | .journalCompaction => Sys2Proof.Machine.execJournalCompaction s
  | .tamperN held => Sys2Proof.Machine.execTamperN held s
  | .tempoMonitor rates tj => Sys2Proof.Machine.execTempoMonitor rates tj s
  | .voltageLoop vout => Sys2Proof.Machine.execVoltageLoop vout s
  | .tempoWarning => Sys2Proof.Machine.execTempoWarning s
  | .pmbusAlert word => Sys2Proof.Machine.execPmbusAlert word s
  | .pmbusVoutTimeout => Sys2Proof.Machine.execPmbusVoutTimeout s
  | .pmbusRetry ok vout => Sys2Proof.Machine.execPmbusRetry ok vout s
  | .unitError cls idx cause => Sys2Proof.Machine.execUnitError cls idx cause s
  | .targetedSelfTestDone cls idx pass => Sys2Proof.Machine.execTargetedSelfTestDone cls idx pass s
  | .backgroundSelfTest cls idx pass => Sys2Proof.Machine.execBackgroundSelfTest cls idx pass s
  | .manufactureFinalTest => Sys2Proof.Machine.execManufactureFinalTest s
  | .supplyRise i_ => Sys2Proof.Machine.execSupplyRise i_ s
  | .supplyRangeFault i_ => Sys2Proof.Machine.execSupplyRangeFault i_ s
  | .trip i_ => Sys2Proof.Machine.execTrip i_ s
  | .temperatureRecovery => Sys2Proof.Machine.execTemperatureRecovery s
  | .resetN which low held => Sys2Proof.Machine.execResetN which low held s
  | .testPin which high => Sys2Proof.Machine.execTestPin which high s
  | .presentNRemoval => Sys2Proof.Machine.execPresentNRemoval s
  | .presentNInsertion => Sys2Proof.Machine.execPresentNInsertion s
  | .internalResetRelease sinceSupply sincePresent => Sys2Proof.Machine.execInternalResetRelease sinceSupply sincePresent s
  | .fuseLoadEnd => Sys2Proof.Machine.execFuseLoadEnd s
  | .coreSelfTestEnd => Sys2Proof.Machine.execCoreSelfTestEnd s
  | .romSelfTestEnd failed => Sys2Proof.Machine.execRomSelfTestEnd failed s
  | .fwReady => Sys2Proof.Machine.execFwReady s
  | .ppsinSeenExpiry => Sys2Proof.Machine.execPpsinSeenExpiry s
  | .aerError unc status => Sys2Proof.Machine.execAerError unc status s
  | .linkWidthRateChange width speed => Sys2Proof.Machine.execLinkWidthRateChange width speed s
  | .perstNRelease => Sys2Proof.Machine.execPerstNRelease s
  | .mirrorLaneUp lane => Sys2Proof.Machine.execMirrorLaneUp lane s
  | .journalEraseEnd => Sys2Proof.Machine.execJournalEraseEnd s
  | .uartCtsN high => Sys2Proof.Machine.execUartCtsN high s
  | .jtagInstruction ir => Sys2Proof.Machine.execJtagInstruction ir s

end Sys2Proof.Machine
end

