-- ==== Sys2Proof/Safety.lean ====
section
/-!
DEFINITION. The terms the claims use: a channel that serves a command and what its answer leaves, and what fuses may do.
-/
namespace Sys2Proof.Machine

/-! ### Commands given on a channel -/

/-- Channel `ch` serves a command now: the firmware runs, a session is open on the channel and its lease has not run out, and the
unit may act for it (12 R369, R371, 14 R415). -/
def Serves (ch : Nat) (s : State) : Prop :=
  ch < 4 ∧ s.hif.fwReady = true ∧ (s.chan ch).open_ = true ∧ atOrAfter s.cyc.now ns (s.chan ch).leaseEnd = false
    ∧ ((s.chan ch).mirrored = false ∨ s.commands = true)

/-- The checks of R377 that a command's States letters give: F3, life cycle, authority, confirmation (13 R377). -/
def Admits (f a c life : Bool) (s : State) : Prop :=
  (s.ssv.f3 = true → f = true) ∧ (life = true ∨ s.hlt.fuses.state = 1) ∧ (a = true → s.commands = true)
    ∧ (c = true → s.ssv.mode ≠ .uncommissioned)

/-- The state a command of a channel runs on: its lease renewed (12 R369). -/
def begun (ch : Nat) (s : State) : State :=
  s.drawn.mdChan ch fun x => { x with renewAt := s.cyc.now, used := true }

/-- The state after a command of channel `ch` given at `s` that led to `t` and answers `r`: E advances, and the response is
stored (12 R368, 13 R378). -/
def replies (ch op : Nat) (r : Rsp) (s t : State) : State :=
  storeRsp ch (s.chan ch).expect_ (Config.free32 s.fresh).toNat op r
    (t.mdChan ch fun x => { x with expect_ := ((s.chan ch).expect_ + 1) % 2 ^ 32 })

/-- The same where the response waits for the effect (13 R378). -/
def awaits (ch op : Nat) (s t : State) : State :=
  (t.mdChan ch fun x => { x with expect_ := ((s.chan ch).expect_ + 1) % 2 ^ 32 }).mdChan ch fun x => { x with
    wait := x.wait ++ [{ seq := (s.chan ch).expect_, crc := (Config.free32 s.fresh).toNat, opcode := op, idx := none }] }

/-- The state after a command of channel `ch` that only reports (13 R377). -/
def reports (ch op : Nat) (r : State → Rsp) (s : State) : State := replies ch op (r (begun ch s)) s (begun ch s)

/-- The state after a command of channel `ch` that takes its effect `f` and answers `r` at once (13 R377, R378). -/
def does (ch op : Nat) (r : State → Rsp) (f : State → State) (s : State) : State :=
  replies ch op (r (begun ch s)) s (f (begun ch s))

/-- The state after a command of channel `ch` that is staged and answers at its effect (01 R20, 13 R378). -/
def stages (ch op scope axis : Nat) (cmd : StagedCmd) (s : State) : State :=
  awaits ch op s (stageFor ch scope axis true cmd (begun ch s))

/-- Channel `ch` may command scope `k` (12 R372). -/
def Owns (ch k : Nat) (s : State) : Prop := notOwner ch k s = false

/-- Scope `k` takes motion commands: it is not stopping, and where it is ENABLED its enable sequence has run, its brakes are
tested in time and in order and no brake test runs (03 R73, 09 R252, R258, R259). -/
def Free (k : Nat) (s : State) : Prop :=
  (s.sc k).fn ≠ .shuttingDown ∧ (s.sc k).stop = .none ∧ ((s.sc k).fn = .enabled →
    (s.sc k).seq = .running ∧ s.testing k = false ∧ (s.pairOf k).failed = false ∧ (s.pairOf k).overdue = false)

/-- Channel `ch` may command motion of axis `n`; `c`: a confirmed set is asked for (13 R377, R380). -/
def MayMove (ch n : Nat) (c : Bool) (s : State) : Prop :=
  Serves ch s ∧ Admits false true c false s ∧ n < 64 ∧ Owns ch (s.axSc n) s ∧ Free (s.axSc n) s
    ∧ (s.axSc n < 8 → (s.plr (s.axSc n)).planned = false)

/-- Scope `k` may be enabled: it is DISABLED with no fault to acknowledge, no safe input that reacts in the present mode is in
demand, no umbra stops it, its stop table holds, outside SERVICE its brakes and their switch are in order, and its axes are
AVAILABLE (01 Table 01-7, 09 R252). -/
def MayEnable (k : Nat) (s : State) : Prop :=
  (s.sc k).fn = .disabled ∧ (s.sc k).ackDue = false ∧ siDemands s k = false
    ∧ ¬ (monitored s.ps k = true ∧ prmN s.ps Pid.PROT_STOP k = 1 ∧ (s.ssmArm k).v.raw = 2)
    ∧ (k < 8 → (s.ssmArm k).tableBad = false)
    ∧ (s.ssv.mode = .service ∨ (s.pairOf k).switchBad = false ∧ (s.pairOf k).failed = false)
    ∧ ∀ n ∈ s.scAxes k, s.avail n = true

/-! ### Fuses -/

/-- What may become of the fuses: the state never moves backwards, repair records are only added, wipe-count bits only burned
(16 R459, R462, R463, 15 R447). -/
def Burns (f g : FuseSt) : Prop :=
  f.state ≤ g.state ∧ f.repairs <+: g.repairs ∧ (f.wipes ≤ 64 → f.wipes ≤ g.wipes ∧ g.wipes ≤ 64)

end Sys2Proof.Machine
end

