-- ==== Sys2Proof/WellFormed.lean ====
section
/-!
DEFINITION. When a command is well formed: its indices name units the hardware has (00 Table 00-1), its numbers fit
the fields of chapter 13, and its byte strings fit their frames and buffers. A command that is not well formed cannot
arise on the hardware's interfaces; the meanings answer it with a fault or as chapter 13 answers it.
-/
namespace Sys2Proof

/-- One condition of a command. -/
inductive Check where
  /-- a number lies below a bound -/
  | below (v bound : Nat)
  /-- a signed number fits in a width -/
  | signed (v : Int) (bits : Nat)
  /-- a string is no longer than its field or buffer -/
  | atMost (len bound : Nat)

/-- Does the condition hold. -/
def Check.holds : Check → Bool
  | .below v b => decide (v < b)
  | .signed v w => decide (-(2 : Int) ^ (w - 1) ≤ v) && decide (v < (2 : Int) ^ (w - 1))
  | .atMost n b => decide (n ≤ b)

/-- Functions of each kind that shut down (01 Table 01-6): scopes, tiles, cell-bus channels, the pairing, ports. -/
def shutUnits (kind : Nat) : Nat := [72, 8, 2, 1, 36].getD kind 0

/-- Units of each class (16 Table 16-3); the four rovers are tested as units of class 8 beside its 60 channels. -/
def classUnits (cls : Nat) : Nat := [68, 16, 9, 34, 3, 5, 41, 36, 60, 8].getD cls 0

/-- The conditions of each command. -/
def Instr.checks : Instr → List Check
  | .currentPeriodEvent => []
  | .controlCycleEvent _ => []
  | .separationCycleEvent => []
  | .planPeriodEvent arm => [.below arm 8]
  | .cellCycleClose => []
  | .feedbackCutoff => []
  | .outboundLaunch _ => []
  | .latch _ => []
  | .copyDeadline => []
  | .ssmPublish _ _ _ => []
  | .solveDeadline arm => [.below arm 8]
  | .solveComplete arm _ _ _ _ => [.below arm 8]
  | .tileError tile _ => [.below tile 9]
  | .laneSpareTakeover axis => [.below axis 64]
  | .shutdownEnd kind idx => [.below kind 5, .below idx (shutUnits kind)]
  | .relabel => []
  | .timeOfDayShift => []
  | .holdoverEntry => []
  | .holdExceeded => []
  | .ppsInEdge _ _ => []
  | .ppsOutRise => []
  | .ppsOutFall => []
  | .roverParallelEnd rover _ => [.below rover 4]
  | .interpolatorCalDone ts counts => [.below ts 64, .atMost counts.length 64]
  | .inboundCycleFrame port _ _ _ bytes => [.below port 36, .atMost bytes.length 4096]
  | .discoveryFrame port _ bytes => [.below port 36, .atMost bytes.length 4096]
  | .dlSymbolLock port => [.below port 36]
  | .dlSymbolLockLost port => [.below port 36]
  | .portReady port => [.below port 36]
  | .portRecovered port => [.below port 36]
  | .linkFault port => [.below port 36]
  | .authorityLost => []
  | .stageNoResponse port => [.below port 36]
  | .sparePortMove port => [.below port 36]
  | .stepEdge pair _ _ _ _ _ => [.below pair 8]
  | .stepFinalSegment axis => [.below axis 64]
  | .gpioEdge pin _ _ => [.below pin 16]
  | .stallImminent axis => [.below axis 64]
  | .holdDelayExpiry axis => [.below axis 64]
  | .coilFault axis => [.below axis 64]
  | .phaseSum axis => [.below axis 64]
  | .busUndervolt axis => [.below axis 64]
  | .sampleLost axis => [.below axis 64]
  | .followingError axis => [.below axis 64]
  | .laneOverrunRepeat axis => [.below axis 64]
  | .hardStopDetected axis => [.below axis 64]
  | .injectionRunEnd scope => [.below scope 72]
  | .frfAnalysisDone scope => [.below scope 72]
  | .captureEnd cap => [.below cap 16]
  | .traceOverflow cap => [.below cap 16]
  | .captureAreaFree cap => [.below cap 16]
  | .listStale sensor => [.below sensor 16]
  | .ssmXchk arm => [.below arm 8]
  | .verdictFallClear arm => [.below arm 8]
  | .stopRequestRelease arm => [.below arm 8]
  | .standstill arm => [.below arm 8]
  | .safetyWatchdog => []
  | .torqueBuildEnd scope => [.below scope 72]
  | .bkSettleCheck pair _ _ => [.below pair 8]
  | .brakeSwitch pair => [.below pair 8]
  | .bkReleaseEnd scope => [.below scope 72]
  | .bkEngageEnd scope => [.below scope 72]
  | .brakeTestStepEnd arm => [.below arm 8]
  | .brakeTestDue arm => [.below arm 8]
  | .brakeTestOverdue arm => [.below arm 8]
  | .brakeTimerSave => []
  | .testPulse k => [.below k 8]
  | .safeInputEdge i _ _ => [.below i 16]
  | .siDemand i => [.below i 16]
  | .discrepancy pair => [.below pair 8]
  | .siFaultClear i => [.below i 16]
  | .stoConfirmCheck arm => [.below arm 8]
  | .checkValueRecompute _ => []
  | .lockoutEnd id => [.below id (2 ^ 32)]
  | .serviceExpired => []
  | .cbFrameReceived ch _ _ bytes => [.below ch 2, .atMost bytes.length 2132]
  | .slotWindowClose slot => [.below slot 512]
  | .valueLatch slot => [.below slot 512]
  | .ttcFrameTransmit slot => [.below slot 512]
  | .coldstartEntry => []
  | .coldstartWaitEnd => []
  | .coldstartWatchEnd _ => []
  | .coldstartFrame ch _ bytes => [.below ch 2, .atMost bytes.length 2132]
  | .modeChangeRequest => []
  | .channelDisabled ch => [.below ch 2]
  | .linkDown => []
  | .linkUp width speed => [.below width 3, .below speed 4]
  | .conventionalReset kind => [.below kind 2]
  | .bar2Read off _ => [.below off (2 ^ 24)]
  | .bar2ReadAbort off => [.below off (2 ^ 24)]
  | .bar2Write off => [.below off (2 ^ 24)]
  | .powerStateWrite _ => []
  | .doorbell ch v _ => [.below ch 4, .below v (2 ^ 16)]
  | .rspAck ch v => [.below ch 4, .below v (2 ^ 16)]
  | .mailboxRamWrite off bytes _ => [.below off (2 ^ 16), .atMost bytes.length 61440]
  | .requestTaken ch => [.below ch 4]
  | .evstatClear n mask again => [.below n 4, .below mask (2 ^ 32), .below again (2 ^ 32)]
  | .evmaskWrite n mask => [.below n 4, .below mask (2 ^ 32)]
  | .msixUnmask what vec => [.below what 3, .below vec 32]
  | .tbNowFracRead => []
  | .readClearAccess off => [.below off (2 ^ 16)]
  | .registerWrite space off val => [.below space 4, .below off (2 ^ 16), .below val (2 ^ 64)]
  | .leaseExpiry ch => [.below ch 4]
  | .openSession ch nonce leaseMs _ => [.below ch 4, .below nonce (2 ^ 32), .below leaseMs (2 ^ 16)]
  | .closeSession ch => [.below ch 4]
  | .keepalive ch => [.below ch 4]
  | .ticketStatus ch ticket => [.below ch 4, .below ticket (2 ^ 32)]
  | .cancelTicket ch ticket => [.below ch 4, .below ticket (2 ^ 32)]
  | .setLease ch leaseMs => [.below ch 4, .below leaseMs (2 ^ 16)]
  | .getIdentity ch => [.below ch 4]
  | .getHealth ch => [.below ch 4]
  | .readBlock ch block index => [.below ch 4, .below block 256, .below index 256]
  | .clearBlock ch block index => [.below ch 4, .below block 256, .below index 256]
  | .getFault ch => [.below ch 4]
  | .openSet ch part base => [.below ch 4, .below part 256, .below base 256]
  | .writeSeg ch off bulk => [.below ch 4, .below off (2 ^ 32), .atMost bulk.length 7168]
  | .closeSet ch => [.below ch 4]
  | .confirm ch check eng pass => [.below ch 4, .below check (2 ^ 32), .below eng (2 ^ 32), .atMost pass.length 32]
  | .commit ch slot => [.below ch 4, .below slot 256]
  | .flashWriteDone _ => []
  | .abortSet ch => [.below ch 4]
  | .readParam ch src pid inst sub => [.below ch 4, .below src 256, .below pid (2 ^ 16), .below inst 256, .below sub 256]
  | .getSetInfo ch => [.below ch 4]
  | .readSet ch src part off => [.below ch 4, .below src 256, .below part 256, .below off (2 ^ 32)]
  | .writeParam ch pid inst sub val => [.below ch 4, .below pid (2 ^ 16), .below inst 256, .below sub 256, .atMost val.length 4096]
  | .move ch axis way target => [.below ch 4, .below axis 256, .below way 256, .signed target 64]
  | .jog ch axis dir => [.below ch 4, .below axis 256, .below dir 256]
  | .stop ch axis => [.below ch 4, .below axis 256]
  | .setLimits ch axis mask v a d j => [.below ch 4, .below axis 256, .below mask 256, .below v (2 ^ 32), .below a (2 ^ 32), .below d (2 ^ 32), .below j (2 ^ 32)]
  | .gear ch axis master source align num den pA mA => [.below ch 4, .below axis 256, .below master 256, .below source 256, .below align 256, .signed num 32, .below den (2 ^ 32), .signed pA 64, .signed mA 64]
  | .stepFollow ch axis pair invert => [.below ch 4, .below axis 256, .below pair 256, .below invert 256]
  | .home ch axis method dir gpio hasPos setPos homePos => [.below ch 4, .below axis 256, .below method 256, .below dir 256, .below gpio 256, .below hasPos 256, .signed setPos 64, .signed homePos 64]
  | .getAxis ch axis => [.below ch 4, .below axis 256]
  | .getMovePlan ch axis => [.below ch 4, .below axis 256]
  | .clearAxisFlags ch axis mask => [.below ch 4, .below axis 256, .below mask (2 ^ 32)]
  | .stageRead ch port addr => [.below ch 4, .below port 256, .below addr (2 ^ 16)]
  | .dlReset ch ports => [.below ch 4, .below ports (2 ^ 64)]
  | .enable ch scope => [.below ch 4, .below scope 256]
  | .disable ch scope => [.below ch 4, .below scope 256]
  | .faultAck ch scope => [.below ch 4, .below scope 256]
  | .enterPlanned ch scope => [.below ch 4, .below scope 256]
  | .leavePlanned ch scope => [.below ch 4, .below scope 256]
  | .setPath ch scope bulk => [.below ch 4, .below scope 256, .atMost bulk.length 7168]
  | .handover ch scope target value => [.below ch 4, .below scope 256, .below target 256, .below value (2 ^ 16)]
  | .acceptHandover ch scope => [.below ch 4, .below scope 256]
  | .reclaim ch scope => [.below ch 4, .below scope 256]
  | .getArm ch scope => [.below ch 4, .below scope 256]
  | .getResult ch arm => [.below ch 4, .below arm 256]
  | .getPlan ch arm slot => [.below ch 4, .below arm 256, .below slot 256]
  | .getSizing ch arm => [.below ch 4, .below arm 256]
  | .getVerdict ch arm => [.below ch 4, .below arm 256]
  | .getSsmStat ch => [.below ch 4]
  | .resume ch arm => [.below ch 4, .below arm 256]
  | .stopTest ch arm => [.below ch 4, .below arm 256]
  | .getStopTest ch arm => [.below ch 4, .below arm 256]
  | .getObjects ch => [.below ch 4]
  | .clearSsmFlags ch => [.below ch 4]
  | .brakeTest ch arm => [.below ch 4, .below arm 256]
  | .enterService ch eng pass => [.below ch 4, .below eng (2 ^ 32), .atMost pass.length 32]
  | .leaveService ch => [.below ch 4]
  | .getSafety ch => [.below ch 4]
  | .clearSafetyFlags ch => [.below ch 4]
  | .setEngineer ch authId targetId authPass newPass => [.below ch 4, .below authId (2 ^ 32), .below targetId (2 ^ 32), .atMost authPass.length 32, .atMost newPass.length 32]
  | .removeEngineer ch authId targetId authPass => [.below ch 4, .below authId (2 ^ 32), .below targetId (2 ^ 32), .atMost authPass.length 32]
  | .readAudit ch first => [.below ch 4, .below first (2 ^ 32)]
  | .setTimeOfDay ch seconds => [.below ch 4, .below seconds (2 ^ 64)]
  | .modeChange ch mode => [.below ch 4, .below mode 256]
  | .channelEnable ch cb => [.below ch 4, .below cb 256]
  | .channelDisable ch cb => [.below ch 4, .below cb 256]
  | .applyCalibration ch => [.below ch 4]
  | .writeValue ch value data => [.below ch 4, .below value (2 ^ 16), .atMost data.length 2112]
  | .readValue ch value => [.below ch 4, .below value (2 ^ 16)]
  | .getTtc ch => [.below ch 4]
  | .clearTtc ch => [.below ch 4]
  | .getCalibration ch cb => [.below ch 4, .below cb 256]
  | .getPair ch => [.below ch 4]
  | .castle ch => [.below ch 4]
  | .pairBegin ch => [.below ch 4]
  | .pairConfirm ch check eng pass => [.below ch 4, .below check (2 ^ 32), .below eng (2 ^ 32), .atMost pass.length 32]
  | .unpair ch => [.below ch 4]
  | .startCapture ch axis kind div count sel => [.below ch 4, .below axis 256, .below kind 256, .below div (2 ^ 16), .below count (2 ^ 32), .below sel (2 ^ 64)]
  | .stopCapture ch cap => [.below ch 4, .below cap 256]
  | .startInjection ch axis point signal prbsN amp clkDiv s len m x y bins => [.below ch 4, .below axis 256, .below point 256, .below signal 256, .below prbsN 256, .below amp (2 ^ 16), .below clkDiv 256, .below s 256, .below len (2 ^ 32), .below m 256, .below x 256, .below y 256, .atMost bins.length 3584]
  | .stopInjection ch arm => [.below ch 4, .below arm 256]
  | .getFrf ch axis first count => [.below ch 4, .below axis 256, .below first (2 ^ 16), .below count (2 ^ 16)]
  | .getLifecycle ch => [.below ch 4]
  | .retire ch eng key pass => [.below ch 4, .below eng (2 ^ 32), .below key (2 ^ 32), .atMost pass.length 32]
  | .selfTest ch unit index => [.below ch 4, .below unit 256, .below index 256]
  | .heartbeatReceived mask _ bytes => [.below mask 32, .atMost bytes.length 24]
  | .heartbeatWindowClose => []
  | .takeoverDecision => []
  | .epochAckCheck => []
  | .mirrorAck seq _ => [.below seq (2 ^ 32)]
  | .mirrorAckTimeout seq => [.below seq (2 ^ 32)]
  | .systemRecord copy epoch sto disabled _ _ _ => [.below copy.cycle (2 ^ 32), .below epoch (2 ^ 32), .below sto 256, .below disabled 256]
  | .mirrorCopyComplete copy _ _ => [.below copy.cycle (2 ^ 32)]
  | .stageRecord _ op payload bulk => [.below op (2 ^ 16), .atMost payload.length 240, .atMost bulk.length 7168]
  | .planRecord arm bytes => [.below arm 8, .atMost bytes.length 25376]
  | .delta addr bytes => [.below addr (2 ^ 23), .atMost bytes.length 4096]
  | .paramRecord _ bytes _ => [.atMost bytes.length 4096]
  | .hello _ serial nonce role epoch check proof => [.below serial (2 ^ 64), .below nonce (2 ^ 128), .below role 4, .below epoch (2 ^ 32), .below check (2 ^ 32), .atMost proof.length 16]
  | .takeoverRecord _ => []
  | .castlePrep _ => []
  | .castleAck _ => []
  | .pairSecret secret => [.atMost secret.length 32]
  | .warmReq arm => [.below arm 8]
  | .mirrorLaneInService lane => [.below lane 5]
  | .pairWaitEnd => []
  | .singleAuthority => []
  | .shadowJoining => []
  | .shadowReady => []
  | .castleBoundary => []
  | .castleEpochCheck => []
  | .castleDue => []
  | .castleAutoRetry => []
  | .castleOverdue => []
  | .pairTExpiry => []
  | .pairCommitEffect _ => []
  | .mirPeerEngChange _ => []
  | .ledgerRequest req addr len _ data err => [.below req 21, .below addr (2 ^ 23), .below len 9, .atMost data.length 8, .below err 3]
  | .ledgerBackoffExpiry req bank => [.below req 21, .below bank 32]
  | .holdCut req bank => [.below req 21, .below bank 32]
  | .sidebandMask req _ => [.below req 21]
  | .plyTableWrite kind entries => [.below kind 2, .atMost entries.length 64]
  | .plyTableAdopt bank => [.below bank 32]
  | .lockAcquire req lock _ => [.below req 21, .below lock 64]
  | .lockRelease req lock _ => [.below req 21, .below lock 64]
  | .lockLeaseExpiry lock => [.below lock 64]
  | .correctedWriteback bank => [.below bank 32]
  | .scrub err => [.below err 3]
  | .bankFillComplete bank => [.below bank 32]
  | .journalAppend => []
  | .journalCompaction => []
  | .tamperN _ => []
  | .tempoMonitor rates tj => [.atMost rates.length 22, .signed tj 16]
  | .voltageLoop _ => []
  | .tempoWarning => []
  | .pmbusAlert word => [.below word (2 ^ 16)]
  | .pmbusVoutTimeout => []
  | .pmbusRetry _ _ => []
  | .unitError cls idx cause => [.below cls 10, .below idx (classUnits cls), .below cause (2 ^ 16)]
  | .targetedSelfTestDone cls idx _ => [.below cls 10, .below idx (if cls = 8 then 64 else classUnits cls)]
  | .backgroundSelfTest cls idx _ => [.below cls 10, .below idx (if cls = 8 then 64 else classUnits cls)]
  | .manufactureFinalTest => []
  | .supplyRise i => [.below i 5]
  | .supplyRangeFault i => [.below i 6]
  | .trip i => [.below i 6]
  | .temperatureRecovery => []
  | .resetN which _ _ => [.below which 2]
  | .testPin which _ => [.below which 2]
  | .presentNRemoval => []
  | .presentNInsertion => []
  | .internalResetRelease _ _ => []
  | .fuseLoadEnd => []
  | .coreSelfTestEnd => []
  | .romSelfTestEnd _ => []
  | .fwReady => []
  | .ppsinSeenExpiry => []
  | .aerError _ status => [.below status (2 ^ 32)]
  | .linkWidthRateChange width speed => [.below width 3, .below speed 4]
  | .perstNRelease => []
  | .mirrorLaneUp lane => [.below lane 5]
  | .journalEraseEnd => []
  | .uartCtsN _ => []
  | .jtagInstruction ir => [.below ir 256]

/-- A command is well formed when every condition of it holds. -/
def Instr.wf (i : Instr) : Bool := i.checks.all Check.holds

end Sys2Proof
end

