-- ==== Sys2Proof/Certificates/Slice0/Obligations.lean ====
section
/-!
DEFINITION. The statements about the controller, each with the rules it rests on.
-/
open Sys2Proof Sys2Proof.Machine

/-- For every command and every state, a step of the state with the command at the front of its queue is the command
executed on the state with the rest of the queue. On an empty queue a step answers the state as it is. (R7, R364). The
queue is the model's own field, and idling on an empty one the model's choice (log 2): what is driven by time is a
command of its own. -/
def Obligations.StepRunsFront : Prop :=
  (∀ (c : Instr) (rest : List Instr) (s : State),
    step { s with pending := c :: rest } = exec c { s with pending := rest })
  ∧ ∀ s : State, s.pending = [] → step s = .next s

/-- For every command whose operands name units the controller has and fit their fields, and for every state,
executing the command answers a next state: no command of the table faults or is refused on such operands. (R1, R7,
R364, R377). Completion alone; what each command does in that state is said by the statements of its family. A row
whose condition does not hold leaves the state as it is (log 8). -/
def Obligations.EveryCommandCompletes : Prop :=
  ∀ (c : Instr) (s : State), c.wf = true → ∃ t, exec c s = .next t

/-- For every command and every state, if executing the command answers a next state, the queue of that state is the
queue it had. (R7, R364). The queue is the model's own field (log 2). -/
def Obligations.StepTakesOne : Prop :=
  ∀ (c : Instr) (s t : State), exec c s = .next t → t.pending = s.pending

/-- For every state whose Ledger memory lists its addresses rising and no cell of value 0, if a step answers a next
state, the Ledger memory of that state has the same form. (R431, R434). The form is the model's (log 4): an address
not listed reads 0. -/
def Obligations.LedgerFormKept : Prop :=
  ∀ s t : State, memWf s.ldg.mem = true → step s = .next t → memWf t.ldg.mem = true

/-- For every Ledger memory in canonical form, after bytes are written at an address, each of these addresses reads
the byte written there, and every other address reads what it read before. (R431, R432) -/
def Obligations.LedgerReadsBack : Prop :=
  ∀ (m : List Host.Cell) (a x : Nat) (b : Bytes), memWf m = true →
    memByte (memWrite m a b) x = if a ≤ x ∧ x < a + b.length then b.getD (x - a) 0 else memByte m x

/-- For every state, if a step answers a next state, the fused life-cycle state of that state is not earlier, its
repair records extend those it had, and, from at most 64 burned wipe-count bits, the count has not fallen and is at
most 64. (R447, R459, R462, R463) -/
def Obligations.FusesNeverUnburn : Prop :=
  ∀ s t : State, step s = .next t → Burns s.hlt.fuses t.hlt.fuses

/-- After reset, lanes 16, 33, 50 and 67 are spare, and logical axis An is served by lane n + n / 16. (R62) -/
def Obligations.LanesAfterReset : Prop :=
  (∀ l ∈ [16, 33, 50, 67], (vrd State.reset.lanes l).axis = none)
    ∧ ∀ n : Fin 64, (vrd State.reset.lanes (n + n / 16)).axis = some n.val

/-- When reset is released, cell time is 0, the time base is FREE, and the first cycle events are due at cell time 0;
no command waits, no session is open, and every axis and every scope is DISABLED. The Ledger memory of that state is
in canonical form. (R39, R369, R31, R434) -/
def Obligations.StateAfterReset : Prop :=
  State.reset.cyc.now = 0 ∧ State.reset.tb.state = .free ∧ State.reset.cyc.nextTk = 0 ∧ State.reset.cyc.nextT0 = 0
    ∧ State.reset.cyc.nextS0 = 0 ∧ State.reset.pending = []
    ∧ (∀ c : Fin 4, (State.reset.chan c).open_ = false) ∧ (∀ n : Fin 64, (State.reset.ax n).fn = .disabled)
    ∧ (∀ k : Fin 72, (State.reset.sc k).fn = .disabled) ∧ memWf State.reset.ldg.mem = true

/-- On a channel that is closed, OPEN_SESSION with a lease of 0 or of 100 to 60000 ms opens a session whose token is
not 0 and none of the channel's last 16, with E = 1, the lease granted and renewed now, and every other channel as it
was. On an open channel whose lease runs, without FORCE, a request with another nonce or after the session was used
answers SESSION_BUSY with REMAIN and changes nothing but the answer. (R368, R369, R371) -/
def Obligations.OpenSession : Prop :=
  (∀ (ch nonce lease : Nat) (force : Bool) (s : State), ch < 4 → s.hif.fwReady = true → (s.chan ch).open_ = false →
    leaseOk lease = true → (s.chan ch).tokens.length ≤ 16 →
    ∃ t, exec (.openSession ch nonce lease force) s = .next t ∧ (t.chan ch).open_ = true ∧ (t.chan ch).expect_ = 1
      ∧ (t.chan ch).leaseMs = (if lease = 0 then 1000 else lease) ∧ (t.chan ch).renewAt = s.cyc.now
      ∧ (t.chan ch).token ≠ 0 ∧ (t.chan ch).token ∉ (s.chan ch).tokens
      ∧ (t.chan ch).rsp = okRsp (leBytes 4 (t.chan ch).token ++ leBytes 2 (t.chan ch).leaseMs ++ leBytes 1 ch ++ leBytes 1 0)
      ∧ (∀ d, d ≠ ch → t.chan d = s.chan d) ∧ t.axes = s.axes ∧ t.ssv = s.ssv)
  ∧ ∀ (ch nonce lease : Nat) (s : State), Serves ch s → leaseOk lease = true →
    ((s.chan ch).used = true ∨ (s.chan ch).nonce ≠ nonce) →
    exec (.openSession ch nonce lease false) s = .next (s.mdChan ch fun x => { x with
      rsp := { status := Sts.SESSION_BUSY, body := leBytes 2 (x.remain s.cyc.now) } })

/-- On a channel that serves, CLOSE_SESSION answers OK and leaves the channel closed, with no token, no stored
responses and no open transaction; no command that the channel staged before stays staged; every arm or auxiliary axis
that the session owns, is ENABLED and is not bound to the cell bus has a disable command with SESSION_CLOSED staged;
captures and the parameter set in force are as before. (R369, R371) -/
def Obligations.CloseSessionEnds : Prop :=
  ∀ (ch : Nat) (s : State), Serves ch s → ∃ t, exec (.closeSession ch) s = .next t
    ∧ (t.chan ch).open_ = false ∧ (t.chan ch).token = 0 ∧ (t.chan ch).stored = [] ∧ (t.chan ch).trans = none
    ∧ (t.chan ch).rsp = okRsp
    ∧ (∀ g ∈ t.fw.staged, g.by_ ≠ ch)
    ∧ (∀ k < 72, (s.sc k).owner = some ch → (s.sc k).bound = none → (s.sc k).fn = .enabled →
        ∃ g ∈ t.fw.staged, g.scope = k ∧ g.cmd = .disable Sts.SESSION_CLOSED)
    ∧ t.fw.caps = s.fw.caps ∧ t.ps = s.ps

/-- On a channel that serves, KEEPALIVE only renews the lease and answers REMAIN; SET_LEASE with an allowed lease sets
it; TICKET_STATUS reports a ticket among the last 64; CANCEL_TICKET marks a running ticket of this session that has a
cancel point, and answers the state of an ended one. (R369, R370, R371, R381) -/
def Obligations.SessionCommands : Prop :=
  (∀ ch s, Serves ch s → exec (.keepalive ch) s = .next (reports ch 0x0103
    (fun b => okRsp (leBytes 2 ((b.chan ch).remain b.cyc.now) ++ leBytes 2 0)) s))
  ∧ (∀ ch lease s, Serves ch s → leaseOk lease = true → exec (.setLease ch lease) s = .next (does ch 0x0106
    (fun _ => okRsp (leBytes 2 (leaseGrant lease) ++ leBytes 2 0))
    (fun b => b.mdChan ch fun x => { x with leaseMs := leaseGrant lease }) s))
  ∧ (∀ ch num s k, Serves ch s → ticketOf num s = some k → exec (.ticketStatus ch num) s = .next (reports ch 0x0104
    (fun _ => okRsp (leBytes 1 k.state ++ leBytes 1 k.progress ++ leBytes 2 k.final ++ leBytes 2 k.opcode ++ leBytes 1 k.ch
      ++ leBytes 1 0)) s))
  ∧ ∀ ch num s k, Serves ch s → ticketOf num s = some k → k.ch = ch → k.token = (s.chan ch).token →
    (k.state = 0 → hasCancelPoint k.opcode = true) → exec (.cancelTicket ch num) s = .next (does ch 0x0105
      (fun _ => okRsp (leBytes 1 k.state ++ leBytes 3 0))
      (fun b => { b with hif := { b.hif with tickets := b.hif.tickets.map fun x =>
        if x.num == num && x.state == 0 then { x with cancel := true } else x } }) s)

/-- On a channel that serves, in every state of the controller, GET_IDENTITY, GET_HEALTH and GET_FAULT report;
READ_BLOCK returns a block that exists and clears its read-to-clear fields; CLEAR_BLOCK clears the read-to-clear and
the write-1-to-clear fields of a block that exists; a BLOCK above 5 is OUT_OF_RANGE and changes nothing. (R2, R382,
R465) -/
def Obligations.IdentityCommands : Prop :=
  (∀ ch s, Serves ch s → exec (.getIdentity ch) s = .next (reports ch 0x0201
    (fun b => okRsp (leBytes 2 0x6408 ++ leBytes 1 0xB1 ++ leBytes 1 1 ++ leBytes 2 4 ++ leBytes 2 2
      ++ leBytes 8 Config.serial.toNat ++ leBytes 2 Config.subsysVid.toNat ++ leBytes 2 Config.subsysId.toNat
      ++ leBytes 4 b.hlt.fuses.lifecycle ++ leBytes 1 b.modeCode ++ leBytes 1 b.mlc.role.code ++ leBytes 2 0)) s))
  ∧ (∀ ch s, Serves ch s → exec (.getHealth ch) s = .next (reports ch 0x0202 (fun b => okRsp [] (healthSummary b)) s))
  ∧ (∀ ch s, Serves ch s → exec (.getFault ch) s = .next (reports ch 0x0205
    (fun b => okRsp (leBytes 1 (bit b.ssv.f3) ++ leBytes 1 (bit b.ssv.f3Inside) ++ leBytes 2 b.ssv.f3Status
      ++ (if b.ssv.f3 then b.ssv.f3At.bytes else leBytes 16 0)
      ++ (List.range 8).flatMap fun k => leBytes 1 (armLevel b k))) s))
  ∧ (∀ ch block index s w, Serves ch s → blockBytes (begun ch s) block index = some w →
    exec (.readBlock ch block index) s = .next (does ch 0x0203 (fun _ => okRsp [] w)
      (fun b => clearRc block index (latchNow block b)) s)
    ∧ exec (.clearBlock ch block index) s = .next (does ch 0x0204 (fun _ => okRsp)
      (fun b => clearW1c block index (clearRc block index b)) s))
  ∧ ∀ ch block index s, Serves ch s → 5 < block →
    exec (.readBlock ch block index) s = .next (reports ch 0x0203 (fun _ => rspOf Sts.OUT_OF_RANGE) s)
    ∧ exec (.clearBlock ch block index) s = .next (reports ch 0x0204 (fun _ => rspOf Sts.OUT_OF_RANGE) s)

/-- For every list of fewer than 65536 records in strictly ascending order of (PID, INST, SUB), each with fields in
their widths and a value that is empty or as long as its parameter, reading the header of R272 followed by the records
gives exactly these records. (R272, R4) -/
def Obligations.SetSerialisationReads : Prop :=
  ∀ rs : List ParamRec, rs.length < 65536 → rs.Pairwise (fun a b => recKey a < recKey b) →
    (∀ r ∈ rs, r.pid < 65536 ∧ r.inst < 256 ∧ r.sub < 256 ∧ r.val.length ≤ 4096
      ∧ ∀ d, findDef r.pid = some d → r.val = [] ∨ r.val.length = d.width) →
    parseSet (leBytes 4 0x53464C46 ++ leBytes 2 1 ++ leBytes 2 rs.length ++ rs.flatMap ParamRec.bytes) = .good rs

/-- On a channel that serves, outside F3 and in FIELD: OPEN_SET copies the part of the base that it names; WRITE_SEG
appends the next bytes of an open transaction up to the room of its part; CLOSE_SET of a transaction whose segments
pass the checks answers the CRC-32C and the length of the serialisation and closes it; ABORT_SET drops it. When the
flash write in front ends well, its slot holds its set and check value; otherwise the slot keeps what it held. The
other slot, the set in force and the later writes stay, and the ticket ends with OK or FLASH_FAILED. (R272, R273,
R373, R374, R381, R492) -/
def Obligations.SetTransaction : Prop :=
  (∀ ch part base s, Serves ch s → Admits false false false false s → part ≤ 1 → base ≤ 3 →
    (base = 1 ∨ base = 2 → (s.slot base).isSome = true) → s.trans ch = none → (part = 0 → safetyHeld ch s = false) →
    let from_ : ParamSet := if base = 0 then s.comNext else match s.slot base with | some x => x.1 | none => []
    let k : TransSt := { part := part, base := base, baseGen := s.setGen, recs := partOf from_ (part == 0) }
    exec (.openSet ch part base) s = .next (does ch 0x0301 (fun _ => okRsp)
      (fun b => b.mdChan ch fun x => { x with trans := some k }) s))
  ∧ (∀ ch bulk s (k : TransSt), Serves ch s → Admits false false false false s → s.trans ch = some k → k.closed = false →
    k.raw.length + bulk.length ≤ segLimit k.part →
    exec (.writeSeg ch k.raw.length bulk) s = .next (does ch 0x0302
      (fun _ => okRsp (leBytes 4 (k.raw.length + bulk.length)))
      (fun b => b.mdChan ch fun x =>
        { x with trans := some { k with raw := k.raw ++ bulk, next := k.raw.length + bulk.length } }) s))
  ∧ (∀ ch s (k : TransSt) p, Serves ch s → Admits false false false false s → s.trans ch = some k → k.closed = false →
    closeCheck (k.part == 0) k.recs (partOf s.comNext (k.part != 0)) k.raw = .good p →
    let w := TransSt.bytes { k with recs := p, closed := true } s
    exec (.closeSet ch) s = .next (does ch 0x0303 (fun _ => okRsp (leBytes 4 (crc32c w) ++ leBytes 4 w.length))
      (fun b => b.mdChan ch fun x => { x with trans := some { k with recs := p, closed := true, check := crc32c w } }) s))
  ∧ (∀ ch s k, Serves ch s → Admits false false false false s → s.trans ch = some k →
    exec (.abortSet ch) s = .next (does ch 0x0306 (fun _ => okRsp) (fun b => b.mdChan ch fun x => { x with trans := none }) s))
  ∧ ∀ ok s w r, s.sets.flash = w :: r → w.slot = 1 ∨ w.slot = 2 →
    ∃ t, exec (.flashWriteDone ok) s = .next t ∧ t.sets.flash = r ∧ t.ps = s.ps
      ∧ t.slot w.slot = (if ok then some (w.set, w.check) else s.slot w.slot) ∧ t.slot (3 - w.slot) = s.slot (3 - w.slot)
      ∧ (ok = false → t = finishTicket w.ticket Sts.FLASH_FAILED { s with sets := { s.sets with flash := r } })

/-- On a channel that serves: CONFIRM of a closed transaction with its check value and the passcode of an engineer who
is not locked out notes that engineer in the transaction and answers OK; COMMIT of a closed transaction that no rule
refuses ends the transaction and stages its set for its control-cycle start, with a confirmation record where an
engineer confirmed a safety part and with a flash write where a slot is named, while the set in force stays. (R275,
R276, R373, R374, R424) -/
def Obligations.ConfirmAndCommit : Prop :=
  (∀ ch pass s (k : TransSt) (e : Engineer), Serves ch s → Admits false false false false s → s.trans ch = some k →
    k.closed = true → (s.ssv.eng.find? fun x => x.id == e.id) = some e → e.lockedTo = none → e.opens pass = true →
    ∃ t, exec (.confirm ch k.check e.id pass) s = .next t ∧ (t.chan ch).rsp = okRsp
      ∧ t.trans ch = some { k with confirmedBy := some e.id } ∧ t.ssv.conf = s.ssv.conf ∧ t.ps = s.ps)
  ∧ ∀ ch slot s (k : TransSt), Serves ch s → Admits false true false false s → s.trans ch = some k → k.closed = true → slot ≤ 2 →
    (k.base = 0 → k.baseGen = s.setGen) →
    (k.changesSafety s = true → s.anyBusy = false ∧ (s.ssv.mode = .service ∨ k.confirmedBy.isSome = true)) →
    changeLocks s s.comNext (k.whole s) = Sts.OK →
    (slot ≠ 0 → s.hif.running ch (s.chan ch).token < 8) →
    ∃ t x, exec (.commit ch slot) s = .next t ∧ t.trans ch = none ∧ t.ps = s.ps ∧ t.fw.setNext = s.fw.setNext ++ [x]
      ∧ x.recs = k.whole s ∧ x.part = k.part ∧ x.rsp = some (ch, (s.chan ch).expect_)
      ∧ x.at_ = (if s.copied then effectStart (s.cyc.now + 100 * ms) else s.effectAt)
      ∧ x.conf = (if k.part = 0 then k.confirmedBy.map fun e =>
          { check := k.check, time := s.cyc.now / ns, eng := e, slot := slot } else none)
      ∧ t.sets.flash.length = s.sets.flash.length + (if slot = 0 then 0 else 1)

/-- On a channel that serves: READ_PARAM of a parameter that exists returns its value in the source set, for LA_GV and
LA_GT the gains stored or computed, inline up to 232 bytes and in bulk above; GET_SET_INFO and READ_SET report;
WRITE_PARAM of an operational parameter whose value and set pass the checks stages the set with that record; a safety
parameter is refused with SAFETY_PARAM and nothing staged. (R272, R273, R383, R385, R386) -/
def Obligations.ParameterAccess : Prop :=
  (∀ ch src pid inst sub s d ps, Serves ch s → Admits true false false false s → src ≤ 3 → findDef pid = some d →
    inst < d.inst.count → sub < d.subs → (src = 1 → (s.trans ch).isSome = true) → sourceSet ch src (begun ch s) = some ps →
    let v := if pid = Pid.LA_GV ∨ pid = Pid.LA_GT then
        match laGainOf (begun ch s) ps pid inst with | some g => leBytes 2 g.1 ++ leBytes 2 g.2 | none => []
      else (prmB ps pid inst sub).getD []
    exec (.readParam ch src pid inst sub) s = .next (reports ch 0x0307 (fun _ =>
      if v.length ≤ 232 then okRsp (leBytes 2 v.length ++ leBytes 2 0 ++ v) else okRsp (leBytes 2 v.length ++ leBytes 2 0) v) s))
  ∧ (∀ ch s, Serves ch s → Admits true false false false s → exec (.getSetInfo ch) s = .next (reports ch 0x0308
    (fun b => okRsp (leBytes 4 (checkValue b.ps) ++ leBytes 1 (bit b.confirmed) ++ leBytes 3 0 ++ confirmBytes b.ssv.conf
      ++ leBytes 4 (slotCheck b.sets.slotA) ++ leBytes 4 (slotCheck b.sets.slotB)
      ++ leBytes 1 (bit b.sets.slotA.isSome + 2 * bit b.sets.slotB.isSome) ++ leBytes 3 0)) s))
  ∧ (∀ ch src part off s ps, Serves ch s → Admits true false false false s → src ≤ 3 → part ≤ 1 →
    (src = 1 → (s.trans ch).isSome = true) → sourceSet ch src (begun ch s) = some ps → off ≤ (serialise ps (part == 0)).length →
    exec (.readSet ch src part off) s = .next (reports ch 0x0309
      (fun _ => okRsp (leBytes 4 (serialise ps (part == 0)).length) ((serialise ps (part == 0)).drop off)) s))
  ∧ (∀ ch inst sub val s (d : PDef), Serves ch s → Admits false true false false s → findDef d.pid = some d → d.safety = false →
    val ≠ [] → val.length ≤ 4096 → valueStatus { pid := d.pid, inst := inst, sub := sub, val := val } = Sts.OK →
    let ps := normalSet (putRec { pid := d.pid, inst := inst, sub := sub, val := val } s.comNext)
    crossStatus ps = Sts.OK → changeLock s d.pid inst = Sts.OK →
    exec (.writeParam ch d.pid inst sub val) s = .next (awaits ch 0x030A s (stageParam ch ps (begun ch s))))
  ∧ ∀ ch inst sub val s (d : PDef), Serves ch s → Admits false true false false s → findDef d.pid = some d → d.safety = true →
    val ≠ [] → val.length ≤ 4096 →
    exec (.writeParam ch d.pid inst sub val) s = .next (reports ch 0x030A (fun _ => rspOf Sts.SAFETY_PARAM) s)

/-- Where a channel may command an axis, and the axis is in a mode that takes the command, with operands in range:
MOVE to a target inside the limits, JOG, STOP, GEAR and STEP_FOLLOW from standstill in PTP mode, and SET_LIMITS within
the hard limits are staged for the next control-cycle start, and the response waits for it. (R20, R66, R72, R73, R76,
R86, R89, R94, R378, R380) -/
def Obligations.MotionCommandsStage : Prop :=
  (∀ ch n way target s, MayMove ch n true s → takesMotion (s.ax n).mode = true → way ≤ 2 →
    targetBad s.ps n (s.ax n) target = false →
    exec (.move ch n way target) s = .next (stages ch 0x0401 (s.axSc n) n (.move way target) s))
  ∧ (∀ ch n dir s, MayMove ch n true s → takesMotion (s.ax n).mode = true → dir ≤ 1 →
    exec (.jog ch n dir) s = .next (stages ch 0x0402 (s.axSc n) n (.jog (if dir = 0 then 1 else -1)) s))
  ∧ (∀ ch n s, MayMove ch n false s → takesMotion (s.ax n).mode = true →
    exec (.stop ch n) s = .next (stages ch 0x0403 (s.axSc n) n .stop s))
  ∧ (∀ ch n m source align num den pA mA s, MayMove ch n true s → (s.ax n).mode = .ptp → (s.ax n).atRest = true → m ≤ 63 →
    source ≤ 1 → align ≤ 1 → 0 < den → den < 2 ^ 32 → n ≠ m → n ∉ masters s 64 m → chainLinks s n m ≤ 4 →
    exec (.gear ch n m source align num den pA mA) s
      = .next (stages ch 0x0405 (s.axSc n) n (.gear m (source == 1) (align == 1) num den pA mA) s))
  ∧ (∀ ch n p invert s, MayMove ch n true s → (s.ax n).mode = .ptp → (s.ax n).atRest = true → axType s.ps n ≠ .virtual →
    (prm s.ps Pid.STEP_INC n 0).isSome = true → p ≤ 7 → invert ≤ 1 → pairHeld ch n p s = false →
    exec (.stepFollow ch n p invert) s = .next (stages ch 0x0406 (s.axSc n) n (.stepFollow p (invert == 1)) s))
  ∧ ∀ ch n mask v a d j s, Serves ch s → Admits false true false false s → n < 64 → Owns ch (s.axSc n) s → mask ≤ 15 →
    (mask.testBit 0 = true → 65536 ≤ v ∧ v ≤ 262144000 ∧ v ≤ prmN s.ps Pid.V_HARD n) →
    (mask.testBit 1 = true → 1 ≤ a ∧ a ≤ 2 ^ 30 ∧ a ≤ prmN s.ps Pid.A_HARD n) →
    (mask.testBit 2 = true → 1 ≤ d ∧ d ≤ 2 ^ 30 ∧ d ≤ prmN s.ps Pid.D_HARD n ∧ prmN s.ps Pid.SS_DECEL n ≤ d) →
    (mask.testBit 3 = true → 1 ≤ j ∧ j ≤ 16777215 * 256 ∧ j ≤ prmN s.ps Pid.J_HARD n) →
    exec (.setLimits ch n mask v a d j) s = .next (stages ch 0x0404 (s.axSc n) n (.setLimits mask v a d j) s)

/-- On a channel that serves: GET_AXIS and GET_MOVE_PLAN report for each of the 64 axes; CLEAR_AXIS_FLAGS clears the
flags its mask names; with authority, STAGE_READ to a port without an outstanding READ puts the READ in the port's
control channel and its response waits; DL_RESET of ports whose axes are DISABLED is noted for the next control-cycle
start. (R16, R75, R99, R312, R314) -/
def Obligations.AxisReadsAndLinks : Prop :=
  (∀ ch n s, Serves ch s → Admits true false false false s → n < 64 → exec (.getAxis ch n) s = .next (reports ch 0x0408
    (fun b => okRsp (memRead b.ldg.mem (b.snapBase + 0x40 + 64 * n) 64)) s))
  ∧ (∀ ch n s, Serves ch s → Admits true false false false s → n < 64 → exec (.getMovePlan ch n) s = .next (reports ch 0x0409
    (fun b => okRsp (planFields ((b.ax n).lastPlan.getD {}))) s))
  ∧ (∀ ch n mask s, Serves ch s → Admits false false false false s → n < 64 → mask < 512 →
    exec (.clearAxisFlags ch n mask) s = .next (does ch 0x040A (fun _ => okRsp)
      (fun b => b.mdAx n (AxisSt.clearFlags mask)) s))
  ∧ (∀ ch p addr s, Serves ch s → Admits false true false false s → p < 36 → addr < 2 ^ 16 → (s.port p).ctl = none →
    exec (.stageRead ch p addr) s = .next (awaits ch 0x040B s ((begun ch s).mdPort p fun x => { x with
      ctl := some (ch, x.ctlTag, addr, 0), ctlTag := if x.ctlTag = 255 then 1 else x.ctlTag + 1
      ctlSeq := some (s.chan ch).expect_ })))
  ∧ ∀ ch ports s, Serves ch s → Admits false true false false s → ports < 2 ^ 36 →
    (∀ p ∈ portsOf ports, ∀ e ∈ portAxes s.ps p, (s.ax e.2.2).fn = .disabled) →
    exec (.dlReset ch ports) s = .next (does ch 0x040C (fun b => effectRsp b.effectAt)
      (fun b => { b with fw := { b.fw with
        dlReset := some (b.effectAt, ports ||| (match b.fw.dlReset with | some x => x.2 | none => 0)) } }) s)

/-- On a channel that serves, with authority and a confirmed set, an ENABLE of a scope that is SHUTTING_DOWN and that
the channel may command is answered BUSY_SHUTDOWN; so is the CHANNEL_ENABLE of a cell-bus channel that is
SHUTTING_DOWN and the PAIR_BEGIN of a pairing that is; nothing is staged and nothing else changes. (R29) -/
def Obligations.EnableWhileShuttingDown : Prop :=
  (∀ ch scope k s, Serves ch s → Admits false true true false s → scopeField s.ps scope = some k → Owns ch k s →
    (s.sc k).fn = .shuttingDown →
    exec (.enable ch scope) s = .next (reports ch 0x0501 (fun _ => rspOf Sts.BUSY_SHUTDOWN) s))
  ∧ (∀ ch cb s, Serves ch s → Admits false true false false s → prmN s.ps Pid.CB_EN 0 = 1 → cb ≤ 1 →
    (vrd s.ttc.ch cb).fn = .shuttingDown →
    exec (.channelEnable ch cb) s = .next (reports ch 0x0903 (fun _ => rspOf Sts.BUSY_SHUTDOWN) s))
  ∧ ∀ ch s, Serves ch s → Admits false true false false s → (s.fw.unpairAt.isSome = true ∨ s.mlc.unpairing.isSome = true) →
    exec (.pairBegin ch) s = .next (reports ch 0x0A03 (fun _ => rspOf Sts.BUSY_SHUTDOWN) s)

/-- On a channel that serves, with authority: an ENABLE of a scope that may be enabled is staged; an ENABLE of a scope
that is ENABLED already answers OK and changes nothing else; a DISABLE is staged in every state of the scope. (R20,
R30, R252, R372, R378) -/
def Obligations.EnableAndDisable : Prop :=
  (∀ ch scope k s, Serves ch s → Admits false true true false s → scopeField s.ps scope = some k → MayEnable k s →
    exec (.enable ch scope) s = .next (stages ch 0x0501 k 64 .enable s))
  ∧ (∀ ch scope k s, Serves ch s → Admits false true true false s → scopeField s.ps scope = some k → Owns ch k s →
    (s.sc k).fn = .enabled → exec (.enable ch scope) s = .next (reports ch 0x0501 (fun b => effectRsp b.cyc.t0) s))
  ∧ ∀ ch scope k s, Serves ch s → Admits false true false false s → scopeField s.ps scope = some k → Owns ch k s →
    exec (.disable ch scope) s = .next (stages ch 0x0502 k 64 (.disable Sts.OK) s)

/-- On a channel that serves and may command the arm: ENTER_PLANNED with every joint in PTP mode, at rest and HOMED,
and LEAVE_PLANNED of an arm in planned motion, are staged; SET_PATH with a whole-period start and 2 to 36 entries of
all joints puts the path in the buffer for the next solve and answers its generation, the path that governs now being
as before. (R71, R96, R185, R205, R388) -/
def Obligations.PlannedMotionCommands : Prop :=
  (∀ ch scope k s, Serves ch s → Admits false true true false s → scopeField s.ps scope = some k → k < 8 → Owns ch k s → Free k s →
    (s.plr k).planned = false → s.scAxes k ≠ [] →
    (∀ n ∈ s.scAxes k, axType s.ps n ≠ .virtual ∧ (s.ax n).mode = .ptp ∧ (s.ax n).atRest = true ∧ (s.ax n).pos = .homed) →
    exec (.enterPlanned ch scope) s = .next (stages ch 0x0504 k 64 .enterPlanned s))
  ∧ (∀ ch scope k s, Serves ch s → Admits false true false false s → scopeField s.ps scope = some k → k < 8 → Owns ch k s → Free k s →
    (s.plr k).planned = true → exec (.leavePlanned ch scope) s = .next (stages ch 0x0505 k 64 .leavePlanned s))
  ∧ ∀ ch scope k bulk s, Serves ch s → Admits false true false false s → scopeField s.ps scope = some k → k < 8 → Owns ch k s →
    let count := uAt bulk 8 1
    let joints := uAt bulk 9 1
    16 ≤ bulk.length → uAt bulk 10 6 = 0 → bulk.length = 16 + 16 * (count * joints) → uAt bulk 0 8 % 62500 = 0 → 2 ≤ count → count ≤ 36 →
    joints = (s.scAxes k).length →
    ∃ t, exec (.setPath ch scope bulk) s = .next t ∧ (t.plr k).pathNext = some (pathEntries joints bulk 16 count)
      ∧ (t.plr k).pathTNext = uAt bulk 0 8 ∧ (t.plr k).pathGen = ((s.plr k).pathGen + 1) % 2 ^ 32
      ∧ (t.chan ch).rsp = okRsp (leBytes 4 (t.plr k).pathGen) ∧ (t.plr k).path = (s.plr k).path ∧ t.axes = s.axes

/-- On a channel that serves with authority, FAULT_ACK of a DISABLED scope with a fault to acknowledge whose cause no
longer stands clears the fault's level and status; where nothing is to be acknowledged it answers OK and changes
nothing else; while the cause stands it answers FAULT_PRESENT and changes nothing else. (R33, R270) -/
def Obligations.FaultAcknowledged : Prop :=
  ∀ ch scope k s, Serves ch s → Admits false true false false s → scopeField s.ps scope = some k →
    ((s.sc k).ackDue = true → (s.sc k).fn = .disabled → causeStands s k = false →
      exec (.faultAck ch scope) s = .next (does ch 0x0503 (fun _ => okRsp)
        (fun b => b.mdSc k fun c => { c with ackDue := false, level := 0, status := Sts.OK, rank := 0 }) s))
    ∧ ((s.sc k).ackDue = false → exec (.faultAck ch scope) s = .next (reports ch 0x0503 (fun _ => okRsp) s))
    ∧ ((s.sc k).ackDue = true → causeStands s k = true →
      exec (.faultAck ch scope) s = .next (reports ch 0x0503 (fun _ => rspOf Sts.FAULT_PRESENT) s))

/-- On a channel that serves with authority: HANDOVER by the owner to a channel notes the offer and leaves the owner;
HANDOVER to the cell bus binds the scope to the value at once; ACCEPT_HANDOVER by the channel an offer names makes it
the owner and ends the offer; RECLAIM takes a bound scope back for the session. A second session that does not own an
ENABLED scope is refused DISABLE with NOT_OWNER and changes nothing else. (R341, R372, R389) -/
def Obligations.OwnershipMoves : Prop :=
  (∀ ch scope k target value s, Serves ch s → Admits false true false false s → scopeField s.ps scope = some k →
    (s.sc k).owner = some ch → (s.sc k).bound = none → target < 4 → value ≤ 511 → k < 72 →
    ∃ t, exec (.handover ch scope target value) s = .next t ∧ (t.chan ch).rsp = okRsp ∧ (t.sc k).owner = some ch
      ∧ (t.sc k).offer = some target ∧ (∀ j, j ≠ k → t.sc j = s.sc j) ∧ t.axes = s.axes)
  ∧ (∀ ch scope k value s, Serves ch s → Admits false true false false s → scopeField s.ps scope = some k →
    (s.sc k).owner = some ch → (s.sc k).bound = none → value ≤ 511 → k < 72 →
    ∃ t, exec (.handover ch scope 4 value) s = .next t ∧ (t.chan ch).rsp = okRsp ∧ (t.sc k).owner = none
      ∧ (t.sc k).bound = some value ∧ (t.sc k).offer = none ∧ (∀ j, j ≠ k → t.sc j = s.sc j) ∧ t.axes = s.axes)
  ∧ (∀ ch scope k s, Serves ch s → Admits false true false false s → scopeField s.ps scope = some k → k < 72 →
    (s.sc k).offer = some ch →
    ∃ t, exec (.acceptHandover ch scope) s = .next t ∧ (t.chan ch).rsp = okRsp ∧ (t.sc k).owner = some ch
      ∧ (t.sc k).offer = none ∧ (∀ j, j ≠ k → t.sc j = s.sc j) ∧ t.axes = s.axes)
  ∧ (∀ ch scope k s, Serves ch s → Admits false true false false s → scopeField s.ps scope = some k →
    (s.sc k).bound.isSome = true → exec (.reclaim ch scope) s = .next (does ch 0x0509 (fun _ => okRsp)
      (fun b => b.mdSc k fun c => { c with owner := some ch, bound := none, offer := none }) s))
  ∧ ∀ ch d scope k s, Serves ch s → Admits false true false false s → scopeField s.ps scope = some k →
    (s.sc k).owner = some d → d ≠ ch →
    exec (.disable ch scope) s = .next (reports ch 0x0502 (fun _ => rspOf Sts.NOT_OWNER) s)

/-- On a channel that serves, also in F3: GET_ARM reports for a scope; GET_RESULT, GET_PLAN, GET_SIZING, GET_VERDICT
and GET_STOP_TEST report for each of the 8 arms; GET_OBJECTS reports the 64 object slots; GET_SSM_STAT reports and
clears the sensors' counters; outside F3 CLEAR_SSM_FLAGS clears the flags of SSM_STAT. (R211, R212, R213, R214, R235,
R236, R241, R243) -/
def Obligations.PlannerAndSeparationReads : Prop :=
  (∀ ch scope k s, Serves ch s → Admits true false false false s → scopeField s.ps scope = some k →
    exec (.getArm ch scope) s = .next (reports ch 0x050A (fun b => okRsp (leBytes 1 (b.sc k).fn.code
      ++ leBytes 1 (ownerCode (b.sc k)) ++ leBytes 2 0 ++ (if k < 8
        then leBytes 16 (ssmVerdict (b.ssmArm k)) ++ leBytes 16 (b.plr k).res.word ++ leBytes 8 (ssvArm b k)
        else leBytes 16 (ssmVerdict {}) ++ leBytes 16 (QtResult.word {}) ++ leBytes 8 0))) s))
  ∧ (∀ ch k s, Serves ch s → Admits true false false false s → k < 8 →
    exec (.getResult ch k) s = .next (reports ch 0x0601 (fun b => okRsp (leBytes 16 (b.plr k).res.word)) s)
    ∧ exec (.getVerdict ch k) s = .next (reports ch 0x0701 (fun b => okRsp (leBytes 16 (ssmVerdict (b.ssmArm k)))) s)
    ∧ exec (.getSizing ch k) s = .next (reports ch 0x0603 (fun b => okRsp ((List.range 11).flatMap (fun c =>
        leBytes 1 (classM b.ps k c)) ++ leBytes 1 0 ++ leBytes 4 (armMacs b.ps k) ++ leBytes 1 (sizingLoad b.ps k) ++ leBytes 3 0)) s)
    ∧ exec (.getStopTest ch k) s = .next (reports ch 0x0705 (fun b => let m := (b.ssmArm k).lastStop
        okRsp (leBytes 4 (min m.1 (2 ^ 32 - 1)) ++ leBytes 4 (min m.2.1 (2 ^ 32 - 1)) ++ leBytes 1 m.2.2.1 ++ leBytes 3 0
          ++ leBytes 8 m.2.2.2)) s)
    ∧ ∀ slot ≤ 1, exec (.getPlan ch k slot) s = .next (reports ch 0x0602 (fun b => okRsp [] (memRead b.ldg.mem
        (slotAddr k (if slot = 0 then (b.plr k).shownSlot else 1 - (b.plr k).shownSlot)) 0x8000)) s))
  ∧ (∀ ch s, Serves ch s → Admits true false false false s →
    exec (.getObjects ch) s = .next (reports ch 0x0706 (fun b => okRsp [] ((objectSlots b
      ++ List.replicate (64 - (objectSlots b).length) (leBytes 40 0)).take 64).flatten) s)
    ∧ exec (.getSsmStat ch) s = .next (does ch 0x0702
      (fun b => okRsp (leBytes 4 (ssmStat b.ssm) ++ leBytes 4 0 ++ (vlist b.ssm.sensors).flatMap fun x => leBytes 8 (safeCnt x)))
      (fun b => { b with ssm := { b.ssm with sensors := vmapI b.ssm.sensors fun _ x =>
        { x with cResync := 0, cTime := 0, cSeq := 0, cId := 0, cScrc := 0 } } }) s))
  ∧ ∀ ch s, Serves ch s → Admits false false false false s → exec (.clearSsmFlags ch) s = .next (does ch 0x0707 (fun _ => okRsp)
    (fun b => { b with ssm := { b.ssm with
      coded := false, xchkFail := false, quotaRej := false, stampRej := false, stopExc := false } }) s)

/-- Where a channel may command an axis that is not VIRTUAL and stands still in PTP mode, with operands in range, a
named mark inside the limits and fewer than eight running tickets, HOME answers ACCEPTED with a new ticket and stages
the homing under it. On a channel that serves and may command the arm: RESUME is staged; with fewer than eight running
tickets, STOP_TEST of a monitored, ENABLED and moving arm without stop requests and BRAKE_TEST of an ENABLED arm whose
joints stand still in PTP mode answer ACCEPTED with a new ticket and are staged under it. (R97, R233, R241, R257,
R370, R375, R387, R390) -/
def Obligations.HomingTestsAndResume : Prop :=
  (∀ ch n method dir gpio hasPos setPos homePos s, MayMove ch n false s → (s.ax n).mode = .ptp → (s.ax n).atRest = true →
    axType s.ps n ≠ .virtual → method ≤ 3 → dir ≤ 1 → gpio ≤ 15 → hasPos ≤ 3 →
    (method ≠ 0 → hasPos.testBit 1 = true → targetBad s.ps n { s.ax n with pos := .homed } homePos = false) →
    s.hif.running ch (s.chan ch).token < 8 →
    let k := newTicket ch 0x0407 (begun ch s)
    exec (.home ch n method dir gpio hasPos setPos homePos) s = .next (replies ch 0x0407 (acceptedRsp k.1) s
      (stageFor ch (s.axSc n) n false (.home method (if dir = 0 then 1 else -1) gpio
        (if method = 0 ∨ hasPos.testBit 0 = true then some setPos else none)
        (if method ≠ 0 ∧ hasPos.testBit 1 = true then some homePos else none) k.1) k.2)))
  ∧ (∀ ch k s, Serves ch s → Admits false true false false s → k < 8 → Owns ch k s →
    exec (.resume ch k) s = .next (stages ch 0x0703 k 64 .resume s))
  ∧ (∀ ch k s, Serves ch s → Admits false true true false s → k < 8 → Owns ch k s → monitored s.ps k = true →
    (s.sc k).fn = .enabled → armMoves s k = true → (s.sc k).prot = [] → (s.sc k).stop = .none → (s.sc k).sls = [] →
    s.hif.running ch (s.chan ch).token < 8 →
    let t := newTicket ch 0x0704 (begun ch s)
    exec (.stopTest ch k) s = .next (replies ch 0x0704 (acceptedRsp t.1) s (stageFor ch k 64 false (.stopTest t.1) t.2)))
  ∧ ∀ ch k s, Serves ch s → Admits false true false false s → k < 8 → Owns ch k s → (s.sc k).fn = .enabled →
    (s.sc k).seq = .running → (s.sc k).stop = .none → s.testing k = false → (s.plr k).planned = false →
    (∀ n ∈ s.scAxes k, (s.ax n).mode = .ptp ∧ (s.ax n).atRest = true) → s.hif.running ch (s.chan ch).token < 8 →
    let t := newTicket ch 0x0801 (begun ch s)
    exec (.brakeTest ch k) s = .next (replies ch 0x0801 (acceptedRsp t.1) s (stageFor ch k 64 false (.brakeTest t.1) t.2))

/-- On a channel that serves: ENTER_SERVICE with a passcode that opens, where an ENABLE input is configured, enters
SERVICE for SERVICE_T hours; LEAVE_SERVICE with nothing ENABLED or SHUTTING_DOWN leaves it; GET_SAFETY reports the
words of the arms, of the inputs and the confirmation record; CLEAR_SAFETY_FLAGS clears ENVELOPE_FAIL of every arm and
nothing else. (R275, R277, R280) -/
def Obligations.ServiceAndSafetyStatus : Prop :=
  (∀ ch eng pass s u, Serves ch s → Admits false true false false s → enableInput s.ps = true → s.ssv.mode ≠ .service →
    passTest eng pass (begun ch s) = (Sts.OK, u) →
    ∃ t, exec (.enterService ch eng pass) s = .next t ∧ t.ssv.mode = .service ∧ (t.chan ch).rsp = okRsp
      ∧ t.ssv.serviceTo = s.cyc.now + prmN s.ps Pid.SERVICE_T 0 * 3600 * sec ∧ t.ssv.scopes = s.ssv.scopes ∧ t.axes = s.axes)
  ∧ (∀ ch s, Serves ch s → Admits false true false false s → s.anyBusy = false → s.ssv.mode = .service →
    exec (.leaveService ch) s = .next (does ch 0x0803 (fun _ => okRsp) leaveServiceMode s))
  ∧ (∀ ch s, Serves ch s → Admits true false false false s → exec (.getSafety ch) s = .next (reports ch 0x0804
    (fun b => okRsp ((List.range 8).flatMap (fun k => leBytes 8 (ssvArm b k)) ++ leBytes 8 (ssvSi b) ++ confirmBytes b.ssv.conf)) s))
  ∧ ∀ ch s, Serves ch s → Admits false false false false s → exec (.clearSafetyFlags ch) s = .next (does ch 0x0805 (fun _ => okRsp)
    (fun b => { b with ssv := { b.ssv with scopes := vmapI b.ssv.scopes fun _ c => { c with envFail := false } } }) s)

/-- On a channel that serves: SET_ENGINEER with an engineer test that passes and room in the table stores the target
engineer with the SHA-256 of a salt and the new passcode, and audits it; REMOVE_ENGINEER of one of at least two
engineers takes it out and audits it; READ_AUDIT returns the kept records from its first number on, up to 7168 bytes.
(R275, R391). The salt is a free value (log 3). -/
def Obligations.EngineersAndAudit : Prop :=
  (∀ ch auth target authPass newPass s u, Serves ch s → Admits false false false false s → 0 < target → target < 2 ^ 32 →
    6 ≤ newPass.length → newPass.length ≤ 32 → authTest auth authPass (begun ch s) = (Sts.OK, u) →
    ((∃ e ∈ u.ssv.eng, e.id = target) ∨ u.ssv.eng.length < 32) →
    ∃ t, exec (.setEngineer ch auth target authPass newPass) s = .next t ∧ (t.chan ch).rsp = okRsp
      ∧ (∃ e ∈ t.ssv.eng, e.id = target ∧ e.hash = sha256 (e.salt ++ newPass) ∧ e.lockedTo = none ∧ e.fails = 0)
      ∧ (∀ e ∈ u.ssv.eng, e.id ≠ target → e ∈ t.ssv.eng) ∧ t.ssv.auditNext ≠ s.ssv.auditNext ∧ t.ps = s.ps)
  ∧ (∀ ch auth target authPass s u, Serves ch s → Admits false false false false s → 0 < target → target < 2 ^ 32 →
    authTest auth authPass (begun ch s) = (Sts.OK, u) → (∃ e ∈ u.ssv.eng, e.id = target) → 2 ≤ u.ssv.eng.length →
    ∃ t, exec (.removeEngineer ch auth target authPass) s = .next t ∧ (t.chan ch).rsp = okRsp
      ∧ t.ssv.eng = u.ssv.eng.filter (fun e => e.id != target) ∧ t.ssv.auditNext ≠ s.ssv.auditNext ∧ t.ps = s.ps)
  ∧ ∀ ch first s, Serves ch s → Admits true false false false s →
    let l := (s.ssv.audit.filter fun r => decide (first ≤ r.number)).take (7168 / 32)
    exec (.readAudit ch first) s = .next (reports ch 0x0808 (fun b => okRsp
      (leBytes 4 (match l.getLast? with | some r => r.number + 1 | none => b.ssv.auditNext)) (l.flatMap AuditRec.bytes)) s)

/-- On a channel that serves, with authority and the cell bus configured, a SET_TIME_OF_DAY within the range of cell
time that arrives while any arm or auxiliary axis is ENABLED or SHUTTING_DOWN is answered TIME_IN_USE and changes
nothing else. (R51) -/
def Obligations.TimeInUse : Prop :=
  ∀ ch seconds k s, Serves ch s → Admits false true false false s → prmN s.ps Pid.CB_EN 0 = 1 → seconds ≤ maxSeconds → k < 72 →
    ((s.sc k).fn = .enabled ∨ (s.sc k).fn = .shuttingDown) → exec (.setTimeOfDay ch seconds) s
      = .next (reports ch 0x0901 (fun _ => rspOf Sts.TIME_IN_USE) s)

/-- On a channel that serves, with the cell bus configured: SET_TIME_OF_DAY with nothing enabled sets the shift for
the next multiple of 4 ms; MODE_CHANGE to another valid mode is accepted and waits; CHANNEL_ENABLE and CHANNEL_DISABLE
are staged; APPLY_CALIBRATION starts to move the delays in use; WRITE_VALUE with the length of its slot stores the
value with its stamp; READ_VALUE, GET_TTC, CLEAR_TTC and GET_CALIBRATION report, and the counters of the channels are
cleared by GET_TTC and CLEAR_TTC, GET_TTC clearing PPSIN_REJ as well. (R50, R336, R339, R340, R342, R346, R347, R349,
R370) -/
def Obligations.CellBusCommands : Prop :=
  (∀ ch seconds s, Serves ch s → Admits false true false false s → prmN s.ps Pid.CB_EN 0 = 1 → seconds ≤ maxSeconds →
    s.anyBusy = false → exec (.setTimeOfDay ch seconds) s = .next (does ch 0x0901 (fun _ => okRsp) (fun b =>
      let due := nextAfter (4 * ms) b.cyc.now
      { b with tb := { b.tb with todShift := some (due, (seconds : Int) - (due / sec : Nat)) } }) s))
  ∧ (∀ ch m s, Serves ch s → Admits false true false false s → prmN s.ps Pid.CB_EN 0 = 1 → m ≤ 15 → cbValid s.ttc.ps m = true →
    m ≠ s.ttc.mode → s.ttc.mc.want = none → s.hif.running ch (s.chan ch).token < 8 →
    let k := newTicket ch 0x0902 (begun ch s)
    exec (.modeChange ch m) s = .next (replies ch 0x0902 (acceptedRsp k.1) s
      { k.2 with ttc := { k.2.ttc with mc := { k.2.ttc.mc with want := some (m, k.1) } } }))
  ∧ (∀ ch cb s, Serves ch s → Admits false true false false s → prmN s.ps Pid.CB_EN 0 = 1 → cb ≤ 1 →
    ((vrd s.ttc.ch cb).fn = .disabled → exec (.channelEnable ch cb) s = .next (stages ch 0x0903 72 64 (.chanEnable cb) s))
    ∧ ((vrd s.ttc.ch cb).fn = .enabled → exec (.channelEnable ch cb) s = .next (reports ch 0x0903 (fun b => effectRsp b.cyc.t0) s))
    ∧ exec (.channelDisable ch cb) s = .next (stages ch 0x0904 72 64 (.chanDisable cb) s))
  ∧ (∀ ch s, Serves ch s → Admits false false false false s → prmN s.ps Pid.CB_EN 0 = 1 →
    exec (.applyCalibration ch) s = .next (does ch 0x0905 (fun _ => okRsp)
      (fun b => raiseEv 93 Sts.OK b.node 0 0 { b with ttc := { b.ttc with applying := true } }) s)
    ∧ exec (.clearTtc ch) s = .next (does ch 0x0909 (fun _ => okRsp) cbErrClear s))
  ∧ (∀ ch v data s, Serves ch s → Admits false true false false s → prmN s.ps Pid.CB_EN 0 = 1 → v ≤ 511 →
    (∀ l, txSlotLen s v = some l → data.length = l) →
    exec (.writeValue ch v data) s = .next (does ch 0x0906 (fun b => okRsp (leBytes 8 (b.cyc.now / ns)))
      (fun b => writeTx v data b.cyc.now ch b) s))
  ∧ (∀ ch v s, Serves ch s → Admits true false false false s → v ≤ 511 → exec (.readValue ch v) s = .next (reports ch 0x0907
    (fun b =>
      let slotless := decide (0 < b.ttc.t0) && b.cbNow.all fun x => !(x.rx && x.value == v)
      let r := (rxOf b.ttc.rxOut v).getD { num := v, noSlot := slotless }
      okRsp [] (leBytes 8 (rxWord r) ++ r.stamp.bytes ++ r.data)) s))
  ∧ (∀ ch s, Serves ch s → Admits true false false false s → exec (.getTtc ch) s = .next (does ch 0x0908
    (fun b => okRsp (leBytes 4 (ttcStat b.ttc) ++ leBytes 4 b.tb.status ++ leBytes 8 (cbErrWord (vrd b.ttc.ch 0).err)
      ++ leBytes 8 (cbErrWord (vrd b.ttc.ch 1).err))) (fun b => cbErrClear { b with tb := { b.tb with ppsInRej := 0 } }) s))
  ∧ ∀ ch cb s, Serves ch s → Admits true false false false s → cb ≤ 1 → exec (.getCalibration ch cb) s = .next (reports ch 0x090A
    (fun b => okRsp [] ((List.range 32).flatMap fun j =>
      leBytes 2 ((vrd b.ttc.cal (32 * cb + j)).measured.getD 0) ++ leBytes 2 (cbDelay b j cb))) s)

/-- On a channel that serves: GET_PAIR reports; on an active unit with a Shadow that is ready, CASTLE is accepted and
sends CASTLE_PREP; with a joining Shadow that awaits pairing, PAIR_BEGIN is accepted and starts the transfer;
PAIR_CONFIRM within its time, with matching check values and a passcode that opens, gives both units a new secret and
makes the Shadow TRACKING; UNPAIR of an active unit abandons a pairing under way and is noted for the next
control-cycle start. (R419, R422, R423, R425, R427). The secret is a free value (log 3). -/
def Obligations.RedundancyCommands : Prop :=
  (∀ ch s, Serves ch s → Admits true false false false s →
    exec (.getPair ch) s = .next (reports ch 0x0A01 (fun b => okRsp [] (pairStat b)) s))
  ∧ (∀ ch s, Serves ch s → Admits false true true false s → s.mlc.role = .active → castleReady s = true → s.mlc.castle = none →
    s.hif.running ch (s.chan ch).token < 8 →
    let k := newTicket ch 0x0A02 (begun ch s)
    exec (.castle ch) s = .next (replies ch 0x0A02 (acceptedRsp k.1) s (castleStart k.1 k.2)))
  ∧ (∀ ch s, Serves ch s → Admits false true false false s → s.mlc.role = .active → s.mlc.shadow = .joining → s.mlc.cause = 1 →
    s.fw.unpairAt = none → s.mlc.unpairing = none → s.mlc.transfer = none → s.hif.running ch (s.chan ch).token < 8 →
    let k := newTicket ch 0x0A03 (begun ch s)
    let n := (pairBytes s).length
    exec (.pairBegin ch) s = .next (replies ch 0x0A03 (acceptedRsp k.1) s (sendParams (n / 4096 + 1) 0 n
      { k.2 with mlc := { k.2.mlc with transfer := some (k.1, n), pairBy := none, peerCheck := 0 } })))
  ∧ (∀ ch eng pass c by_ s u, Serves ch s → Admits false true false false s → s.mlc.shadow = .joining → s.mlc.pairBy = some by_ →
    s.cyc.now < by_ → s.ssv.conf = some c → c.check = s.mlc.peerCheck → passTest eng pass (begun ch s) = (Sts.OK, u) →
    ∃ t, exec (.pairConfirm ch s.mlc.peerCheck eng pass) s = .next t ∧ (t.chan ch).rsp = okRsp
      ∧ t.mlc.secret = some (leBytes 32 (Config.entropy u.fresh).toNat) ∧ t.mlc.shadow = .tracking ∧ t.mlc.pairBy = none
      ∧ t.mlc.transfer = none ∧ t.ps = s.ps)
  ∧ ∀ ch s, Serves ch s → Admits false true false false s → s.mlc.role = .active → s.mlc.unpairing = none →
    exec (.unpair ch) s = .next (does ch 0x0A05 (fun b => effectRsp b.effectAt)
      (fun b => { abandonPairing b with fw := { (abandonPairing b).fw with unpairAt := some b.effectAt } }) s)

/-- On a channel that serves: START_CAPTURE with fields in range and room for its area puts the capture there and
answers its number, area and size; STOP_CAPTURE of a running ring by its own session lets it take its last samples,
and of a running one-shot capture stops it. START_INJECTION with fields in range on an axis that is ENABLED in PTP
mode at rest, with no run on its scope, room for its capture and a free ticket answers ACCEPTED and stages the run;
STOP_INJECTION of a run of this session ends it; GET_FRF of a result that exists returns its header and the entries
asked for and changes no axis. (R149, R150, R151, R152, R153, R156, R370, R392) -/
def Obligations.CaptureAndInjection : Prop :=
  (∀ ch n kind div count sel s p, Serves ch s → Admits false true false false s → n ≤ 63 → kind ≤ 1 → 1 ≤ div → div ≤ 256 →
    1 ≤ count → count < 2 ^ 32 → selCodes sel ≠ [] → (∀ x ∈ selCodes sel, x ≤ 15) →
    let c : CapSt := { axis := n, ring := kind == 1, div := div, count := count, sel := selCodes sel, by_ := (ch, (s.chan ch).token) }
    s.place c.bytes = some p →
    exec (.startCapture ch n kind div count sel) s = .next (does ch 0x0B01
      (fun _ => okRsp (leBytes 1 p.1 ++ leBytes 3 0 ++ leBytes 4 p.2.1 ++ leBytes 4 c.bytes)) (putCap c p) s))
  ∧ (∀ ch i c s, Serves ch s → Admits false false false false s → s.cap i = some c → c.by_.1 = ch → c.stopped = false →
    exec (.stopCapture ch i) s = .next (does ch 0x0B02 (fun _ => okRsp (leBytes 4 c.n))
      (fun b => if c.ring then { b with fw := { b.fw with caps := vwr b.fw.caps i (some { c with post := some (c.post.getD c.count) }) } }
        else stopCap i Sts.OK b) s))
  ∧ (∀ ch n point signal prbsN amp clkDiv sc len m x y bins s p, Serves ch s → Admits false true false false s → n < 64 →
    Owns ch (s.axSc n) s →
    let r := injOf n point signal prbsN amp clkDiv sc len m x y bins
    let c : CapSt := { axis := n, count := r.total, sel := [x, y], by_ := (ch, (s.chan ch).token), extra := 32 + 8 * bins.length }
    injBad s.ps r clkDiv len = false → injMode n s = true → vrd s.fw.inj (s.axSc n) = none → s.place c.bytes = some p →
    s.hif.running ch (s.chan ch).token < 8 → s.axSc n < 72 →
    ∃ t g, exec (.startInjection ch n point signal prbsN amp clkDiv sc len m x y bins) s = .next t
      ∧ (t.chan ch).rsp = acceptedRsp s.hif.ticketNext (leBytes 1 p.1 ++ leBytes 3 0)
      ∧ t.fw.staged = s.fw.staged ++ [g] ∧ g.cmd = .inject ∧ g.scope = s.axSc n ∧ g.axis = n ∧ g.at_ = s.effectAt
      ∧ vrd t.fw.inj (s.axSc n) = some { r with ticket := s.hif.ticketNext, cap := p.1, by_ := (ch, (s.chan ch).token) }
      ∧ t.axes = s.axes)
  ∧ (∀ ch k r s, Serves ch s → Admits false false false false s → k < 8 → vrd s.fw.inj k = some r → r.by_.1 = ch →
    exec (.stopInjection ch k) s = .next (does ch 0x0B04 (fun _ => okRsp) (endInjection k Sts.OK) s))
  ∧ ∀ ch n first count r s, Serves ch s → Admits true false false false s → n < 64 → vrd s.fw.frf n = some r → count ≤ 892 →
    first + count ≤ r.bins.length →
    ∃ t, exec (.getFrf ch n first count) s = .next t
      ∧ (t.chan ch).rsp = okRsp [] (r.at_.bytes ++ leBytes 4 r.len
        ++ leBytes 2 r.bins.length ++ leBytes 1 r.m ++ leBytes 1 r.dropped ++ leBytes 1 r.xy.1 ++ leBytes 1 r.xy.2 ++ leBytes 6 0
        ++ ((r.bins.drop first).take count).flatMap (·.bytes))
      ∧ t.fw.frf = s.fw.frf ∧ t.axes = s.axes ∧ t.ssv = s.ssv

/-- On a channel that serves, in every state of the controller, GET_LIFECYCLE reports; RETIRE with its key, an
engineer's passcode and nothing ENABLED makes the part RETIRED, takes its authority and leaves no confirmed set;
SELF_TEST of a unit in service that has a spare, or of a spare, is accepted and takes the unit out of service for its
test. (R448, R456, R461, R462, R463) -/
def Obligations.LifeCycleCommands : Prop :=
  (∀ ch s, Serves ch s → exec (.getLifecycle ch) s = .next (reports ch 0x0C01 (fun b => okRsp (leBytes 4 b.hlt.fuses.lifecycle
    ++ leBytes 1 b.modeCode ++ leBytes 1 b.ldg.wipeCause ++ leBytes 2 0 ++ leBytes 1 b.hlt.fuses.repairs.length ++ leBytes 3 0)) s))
  ∧ (∀ ch eng pass s u, Serves ch s → Admits false false false false s → s.anyBusy = false →
    passTest eng pass (begun ch s) = (Sts.OK, u) →
    ∃ t, exec (.retire ch eng 0x6408 pass) s = .next t ∧ t.hlt.fuses.state = 2 ∧ t.ssv.conf = none ∧ t.ssv.eng = []
      ∧ t.dl.authority = false ∧ t.ldg.wipeCause = 4)
  ∧ ∀ ch cls idx s, Serves ch s → Admits false true false false s → isUnit cls idx = true → (s.unit cls idx).st ≠ .retired →
    (s.unit cls idx).st ≠ .suspect → ((s.unit cls idx).st = .inService → hasPool cls = true → (s.spareFor cls idx).isSome = true) →
    s.hif.running ch (s.chan ch).token < 8 →
    let k := newTicket ch 0x0C03 (begun ch s)
    exec (.selfTest ch cls idx) s = .next (replies ch 0x0C03 (acceptedRsp k.1) s (suspect cls idx Sts.OK (some k.1) k.2))

/-- A relabel that is due takes the multiple k of 4 ms nearest to its offset, halves toward zero. Where k is not 0 it
moves cell time back by k at its instant, raises E127, and leaves the remainder of the offset to the slew term; with k
= 0, and while an arm or auxiliary axis is ENABLED or SHUTTING_DOWN, an enable takes effect at the instant, or
RELABEL_EN is 0, cell time only reaches the instant. In every case the relabel is no longer due. (R45, R47, R48) -/
def Obligations.RelabelMovesCellTime : Prop :=
  ∀ (s : State) (due tau : Time) (theta : Int), s.tb.relabel = some (due, theta, tau) → s.cyc.now ≤ due →
    ∃ (t : State) (k : Int), exec .relabel s = .next t ∧ t.tb.relabel = none
      ∧ 2 * (theta - k * (4 * ms : Nat)).natAbs ≤ 4 * ms
      ∧ (2 * (theta - k * (4 * ms : Nat)).natAbs = 4 * ms → (k * (4 * ms : Nat)).natAbs ≤ theta.natAbs)
      ∧ (mayRelabel s due = true → s.tb.relabelEn = true → k ≠ 0 →
          (k * (4 * ms : Nat) ≤ (due : Int) → (t.cyc.now : Int) = (due : Int) - k * (4 * ms : Nat))
          ∧ t.hif.logNext = (s.hif.logNext + 1) % 2 ^ 32
          ∧ t.tb.slew = clampI (-slewLim s) (slewLim s) (-overTau (theta - k * (4 * ms : Nat)) tau 1))
      ∧ (k = 0 ∨ mayRelabel s due = false ∨ s.tb.relabelEn = false → t = { s.upTo due with tb := { s.tb with relabel := none } })

/-- A time-of-day shift that is due moves cell time by whole seconds and raises E127 where nothing is enabled. Four
cell cycles without an offset, or 1.5 s without a pulse, or both with the two sources, take an ACQUIRING or LOCKED
time base to HOLDOVER with slew term 0; its bound sets HOLD_EXCEEDED. A pulse shorter than 1 us, or at the edge that
PPSIN_POL does not select, is ignored; a pulse more than 1 ms off in LOCKED is only counted; another sets PPSIN_SEEN,
which 1.5 s clear. PPS_OUT rises at a whole second less its compensation and falls after its width. At the end of a
parallel period a rover hands over when both stamps agree within 2 units, and otherwise CAL_FAULT names its channel; a
calibration stores the step counts; reading TB_NOW_FRAC latches cell time. (R40, R43, R44, R50, R51, R53, R54, R55,
R56, R59) -/
def Obligations.TimeBaseEvents : Prop :=
  (∀ s due n, s.tb.todShift = some (due, n) → exec .timeOfDayShift s = .next (
    if mayRelabel s due = true then
      raiseEv 127 Sts.OK 0 (ofSigned 32 (clampI (-(2 ^ 31 - 1)) (2 ^ 31 - 1) n)) 4
        (shiftTime (n * (sec : Nat)) { s.upTo due with tb := { s.tb with todShift := none } })
    else { s.upTo due with tb := { s.tb with todShift := none } }))
  ∧ (∀ s, s.tb.state = .acquiring ∨ s.tb.state = .locked → (s.tb.src ≠ 2 → 4 ≤ s.tb.missRun) → 1 ≤ s.tb.src → s.tb.src ≤ 4 →
    ∃ t, exec .holdoverEntry s = .next t ∧ t.tb.state = .holdover ∧ t.tb.slew = 0
      ∧ t.cyc.now = (if s.tb.src = 2 ∨ s.tb.src = 3 then max s.cyc.now (s.tb.lastValid + 3 * sec / 2) else s.cyc.now))
  ∧ (∀ s, s.tb.state = .holdover → s.tb.holdExceeded = false → 0 < s.tb.holdDrift →
    ∃ t, exec .holdExceeded s = .next t ∧ t.tb.holdExceeded = true ∧ t.hif.evstat.testBit 127 = true
      ∧ s.tb.lastValid * s.tb.holdDrift + 100 * s.tb.holdLimit * sec ≤ t.cyc.now * s.tb.holdDrift)
  ∧ (∀ s at_ width rising, width < us ∨ rising = s.tb.ppsInPol → exec (.ppsInEdge ⟨at_, rising⟩ width) s = .next (s.upTo at_))
  ∧ (∀ s at_ width rising, us ≤ width → rising = !s.tb.ppsInPol →
    let t := ((s.upTo at_).stampOf 42 at_).at_
    (s.tb.state = .locked → ms < t % sec → t % sec < sec - ms → 2 * (t % sec) ≠ sec →
      exec (.ppsInEdge ⟨at_, rising⟩ width) s = .next { s.upTo at_ with tb := { s.tb with ppsInRej := incSat 255 s.tb.ppsInRej } })
    ∧ (t % sec ≤ ms → s.tb.src = 0 ∨ s.tb.src = 1 ∨ s.tb.src = 4 → exec (.ppsInEdge ⟨at_, rising⟩ width) s
      = .next { s.upTo at_ with tb := { s.tb with ppsInSeen := true, lastPps := some t } })
    ∧ (t % sec ≤ ms → s.tb.src = 2 → exec (.ppsInEdge ⟨at_, rising⟩ width) s = .next (tbFollow (tbMeasure ((t % sec : Nat) : Int) sec t
        { s.upTo at_ with tb := { s.tb with ppsInSeen := true, lastPps := some t } }))))
  ∧ (∀ s at_, s.tb.lastPps = some at_ → s.tb.ppsInSeen = true →
    exec .ppsinSeenExpiry s = .next { s.upTo (at_ + 3 * sec / 2) with tb := { s.tb with ppsInSeen := false } })
  ∧ (∀ s, s.tb.ppsOut = false → s.tb.state = .locked ∨ s.tb.state = .holdover ∨ s.tb.ppsOutAlways = true →
    0 ≤ s.tb.ppsOutComp → s.tb.ppsOutComp < ((sec : Nat) : Int) →
    ∃ t, exec .ppsOutRise s = .next t ∧ t.tb.ppsOut = true ∧ s.cyc.now ≤ t.cyc.now
      ∧ (((t.cyc.now : Nat) : Int) + s.tb.ppsOutComp) % ((sec : Nat) : Int) = 0 ∧ t.cyc.now < s.cyc.now + sec
      ∧ t.tb.ppsFallAt = t.cyc.now + s.tb.ppsOutWidth * 2 * ms ∧ t.tb.ppsOutStamp.isSome = true)
  ∧ (∀ s, s.tb.ppsOut = true → exec .ppsOutFall s = .next { s.upTo s.tb.ppsFallAt with tb := { s.tb with ppsOut := false } })
  ∧ (∀ s r diff, r < 4 → (vrd s.tb.rovers r).part = 0 ∨ (vrd s.tb.rovers r).part = 2 →
    ∃ t, exec (.roverParallelEnd r diff) s = .next t ∧ t.cyc.now = max s.cyc.now ((vrd s.tb.rovers r).from_ + tCur)
      ∧ (diff.natAbs ≤ 2 → (vrd t.tb.rovers r).part = (vrd s.tb.rovers r).part + 1 ∧ t.tb.calFault = s.tb.calFault
        ∧ ∀ q, q ≠ r → vrd t.tb.rovers q = vrd s.tb.rovers q)
      ∧ (2 < diff.natAbs → t.tb.calFault = true ∧ t.tb.calChan = (vrd s.tb.rovers r).chan))
  ∧ (∀ s c counts, c < 64 → ∃ t, exec (.interpolatorCalDone c counts) s = .next t
    ∧ vrd t.tb.interp c = { vrd s.tb.interp c with widths := counts, calAt := s.cyc.now }
    ∧ (∀ d, d ≠ c → vrd t.tb.interp d = vrd s.tb.interp d) ∧ t.axes = s.axes)
  ∧ ∀ s, exec .tbNowFracRead s = .next { s with
      tb := { s.tb with nowLatch := s.cyc.now / ns % 2 ^ 64 }
      hif := { s.hif with readData := leBytes 4 (s.cyc.now % 64 * 4), readAbort := false } }

/-- While the cycle events run: a current-period event starts the next period, at which every port awaits a new frame
and every lane takes over the edges computed in the period before; the feedback cut-off closes the ports, reports
those without a good frame, gives every axis its inputs, raises the faults found and gives the separation monitor its
samples, and in the first period of a control cycle it then runs the planner's work, begins the stops and runs the
generators; the launch sends every port's frame after the lanes that missed the deadline are counted, and faults those
that missed twice; a control-cycle event takes the spare lanes, the Mirror's SYSTEM record, the links' changes, the
sets, the staged commands, the cancel requests and the values that are due and evaluates the safe inputs, in this
order; the latch runs the loops of every lane, homing, captures, the events of overruns and NaN, the snapshot, the
solver's latch and the Mirror copy. A cut-off, launch or latch already made in its cycle changes nothing. (R11, R16,
R20, R23, R26, R373) -/
def Obligations.CyclicEvents : Prop :=
  (∀ s, s.cyc.running = true → exec .currentPeriodEvent s = .next { s.upTo s.cyc.nextTk with
      cyc := { (s.upTo s.cyc.nextTk).cyc with
        tk := s.cyc.nextTk, nextTk := s.cyc.nextTk + tCur, cutDone := false, launchDone := false }
      ssv := { s.ssv with wdAt := max s.cyc.now s.cyc.nextTk }
      dl := { s.dl with
        epoch := max s.dl.epoch s.dl.epochNext, epochNext := 0, lost := s.dl.lost || s.dl.lostNext, lostNext := false
        ports := vmapI s.dl.ports fun _ p => { p with
          rx := none, got := false, good := false, cause := 0
          ctl := p.ctl.map fun c => (c.1, c.2.1, c.2.2.1, if c.2.2.2 = 0 then 0 else c.2.2.2 + 1) } }
      axes := vmapI s.axes fun _ a => { a with cur := { a.cur with
        phA := a.cur.phA.shift, phB := a.cur.phB.shift, legsCur := a.cur.legs } } })
  ∧ (∀ s, s.cyc.running = true → s.cyc.cutDone = false →
    let u := s.upTo (s.cyc.tk + tCut)
    let lacking := (List.range 36).filter fun p => (u.port p).state.counts && !(u.port p).good
    let v := lacking.foldl (fun s p => raisePort p Sts.OK (if (s.port p).cause = 0 then 6 else (s.port p).cause) s)
      { u with cyc := { u.cyc with cutDone := true }, dl := { u.dl with ports := vmapI u.dl.ports fun _ p => p.cut } }
    let r := ((List.range 36).flatMap (portInputs v)).foldl (fun (r : State × List (Nat × CutFinds)) e =>
      ((axisCut e.1 e.2.1 e.2.2 r.1).1, r.2 ++ [(e.1, (axisCut e.1 e.2.1 e.2.2 r.1).2)])) (v, [])
    let w := ssmSample (r.2.foldl (fun s e => cutFaults e.1 e.2 s) r.1)
    exec .feedbackCutoff s = .next (if w.cyc.tk = w.cyc.t0 ∧ w.cyc.genDone = false then
      generators w.cyc.t0 (takeInjection (takeRecovery (beginStops w.cyc.t0
        ((List.range 8).foldl (fun s k => planWork k s) { w with cyc := { w.cyc with genDone := true } })))) else w))
  ∧ (∀ s missed, s.cyc.running = true → s.cyc.launchDone = false →
    let u := s.upTo (s.cyc.tk + tLaunch)
    let all := ((missed ++ spoiledAxes u ++ nanAxes u).eraseDups).filter fun n => n < 64 && u.driven n
    let v := clearSpoiled { u with
      cyc := { u.cyc with launchDone := true }
      axes := vmapI u.axes fun n a => if all.contains n then a else { a with cur := { a.cur with missRun := 0 } } }
    let w := all.foldl (fun s n => missCurrent n s) v
    let x := (all.filter fun n => 2 ≤ (w.ax n).cur.missRun).foldl (fun s n => faultF2 (s.axSc n) Sts.LOOP_OVERRUN 7 s) w
    exec (.outboundLaunch missed) s = .next ((List.range 36).foldl (fun s p => launchPort p s) x))
  ∧ (∀ s n, n < 64 → exec (.laneOverrunRepeat n) s = .next (
      if 2 ≤ (s.ax n).cur.missRun ∨ 2 ≤ (s.ax n).loop.overRun then faultF2 (s.axSc n) Sts.LOOP_OVERRUN 7 s else s))
  ∧ (∀ s late, s.cyc.running = true →
    let t0 := s.cyc.nextT0
    let u := s.upTo t0
    let v := { u with
      cyc := { u.cyc with t0 := t0, nextT0 := t0 + tCtl, latchDone := false, copyDone := false }
      mlc := { u.mlc with hbT0 := max u.mlc.hbT0 t0 } }
    let w := takeCancels t0 (takeStaged late t0 (takeSets late t0 (takeLinks t0 (sysApply (takeLanes v)))))
    let x := allScopes.foldl (fun s k => takeBound k s) (handValues t0 w)
    exec (.controlCycleEvent late) s = .next (siEvaluate t0 { x with cyc := { x.cyc with genDone := false } }))
  ∧ (∀ s overrun, s.cyc.running = true → s.cyc.latchDone = false →
    let t0 := s.cyc.t0
    let u := s.upTo (t0 + tLatch)
    let late := overrun.filter fun n => n < 64 && (u.ax n).powered
    let out := (List.range 64).map fun n => latchAxis u t0 late n (u.ax n)
    let v := { u with
      cyc := { u.cyc with latchDone := true }
      axes := vmapI u.axes fun n _ => (lget out n).1 }
    let w := (List.range 64).foldl (fun a n => latchHome t0 n a)
      ((List.range 64).foldl (fun a n => a.serve (a.clusterOf n) (lget out n).2.1) v)
    let x := { w with axes := vmapI w.axes fun n a => a.release w.ps n (curPoint w n) }
    let y := recordInjection ((List.range 16).foldl (fun a i => storeSample t0 i a) x)
    let z := (late.filter fun n => (y.ax n).loop.overrun).foldl (fun s n => raiseAxis n Sts.LOOP_OVERRUN s) y
    let z := ((List.range 64).filter fun n => (lget out n).2.2).foldl
      (fun s n => faultF2 (s.axSc n) Sts.LOOP_NAN 6 (raiseAxis n Sts.LOOP_NAN s)) z
    exec (.latch overrun) s = .next (mirrorSend t0 ((List.range 8).foldl (fun a k => latchSolve k t0 a) (publishSnapshot z))))
  ∧ (∀ s, s.cyc.cutDone = true → exec .feedbackCutoff s = .next s)
  ∧ (∀ s missed, s.cyc.launchDone = true → exec (.outboundLaunch missed) s = .next s)
  ∧ ∀ s overrun, s.cyc.latchDone = true → exec (.latch overrun) s = .next s

/-- A command staged at a whole nanosecond takes effect at a multiple of 62.5 us that lies after its stamp by at most
62.5 us and the 1 ns within which a stamp counts with the next window. At its control-cycle start, while no injection
runs on the scope, the effect of a staged MOVE, JOG, STOP, SET_LIMITS, GEAR, STEP_FOLLOW or HOME leaves every other
axis, every scope, the set in force and the time base as they were; where the scope runs motion commands and the axis
is in a mode that takes them, MOVE, JOG and STOP leave the axis in PTP mode, and SET_LIMITS leaves the limits its mask
names as given and the others as they were. (R20, R71, R72, R73, R77) -/
def Obligations.StagedCommandsTakeEffect : Prop :=
  (∀ s : State, s.cyc.now % ns = 0 → s.effectAt % tCtl = 0 ∧ s.cyc.now < s.effectAt ∧ s.effectAt ≤ s.cyc.now + ns + tCtl)
  ∧ (∀ (t0 : Time) (g : Staged) (s : State), g.axis < 64 → vrd s.fw.inj (s.axSc g.axis) = none →
    (match g.cmd with
      | .move _ _ | .jog _ | .stop | .setLimits .. | .gear .. | .stepFollow .. | .home .. => True | _ => False) →
    (∀ m, m ≠ g.axis → (stagedEffect t0 g s).ax m = s.ax m) ∧ (stagedEffect t0 g s).ssv = s.ssv
      ∧ (stagedEffect t0 g s).ps = s.ps ∧ (stagedEffect t0 g s).tb = s.tb)
  ∧ (∀ (t0 : Time) (g : Staged) (s : State), g.axis < 64 → canMove s (s.axSc g.axis) = true →
    takesMotion (s.ax g.axis).mode = true → (match g.cmd with | .move _ _ | .jog _ | .stop => True | _ => False) → ((stagedEffect t0 g s).ax g.axis).mode = .ptp)
  ∧ ∀ (t0 : Time) (g : Staged) (mask v a d j : Nat) (s : State), g.axis < 64 → g.cmd = .setLimits mask v a d j →
    ((stagedEffect t0 g s).ax g.axis).lim = {
      v := if mask.testBit 0 then v else (s.ax g.axis).lim.v, a := if mask.testBit 1 then a else (s.ax g.axis).lim.a
      d := if mask.testBit 2 then d else (s.ax g.axis).lim.d, j := if mask.testBit 3 then j else (s.ax g.axis).lim.j }

/-- The speed class of an arm lies from 1 to 8; for every c from 1 to 7 it is at most c exactly where, for every axis,
eight times its safe-position change over the separation cycle is at most c times its V_HARD over 250 us. (R227) -/
def Obligations.SpeedClassIsCeiling : Prop :=
  ∀ (ps : ParamSet) (axes speeds : List Nat), (∀ n ∈ axes, 0 < prmN ps Pid.V_HARD n) →
    1 ≤ speedClass ps axes speeds ∧ speedClass ps axes speeds ≤ 8
    ∧ ∀ c, 1 ≤ c → c < 8 → (speedClass ps axes speeds ≤ c ↔
      ∀ i < axes.length, 8 * lget speeds i * 4000 ≤ c * (prmN ps Pid.V_HARD (lget axes i) * 2 ^ 24))

/-- When an evaluated arm whose PROT_STOP is not 1 is published, its verdict is the raw one where that is higher or
none stood, and otherwise stays; it falls from PENUMBRA to CLEAR after PEN_HOLD of raw CLEAR evaluations and not
before. (R231) -/
def Obligations.VerdictRisesAtOnce : Prop :=
  (∀ (k : Nat) (u : Time) (s : State), k < 8 → prmN s.ps Pid.PROT_STOP k ≠ 1 →
    ((publishArm k u s).ssmArm k).v.pub =
      if (s.ssmArm k).v.pub = 3 ∨ (s.ssmArm k).v.pub < (s.ssmArm k).v.raw then (s.ssmArm k).v.raw else (s.ssmArm k).v.pub)
  ∧ ∀ (k : Nat) (s : State), k < 8 → (s.ssmArm k).v.pub = 1 →
    (max 1 (4 * prmN s.ps Pid.PEN_HOLD k) ≤ (s.ssmArm k).clearRun →
      ∃ t, exec (.verdictFallClear k) s = .next t ∧ (t.ssmArm k).v.pub = 0)
    ∧ ((s.ssmArm k).clearRun < max 1 (4 * prmN s.ps Pid.PEN_HOLD k) → exec (.verdictFallClear k) s = .next s)

/-- A separation-cycle event starts the next separation cycle and takes over the list of every sensor, and a stale
list that is fresh again is stale no more; a list whose age reaches AGE_LIMIT (by the window that holds it plus one
unit) is stale with E73; a cross-check difference of two cycles faults the arm F2 with SSM_XCHK; a category 2 stop
request with automatic restart is released where its conditions hold; at s0 + 125 us every arm is evaluated, published
and judged, an arm that is not monitored is NOT_MONITORED, a late evaluation counts and puts every arm that has joints
in the umbra, a difference of channel C sets SSM_CODED and puts every monitored arm there. A second publication in a
cycle changes nothing. (R17, R26, R219, R222, R231, R233, R235, R238) -/
def Obligations.SeparationEvents : Prop :=
  (∀ s, s.cyc.running = true → ∃ t, exec .separationCycleEvent s = .next t ∧ t.cyc.s0 = s.cyc.nextS0
    ∧ t.cyc.nextS0 = s.cyc.nextS0 + tSep ∧ t.cyc.now = max s.cyc.now s.cyc.nextS0 ∧ t.ssm.published = false ∧ t.axes = s.axes
    ∧ ∀ k < 16, (vrd t.ssm.sensors k).age = ((vrd s.ssm.sensors k).handOver s.cyc.nextS0).age
      ∧ ((vrd t.ssm.sensors k).stale = true ↔ (vrd s.ssm.sensors k).stale = true ∧ sensorOn s.ps k = true
        ∧ ageReaches ((vrd s.ssm.sensors k).handOver s.cyc.nextS0).age (prmN s.ps Pid.AGE_LIMIT 0 * 1000) = true))
  ∧ (∀ s k, k < 16 → (vrd s.ssm.sensors k).stale = false → sensorOn s.ps k = true →
    ageReaches (vrd s.ssm.sensors k).age (prmN s.ps Pid.AGE_LIMIT 0 * 1000) = true →
    exec (.listStale k) s = .next (raiseEv 73 Sts.OK k (min ((vrd s.ssm.sensors k).age / 1000) (2 ^ 32 - 1)) 1
      { s with ssm := { s.ssm with sensors := vmd s.ssm.sensors k fun x => { x with stale := true } } }))
  ∧ (∀ s k j, k < 8 → ((List.range (s.ssmArm k).xchk.length).find? fun j => decide (lget (s.ssmArm k).xchk j = 2)) = some j →
    exec (.ssmXchk k) s = .next (faultF2 k Sts.SSM_XCHK 7 (raiseEv 78 Sts.SSM_XCHK k 0 (jointCode s.ps k j + 2 ^ 8)
      { s with ssm := { s.ssm with xchkFail := true } })))
  ∧ (∀ s k, k < 8 → (s.ssmArm k).stopReq = true → prmN s.ps Pid.PROT_STOP k = 2 → prmN s.ps Pid.RESTART k = 0 →
    mayRelease2 s k = true → exec (.stopRequestRelease k) s = .next (releaseStop k s.cyc.now s))
  ∧ (∀ s, s.cyc.running = true → s.ssm.published = false → s.ldg.spoiled.testBit 14 = false →
    let t := s.cyc.s0 + tPub
    let u := { s.upTo t with ssm := { s.ssm with published := true } }
    let v := (List.range 8).foldl (fun s k => if monitored s.ps k then s else notMonitored k t s) u
    let objs := targets v
    let ready (s : State) (k : Nat) : Bool := (s.ssmArm k).qs.length == (ssmAxes s.ps k).length && (s.ssmArm k).qs.all (·.isSome)
    let w := (ssmArms s).foldl (fun s k =>
      if ready s k then record k u.cyc.s0 objs (evalArm s k objs) s
      else s.mdSsmArm k fun m => { m with
        endsPrev := none, speeds := [], stillRun := 0, cls := 8
        v := { m.v with dMin := none, sp := 0, obj := 255, cap := 255, cls := 8, raw := 2, stale := false, held := true, miss := false } })
      { v with ssm := { v.ssm with missRun := 0, codedNow := false, objCount := min objs.length 127 } }
    let x := (ssmArms s).foldl (fun s k => publishArm k t s) w
    let y := (ssmArms s).foldl (fun s k => judgeSlip k u.cyc.s0 (judgeArm k u.cyc.s0 s)) x
    exec (.ssmPublish false false []) s = .next (allScopes.foldl (fun s k => laneStill k s) y))
  ∧ (∀ s late divFail flip, s.cyc.running = true → s.ssm.published = false → late = true ∨ s.ldg.spoiled.testBit 14 = true →
    ∃ u, exec (.ssmPublish late divFail flip) s = .next u ∧ u.ssm.published = true ∧ u.ssm.missRun = incSat 255 s.ssm.missRun
      ∧ (∀ k < 8, armAxes s.ps k ≠ [] → (u.ssmArm k).v.pub = 2))
  ∧ (∀ s divFail flip, s.cyc.running = true → s.ssm.published = false → s.ldg.spoiled.testBit 14 = false →
    divFail = true ∨ (∃ k < 8, monitored s.ps k = true ∧ ∃ e ∈ flip, e.1 / 4 = k ∧ e.2 ≠ 0) →
    ∃ u, exec (.ssmPublish false divFail flip) s = .next u ∧ u.ssm.published = true ∧ u.ssm.coded = true
      ∧ (∀ k < 8, monitored s.ps k = true → (u.ssmArm k).v.pub = 2))
  ∧ ∀ s late divFail flip, s.ssm.published = true → exec (.ssmPublish late divFail flip) s = .next s

/-- A plan-period event of an arm that has joints begins the period at the next multiple of PLAN_PERIOD and takes a
tile move; the period's work begins a solve where the arm is in planned motion with a tile that is not DISABLED, or
publishes the STATIC record of an ENABLED arm outside it. A solve that has read its inputs completes at its stamp: its
program is solved and simulated, whatever the order of summation and the lanes, its outcome is that of its phases, and
an OK one keeps its words for the next solve and publishes the plan unless its tile is shutting down; one that still
runs at its deadline ends DEADLINE_MISS, TILE_ERROR after a hardware error, or NOT_RUN without a tile; a tile error
ends the solve of its arm TILE_ERROR and takes the tile out of service. A solve that has ended is not ended again.
(R10, R18, R187, R191, R192, R193, R200, R201, R202, R208) -/
def Obligations.SolverEvents : Prop :=
  (∀ s k, k < 8 → s.cyc.running = true → armAxes s.ps k ≠ [] →
    let p0 := nextAt (prmN s.ps Pid.PLAN_PERIOD k * us) (max (s.plr k).nextP0 s.cyc.t0)
    exec (.planPeriodEvent k) s
      = .next ((moveTile k (s.upTo p0)).mdPlr k fun r => { r with nextP0 := p0 + 1, begun := some p0 }))
  ∧ (∀ s k p0, k < 8 → (s.plr k).begun = some p0 →
    let v := s.mdPlr k fun r => { r with begun := none }
    planWork k s =
      if (s.plr k).planned = true ∧ (s.plr k).tileFn ≠ .disabled then v.mdPlr k fun r => { r with solve := some {
        p0 := p0, tile := r.tile.getD 15, admmK := prmN s.ps Pid.ADMM_K k
        posTol := prmI s.ps Pid.POS_TOL k, mute := decide (r.tileFn = .shuttingDown) } }
      else if (s.sc k).fn = .enabled ∧ (s.plr k).planned = false then publishStatic k p0 v else v)
  ∧ (∀ s k t iter order lanes v, k < 8 → (s.plr k).solve = some v → v.done = false → v.tile ≠ 15 → v.p0 + tLatch ≤ t → v.x0 ≠ [] →
    let u := s.upTo t
    let r := qpSolve v.inp v.admmK (perCycles u.ps k) (u.plr k).warm
    let knots := simulate v r.fin
    let sf := shortfalls v knots
    let o := if v.tileErr then 7 else if atOrAfter t ns (solveDue u.ps k v.p0) then 4 else if v.range then 3
      else if r.outcome ≠ 0 then r.outcome
      else if boxFails v knots = true ∨ (∃ d ∈ sf, v.inp.resTol.w < d) then 5 else 0
    exec (.solveComplete k t iter order lanes) s = .next (endSolve k o r.stage r.sat (resMaxOf sf) iter t
      (if o ≠ 0 then u
       else
        let w := u.mdPlr k fun x => { x with warm := some r.fin, warmPrev := x.warm }
        if v.mute then w
        else
          let shown := knots.take 1 ++ (knots.drop 1).map (publishedKnot (v.inp.cls 1))
          publish k { ts := v.p0 + prmN u.ps Pid.PLAN_PERIOD k * us, knotM := v.inp.knotM, n := v.inp.nk, joints := v.inp.n
                      knots := shown, tile := v.tile
                      caps := shown.map fun row => capsAtKnot u.ps k (row.map (·.1) ++ [v.carrier]) } w)))
  ∧ (∀ s k v, k < 8 → (s.plr k).solve = some v → v.done = false →
    let due := solveDue s.ps k v.p0
    exec (.solveDeadline k) s
      = .next (cutSolve k (if v.tile = 15 then 8 else if v.tileErr then 7 else 4) due (s.upTo due)))
  ∧ (∀ s q t, q < 9 →
    let u := suspect 2 q Sts.OK none (s.upTo t)
    (∀ k v, (vrd s.tiles q).arm = some k → (u.plr k).solve = some v → v.tile = q → v.done = false →
      exec (.tileError q t) s = .next (cutSolve k 7 t u))
    ∧ ((vrd s.tiles q).arm = none → exec (.tileError q t) s = .next u))
  ∧ ∀ s k t iter order lanes v, k < 8 → (s.plr k).solve = some v → v.done = true →
    exec (.solveComplete k t iter order lanes) s = .next s ∧ exec (.solveDeadline k) s = .next s

/-- Storing an accumulator without a NaN tag gives its floor division by 2^s, bounded to -32767 and 32767, so never
the NaN code; a tagged one gives the NaN code. DP_SAT is raised exactly where the bound changes an untagged value, and
DP_NAN where the tag is set. (R162, R163) -/
def Obligations.DatapathStoreFloors : Prop :=
  ∀ (d : DpSt) (acc : Int) (n : Nat),
    (dpSt1 d false acc n).2 = max (-32767) (min 32767 (acc / 2 ^ n)) ∧ (dpSt1 d false acc n).2 ≠ -32768
    ∧ (dpSt1 d true acc n).2 = -32768 ∧ (dpSt1 d true acc n).1.nan = true
    ∧ ((dpSt1 d false acc n).1.sat = true ↔ d.sat = true ∨ acc / 2 ^ n < -32767 ∨ 32767 < acc / 2 ^ n)
    ∧ (dpSt1 d false acc n).1.nan = d.nan

/-- On an operating channel a received frame is traffic and is checked at its stamp; a valid COLDSTART frame in LISTEN
or INTEGRATING is followed; in COLDSTART another node's valid one is followed too, and any other traffic is a
collision. A Ledger error leaves a latched value to go out again, older. An own slot latches its value 2 us before its
action point, and an ACTIVE node sends it once at the action point; the close of a window counts MISSING where no
frame was matched and lets the value of a slot without an accepted frame age. After two cycles without traffic a node
that may cold-start enters COLDSTART; the wait ends with one COLDSTART frame on every channel that is ENABLED; a clean
watch starts the start-up mode at the next multiple of its length, and another counts a failed try. The node's own
mode-change request goes out where its conditions hold. A cell-cycle close measures, delivers, adopts and starts the
next cycle; a channel that shuts down is DISABLED from the next boundary on. (R321, R325, R328, R331, R332, R333,
R335, R336, R339, R340, R342) -/
def Obligations.CellBusEvents : Prop :=
  (∀ s ch at_ codeErr bytes, ch < 2 → s.ttc.state ≠ .off → s.ttc.state ≠ .coldstart →
    exec (.cbFrameReceived ch at_ codeErr bytes) s = .next (cbCheck ch at_ codeErr bytes (cbTraffic ch at_ (s.upTo at_))))
  ∧ (∀ s ch at_ codeErr bytes, ch < 2 → s.ttc.state = .coldstart → s.ttc.csPhase ≠ 0 → (vrd s.ttc.ch ch).fn ≠ .disabled →
    codeErr = true ∨ cbCrcGood bytes = false ∨ (cbHdrOf bytes).sender ≠ s.node ∨ (cbHdrOf bytes).typ ≠ 1 →
    exec (.cbFrameReceived ch at_ codeErr bytes) s
      = .next (csFail (at_ + (bytes.length + 2) * cbSym) (cbTraffic ch at_ (s.upTo at_))))
  ∧ (∀ s ch at_ bytes, ch < 2 → s.ttc.state = .listen ∨ s.ttc.state = .integrating → coldValid bytes (s.upTo at_) = true →
    exec (.coldstartFrame ch at_ bytes) s = .next (coldFollow ch at_ bytes (cbTraffic ch at_ (s.upTo at_))))
  ∧ (∀ s ch at_ bytes, ch < 2 → s.ttc.state = .coldstart → s.ttc.csPhase ≠ 0 → (vrd s.ttc.ch ch).fn ≠ .disabled →
    coldValid bytes (s.upTo at_) = true → (cbHdrOf bytes).sender ≠ s.node →
    exec (.coldstartFrame ch at_ bytes) s = .next (coldFollow ch at_ bytes (raiseCs 2 (cbTraffic ch at_ (s.upTo at_)))))
  ∧ (∀ s slot x, slot < 512 → s.ttc.state ≠ .off →
    (s.cbNow.find? fun x => x.num == slot && x.sender == s.node && (x.kind == 1 || x.kind == 2)) = some x →
    ∃ t, exec (.valueLatch slot) s = .next t ∧ t.cyc.now = max s.cyc.now (x.ap s.ttc.t0 - 2 * us)
      ∧ t.ttc.tx = (s.ttc.tx.map fun v => if v.num ≠ x.value then v
          else if s.ldg.spoiled.testBit 16 then { v with age := min 255 (v.age + 1) } else v.latch (x.ap s.ttc.t0)) ∧ t.axes = s.axes)
  ∧ (∀ s slot x, slot < 512 → s.ttc.state = .active → (s.cbNow.find? fun x => x.num == slot && x.sender == s.node) = some x →
    x.ch < 2 → (vrd s.ttc.ch x.ch).fn ≠ .disabled → slot ∉ s.ttc.sent →
    ∃ t, exec (.ttcFrameTransmit slot) s = .next t ∧ t.ttc.sent = slot :: s.ttc.sent ∧ t.cyc.now = max s.cyc.now (x.ap s.ttc.t0)
      ∧ (vrd t.ttc.ch x.ch).txStamp = some ((s.upTo (x.ap s.ttc.t0)).stampOf (38 + x.ch) (x.ap s.ttc.t0))
      ∧ (∀ c, c ≠ x.ch → vrd t.ttc.ch c = vrd s.ttc.ch c) ∧ t.axes = s.axes ∧ t.ssv = s.ssv)
  ∧ (∀ s slot x, slot < 512 → s.ttc.state ≠ .off → (s.cbNow.find? fun x => x.num == slot) = some x → slot ∉ s.ttc.closed → x.ch < 2 →
    ∃ t, exec (.slotWindowClose slot) s = .next t ∧ t.ttc.closed = slot :: s.ttc.closed
      ∧ (slot ∉ s.ttc.matched → (vrd t.ttc.ch x.ch).err.missing = incSat 255 (vrd s.ttc.ch x.ch).err.missing)
      ∧ (slot ∈ s.ttc.matched → t.ttc.ch = s.ttc.ch)
      ∧ ((s.ttc.seen.any fun v => v.ok && v.slot == slot) = true → t.ttc.rx = s.ttc.rx))
  ∧ (∀ s, s.ttc.state = .listen → prmN s.ttc.ps Pid.COLDSTART_EN 0 = 1 → s.dl.authority = true →
    ∃ t, exec .coldstartEntry s = .next t ∧ t.ttc.state = .coldstart ∧ t.ttc.csPhase = 1 ∧ t.ttc.csTries = 0 ∧ t.axes = s.axes)
  ∧ (∀ s, s.ttc.state = .coldstart → s.ttc.csPhase = 1 → ∃ t, exec .coldstartWaitEnd s = .next t ∧ t.ttc.csPhase = 2
    ∧ t.ttc.csDue = s.ttc.csDue + 39 * cbSym + 16 * us
    ∧ ∀ c < 2, (vrd s.ttc.ch c).fn = .enabled → (vrd t.ttc.ch c).txStamp
      = some ((s.upTo s.ttc.csDue).stampOf (38 + c) (s.ttc.csDue + 9 * cbSym)))
  ∧ (∀ s, s.ttc.state = .coldstart → s.ttc.csPhase = 2 →
    (∃ t, exec (.coldstartWatchEnd true) s = .next t ∧ t.ttc.csPhase = 0 ∧ t.ttc.mode = prmN s.ttc.ps Pid.STARTUP_MODE 0
      ∧ t.ttc.csGo = some t.cyc.nextCell
      ∧ t.cyc.nextCell = nextAfter (cbLen s.ttc.ps (prmN s.ttc.ps Pid.STARTUP_MODE 0)) (max s.cyc.now s.ttc.csDue))
    ∧ exec (.coldstartWatchEnd false) s = .next (csFail (max s.cyc.now s.ttc.csDue) (s.upTo s.ttc.csDue)))
  ∧ (∀ s m k, s.ttc.mc.want = some (m, k) → s.ttc.state = .active → s.ttc.sent = [] → s.ttc.mc.sending = none →
    s.ttc.mc.answer = none → m ≠ s.ttc.mode → cbValid s.ttc.ps m = true → s.ttc.mc.busyLast = false → mcBoundary s m = true →
    exec .modeChangeRequest s = .next { s with ttc := { s.ttc with mc := { s.ttc.mc with sending := some m } } })
  ∧ (∀ s, s.cyc.running = true →
    let u := s.upTo s.cyc.nextCell
    let v := if u.ttc.state ≠ .off ∧ u.ttc.state ≠ .coldstart then cbMeasure u else { u with ttc := { u.ttc with theta := none } }
    let w := if v.ttc.state = .active ∨ v.ttc.state = .passive ∨ v.ttc.state = .standby then mcClose v else v
    let x := cbAdopt (cbOwnDelays (cbClear (cbDeliver s.ttc.len (mcLeave (cbState s.ttc.theta w)))))
    exec .cellCycleClose s = .next (cbNoSlot { x with
      ttc := { x.ttc with t0 := s.cyc.nextCell }
      cyc := { x.cyc with nextCell := nextAfter x.ttc.len s.cyc.nextCell } }))
  ∧ ∀ s ch, ch < 2 → (vrd s.ttc.ch ch).fn = .shuttingDown → (vrd s.ttc.ch ch).offAt < s.ttc.t0 →
    exec (.channelDisabled ch) s
      = .next (raiseEv 94 Sts.OK s.node 0 (ch * 2 ^ 30) (s.mdCb ch fun c => { c with fn := .disabled }))

/-- A step edge that meets the level times counts into the reference of the STEPPED axis that holds its pair, and one
that does not only sets STEP_GLITCH; without a further step the last segment is made final; a GPIO edge sets its pin,
and a switch that a search waits for lets it go on; a stop that stood for 50 ms is the mark of a HARD_STOP search; an
axis of a withdrawn lane is to move to the spare that serves it, and every such move is done at the next control-cycle
start; a run at its end is reported and then analysed under its ticket; a capture ends when it is full, on an overflow
of its lane, and frees its area when read or after 60 s. (R28, R63, R86, R87, R97, R151, R152, R153, R154, R155, R392)
-/
def Obligations.AxisEvents : Prop :=
  (∀ s p at_ low high stable dir n, p < 8 → (vrd s.fw.pairs p).axis = some n → n < 64 → (s.ax n).mode = .stepped →
    (low < stepLevel ∨ high < stepLevel ∨ stable = false → ∃ t, exec (.stepEdge p at_ low high stable dir) s = .next t
      ∧ t.ax n = { s.ax n with flags := { (s.ax n).flags with stepGlitch := true } } ∧ ∀ m, m ≠ n → t.ax m = s.ax m)
    ∧ (stepLevel ≤ low → stepLevel ≤ high → stable = true → ∃ t, exec (.stepEdge p at_ low high stable dir) s = .next t
      ∧ (t.ax n).flags.stepGlitch = (s.ax n).flags.stepGlitch ∧ (t.ax n).lim = (s.ax n).lim
      ∧ (let r := (s.ax n).step.onStep at_ (if dir != (s.ax n).step.invert then 1 else -1) (prmI s.ps Pid.STEP_INC n)
          (prmN s.ps Pid.STEP_DTMIN n) (prmN s.ps Pid.STEP_DT0 n) (prmN s.ps Pid.STEP_IDLE n)
         { (t.ax n).step with top := r.1.top } = r.1 ∧ r.1.top ≤ (t.ax n).step.top
          ∧ (t.ax n).flags.stepOver = ((s.ax n).flags.stepOver || r.2)) ∧ ∀ m, m ≠ n → t.ax m = s.ax m))
  ∧ (∀ s n p, n < 64 → (s.ax n).mode = .stepped → (s.ax n).step.finalDone = false → (s.ax n).step.prev = some p →
    exec (.stepFinalSegment n) s = .next ((s.upTo (p.1 + 2 * (s.ax n).step.dt)).mdAx n fun a =>
      { a with step := a.step.final (prmI s.ps Pid.STEP_INC n) }))
  ∧ (∀ s pin at_ level, pin < 16 → ∃ t, exec (.gpioEdge pin at_ level) s = .next t ∧ (vrd t.fw.gpio pin).level = level
    ∧ t.cyc.now = max s.cyc.now at_ ∧ t.ssv = s.ssv
    ∧ ∀ n < 64, ∀ h, (s.ax n).home = some h → h.method = 2 → h.phase = 0 → h.gpio = pin → (vrd s.fw.gpio pin).level ≠ level →
      (t.ax n).home = some { h with phase := 1 })
  ∧ (∀ s n h, n < 64 → (s.ax n).home = some h → h.method = 3 → h.phase = 0 → homeStall ≤ h.stall →
    exec (.hardStopDetected n) s = .next (s.mdAx n fun a => a.markFound s.ps n s.cyc.nextT0 h
      (if hasEnc s.ps n = true then (s.ax n).fb.pos0 else (s.ax n).refP)))
  ∧ (∀ s n i j, n < 64 → ((List.range 68).find? fun i => (vrd s.lanes i).axis == some n) = some i →
    ((List.range 68).find? fun i =>
      (vrd s.lanes i).axis.isNone && (vrd s.lanes i).next.isNone && decide ((s.unit 0 i).st = .inService)
        && (s.unit 0 i).serves == n) = some j →
    (s.unit 0 i).st ≠ .inService →
    exec (.laneSpareTakeover n) s = .next { s with lanes := vmd s.lanes j fun l => { l with next := some n } })
  ∧ (∀ s j, j < 68 → (vrd (takeLanes s).lanes j).next = none
    ∧ ∀ n, (vrd s.lanes j).next = some n → (vrd (takeLanes s).lanes j).axis = some n)
  ∧ (∀ s k r, k < 72 → vrd s.fw.inj k = some r → r.analyse = false → r.running = false ∨ r.total ≤ r.i →
    let u := { s with fw := { s.fw with inj := vwr s.fw.inj k (some { r with running := false, analyse := true }) } }
    exec (.injectionRunEnd k) s = .next (if k < 8 then raiseArm k r.cause r.cause u else raiseAxis (k - 8) r.cause u))
  ∧ (∀ s k r, k < 72 → vrd s.fw.inj k = some r → r.analyse = true → r.axis < 64 →
    ∃ t, exec (.frfAnalysisDone k) s = .next t ∧ vrd t.fw.inj k = none ∧ t.axes = s.axes
      ∧ vrd t.fw.frf r.axis = (if (frfResult r s.fresh).isSome then frfResult r s.fresh else vrd s.fw.frf r.axis))
  ∧ (∀ s i c, i < 16 → vrd s.fw.caps i = some c → c.full = true → exec (.captureEnd i) s = .next (stopCap i Sts.OK s))
  ∧ (∀ s i, i < 16 → exec (.traceOverflow i) s = .next (stopCap i Sts.TRACE_OVERFLOW s))
  ∧ ∀ s i c, i < 16 → vrd s.fw.caps i = some c → c.stopped = true → ∃ t, exec (.captureAreaFree i) s = .next t
    ∧ vrd t.fw.caps i = some { c with free := true } ∧ t.axes = s.axes
    ∧ t.cyc.now = (if c.read then s.cyc.now else max s.cyc.now (c.stopAt + 60 * sec))

/-- On a powered lane: a stall run of STALL_N raises STALL_IMMINENT once; HOLD_DELAY periods without motion take a
stepper to its hold current. On a lane that is powered, or lost its power in this very period, 16 periods of a coil
fault, 4 of a phase sum off limits, 4 of bus undervoltage and 2 lost samples in a row fault the axis with COIL_FAULT,
PHASE_SUM, BUS_UNDERVOLT and SAMPLE_LOST, each with its event and its run begun anew; a following error that stood for
FE_TIME faults its scope F1. Below these counts nothing changes. (R110, R112, R117, R119, R125, R144) -/
def Obligations.AxisFaults : Prop :=
  (∀ s n, n < 64 → (s.ax n).powered = true →
    ((s.ax n).flags.stall = false → prmN s.ps Pid.STALL_N n ≤ (s.ax n).cur.stallRun → exec (.stallImminent n) s
      = .next (raiseAxis n Sts.OK (s.mdAx n fun a => { a with flags := { a.flags with stall := true } })))
    ∧ (axType s.ps n = .stepper → prmN s.ps Pid.HOLD_DELAY n ≤ (s.ax n).cur.still → exec (.holdDelayExpiry n) s
      = .next (s.mdAx n fun a => { a with cur := { a.cur with hold := true } })))
  ∧ (∀ s n, n < 64 → s.driven n = true →
    let fault (status rank : Nat) (f : CurSt → CurSt) : State :=
      faultF2 (s.axSc n) status rank (raiseAxis n status (s.mdAx n fun a => { a with cur := f a.cur }))
    (16 ≤ (s.ax n).cur.phA.coil ∨ 16 ≤ (s.ax n).cur.phB.coil → exec (.coilFault n) s = .next (fault Sts.COIL_FAULT 5 fun c =>
      { c with coilFault := true, phA := { c.phA with coil := 0 }, phB := { c.phB with coil := 0 } }))
    ∧ (4 ≤ (s.ax n).cur.sumRun → exec (.phaseSum n) s = .next (fault Sts.PHASE_SUM 3 fun c => { c with sumRun := 0 }))
    ∧ (4 ≤ (s.ax n).cur.uvRun → exec (.busUndervolt n) s
      = .next (fault Sts.BUS_UNDERVOLT 4 fun c => { c with busUnder := true, uvRun := 0 }))
    ∧ (2 ≤ (s.ax n).cur.lostRun → exec (.sampleLost n) s = .next (fault Sts.SAMPLE_LOST 2 fun c => { c with lostRun := 0 })))
  ∧ (∀ (s : State) n, (s.ax n).powered = true → s.driven n = true)
  ∧ (∀ s n, n < 64 → prmN s.ps Pid.FE_TIME n ≤ (s.ax n).loop.feCount →
    (s.ax n).loop.feFault = false ∨ (s.sc (s.axSc n)).level = 0 →
    exec (.followingError n) s = .next (faultF1 (s.axSc n) Sts.FOLLOWING_ERROR 7 (raiseAxis n Sts.FOLLOWING_ERROR
      (s.mdAx n fun a => { a with loop := { a.loop with feFault := true } }))))
  ∧ ∀ s n, n < 64 →
    ((s.ax n).cur.stallRun < prmN s.ps Pid.STALL_N n → exec (.stallImminent n) s = .next s)
    ∧ ((s.ax n).cur.still < prmN s.ps Pid.HOLD_DELAY n → exec (.holdDelayExpiry n) s = .next s)
    ∧ ((s.ax n).cur.phA.coil < 16 → (s.ax n).cur.phB.coil < 16 → exec (.coilFault n) s = .next s)
    ∧ ((s.ax n).cur.sumRun < 4 → exec (.phaseSum n) s = .next s) ∧ ((s.ax n).cur.uvRun < 4 → exec (.busUndervolt n) s = .next s)
    ∧ ((s.ax n).cur.lostRun < 2 → exec (.sampleLost n) s = .next s)
    ∧ ((s.ax n).loop.feCount < prmN s.ps Pid.FE_TIME n → exec (.followingError n) s = .next s)

/-- The first good frame of a counting port in its window is taken, a second one is counted EXTRA, and a discovery
frame of the right length and CRC is discovered. Symbol lock takes a DOWN port to LINKING, its loss takes it DOWN; 128
good frames take SYNCING, and 16 with every axis DISABLED take FAULTED, to READY; three bad frames take READY to
FAULTED with E of the port and fault the scopes of its ENABLED axes F2 with LINK_FAULT. A READ unanswered for 8
periods ends STAGE_NO_RESPONSE; a port with a retired transceiver moves to a free spare; a unit of a pair whose frames
are refused in two periods loses its authority from the next period on. (R289, R299, R303, R306, R310, R311, R313,
R314, R395, R417) -/
def Obligations.DriveLinkEvents : Prop :=
  (∀ s p at_ tEnd bytes, p < 36 → (s.port p).state.counts = true → (s.port p).state ≠ .down → (s.port p).retired = false →
    crcGood bytes = true → inType bytes = 0x11 →
    let u := judgeEpoch p bytes (s.upTo at_)
    let st := u.stampOf p at_
    let w := { st with boundary := boundaryAt at_ (stampUnit st.coarse) u.cyc.tk || boundaryAt at_ (stampUnit st.coarse) (u.cyc.tk + tCut) }
    ((s.port p).got = false → inboundCause u p st tEnd false bytes = 0 → exec (.inboundCycleFrame p at_ tEnd false bytes) s
      = .next (goodFrame p w bytes (u.mdPort p fun x => { x with got := true, cause := 0 })))
    ∧ ((s.port p).got = true → inboundCause u p st tEnd false bytes ≠ 3 → exec (.inboundCycleFrame p at_ tEnd false bytes) s
      = .next (u.mdPort p fun x => { x with err := { x.err with extra := incSat 255 x.err.extra } })))
  ∧ (∀ s p at_ bytes, p < 36 → bytes.length = inHdrLen + 36 → inType bytes = 0x12 → crcGood bytes = true → (s.port p).state ≠ .down →
    exec (.discoveryFrame p at_ bytes) s = .next (discoverFrame p bytes (s.upTo at_)))
  ∧ (∀ s p, p < 36 → (s.port p).state = .down → exec (.dlSymbolLock p) s = .next (setPort p .linking
    ((s.mdPort p fun x => { x with lock := true }).mdPort p fun x =>
      { x with ackDue := true, listen := false, dHist := [], delay := 0 })))
  ∧ (∀ s p, p < 36 → exec (.dlSymbolLockLost p) s
    = .next (setPort p .down (portAvail p false (s.mdPort p fun x => { x with lock := false }))))
  ∧ (∀ s p, p < 36 → (s.port p).state = .syncing → 128 ≤ (s.port p).goodRun →
    exec (.portReady p) s = .next (setPort p .ready (portAvail p (!(s.port p).listen) s)))
  ∧ (∀ s p, p < 36 → (s.port p).state = .faulted → 16 ≤ (s.port p).goodRun →
    (∀ e ∈ portAxes s.ps p, (s.ax e.2.2).fn = .disabled) →
    exec (.portRecovered p) s = .next (setPort p .ready (portAvail p (!(s.port p).listen) s)))
  ∧ (∀ s p, p < 36 → (s.port p).state = .ready → 3 ≤ (s.port p).badRun →
    let u := setPort p .faulted (portAvail p false (raisePort p Sts.LINK_FAULT
      (if (s.port p).cause = 0 then 6 else (s.port p).cause) (s.mdPort p fun x => { x with linkFault := true })))
    exec (.linkFault p) s = .next ((portAxes u.ps p).foldl (fun a e => if (a.ax e.2.2).fn = .enabled then
      faultF2 (a.axSc e.2.2) Sts.LINK_FAULT 7 (raiseAxis e.2.2 Sts.LINK_FAULT a) else a) u))
  ∧ (∀ s p c, p < 36 → (s.port p).ctl = some c → 9 ≤ c.2.2.2 →
    exec (.stageNoResponse p) s = .next (answerRead p Sts.STAGE_NO_RESPONSE 0 s))
  ∧ (∀ s p e sp j, p < 36 → (s.port p).retired = true → (s.port p).spare = none →
    (∀ e ∈ portAxes s.ps p, (s.ax e.2.2).fn = .disabled) →
    ((List.range 4).find? fun e => match spareEntry s.ps e p with
      | some (sp, _) => lget s.dl.spareSel e == 0 && !(s.port sp).retired | none => false) = some e →
    spareEntry s.ps e p = some (sp, j) →
    ∃ t, exec (.sparePortMove p) s = .next t ∧ (t.port p).spare = some sp ∧ (t.port p).state = .linking
      ∧ t.dl.spareSel = s.dl.spareSel.set e (j + 1) ∧ t.axes = s.axes)
  ∧ ∀ s, s.commands = true → s.mlc.role ≠ .single → (∃ p < 36, 2 ≤ (s.port p).staleRun) →
    ∃ t, exec .authorityLost s = .next t ∧ t.dl.lostNext = true ∧ t.hif.evstat.testBit 104 = true

/-- When three bad frames in a row are reported for a READY port, the port is FAULTED with LINK_FAULT, and every scope
with an axis of that port that is ENABLED, in a state whose axes and scopes agree, is no longer ENABLED and at fault
level 2 or above. (R33, R310) -/
def Obligations.PortFaultsItsScopes : Prop :=
  ∀ s p, p < 36 → (s.port p).state = .ready → 3 ≤ (s.port p).badRun →
    (∀ n < 64, (s.ax n).fn = .enabled → (s.sc (s.axSc n)).fn = .enabled ∧ (s.sc (s.axSc n)).level < 2) →
    ∃ t, exec (.linkFault p) s = .next t ∧ (t.port p).state = .faulted ∧ (t.port p).linkFault = true
      ∧ ∀ e ∈ portAxes s.ps p, e.2.2 < 64 → (s.ax e.2.2).fn = .enabled →
        (t.sc (s.axSc e.2.2)).fn ≠ .enabled ∧ 2 ≤ (t.sc (s.axSc e.2.2)).level

/-- At the end of torque building both switches of the scope's pair close and the brakes are releasing; at the end of
BK_RELEASE motion is accepted; at the end of BK_ENGAGE with no test waiting torque is removed, with one waiting its
first step begins. A readback check that agrees clears the difference, one that differs at BK_SETTLE dates it from the
change; a difference latches BRAKE_SWITCH with E82. Standstill ends the measurement and acts on the stop. A step of a
brake test leads to the next. BK_INTERVAL raises BRAKE_TEST_DUE, and BK_GRACE later with released brakes faults the
arm F1. The timers are saved in whole seconds rounded up. A stage that does not confirm STO latches STO_NO_CONFIRM. A
missing current-period event for 31.25 us asserts every STO output, opens every switch and declares F3 inside the
safety channel. (R241, R246, R249, R252, R253, R255, R256, R257, R258, R266) -/
def Obligations.BrakeAndTorqueEvents : Prop :=
  (∀ s k te, k < 72 → (s.sc k).seq = .building te → ∃ t, exec (.torqueBuildEnd k) s = .next t
    ∧ t.cyc.now = max s.cyc.now (te + prmN s.ps Pid.TORQUE_BUILD 0 * ms) ∧ (t.sc k).seq = .releasing te t.cyc.now
    ∧ (∀ b, brakeOf s.ps k = some b → s.drives = true → (s.bk b).appliedAt ≠ some s.cyc.tk →
      (t.bk b).hs = true ∧ (t.bk b).ls = true)
    ∧ t.axes = s.axes)
  ∧ (∀ s k te c, k < 72 → (s.sc k).seq = .releasing te c → exec (.bkReleaseEnd k) s
    = .next ((s.upTo (c + prmN s.ps Pid.BK_RELEASE 0 * ms)).mdSc k fun x => { x with seq := .running }))
  ∧ (∀ s k a, k < 72 → (s.sc k).seq = .engaging a →
    let u := s.upTo (a + prmN s.ps Pid.BK_ENGAGE 0 * ms)
    (8 ≤ k ∨ (s.bk k).test = none → exec (.bkEngageEnd k) s = .next (removeTorque k u))
    ∧ (∀ x, k < 8 → (s.bk k).test = some x → ∃ t y, exec (.bkEngageEnd k) s = .next t ∧ (t.sc k).seq = .testing
      ∧ (t.bk k).test = some y ∧ y.step = 1 ∧ y.at_ = u.cyc.now ∧ y.tb = x.tb ∧ t.axes = s.axes))
  ∧ (∀ s p fbh fbl, p < 8 →
    let b := s.bk p
    let u := if b.checkDue then s.upTo (b.changedAt + prmN s.ps Pid.BK_SETTLE 0 * ms) else s
    ∃ t, exec (.bkSettleCheck p fbh fbl) s = .next t ∧ t.cyc = u.cyc ∧ (t.bk p).checkDue = false
      ∧ (t.bk p).fbh = fbh ∧ (t.bk p).fbl = fbl ∧ (t.bk p).hs = b.hs ∧ (t.bk p).ls = b.ls
      ∧ (fbh = b.hs ∧ fbl = b.ls → (t.bk p).diffAt = none)
      ∧ (fbh ≠ b.hs ∨ fbl ≠ b.ls → b.checkDue = true → (t.bk p).diffAt = some b.changedAt)
      ∧ (fbh ≠ b.hs ∨ fbl ≠ b.ls → b.checkDue = false → ∃ d, (t.bk p).diffAt = some d ∧ (b.diffAt = none → d = s.cyc.now))
      ∧ ∀ q, q ≠ p → t.bk q = s.bk q)
  ∧ (∀ s p d, p < 8 → (s.bk p).diffAt = some d → (s.bk p).switchBad = false →
    let u := s.upTo (d + prmN s.ps Pid.BK_SETTLE 0 * ms)
    let v := raiseEv 82 Sts.BRAKE_SWITCH p 0 (0xFF * 2 ^ 8) (u.mdBk p fun b => { b with switchBad := true })
    (d ≠ (s.bk p).changedAt → exec (.brakeSwitch p) s = .next (faultF2s (brakeServes v.ps p) Sts.BRAKE_SWITCH 7 v))
    ∧ (d = (s.bk p).changedAt → (s.bk p).hs = false → exec (.brakeSwitch p) s = .next v)
    ∧ (d = (s.bk p).changedAt → (s.bk p).hs = true → exec (.brakeSwitch p) s = .next ((brakeServes v.ps p).foldl (fun s k =>
        beginDisable k Sts.BRAKE_SWITCH false (nextAt tCtl s.cyc.now) s) (openPair p v))))
  ∧ (∀ s k, k < 8 → atRest s k = true →
    exec (.standstill k) s = .next (standstillOf k (if monitored s.ps k then endMeas k s else s)))
  ∧ (∀ s k, k < 8 → atRest s k = false → exec (.standstill k) s = .next s)
  ∧ (∀ s k x, k < 8 → (s.bk k).test = some x → 1 ≤ x.step → x.step ≤ 4 →
    ∃ t y, exec (.brakeTestStepEnd k) s = .next t ∧ (t.bk k).test = some y ∧ y.step = x.step + 1
      ∧ y.at_ = max s.cyc.now (x.at_ + testDur s.ps x.step) ∧ y.slip = x.slip ∧ t.axes = s.axes)
  ∧ (∀ s k x, k < 8 → (s.bk k).test = some x → x.step = 6 → x.aborted = false → exec (.brakeTestStepEnd k) s
    = .next (endBrakeTest k true (s.upTo (x.at_ + testDur s.ps 6))))
  ∧ (∀ s k, k < 8 →
    let b := (s.bk k).count s.cyc.now
    (b.due = false → prmN s.ps Pid.BK_INTERVAL 0 * sec ≤ b.timer → ∃ t, exec (.brakeTestDue k) s = .next t
      ∧ (t.bk k).due = true ∧ (t.bk k).timer = b.timer ∧ t.hif.evstat.testBit 82 = true ∧ t.axes = s.axes)
    ∧ (b.overdue = false → b.hs = true → b.ls = true →
      (prmN s.ps Pid.BK_INTERVAL 0 + prmN s.ps Pid.BK_GRACE 0) * sec ≤ b.timer → exec (.brakeTestOverdue k) s
        = .next (faultF1 k Sts.BRAKE_TEST_OVERDUE 7 ((s.mdBk k fun _ => b).mdBk k fun b => { b with overdue := true })))
    ∧ (b.overdue = false → b.hs = false ∨ b.ls = false → exec (.brakeTestOverdue k) s = .next (s.mdBk k fun _ => b)))
  ∧ (∀ s, ∃ t, exec .brakeTimerSave s = .next t ∧ t.ldg.journalDue = true ∧ t.axes = s.axes
    ∧ ∀ k < 8, sec * (t.bk k).saved < (t.bk k).timer + sec ∧ (t.bk k).timer ≤ sec * (t.bk k).saved
      ∧ t.bk k = { (s.bk k).count s.cyc.now with saved := (t.bk k).saved })
  ∧ (∀ s o, o < 8 → (∀ k ∈ stoServes s.ps o, (s.sc k).confirmAt = none ∧ (s.sc k).fn = .enabled) → (s.bk o).noConfirm = true →
    exec (.stoConfirmCheck o) s = .next
      (raiseEv 84 Sts.OK o 0 ((s.bk o).noConfPort * 2 ^ 8) (s.mdBk o fun b => { b with noConfirm := false })))
  ∧ (∀ s o, o < 8 → (s.bk o).noConfirm = false →
    (∃ k ∈ stoServes s.ps o, (s.sc k).confirmAt.isSome = true ∧ (s.sc k).fn ≠ .enabled
      ∧ ∃ n ∈ s.scAxes k, (s.ax n).sto = true ∧ stoConfirmed s n = false) →
    ∃ t, exec (.stoConfirmCheck o) s = .next t ∧ (t.bk o).noConfirm = true ∧ t.hif.evstat.testBit 84 = true
      ∧ ∀ k ∈ stoServes s.ps o, (t.sc k).confirmAt = none)
  ∧ ∀ s, exec .safetyWatchdog s = .next (faultF3 true Sts.SAFETY_WATCHDOG (faultF2s allScopes Sts.SAFETY_WATCHDOG 7
    ((List.range 8).foldl (fun s k => openPair k (putSto k false s))
      (raiseEv 87 Sts.SAFETY_WATCHDOG 0xFF 0 0 (s.upTo (s.ssv.wdAt + 31250 * ns))))))

/-- Test output k goes low at the next m TP_PERIOD + k TP_PERIOD / 8 and returns high TP_WIDTH later. An input edge is
taken at its stamp, a rising edge ends its demand; an input low for SI_FILTER is in demand; a DUAL pair that has
disagreed for SI_DISC latches DISCREPANCY; a fault clears after every window of 1 s has passed. A copy of the set that
no longer gives its check value faults every scope F2 and ends COMMISSIONED. A lockout that ends returns the
engineer's count to 0. At SERVICE_T every scope is faulted F1 and SERVICE ends. A scope whose shutdown condition holds
is DISABLED, as are a tile without a running solve, a channel past its cell-cycle boundary and a pairing whose Mirror
lanes carry no unacknowledged frame. (R31, R260, R261, R262, R263, R275, R277, R424) -/
def Obligations.SafeInputsAndModes : Prop :=
  (∀ s k, k < 8 → s.cyc.running = true →
    (vrd s.ssv.tp k = false → ∃ t, exec (.testPulse k) s = .next t ∧ vrd t.ssv.tp k = true ∧ t.ssv.tpAt = s.ssv.tpAt
      ∧ t.cyc.now = max s.cyc.now (vrd s.ssv.tpAt k + prmN s.ps Pid.TP_WIDTH 0 * us) ∧ t.axes = s.axes)
    ∧ (vrd s.ssv.tp k = true → 0 < prmN s.ps Pid.TP_PERIOD 0 → (∀ i < 16, prmN s.ps Pid.SI_MODE i = 2) →
      ∃ t m, exec (.testPulse k) s = .next t ∧ vrd t.ssv.tp k = false
        ∧ vrd t.ssv.tpAt k = m * (prmN s.ps Pid.TP_PERIOD 0 * ms) + k * (prmN s.ps Pid.TP_PERIOD 0 * ms) / 8
        ∧ t.cyc.now = max s.cyc.now (vrd t.ssv.tpAt k)
        ∧ (k * (prmN s.ps Pid.TP_PERIOD 0 * ms) / 8 ≤ vrd s.ssv.tpAt k →
          vrd s.ssv.tpAt k < vrd t.ssv.tpAt k ∧ vrd t.ssv.tpAt k ≤ vrd s.ssv.tpAt k + prmN s.ps Pid.TP_PERIOD 0 * ms)))
  ∧ (∀ s i at_ level, i < 16 →
    ((s.sin i).level = level → exec (.safeInputEdge i at_ level) s = .next (s.upTo at_))
    ∧ ((s.sin i).level ≠ level → ∃ t, exec (.safeInputEdge i at_ level) s = .next t ∧ (t.sin i).level = level
      ∧ (t.sin i).edgeAt = coarse at_ ∧ (level = true → (t.sin i).demand = false)
      ∧ (level = false → (t.sin i).demand = (s.sin i).demand)))
  ∧ (∀ s i, i < 16 → (s.sin i).level = false → (s.sin i).demand = false →
    ∃ t, exec (.siDemand i) s = .next t ∧ (t.sin i).demand = true
      ∧ t.cyc.now = max s.cyc.now ((s.sin i).edgeAt + prmN s.ps Pid.SI_FILTER 0 * us) ∧ t.hif.evstat.testBit 81 = true
      ∧ t.axes = s.axes)
  ∧ (∀ s p d, p < 8 → (vrd s.ssv.pairs p).diffAt = some d → (vrd s.ssv.pairs p).disc = false → dualPair s.ps p = true →
    ∃ t, exec (.discrepancy p) s = .next t ∧ (vrd t.ssv.pairs p).disc = true
      ∧ t.cyc.now = max s.cyc.now (d + prmN s.ps Pid.SI_DISC 0 * ms) ∧ t.hif.evstat.testBit 81 = true ∧ t.ssv.si = s.ssv.si)
  ∧ (∀ s i, i < 16 → (s.sin i).fault = true →
    ((s.sin i).passAt + sec ≤ s.cyc.now → ∃ t, exec (.siFaultClear i) s = .next t ∧ (t.sin i).fault = false
      ∧ (t.sin i).demand = (s.sin i).demand ∧ t.hif.evstat.testBit 81 = true)
    ∧ (s.cyc.now < (s.sin i).passAt + sec → exec (.siFaultClear i) s = .next s))
  ∧ (∀ s, exec (.checkValueRecompute true) s = .next s)
  ∧ (∀ s,
    let u := faultF2s allScopes Sts.SET_ALTERED 7 { s with ssv := { s.ssv with copyOk := false } }
    exec (.checkValueRecompute false) s = .next (if u.ssv.mode = .commissioned then setMode .uncommissioned u else u))
  ∧ (∀ s id e t0, s.ssv.eng.find? (fun e => e.id == id) = some e → e.lockedTo = some t0 →
    ∃ t, exec (.lockoutEnd id) s = .next t ∧ t.cyc.now = max s.cyc.now t0 ∧ t.ldg.journalDue = true
      ∧ t.ssv.eng.length = s.ssv.eng.length ∧ ∀ (i : Nat) (x : Engineer), s.ssv.eng[i]? = some x → t.ssv.eng[i]?
        = some (if x.id = id then { x with lockedTo := none, fails := 0 } else x))
  ∧ (∀ s, s.ssv.mode = .service → exec .serviceExpired s = .next (leaveServiceMode
      (allScopes.foldl (fun s k => faultF1 k Sts.SERVICE_EXPIRED 7 s) (s.upTo s.ssv.serviceTo))))
  ∧ (∀ s, s.ssv.mode ≠ .service → exec .serviceExpired s = .next s)
  ∧ (∀ s k, k < 72 → (shutDone s k = true → exec (.shutdownEnd 0 k) s = .next (scopeDisabled k s))
      ∧ (shutDone s k = false → exec (.shutdownEnd 0 k) s = .next s))
  ∧ (∀ s k, k < 8 → (s.plr k).tileFn = .shuttingDown → (∀ v, (s.plr k).solve = some v → v.done = true) → exec (.shutdownEnd 1 k) s
    = .next (raiseArm k (s.sc k).status 0 (s.mdPlr k fun r => { r with tileFn := .disabled, solve := none })))
  ∧ (∀ s ch, ch < 2 → (vrd s.ttc.ch ch).fn = .shuttingDown → (vrd s.ttc.ch ch).offAt < s.ttc.t0 → exec (.shutdownEnd 2 ch) s
    = .next (raiseEv 94 Sts.OK s.node 0 (ch * 2 ^ 30) (s.mdCb ch fun c => { c with fn := .disabled })))
  ∧ (∀ s k v, k < 8 → (s.plr k).solve = some v → v.done = false → exec (.shutdownEnd 1 k) s = .next s)
  ∧ ∀ s i, s.mlc.role = .active → s.mlc.unpairing.isSome = true →
    (s.mlc.unacked = [] → ∃ t, exec (.shutdownEnd 3 i) s = .next t ∧ t.mlc.shadow = .absent
      ∧ t.mlc.secret = none ∧ t.mlc.pairSerial = 0 ∧ t.mlc.unpairing = none ∧ t.hif.evstat.testBit 109 = true)
    ∧ (s.mlc.unacked ≠ [] → exec (.shutdownEnd 3 i) s = .next s)

/-- Outside D3hot a BAR2 read returns the bytes of the windows, marks a stopped capture that it touches as read and
changes nothing else; a BAR2 write only counts up to 255; an aborted read counts and raises E124. A doorbell value is
taken exactly when it advances REQ_PROD and stays within 16 of REQ_CONS, an acknowledgement when it advances RSP_ACK
to RSP_PROD at most; any other value leaves the index, sets DB_BAD or ACK_BAD and raises E120 + c. A mailbox write
that collides is lost and sets COLLIDE. A write of 1 clears a status bit unless an event set it in the same handshake;
a mask write replaces 32 mask bits. Unmasking sends what the PBA holds. Reading HIF_STATUS clears its two counts and
HIF_HOTPLUG its one, after returning the word; a write to a read-only or undefined word changes nothing. In D3hot none
of these acts; configuration space is read all the same. (R5, R352, R353, R354, R355, R358, R360, R363, R365) -/
def Obligations.HostAccesses : Prop :=
  (∀ s off len, s.hif.d3 = false → ∃ t, exec (.bar2Read off len) s = .next t
    ∧ t.hif = { s.hif with readData := (List.range len).map fun i => bar2Byte s (off + i), readAbort := false }
    ∧ t = { s with hif := t.hif, fw := { s.fw with caps := t.fw.caps } }
    ∧ ∀ c < 16, vrd t.fw.caps c = (vrd s.fw.caps c).map fun x => if x.stopped && x.touched off len then { x with read := true } else x)
  ∧ (∀ s off, s.hif.d3 = false → off < 2 ^ 24 → exec (.bar2Write off) s = .next { s with hif := { s.hif with bar2Wr := incSat 255 s.hif.bar2Wr } })
  ∧ (∀ s off, s.hif.d3 = false → ∃ t, exec (.bar2ReadAbort off) s = .next t ∧ t.hif.bar2Abort = incSat 255 s.hif.bar2Abort
    ∧ t.hif.readAbort = true ∧ t.hif.readData = [] ∧ t.hif.evstat.testBit 124 = true ∧ t.hif.logNext = (s.hif.logNext + 1) % 2 ^ 32)
  ∧ (∀ s ch v at_, ch < 4 → v < 2 ^ 16 → s.hif.d3 = false →
    ((s.hif.fwReady = true ∧ 0 < ringDiff v (s.chan ch).reqProd ∧ ringDiff v (s.chan ch).reqCons ≤ 16) →
      exec (.doorbell ch v at_) s = .next ((s.upTo at_).mdChan ch fun x => { x with reqProd := v, posts := x.posts ++ [(v, coarse at_)] }))
    ∧ (¬ (s.hif.fwReady = true ∧ 0 < ringDiff v (s.chan ch).reqProd ∧ ringDiff v (s.chan ch).reqCons ≤ 16) →
      ∃ t, exec (.doorbell ch v at_) s = .next t ∧ t.chan ch = s.chan ch ∧ t.hif.dbBad.testBit ch = true
        ∧ t.hif.evstat.testBit (120 + ch) = true))
  ∧ (∀ s ch v, ch < 4 → v < 2 ^ 16 → s.hif.d3 = false →
    let x := s.chan ch
    let ok := 0 < ringDiff v x.rspAck ∧ ringDiff v x.rspAck ≤ ringDiff x.rspProd x.rspAck
    (ok → exec (.rspAck ch v) s = .next (s.mdChan ch fun x => { x with rspAck := v }))
    ∧ (¬ ok → ∃ t, exec (.rspAck ch v) s = .next t ∧ t.chan ch = x ∧ t.hif.ackBad.testBit ch = true
      ∧ t.hif.evstat.testBit (120 + ch) = true))
  ∧ (∀ s off bytes, s.hif.d3 = false → 0x1000 ≤ off → off < 0x10000 → off + bytes.length ≤ 0x10000 →
    exec (.mailboxRamWrite off bytes false) s = .next { s with hif := { s.hif with ram := memWrite s.hif.ram off bytes } }
    ∧ ∃ t, exec (.mailboxRamWrite off bytes true) s = .next t ∧ t.hif.ram = s.hif.ram
      ∧ t.hif.collide.testBit ((off - 0x1000) / 0x3C00) = true)
  ∧ (∀ s n mask again, n < 4 → s.hif.d3 = false → s.hif.evstat < 2 ^ 128 → ∃ t, exec (.evstatClear n mask again) s = .next t
    ∧ (∀ i < 128, t.hif.evstat.testBit i = if i / 32 = n
      then (s.hif.evstat.testBit i && !mask.testBit (i % 32)) || again.testBit (i % 32) else s.hif.evstat.testBit i)
    ∧ t.ldg = s.ldg ∧ t.axes = s.axes ∧ t.hif.evmask = s.hif.evmask)
  ∧ (∀ s n mask, n < 4 → s.hif.d3 = false → s.hif.evmask < 2 ^ 128 → ∃ t, exec (.evmaskWrite n mask) s = .next t
    ∧ (∀ i < 128, t.hif.evmask.testBit i = if i / 32 = n then mask.testBit (i % 32) else s.hif.evmask.testBit i)
    ∧ t.hif.evstat = s.hif.evstat ∧ t.ldg = s.ldg ∧ t.axes = s.axes)
  ∧ (∀ s vec, vec < 32 → ∃ t, exec (.msixUnmask 0 vec) s = .next t ∧ (vrd t.hif.msix vec).mask = false
    ∧ (s.hif.pba.testBit vec = true → s.hif.msixEn = true → s.hif.funcMask = false → s.hif.busMaster = true →
      t.hif.pba.testBit vec = false ∧ vrd t.hif.sent vec = vrd s.hif.sent vec + 1))
  ∧ (∀ s, s.hif.d3 = false → exec (.readClearAccess 0x010) s = .next { s with hif := { s.hif with
      readData := leBytes 4 (hifStatus s), readAbort := false, bar2Abort := 0, bar2Wr := 0 } })
  ∧ (∀ s, s.hif.d3 = false → exec (.readClearAccess 0x014) s = .next { s with hif := { s.hif with
      readData := leBytes 4 (hifHotplug s.hif), readAbort := false, linkDowns := 0 } })
  ∧ (∀ s off v, s.hif.d3 = false → off < 0x014 ∨ (0x01C ≤ off ∧ off < 0x040) ∨ (0xA00 ≤ off ∧ off < 0x1000) →
    exec (.registerWrite 0 off v) s = .next s)
  ∧ (∀ s v, s.hif.d3 = false → ∃ t, exec (.registerWrite 0 0x018 v) s = .next t ∧ t = { s with hif := t.hif }
    ∧ ∀ i < 4, t.hif.dbBad.testBit i = (s.hif.dbBad.testBit i && !v.testBit (8 + i))
      ∧ t.hif.ackBad.testBit i = (s.hif.ackBad.testBit i && !v.testBit (4 + i))
      ∧ t.hif.collide.testBit i = (s.hif.collide.testBit i && !v.testBit i))
  ∧ (∀ s i v, i < 64 → exec (.registerWrite 2 i v) s = .next { s with ldg := { s.ldg with
      locks := vmd s.ldg.locks i fun l => { l with lease := v % 2 ^ 32 / 256 % 2 ^ 16 } } })
  ∧ (∀ s off, 0x10000 ≤ off → exec (.readClearAccess off) s = .next { s with hif := { s.hif with
      readData := leBytes 4 (cfgWord s ((off - 0x10000) / 4 * 4)), readAbort := false } })
  ∧ ∀ s off len v at_ bytes ch, s.hif.d3 = true → ch < 4 → off < 0x10000 →
    exec (.bar2Read off len) s = .next s ∧ exec (.bar2Write off) s = .next s ∧ exec (.bar2ReadAbort off) s = .next s ∧ exec (.doorbell ch v at_) s = .next (s.upTo at_) ∧ exec (.rspAck ch v) s = .next s
    ∧ exec (.mailboxRamWrite off bytes false) s = .next s ∧ exec (.evstatClear ch v 0) s = .next s
    ∧ exec (.evmaskWrite ch v) s = .next s ∧ exec (.readClearAccess off) s = .next s ∧ exec (.registerWrite 0 off v) s = .next s

/-- A link that goes down counts, raises E125 and resets the function; one that comes up at a width of 1 or 2 and rate
1 to 3 raises E125. A conventional reset resets the function and keeps sessions and motion, but in F3 PERST# and a hot
reset are a device reset. D3hot changes the power state only. An AER error raises E124, a change of width or rate
E125; the release of PERST_N starts the 20 ms. A request is taken from the channel whose turn it is: REQ_CONS passes
it, the turn moves on, and it is judged at its doorbell stamp. A lease that runs out ends the session with
LEASE_EXPIRED. (R33, R351, R355, R356, R359, R364, R371, R475) -/
def Obligations.HostLinkAndRequests : Prop :=
  (∀ s, s.hif.linkUp = true → ∃ t, exec .linkDown s = .next t ∧ t.hif.linkUp = false ∧ t.hif.linkDowns = incSat 255 s.hif.linkDowns
    ∧ t.hif.evstat.testBit 125 = true ∧ t.hif.ram = [] ∧ t.axes = s.axes ∧ t.ssv = s.ssv
    ∧ ∀ c < 4, (t.chan c).open_ = (s.chan c).open_ ∧ (t.chan c).reqProd = 0 ∧ (t.chan c).rspProd = 0)
  ∧ (∀ s, s.hif.linkUp = false → exec .linkDown s = .next s)
  ∧ (∀ s w r, 1 ≤ w → w ≤ 2 → 1 ≤ r → r ≤ 3 → s.pwr.held = false → ∃ t, exec (.linkUp w r) s = .next t
    ∧ t.hif.linkUp = true ∧ t.hif.width = w ∧ t.hif.speed = r ∧ t.hif.trainBy = none ∧ t.hif.evstat.testBit 125 = true)
  ∧ (∀ s, s.ssv.f3 = false → exec (.conventionalReset 1) s = .next (hifReset s)
    ∧ exec (.conventionalReset 0) s = .next (hifReset { s with pwr := { s.pwr with perstN := false } }))
  ∧ (∀ s, (hifReset s).axes = s.axes ∧ (hifReset s).ssv = s.ssv ∧ (hifReset s).fw = s.fw ∧ (hifReset s).ldg = s.ldg
    ∧ (hifReset s).hif.ram = [] ∧ (hifReset s).hif.evstat = 0 ∧ (hifReset s).hif.logNext = s.hif.logNext
    ∧ ∀ c < 4, ((hifReset s).chan c).open_ = (s.chan c).open_ ∧ ((hifReset s).chan c).token = (s.chan c).token
      ∧ ((hifReset s).chan c).stored = (s.chan c).stored ∧ ((hifReset s).chan c).renewAt = (s.chan c).renewAt
      ∧ ((hifReset s).chan c).reqProd = 0 ∧ ((hifReset s).chan c).reqCons = 0)
  ∧ (∀ s, s.ssv.f3 = true → exec (.conventionalReset 1) s = .next (holdReset s)
    ∧ exec (.conventionalReset 0) s = .next (holdReset { s with pwr := { s.pwr with perstN := false } }))
  ∧ (∀ s d, exec (.powerStateWrite d) s = .next { s with hif := { s.hif with d3 := d } })
  ∧ (∀ s status, ∃ t, exec (.aerError true status) s = .next t ∧ t.hif.evstat.testBit 124 = true ∧ t.hif.aerCor = s.hif.aerCor
    ∧ t.hif.aerUnc = s.hif.aerUnc ||| status % 2 ^ 32 ∧ t.axes = s.axes)
  ∧ (∀ s w r, s.hif.linkUp = true → ∃ t, exec (.linkWidthRateChange w r) s = .next t ∧ t.hif.width = w ∧ t.hif.speed = r
    ∧ t.hif.evstat.testBit 125 = true ∧ t.hif.ch = s.hif.ch ∧ t.axes = s.axes)
  ∧ (∀ s, exec .perstNRelease s = .next { s with
      pwr := { s.pwr with perstN := true }, hif := { s.hif with trainBy := some (max s.cyc.now (200 * us) + 20 * ms) } })
  ∧ (∀ s ch at_, ch < 4 → s.fwIdle = true → s.nextChan = some ch →
    ((s.chan ch).posts.find? fun p =>
      decide (0 < ringDiff p.1 (s.chan ch).reqCons) && decide (ringDiff p.1 (s.chan ch).reqCons ≤ 16)) = some at_ →
    let n := (s.chan ch).reqCons
    let u := s.mdChan ch fun x => { x with
      reqCons := (n + 1) % 2 ^ 16, posts := x.posts.filter fun p => decide (0 < ringDiff p.1 (n + 1)) && decide (ringDiff p.1 (n + 1) ≤ 16) }
    exec (.requestTaken ch) s = .next (judgeReq ch n (reqMsg (memRead s.hif.ram (reqSlot ch n) 256)) at_.2
      { u with hif := { u.hif with turn := (ch + 1) % 4 } }))
  ∧ (∀ s ch, ch < 4 → s.nextChan ≠ some ch ∨ s.fwIdle = false → exec (.requestTaken ch) s = .next s)
  ∧ ∀ s ch, ch < 4 → (s.chan ch).open_ = true → (s.chan ch).mirrored = false →
    ((s.chan ch).posts.any fun p => !atOrAfter p.2 ns (s.chan ch).leaseEnd) = false →
    exec (.leaseExpiry ch) s = .next (sessionEnd ch Sts.LEASE_EXPIRED (s.upTo (s.chan ch).leaseEnd))
    ∧ ∃ t, exec (.leaseExpiry ch) s = .next t ∧ (t.chan ch).open_ = false ∧ (t.chan ch).token = 0 ∧ (t.chan ch).stored = []
      ∧ t.hif.evstat.testBit (120 + ch) = true

/-- An unmasked requester that the matrix admits, alone on a bank nobody holds, is served: a read delivers the bytes
of the word (of the index page and the secure region what the controller keeps there) and leaves memory, a write
changes the bytes it writes and no other. A refused access latches PROT_VIOL, a masked one is ignored. A waiting
request takes the bank's ply again; a hold that has lasted is revoked. Sideband masking drops the requester's
requests, its grant and its locks. A written table is staged and adopted bank by bank, a ranking governs at once.
(R431, R435, R437, R438, R440, R443, R444) -/
def Obligations.LedgerCommands : Prop :=
  (∀ s req addr len write data err, req < 21 → addr < 0x800000 →
    let q := vrd s.ldg.reqs req
    let b := vrd s.ldg.banks (bankOf addr)
    (q.masked = true → exec (.ledgerRequest req addr len write data err) s = .next s)
    ∧ (q.masked = false → s.mayAccess req addr write = false →
      exec (.ledgerRequest req addr len write data err) s = .next (protViol req write s))
    ∧ (q.masked = false → s.mayAccess req addr false = true → b.span = false → b.waiting = [] → 0 < len →
      s.ldg.bad.contains (addr / 8 * 8) = false → ∃ t, exec (.ledgerRequest req addr len false data 0) s = .next t ∧ t.ldg.mem = s.ldg.mem
        ∧ t.ldg.readData = some ((List.range (min len (8 - addr % 8))).map fun i => s.ldgByte (addr + i)) ∧ t.axes = s.axes ∧ t.ssv = s.ssv
        ∧ ∀ c, c ≠ bankOf addr → vrd t.ldg.banks c = vrd s.ldg.banks c)
    ∧ (q.masked = false → s.mayAccess req addr true = true → b.span = false → b.waiting = [] → memWf s.ldg.mem = true →
      s.ldg.bad.contains (addr / 8 * 8) = false → ∃ t, exec (.ledgerRequest req addr len true data 0) s = .next t
        ∧ (∀ a, memByte t.ldg.mem a = if addr ≤ a ∧ a < addr + min data.length (8 - addr % 8) then data.getD (a - addr) 0
          else memByte s.ldg.mem a) ∧ t.ldg.readData = s.ldg.readData ∧ t.axes = s.axes ∧ t.ssv = s.ssv))
  ∧ (∀ s req bank r, req < 21 → bank < 32 → (vrd s.ldg.reqs req).masked = false →
    (vrd s.ldg.banks bank).waiting.find? (fun r => r.req == req) = some r → exec (.ledgerBackoffExpiry req bank) s
      = .next (plyOf bank r (8 - r.off) 0 (s.mdBank bank fun k => { k with plies := max k.plies r.again })))
  ∧ (∀ s req bank, req < 21 → bank < 32 →
    let k := vrd s.ldg.banks bank
    let q := vrd s.ldg.reqs req
    (q.ghEn = true → k.span = true → k.owner = req → exec (.holdCut req bank) s = .next (unitError req false
      ((s.mdBank bank fun k => { k.count s.cyc.now (q.ghLimit - k.run) (isCompute req) with span := false, run := 0 }).mdReq req
        fun q => { q with holdCuts := incSat 255 q.holdCuts })))
    ∧ (q.ghEn = false ∨ k.span = false ∨ k.owner ≠ req → exec (.holdCut req bank) s = .next s))
  ∧ (∀ s req, req < 21 → (vrd s.ldg.reqs req).sbEn = true →
    (∃ t, exec (.sidebandMask req true) s = .next t ∧ (vrd t.ldg.reqs req).masked = true
      ∧ (∀ b < 32, (∀ r ∈ (vrd t.ldg.banks b).waiting, r.req ≠ req)
        ∧ ((vrd s.ldg.banks b).owner = req → (vrd t.ldg.banks b).span = false)
        ∧ ((vrd s.ldg.banks b).owner ≠ req → (vrd t.ldg.banks b).span = (vrd s.ldg.banks b).span))
      ∧ (∀ l < 64, vrd t.ldg.locks l = if (vrd s.ldg.locks l).state = 1 ∧ (vrd s.ldg.locks l).owner = req
        then { vrd s.ldg.locks l with state := 2, owner := 0 } else vrd s.ldg.locks l) ∧ t.ldg.mem = s.ldg.mem)
    ∧ exec (.sidebandMask req false) s = .next (s.mdReq req fun q => { q with masked := false }))
  ∧ (∀ s tbl, tbl.length = 64 → ∃ t, exec (.plyTableWrite 0 tbl) s = .next t ∧ t.ldg.staged = some tbl ∧ t.ldg.table = s.ldg.table
    ∧ ∀ b < 32, (vrd t.ldg.banks b).due = true ∧ (vrd t.ldg.banks b).tbl = (vrd s.ldg.banks b).tbl)
  ∧ (∀ s rank, rank.length = 32 → exec (.plyTableWrite 1 rank) s = .next { s with ldg := { s.ldg with rank := rank } })
  ∧ ∀ s bank tbl, bank < 32 → s.ldg.staged = some tbl → (vrd s.ldg.banks bank).due = true →
    ∃ t, exec (.plyTableAdopt bank) s = .next t ∧ (vrd t.ldg.banks bank).tbl = tbl ∧ (vrd t.ldg.banks bank).due = false
      ∧ (vrd t.ldg.banks bank).waiting = (vrd s.ldg.banks bank).waiting ∧ (vrd t.ldg.banks bank).owner = (vrd s.ldg.banks bank).owner
      ∧ 64 ∣ (vrd t.ldg.banks bank).plies

/-- Acquire and release follow Table 15-7, a lease that runs out breaks the lock. A corrected word is written back
once, the scrubber moves on by a word and counts what it corrects, a fill switches PHYS. The journal takes an append
where something is due and a fresh image at a compaction, not while it is erased. TAMPER_N for 10 us wipes a running
controller and is latched in reset. (R432, R433, R434, R443, R447, R448) -/
def Obligations.LedgerHousekeeping : Prop :=
  (∀ s req lock at_, req < 21 → lock < 64 → (vrd s.ldg.reqs req).masked = false →
    let l := vrd s.ldg.locks lock
    let live := l.lease = 0 ∨ at_ < l.at_ + l.lease * us
    ∃ t, exec (.lockAcquire req lock at_) s = .next t ∧ (∀ j, j ≠ lock → vrd t.ldg.locks j = vrd s.ldg.locks j)
      ∧ (l.state = 0 → t.ldg.acq = 0 ∧ vrd t.ldg.locks lock = { l with state := 1, owner := req, at_ := at_ })
      ∧ (l.state = 1 → live → l.owner ≠ req → t.ldg.acq = 1 ∧ vrd t.ldg.locks lock = l)
      ∧ (l.state = 1 → live → l.owner = req → t.ldg.acq = 3 ∧ vrd t.ldg.locks lock = l)
      ∧ (l.state = 2 ∨ (l.state = 1 ∧ ¬ live) → t.ldg.acq = 2 ∧ vrd t.ldg.locks lock = { l with state := 1, owner := req, at_ := at_ }))
  ∧ (∀ s req lock at_, req < 21 → lock < 64 → (vrd s.ldg.reqs req).masked = false →
    let l := vrd s.ldg.locks lock
    ∃ t, exec (.lockRelease req lock at_) s = .next t ∧ (∀ j, j ≠ lock → vrd t.ldg.locks j = vrd s.ldg.locks j)
      ∧ (l.state = 1 → l.lease = 0 ∨ at_ < l.at_ + l.lease * us → l.owner = req →
        vrd t.ldg.locks lock = { l with state := 0, owner := 0 })
      ∧ (l.owner ≠ req → l.state = 1 → l.lease = 0 ∨ at_ < l.at_ + l.lease * us →
        vrd t.ldg.locks lock = { l with relBad := incSat 3 l.relBad }))
  ∧ (∀ s lock, lock < 64 →
    let l := vrd s.ldg.locks lock
    (l.state = 1 → 0 < l.lease → ∃ t, exec (.lockLeaseExpiry lock) s = .next t
      ∧ t.cyc.now = max s.cyc.now (l.at_ + l.lease * us) ∧ vrd t.ldg.locks lock = { l with state := 2, owner := 0 })
    ∧ (l.state ≠ 1 ∨ l.lease = 0 → exec (.lockLeaseExpiry lock) s = .next s))
  ∧ (∀ s bank, bank < 32 → ∃ t, exec (.correctedWriteback bank) s = .next t
    ∧ (vrd t.ldg.banks bank).fix = (vrd s.ldg.banks bank).fix.tail ∧ t.ldg.mem = s.ldg.mem ∧ t.axes = s.axes)
  ∧ (∀ s, ∃ t, exec (.scrub 0) s = .next t ∧ t.ldg.scrubAt = (s.ldg.scrubAt + 8) % 0x800000 ∧ t.ldg.mem = s.ldg.mem
    ∧ t.hlt = s.hlt ∧ t.ssv = s.ssv)
  ∧ (∀ s, (∀ x ∈ s.ldg.scrubHist, x.1 = s.ldg.scrubAt → x.2 + day ≤ s.cyc.now) → ∃ t, exec (.scrub 1) s = .next t
    ∧ t.ldg.scrubAt = (s.ldg.scrubAt + 8) % 0x800000
    ∧ (vrd t.ldg.banks (bankOf s.ldg.scrubAt)).corr = incSat 65535 (vrd s.ldg.banks (bankOf s.ldg.scrubAt)).corr
    ∧ (vrd t.ldg.banks (bankOf s.ldg.scrubAt)).fix = (vrd s.ldg.banks (bankOf s.ldg.scrubAt)).fix ++ [s.ldg.scrubAt]
    ∧ t.ldg.mem = s.ldg.mem ∧ t.hlt = s.hlt)
  ∧ (∀ s bank, bank < 32 → (vrd s.ldg.banks bank).filling = true → ∃ t, exec (.bankFillComplete bank) s = .next t
    ∧ (vrd t.ldg.banks bank).filling = false ∧ (vrd t.ldg.banks bank).phys = (vrd s.ldg.banks bank).fillTo ∧ t.ldg.mem = s.ldg.mem)
  ∧ (∀ s, s.ldg.erasing = false → s.hlt.sealEx = false →
    (s.ldg.journalDue = true → exec .journalAppend s = .next { s with ldg := { s.ldg with
      journal := some s.secImage, journalRecs := s.ldg.journalRecs + 1, journalKey := s.hlt.fuses.wipes, journalDue := false } })
    ∧ exec .journalCompaction s = .next { s with ldg := { s.ldg with
      journal := some s.secImage, journalRecs := 0, journalGen := s.ldg.journalGen + 1, journalKey := s.hlt.fuses.wipes
      journalDue := false } })
  ∧ (∀ s, s.ldg.erasing = true ∨ s.hlt.sealEx = true →
    exec .journalAppend s = .next s ∧ exec .journalCompaction s = .next s)
  ∧ ∀ s held, (held < 10 * us → exec (.tamperN held) s = .next s)
    ∧ (10 * us ≤ held → s.pwr.held = false → s.pwr.boot ≠ .fuseLoad → exec (.tamperN held) s = .next (wipe 1 s))
    ∧ (10 * us ≤ held → s.pwr.held = true ∨ s.pwr.boot = .fuseLoad →
      exec (.tamperN held) s = .next { s with pwr := { s.pwr with tamper := 1 } })

/-- After a wipe with any cause from any state the confirmation record, the engineer table, the audit log and the
pairing secret are gone, the operating mode is UNCOMMISSIONED, the journal is gone and being erased, WIPE_CAUSE is the
cause, and one more of the 64 wipe-count bits is burned. (R447, R448) -/
def Obligations.WipeForgets : Prop :=
  ∀ cause s, let t := wipe cause s
    t.ssv.conf = none ∧ t.ssv.eng = [] ∧ t.mlc.secret = none ∧ t.ssv.mode = .uncommissioned ∧ t.ldg.journal = none
    ∧ t.ldg.erasing = true ∧ t.ldg.wipeCause = cause ∧ t.hlt.fuses.wipes = min 64 (s.hlt.fuses.wipes + 1)

/-- While FW_READY is set, PMBUS_FAIL is clear and READ_VOUT agrees, an iteration raises the voltage by 5 mV where the
smallest margin is below M_LOW and VDD_MAX is not reached, lowers it by 5 mV at the 1 000th iteration in a row at or
above M_HIGH above 800 mV, and otherwise leaves it; one that begins between 800 mV and VDD_MAX, both multiples of 5,
ends there. Nothing else of the controller but its event log and its health record changes. (R450, R451) -/
def Obligations.VoltageLoopSteps : Prop :=
  ∀ s vout, s.hif.fwReady = true → s.hlt.pmbusFail = false →
    (s.hlt.voutWait = none ∨ (s.hlt.vdd ≤ vout + 10 ∧ vout ≤ s.hlt.vdd + 10)) →
    ∃ t, exec (.voltageLoop vout) s = .next t
      ∧ (s.hlt.marginMin < (prmN s.ps Pid.M_LOW 0 : Int) * 128 → s.hlt.vdd < prmN s.ps Pid.VDD_MAX 0 →
        t.hlt.vdd = s.hlt.vdd + 5 ∧ t.hlt.highRun = 0 ∧ t.hif.evstat.testBit 113 = true)
      ∧ ((prmN s.ps Pid.M_HIGH 0 : Int) * 128 ≤ s.hlt.marginMin → 800 < s.hlt.vdd → prmN s.ps Pid.M_LOW 0 ≤ prmN s.ps Pid.M_HIGH 0 →
        (s.hlt.highRun + 1 = 1000 → t.hlt.vdd = s.hlt.vdd - 5 ∧ t.hlt.highRun = 0 ∧ t.hif.evstat.testBit 113 = true)
        ∧ (s.hlt.highRun + 1 ≠ 1000 → t.hlt.vdd = s.hlt.vdd ∧ t.hlt.highRun = s.hlt.highRun + 1))
      ∧ ((prmN s.ps Pid.M_LOW 0 : Int) * 128 ≤ s.hlt.marginMin → s.hlt.marginMin < (prmN s.ps Pid.M_HIGH 0 : Int) * 128 →
        t.hlt.vdd = s.hlt.vdd ∧ t.hlt.highRun = 0)
      ∧ (800 ≤ s.hlt.vdd → s.hlt.vdd ≤ prmN s.ps Pid.VDD_MAX 0 → s.hlt.vdd % 5 = 0 → prmN s.ps Pid.VDD_MAX 0 % 5 = 0 →
        800 ≤ t.hlt.vdd ∧ t.hlt.vdd ≤ prmN s.ps Pid.VDD_MAX 0 ∧ t.hlt.vdd % 5 = 0)
      ∧ t.axes = s.axes ∧ t.ssv = s.ssv ∧ t.dl = s.dl ∧ t.planners = s.planners ∧ t.cyc = s.cyc ∧ t.hif.ch = s.hif.ch

/-- The tempo monitor stores the 22 margins and the smallest, and THERM_N follows 120 and 115 degrees. TEMPO_WARNING
is set after 1 000 iterations at VDD_MAX below M_LOW and clears after 1 000 at or above it or below VDD_MAX. An alert
reports STATUS_WORD; READ_VOUT outside 2 ms after a command, or the third bad transaction in a row, sets PMBUS_FAIL; a
good exchange clears it. An error makes a unit in service or spare SUSPECT, its work moves to a spare, or its pool is
empty; a suspect unit that fails its test is RETIRED with E115, one that passes below GLINT_LIMIT comes back; a
commanded test ends its ticket, and its unit is as before where it passes. A background test stamps a spare unit that
passes and retires one that fails. The final test fuses the root key and FIELD_GRP and wipes. (R449, R451, R452, R453,
R455, R456, R457, R459) -/
def Obligations.HealthEvents : Prop :=
  (∀ s rates tj, ∃ t, exec (.tempoMonitor rates tj) s = .next t ∧ t.hlt.tj = tj ∧ t.hlt.margins.length = 22
    ∧ (∀ d < 22, t.hlt.margins[d]? = some (domainMargin s d (lget rates d) tj) ∧ t.hlt.marginMin ≤ domainMargin s d (lget rates d) tj)
    ∧ t.hlt.marginDom < 22 ∧ t.hlt.margins[t.hlt.marginDom]? = some t.hlt.marginMin
    ∧ (1200 ≤ tj → t.hlt.therm = true) ∧ (tj < 1150 → t.hlt.therm = false) ∧ (1150 ≤ tj → tj < 1200 → t.hlt.therm = s.hlt.therm)
    ∧ t.hlt.vdd = s.hlt.vdd ∧ t.axes = s.axes)
  ∧ (∀ s, s.hlt.tempoWarn = false → 1000 ≤ s.hlt.warnRun → ∃ t, exec .tempoWarning s = .next t ∧ t.hlt.tempoWarn = true
    ∧ t.hif.evstat.testBit 112 = true)
  ∧ (∀ s, s.hlt.tempoWarn = true → 1000 ≤ s.hlt.okRun ∨ s.hlt.vdd < prmN s.ps Pid.VDD_MAX 0 →
    ∃ t, exec .tempoWarning s = .next t ∧ t.hlt.tempoWarn = false ∧ t.hif.evstat.testBit 112 = true)
  ∧ (∀ s w, ∃ t, exec (.pmbusAlert w) s = .next t ∧ t.hif.evstat.testBit 113 = true ∧ t.hlt = s.hlt ∧ t.axes = s.axes)
  ∧ (∀ s a, s.hlt.voutWait = some a → s.hlt.pmbusFail = false → ∃ t, exec .pmbusVoutTimeout s = .next t ∧ t.hlt.pmbusFail = true
    ∧ t.cyc.now = max s.cyc.now (a + 2 * ms) ∧ t.hlt.vdd = s.hlt.vdd ∧ t.hif.evstat.testBit 113 = true)
  ∧ (∀ s v, s.hlt.pmbusFail = true → (∃ t, exec (.pmbusRetry true v) s = .next t ∧ t.hlt.pmbusFail = false ∧ t.hlt.pmbusBad = 0
      ∧ t.hlt.vdd = s.hlt.vdd) ∧ exec (.pmbusRetry false v) s = .next s)
  ∧ (∀ s v, s.hlt.pmbusFail = false → exec (.pmbusRetry true v) s = .next { s with hlt := { s.hlt with pmbusBad := 0 } }
    ∧ (s.hlt.pmbusBad < 2 → exec (.pmbusRetry false v) s = .next { s with hlt := { s.hlt with pmbusBad := s.hlt.pmbusBad + 1 } })
    ∧ (s.hlt.pmbusBad = 2 → ∃ t, exec (.pmbusRetry false v) s = .next t ∧ t.hlt.pmbusFail = true ∧ t.hif.evstat.testBit 113 = true))
  ∧ (∀ s cls idx cause, cls < 10 → idx < unitCounts.getD cls 0 →
    ((s.unit cls idx).st = .suspect → exec (.unitError cls idx cause) s = .next s)
    ∧ ((s.unit cls idx).st = .retired → exec (.unitError cls idx cause) s = .next (
      if cls ≠ 6 then s else if idx < 36 then suspectUnit 7 idx cause none s else suspectUnit 5 (idx - 36) cause none s))
    ∧ ((s.unit cls idx).st = .spare → exec (.unitError cls idx cause) s = .next (poolEvents cls idx
      (raiseEv 114 Sts.OK cls idx (127 * 2 ^ 24 + cause) (s.mdUnit cls idx fun x => { x with st := .suspect, cmdTest := none }))))
    ∧ ((s.unit cls idx).st = .inService →
      let sp := if hasPool cls then s.spareFor cls idx else none
      let u := s.mdUnit cls idx fun x => { x with
        st := .suspect, serves := if sp.isSome && cls != 6 then 127 else x.serves, served := x.serves, stuck := sp.isNone, cmdTest := none }
      exec (.unitError cls idx cause) s = .next (raiseEv 114 Sts.OK cls idx (sp.getD 127 * 2 ^ 24 + cause) (match sp with
        | some j => poolEvents cls idx (takeover cls idx j (if cls = 6 then u
          else u.mdUnit cls j fun x => { x with st := .inService, serves := (s.unit cls idx).serves }))
        | none => if hasPool cls = true ∨ cls = 9 then poolEmpty cls idx cause u else poolEvents cls idx u))))
  ∧ (∀ s cls idx, cls < 10 → idx < testedUnits cls → (s.unit cls idx).st = .suspect → (s.unit cls idx).cmdTest = none →
    exec (.targetedSelfTestDone cls idx false) s
      = .next (raiseEv 115 Sts.SELFTEST_FAILED cls idx 1 (retireUnit cls idx (takenBy cls idx s) 1 s))
    ∧ (let g := glintsNow s.ps s.cyc.now (s.unit cls idx).glints
       (g.length < prmN s.ps Pid.GLINT_LIMIT 0 → exec (.targetedSelfTestDone cls idx true) s
         = .next (raiseEv 115 Sts.OK cls idx 0 (passEffects cls idx (s.mdUnit cls idx fun x => { x with
             st := if (x.stuck && cls != 2) || !hasPool cls || cls = 6 then .inService else .spare
             glints := g, stuck := false, tested := s.cyc.now }))))
       ∧ (prmN s.ps Pid.GLINT_LIMIT 0 ≤ g.length → exec (.targetedSelfTestDone cls idx true) s
         = .next (raiseEv 115 Sts.OK cls idx 2 (retireUnit cls idx (takenBy cls idx s) 2 s)))))
  ∧ (∀ s cls idx pass t before, cls < 10 → idx < testedUnits cls → (s.unit cls idx).st = .suspect →
    (s.unit cls idx).cmdTest = some (t, before) →
    let v := s.mdUnit cls idx fun x => { x with st := before, cmdTest := none, stuck := false, tested := s.cyc.now }
    exec (.targetedSelfTestDone cls idx pass) s = .next (
      if pass then finishTicket t Sts.OK (raiseEv 115 Sts.OK cls idx 3
        (passEffects cls idx (if before = .inService then workBack cls idx v else v)))
      else finishTicket t Sts.SELFTEST_FAILED (raiseEv 115 Sts.SELFTEST_FAILED cls idx 1
        (retireUnit cls idx (takenBy cls idx s) 3 s))))
  ∧ (∀ s cls idx pass, cls < 10 → idx < testedUnits cls → (s.unit cls idx).st ≠ .suspect →
    exec (.targetedSelfTestDone cls idx pass) s = .next s)
  ∧ (∀ s cls idx, cls < 10 → idx < testedUnits cls →
    (s.unit cls idx).st = .spare ∨ (cls = 6 ∧ (s.unit cls idx).st = .inService) →
    exec (.backgroundSelfTest cls idx true) s
      = .next (raiseEv 115 Sts.OK cls idx 3 (s.mdUnit cls idx fun x => { x with tested := s.cyc.now }))
    ∧ exec (.backgroundSelfTest cls idx false) s
      = .next (poolEvents cls idx (raiseEv 115 Sts.SELFTEST_FAILED cls idx 1 (retireUnit cls idx 127 1 s))))
  ∧ (∀ s, s.hlt.fuses.state = 0 →
    let u := { s with hlt := { s.hlt with fuses := { s.hlt.fuses with rootKey := true, fieldGrp := 255 } } }
    exec .manufactureFinalTest s = .next (wipe 4 (raiseEv 119 Sts.OK 0 u.hlt.fuses.lifecycle 0 u)))
  ∧ ∀ s, s.hlt.fuses.state ≠ 0 → exec .manufactureFinalTest s = .next s

/-- A supply that rises counts as present; one outside its range, or the junction temperature, declares F3 inside the
safety channel and resets, a TRIP wipes as well. A low RESET_N or PWR_GOOD of 100 ns resets and a high one releases,
shorter pulses do nothing; a high TEST pin holds the reset. A removal declares F3 outside the safety channel once and
drops authority. The reset is released at cell time 0 when every condition of R472 has ended. (R448, R472, R476, R477,
R479) -/
def Obligations.PowerEvents : Prop :=
  (∀ s i, i < 5 → exec (.supplyRise i) s = .next { s with pwr := { s.pwr with supply := vwr s.pwr.supply i true } })
  ∧ (∀ s, exec .temperatureRecovery s = .next { s with pwr := { s.pwr with tempOut := false } })
  ∧ (∀ s i, i < 6 → ∃ t, exec (.supplyRangeFault i) s = .next t ∧ t.pwr.held = true ∧ (i < 5 → vrd t.pwr.supply i = false)
    ∧ (i = 5 → t.pwr.tempOut = true)
    ∧ (s.pwr.held = false → t = (let u := holdReset (faultF3 true Sts.OK s)
        { u with pwr := { u.pwr with supply := t.pwr.supply, tempOut := t.pwr.tempOut } }))
    ∧ exec (.trip i) s = .next (wipeInReset (if i = 5 then 3 else 2) t))
  ∧ (∀ s w low held, held < 100 * ns → exec (.resetN w low held) s = .next s)
  ∧ (∀ s held, 100 * ns ≤ held →
    exec (.resetN 0 true held) s = .next (let u := holdReset s; { u with pwr := { u.pwr with resetN := false } })
    ∧ exec (.resetN 0 false held) s = .next { s with pwr := { s.pwr with resetN := true } }
    ∧ exec (.resetN 1 true held) s = .next (let u := holdReset s; { u with pwr := { u.pwr with pwrGood := false } })
    ∧ exec (.resetN 1 false held) s = .next { s with pwr := { s.pwr with pwrGood := true } })
  ∧ (∀ s, exec (.testPin 0 true) s = .next (let u := holdReset s; { u with pwr := { u.pwr with test0 := true } })
    ∧ exec (.testPin 0 false) s = .next { s with pwr := { s.pwr with test0 := false } })
  ∧ (∀ s, (holdReset s).hlt.fuses = s.hlt.fuses ∧ (holdReset s).pending = s.pending ∧ (holdReset s).pwr.held = true
    ∧ (holdReset s).cyc.now = 0 ∧ (holdReset s).cyc.running = false ∧ (holdReset s).ssv = State.reset.ssv
    ∧ (holdReset s).axes = State.reset.axes ∧ (holdReset s).ldg.journal = s.ldg.journal)
  ∧ (∀ s,
    let u := { s with pwr := { s.pwr with presentN := true, seated := false } }
    (s.pwr.held = false → s.pwr.removed = false → exec .presentNRemoval s
      = .next (dropAuthority (faultF3 false 0xF001 { u with pwr := { u.pwr with removed := true } })))
    ∧ (s.pwr.held = true ∨ s.pwr.removed = true → exec .presentNRemoval s = .next u))
  ∧ (∀ s, exec .presentNInsertion s = .next { s with pwr := { s.pwr with presentN := false, seated := false } })
  ∧ (∀ s a b, s.pwr.held = true → (∀ i < 5, vrd s.pwr.supply i = true) → 2000 ≤ a → 10000 ≤ b → s.pwr.tempOut = false →
    s.pwr.pwrGood = true → s.pwr.resetN = true → s.pwr.presentN = false → s.pwr.test0 = false → s.pwr.test1 = false →
    exec (.internalResetRelease a b) s = .next { s with
      pwr := { s.pwr with held := false, boot := .fuseLoad, tr := 0, seated := true }, cyc := { s.cyc with running := true } })
  ∧ ∀ s a b, mayRelease s.pwr a b = false → exec (.internalResetRelease a b) s = .next s

/-- Start-up goes from fuse load over the cores' test, a latched wipe and the ROM self-test to FW_READY, with 850 mV
commanded, PMBUS_FAIL where VOUT_MODE is not linear, and the mode of the replayed set. An erase that ends lets the
journal go on; CTS_N holds the event-log output; JTAG takes BYPASS for an instruction that TEST0 does not allow.
(R396, R397, R447, R448, R451, R458, R462, R464, R474) -/
def Obligations.StartUpEvents : Prop :=
  (∀ s, s.pwr.held = false → s.pwr.boot = .fuseLoad → ∃ t, exec .fuseLoadEnd s = .next t ∧ t.pwr.boot = .cores
    ∧ t.pwr.clkreq = true ∧ t.cyc.now = max s.cyc.now (200 * us)
    ∧ t.hlt.fuses = { s.hlt.fuses with fieldGrp := completeGrp s.hlt.fuses.fieldGrp, retiredGrp := completeGrp s.hlt.fuses.retiredGrp })
  ∧ (∀ s, s.pwr.held = false → s.pwr.boot = .cores →
    let u := s.upTo (1200 * us)
    let v := if s.pwr.tamper = 0 then u else
      { wipe s.pwr.tamper u with pwr := { (wipe s.pwr.tamper u).pwr with tamper := 0 } }
    ∃ t, exec .coreSelfTestEnd s = .next t ∧ t = { v.upTo (3200 * us) with
      pwr := { v.pwr with boot := .rom }
      ldg := { v.ldg with replay := if v.ldg.journalKey = v.hlt.fuses.wipes then v.ldg.journal else none } })
  ∧ (∀ s, s.pwr.held = false → s.pwr.boot = .rom → (∀ c < 4, s.dpWorking c ≠ 0) →
    ∃ t, exec (.romSelfTestEnd []) s = .next t ∧ t.pwr.boot = .replay
    ∧ t.cyc.now = max s.cyc.now (43200 * us) ∧ t.hlt = s.hlt ∧ ∀ c < 64, (vrd t.tb.interp c).calAt = t.cyc.now)
  ∧ (∀ s, s.pwr.held = false → s.pwr.boot = .replay → s.ldg.replay = none → (setInForce s.ps s).confirmed = false →
    prmN (setInForce s.ps s).ps Pid.PAIR_EN 0 = 0 → ∃ t, exec .fwReady s = .next t ∧ t.hif.fwReady = true ∧ t.pwr.boot = .ready
      ∧ t.ssv.mode = .uncommissioned ∧ t.hlt.pmbusFail = !Config.voutLinear ∧ t.ssv.faultN = (setInForce s.ps (s.upTo (45000 * us))).ssv.f3 ∧ t.hlt.vdd = 850
      ∧ t.cyc.now = max s.cyc.now (45000 * us))
  ∧ (∀ s, ∃ t, exec .journalEraseEnd s = .next t ∧ t.ldg.erasing = false ∧ (s.ldg.erasing = true → t.ldg.journalDue = true)
    ∧ (s.ldg.erasing = false → t = s))
  ∧ (∀ s, exec (.uartCtsN true) s = .next { s with pwr := { s.pwr with ctsN := true } }
    ∧ ∃ t, exec (.uartCtsN false) s = .next t ∧ t.pwr.uart = [] ∧ t.pwr.ctsN = false
      ∧ t.pwr.uartSent = s.pwr.uartSent + s.pwr.uart.length ∧ t = { s with pwr := t.pwr })
  ∧ (∀ s ir, s.pwr.test0 = false → 2 < ir → ∃ t, exec (.jtagInstruction ir) s = .next t ∧ t.pwr.jtag = 0 ∧ t.pwr.jtagDr = 0
    ∧ t = { s with pwr := t.pwr })
  ∧ ∀ s, exec (.jtagInstruction 1) s = .next { s with pwr := { s.pwr with jtag := 1, jtagDr := 0x16408DE3 } }

/-- A lane that gains lock starts its count and HELLO is sent in place of the one before; with 64 good heartbeats it
comes into service with E110. A heartbeat of 24 bytes whose stamp lies in its window counts once; an empty window of
an expected heartbeat is missed with E106 and restarts every lane's count. A good ACK takes a frame off, a bad one or
none within 2 us sends it again at most twice. MIR_PEER_ENG raises E111. HELLO shows the peer and moves a proven
JOINING Shadow to TRACKING; three lanes and DET_DEBOUNCE make an ABSENT one JOINING. Pairing data is kept, stored with
its secret, or dropped at PAIR_T; a committed set waits for its acknowledgement. (R397, R398, R400, R401, R402, R409,
R422, R423, R424) -/
def Obligations.MirrorLinkEvents : Prop :=
  (∀ s l, l < 5 → s.mlc.nonce ≠ 0 → ∃ t, exec (.mirrorLaneUp l) s = .next t
    ∧ vrd t.mlc.lanes l = { vrd s.mlc.lanes l with lock := true, good := 0 }
    ∧ (∀ j, j ≠ l → vrd t.mlc.lanes j = vrd s.mlc.lanes j)
    ∧ t.mlc.unacked.length = (s.mlc.unacked.filter fun f => f.typ != 3).length + 1 ∧ t.axes = s.axes)
  ∧ (∀ s l, l < 5 → (vrd s.mlc.lanes l).lock = true → (vrd s.mlc.lanes l).inService = false → 64 ≤ (vrd s.mlc.lanes l).good →
    (s.unit 5 l).st ≠ .suspect → (s.unit 5 l).st ≠ .retired →
    ∃ t, exec (.mirrorLaneInService l) s = .next t ∧ (vrd t.mlc.lanes l).inService = true ∧ t.hif.evstat.testBit 110 = true)
  ∧ (∀ s l, l < 5 → (vrd s.mlc.lanes l).good < 64 → exec (.mirrorLaneInService l) s = .next s)
  ∧ (∀ s mask at_ bytes, s.mlc.role ≠ .single → bytes.length = 24 → s.mlc.hbGot = false →
    (let st := (s.upTo at_).stampOf 40 at_
     inWindow st.at_ (stampUnit st.coarse) (hbExpect s - hbWin s) (hbExpect s + hbWin s) = true) →
    ∃ t, exec (.heartbeatReceived mask at_ bytes) s = .next t ∧ t.mlc.hbGot = true ∧ t.mlc.missRun = 0
      ∧ (∀ l < 5, (vrd t.mlc.lanes l).good = if mask.testBit l && (vrd s.mlc.lanes l).lock
        then min 64 ((vrd s.mlc.lanes l).good + 1) else 0) ∧ t.axes = s.axes ∧ t.ssv = s.ssv)
  ∧ (∀ s, s.cyc.running = true → s.mlc.hbT0 ≤ s.cyc.t0 → s.mlc.hbGot = false → hbExpected s = true → s.mlc.missRun = 0 →
    ∃ t, exec .heartbeatWindowClose s = .next t ∧ t.mlc.missRun = 1 ∧ t.hif.evstat.testBit 106 = true
      ∧ (∀ l < 5, (vrd t.mlc.lanes l).good = 0) ∧ t.mlc.hbT0 = s.mlc.hbT0 + tCtl)
  ∧ (∀ s seq f, (s.mlc.unacked.find? fun f => f.seq == seq) = some f →
    exec (.mirrorAck seq true) s
      = .next { s with mlc := { s.mlc with unacked := s.mlc.unacked.filter fun x => x.seq != seq } }
    ∧ exec (.mirrorAck seq false) s = .next (resend f s.cyc.now s)
    ∧ exec (.mirrorAckTimeout seq) s = .next (resend f (f.at_ + 2 * us) (s.upTo (f.at_ + 2 * us))))
  ∧ (∀ s f at_, 2 ≤ f.tries → (resend f at_ s).mlc.unacked = s.mlc.unacked.filter fun x => x.seq != f.seq)
  ∧ (∀ s high, s.mlc.peerEng ≠ high → exec (.mirPeerEngChange high) s
    = .next (raiseEv 111 Sts.OK 0xFF 0 1 { s with mlc := { s.mlc with peerEng := high } }))
  ∧ (∀ s at_ serial nonce role epoch check proof, s.mlc.role = .shadow → ∃ t,
    exec (.hello at_ serial nonce role epoch check proof) s = .next t ∧ t.mlc.peer = some (serial, nonce, roleOf role, epoch, check)
      ∧ t.mlc.helloAt = at_ ∧ t.mlc.helloSince.isSome = true ∧ t.axes = s.axes)
  ∧ (∀ s at_ serial nonce role epoch check k r, s.mlc.role = .active → s.mlc.shadow = .joining → s.mlc.transfer = none →
    s.mlc.secret = some k → s.mlc.pairSerial = serial → s.ssv.conf = some r → r.check = check →
    ∃ t, exec (.hello at_ serial nonce role epoch check (pairProof k nonce s.mlc.nonce serial Config.serial.toNat)) s = .next t
      ∧ t.mlc.shadow = .tracking ∧ t.hif.evstat.testBit 109 = true ∧ t.hif.evstat.testBit 105 = true)
  ∧ (∀ s h, s.mlc.helloSince = some h → s.mlc.role = .active → s.mlc.shadow = .absent → s.mlc.peerF3 = false →
    3 ≤ ((List.range 5).filter fun i => (vrd s.mlc.lanes i).inService).length →
    h + prmN s.ps Pid.DET_DEBOUNCE 0 * ms ≤ max s.cyc.now s.mlc.helloAt → s.cyc.now ≤ s.mlc.helloAt + 2 * ms →
    ∃ t, exec .shadowJoining s = .next t ∧ t.mlc.shadow = .joining ∧ t.hif.evstat.testBit 105 = true ∧ t.axes = s.axes)
  ∧ (∀ s off bytes last, s.mlc.role = .shadow → s.mlc.shadow = .joining → off + bytes.length ≤ 2 ^ 22 →
    ∃ t, exec (.paramRecord off bytes last) s = .next t ∧ t.mlc.paramRx = putBytes (if off = 0 then [] else s.mlc.paramRx) off bytes
      ∧ (last = true → t.mlc.pairBy = some (s.cyc.now + prmN s.ps Pid.PAIR_T 0 * 60 * sec)) ∧ t.ssv = s.ssv)
  ∧ (∀ s secret x y, s.mlc.role = .shadow → s.mlc.shadow = .joining → secret.length = 32 → s.mlc.paramRx ≠ [] →
    parseSet (pairParts s.mlc.paramRx).1 = .good x → parseSet (pairParts s.mlc.paramRx).2.1 = .good y →
    ∃ t, exec (.pairSecret secret) s = .next t ∧ t.mlc.secret = some secret ∧ t.mlc.paramRx = [] ∧ t.mlc.pairBy = none
      ∧ t.ssv.conf = readConfirm (pairParts s.mlc.paramRx).2.2.2)
  ∧ (∀ s a, s.mlc.pairBy = some a → exec .pairTExpiry s = .next (let u := s.upTo a
      { u with mlc := { u.mlc with pairBy := none, peerCheck := 0, transfer := none, paramRx := [] } }))
  ∧ ∀ s a b, s.mlc.commitWait = some (a, b) →
    exec (.pairCommitEffect true) s = .next { s with
      mlc := { s.mlc with commitWait := none }
      fw := { s.fw with setNext := s.fw.setNext.map fun x => { x with at_ := min x.at_ s.effectAt } } }
    ∧ (s.mlc.shadow = .ready → ∃ t, exec (.pairCommitEffect false) s = .next t ∧ t.mlc.shadow = .tracking ∧ t.mlc.cause = 7
      ∧ t.cyc.now = max s.cyc.now a ∧ t.mlc.commitWait = none)

/-- A unit without authority takes a SYSTEM record of the cycle in progress that is complete before the copy deadline
as its latest, and a Shadow that tracks takes fault level, owner and FALLBACK_N of every arm from it; a late one or
one of another cycle changes nothing. A copy of the references in time is kept, and in a Shadow compared: no
difference leaves no mismatch, a difference sets it. A cycle that is incomplete at the deadline is STALE with E105. A
STAGE record stages its command for its own instant, a PLAN record becomes the arm's published record, a DELTA writes
its bytes and what they stand for; WARM_REQ is answered with the warm start. (R23, R24, R403, R404, R405, R406, R411,
R415, R418) -/
def Obligations.MirrorCopyEvents : Prop :=
  (∀ s cycle at_ epoch sto dis levels stops plans, s.drives = false → copyInTime cycle at_ (s.upTo at_) = true →
    ∃ t r, exec (.systemRecord ⟨cycle, at_⟩ epoch sto dis levels stops plans) s = .next t ∧ t.mlc.sys = some r
      ∧ r.cycle = cycle ∧ r.epoch = epoch ∧ t.dl.epoch = max s.dl.epoch epoch ∧ t.mlc.sysMiss = 0 ∧ t.mlc.got.1 = true
      ∧ (s.tracks = false → t.axes = s.axes)
      ∧ (s.tracks = true → ∀ k < 8, (t.sc k).level = lget levels k
        ∧ (t.sc k).owner = (if 4 < (plans.getD k (5, 0, 0)).1 then none else some (plans.getD k (5, 0, 0)).1)
        ∧ (t.plr k).res.fallbackN = (plans.getD k (5, 0, 0)).2.2 ∧ (t.plr k).res.outcome = (plans.getD k (5, 0, 0)).2.1))
  ∧ (∀ s cycle at_ epoch sto dis levels stops plans, s.drives = true ∨ copyInTime cycle at_ (s.upTo at_) = false →
    exec (.systemRecord ⟨cycle, at_⟩ epoch sto dis levels stops plans) s = .next (s.upTo at_))
  ∧ (∀ s cycle at_ axes skip, s.drives = false → copyInTime cycle at_ (s.upTo at_) = true →
    let u := s.upTo at_
    (s.tracks = false → exec (.mirrorCopyComplete ⟨cycle, at_⟩ axes skip) s
      = .next { u with mlc := { u.mlc with got := (u.mlc.got.1, true), axis := axes } })
    ∧ (s.tracks = true → s.mlc.armBad = 0 → (∀ n < min 64 axes.length, n ∉ skip → (s.ax n).snap = lget axes n) →
      exec (.mirrorCopyComplete ⟨cycle, at_⟩ axes skip) s
        = .next { u with mlc := { u.mlc with got := (u.mlc.got.1, true), axis := axes, mismatch := false } })
    ∧ (∀ n, s.tracks = true → n < min 64 axes.length → n ∉ skip → (s.ax n).snap ≠ lget axes n →
      s.mlc.planLack = 0 → s.mlc.warmLack = 0 → ∃ t, exec (.mirrorCopyComplete ⟨cycle, at_⟩ axes skip) s = .next t
        ∧ t.mlc.mismatch = true ∧ t.mlc.mismatchCount = incSat 255 s.mlc.mismatchCount ∧ t.hif.evstat.testBit 107 = true))
  ∧ (∀ s, s.cyc.running = true → s.cyc.copyDone = false → s.drives = false → s.tracks = true → s.mlc.got.1 = false → s.mlc.eng = true →
    ∃ t, exec .copyDeadline s = .next t ∧ t.cyc.copyDone = true ∧ t.mlc.stale = true ∧ t.mlc.staleRun = incSat 255 s.mlc.staleRun
      ∧ t.mlc.sysMiss = incSat 255 s.mlc.sysMiss ∧ t.mlc.got = (false, false) ∧ t.axes = s.axes ∧ t.hif.evstat.testBit 105 = true)
  ∧ (∀ s, s.cyc.running = true → s.cyc.copyDone = false → s.drives = true →
    let u := s.upTo (s.cyc.t0 + tCtl)
    exec .copyDeadline s = .next { u with cyc := { u.cyc with copyDone := true }, mlc := { u.mlc with incomplete := false } })
  ∧ (∀ s at_ op payload bulk, s.drives = false →
    let u := (runReq 5 op payload (if bulk.isEmpty then none else some bulk) 0 s).2
    ∃ t, exec (.stageRecord at_ op payload bulk) s = .next t
      ∧ t = { u with fw := { u.fw with staged := t.fw.staged, setNext := t.fw.setNext } }
      ∧ t.fw.staged.take s.fw.staged.length = u.fw.staged.take s.fw.staged.length
      ∧ (∀ g ∈ t.fw.staged.drop s.fw.staged.length, g.at_ = at_) ∧ ∀ g ∈ t.fw.setNext.drop s.fw.setNext.length, g.at_ = at_)
  ∧ (∀ s k bytes, k < 8 → s.drives = false → 32 ≤ bytes.length → bytes.length ≤ 32768 →
    ∃ t, exec (.planRecord k bytes) s = .next t ∧ (t.plr k).shown = some (readPlan bytes)
      ∧ ((t.plr k).gens.1 = (readPlan bytes).gen ∨ (t.plr k).gens.2 = (readPlan bytes).gen)
      ∧ t.mlc.planGen.getD k 0 = (readPlan bytes).gen ∧ t.axes = s.axes ∧ t.ssv = s.ssv)
  ∧ (∀ s addr bytes, s.drives = false → addr + bytes.length ≤ 0x00800000 → ∃ t, exec (.delta addr bytes) s = .next t
    ∧ t = takeDelta addr bytes.length (s.ldgWrite addr bytes) ∧ t.ldg.mem = memWrite s.ldg.mem addr bytes ∧ t.axes = s.axes)
  ∧ (∀ s addr bytes, s.drives = true → exec (.delta addr bytes) s = .next s)
  ∧ (∀ s k, k < 8 → s.mlc.role = .active → exec (.warmReq k) s = .next (mirDelta (ledWarm k) 64 (mirDelta (ledWarm k + 64)
      (match (s.plr k).warm with | some x => 4 * x.size | none => 0) s)))
  ∧ ∀ s k, k < 8 → s.mlc.role ≠ .active → exec (.warmReq k) s = .next s

/-- A SINGLE unit in FIELD takes authority with the epoch after the largest reported one; at the end of PAIR_WAIT the
unit does so as active unless the peer or a stage shows authority elsewhere. A TAKEOVER at a READY Shadow is decided
at its receipt: it becomes active at the mirrored epoch + 1, from the first launch at least 2 us later. Three current
periods on, a port without the new epoch counts a bad frame. CASTLE_PREP notes B, an ACK is noted, and at B the roles
swap, or the Castling fails with E108; at B + 4 periods it is done, its age 0. A Castling is due, retried each 60 s,
and overdue, which withdraws READY. READY comes after READY_MIN clean cycles, after a Castling after one. (R395, R396,
R397, R398, R412, R413, R419, R420, R421) -/
def Obligations.RolesAndCastling : Prop :=
  (∀ s, s.hif.fwReady = true → s.mlc.role = .single → s.hlt.fuses.state = 1 → s.dl.authority = false →
    ∃ t, exec .singleAuthority s = .next t ∧ t.dl.authority = true ∧ t.dl.lost = false ∧ t.dl.epoch = maxAck s + 1 ∧ t.mlc.eng = true
      ∧ (∀ p < 36, (s.port p).epochAck < t.dl.epoch) ∧ t.axes = s.axes)
  ∧ (∀ s, s.mlc.role ≠ .single ∨ s.dl.authority = true → exec .singleAuthority s = .next s)
  ∧ (∀ s a, s.mlc.waitEnd = some a → s.mlc.otherAuth = false → s.mlc.peerAuth = false → s.mlc.helloSince = none →
    ∃ t, exec .pairWaitEnd s = .next t ∧ t.dl.authority = true ∧ t.mlc.role = .active ∧ t.dl.epoch = max s.dl.epoch (maxAck s) + 1
      ∧ t.cyc.now = max s.cyc.now a ∧ t.mlc.waitEnd = none ∧ t.hif.evstat.testBit 104 = true)
  ∧ (∀ s a, s.mlc.waitEnd = some a → s.mlc.otherAuth = true ∨ s.mlc.peerAuth = true →
    ∃ t, exec .pairWaitEnd s = .next t ∧ t.dl.authority = s.dl.authority ∧ t.mlc.role = s.mlc.role ∧ t.mlc.waitEnd = none)
  ∧ (∀ s at_, s.mlc.role = .shadow → s.mlc.shadow = .ready → exec (.takeoverRecord at_) s
    = .next { s.upTo at_ with mlc := { s.mlc with tkDue := some (s.mlc.tkDue.getD at_) } })
  ∧ (∀ s d, s.mlc.tkDue = some d → s.mlc.role = .shadow → s.mlc.shadow = .ready →
    let tk := launchFrom s (d + 2 * us)
    let v := { s with mlc := { s.mlc with tkDue := none, role := .active, tk := some tk, ackDue := true, peerHb := none }
                      ttc := { s.ttc with authFrom := tk + 31250 * ns } }
    d + 2 * us ≤ tk
    ∧ exec .takeoverDecision s = .next (takeTickets (shadowTo .absent 0
        (raiseAuthority Sts.OK (tbTakeover (prmN (takeAuthority (s.dl.epoch + 1) v).ps Pid.TB_SRC 0)
          (takeAuthority (s.dl.epoch + 1) v))))))
  ∧ (∀ s d, s.mlc.tkDue = some d → s.mlc.role ≠ .shadow ∨ s.mlc.shadow ≠ .ready →
    exec .takeoverDecision s = .next { s with mlc := { s.mlc with tkDue := none } })
  ∧ (∀ s a, s.mlc.ackDue = true → s.mlc.tk = some a → ∃ t, exec .epochAckCheck s = .next t ∧ t.cyc.now = max s.cyc.now (a + 3 * tCur)
    ∧ t.mlc.ackDue = false ∧ ∀ p < 36, (t.port p).badRun = if (s.port p).state.counts = true ∧ (s.port p).epochAck ≠ s.dl.epoch
      then incSat 3 (s.port p).badRun else (s.port p).badRun)
  ∧ (∀ s b, s.mlc.role = .shadow → castleReady s = true → ∃ t c, exec (.castlePrep b) s = .next t ∧ t.mlc.castle = some c
    ∧ c.b = b ∧ c.outgoing = false ∧ c.epoch = s.dl.epoch + 1 ∧ t.mlc.unacked.length = s.mlc.unacked.length + 1)
  ∧ (∀ s c, s.mlc.castle = some c → exec (.castleAck c.b) s
    = .next { s with mlc := { s.mlc with castle := some { c with acked := true } } })
  ∧ (∀ s c, s.mlc.castle = some c → c.done = false →
    let u := s.upTo c.b
    (c.outgoing = true → s.mlc.role = .active → s.mlc.peerF3 = false → s.ssv.f3 = false → castleReady s = true → c.acked = true →
      exec .castleBoundary s = .next (castleOut u))
    ∧ (c.outgoing = true → s.mlc.role ≠ .active ∨ s.mlc.peerF3 = true ∨ s.ssv.f3 = true →
      exec .castleBoundary s = .next (castleFail Sts.DEVICE_F3 0xFF u))
    ∧ (c.outgoing = false → s.mlc.role = .shadow → s.ssv.f3 = false → castleReady s = true →
      exec .castleBoundary s = .next (castleIn c u))
    ∧ (c.outgoing = false → s.mlc.role ≠ .shadow ∨ s.ssv.f3 = true →
      exec .castleBoundary s = .next { u with mlc := { u.mlc with castle := none } }))
  ∧ (∀ s c, s.mlc.castle = some c → c.done = true → c.ticket = 0 → ackMissing s c.epoch = none →
    ∃ t, exec .castleEpochCheck s = .next t ∧ t.mlc.castle = none ∧ t.mlc.castleDue = false ∧ t.mlc.overdue = false
      ∧ t.mlc.castleAge = (0, t.cyc.now) ∧ t.cyc.now = max s.cyc.now (c.b + 4 * tCur) ∧ t.ldg.journalDue = true
      ∧ t.hif.evstat.testBit 108 = true)
  ∧ (∀ s, s.mlc.role = .active → s.mlc.shadow = .tracking →
    ((if s.mlc.castled then 1 else prmN s.ps Pid.READY_MIN 0) ≤ s.mlc.clean →
      ∃ t, exec .shadowReady s = .next t ∧ t.mlc.shadow = .ready ∧ t.mlc.castled = false ∧ t.hif.evstat.testBit 105 = true)
    ∧ (s.mlc.clean < (if s.mlc.castled then 1 else prmN s.ps Pid.READY_MIN 0) → exec .shadowReady s = .next s))
  ∧ (∀ s, s.mlc.role ≠ .single → s.mlc.castleDue = false → wipeCastle s.ps ≤ s.castleMs → prmN s.ps Pid.CASTLE_AUTO 0 = 0 →
    ∃ t, exec .castleDue s = .next t ∧ t.mlc.castleDue = true ∧ t.mlc.retryAt = s.cyc.now + 60 * sec ∧ t.hif.evstat.testBit 108 = true
      ∧ t.axes = s.axes)
  ∧ (∀ s, s.mlc.castleDue = true → exec .castleAutoRetry s = .next (let u := s.upTo s.mlc.retryAt
      autoCastle { u with mlc := { u.mlc with retryAt := u.mlc.retryAt + 60 * sec } }))
  ∧ (∀ s, s.mlc.castleDue = false → exec .castleAutoRetry s = .next s)
  ∧ ∀ s, s.mlc.role ≠ .single → s.mlc.overdue = false → prmN s.ps Pid.CASTLE_INTERVAL 0 * 3600000 ≤ s.castleMs →
    ∃ t, exec .castleOverdue s = .next t ∧ t.mlc.overdue = true
      ∧ (s.mlc.role = .active → s.mlc.shadow = .ready → t.mlc.shadow = .tracking ∧ t.mlc.cause = 6)
      ∧ (s.mlc.role ≠ .active ∨ s.mlc.shadow ≠ .ready → t = { s with mlc := { s.mlc with overdue := true } })
end

