-- ==== Sys2Proof/Laws/State.lean ====
section
/-!
SUPPORT. What each update of the state leaves as it was, one lemma a field, and reading a table after writing it.
-/
namespace Sys2Proof.Machine

/-! ### Tables -/

@[simp] theorem vrd_vwr_same {α : Type} {n : Nat} [Inhabited α] {v : Vector α n} {i : Nat} {x : α} (h : i < n) :
    vrd (vwr v i x) i = x := by
  unfold vrd vwr
  simp [List.getD, h]

theorem vrd_vwr_off {α : Type} {n : Nat} [Inhabited α] {v : Vector α n} {i j : Nat} {x : α} (h : i ≠ j) :
    vrd (vwr v i x) j = vrd v j := by
  unfold vrd vwr
  simp [List.getD, h]

@[simp] theorem vrd_vmd_same {α : Type} {n : Nat} [Inhabited α] {v : Vector α n} {i : Nat} {f : α → α} (h : i < n) :
    vrd (vmd v i f) i = f (vrd v i) := vrd_vwr_same h

theorem vrd_vmd_off {α : Type} {n : Nat} [Inhabited α] {v : Vector α n} {i j : Nat} {f : α → α} (h : i ≠ j) :
    vrd (vmd v i f) j = vrd v j := vrd_vwr_off h

/-! ### Updates -/

@[simp] theorem State.mdAx_pending (s : State) (n : Nat) (f : AxisSt → AxisSt) : (s.mdAx n f).pending = s.pending := rfl
@[simp] theorem State.mdAx_fresh (s : State) (n : Nat) (f : AxisSt → AxisSt) : (s.mdAx n f).fresh = s.fresh := rfl
@[simp] theorem State.mdAx_tb (s : State) (n : Nat) (f : AxisSt → AxisSt) : (s.mdAx n f).tb = s.tb := rfl
@[simp] theorem State.mdAx_cyc (s : State) (n : Nat) (f : AxisSt → AxisSt) : (s.mdAx n f).cyc = s.cyc := rfl
@[simp] theorem State.mdAx_sets (s : State) (n : Nat) (f : AxisSt → AxisSt) : (s.mdAx n f).sets = s.sets := rfl
@[simp] theorem State.mdAx_lanes (s : State) (n : Nat) (f : AxisSt → AxisSt) : (s.mdAx n f).lanes = s.lanes := rfl
@[simp] theorem State.mdAx_dps (s : State) (n : Nat) (f : AxisSt → AxisSt) : (s.mdAx n f).dps = s.dps := rfl
@[simp] theorem State.mdAx_dl (s : State) (n : Nat) (f : AxisSt → AxisSt) : (s.mdAx n f).dl = s.dl := rfl
@[simp] theorem State.mdAx_planners (s : State) (n : Nat) (f : AxisSt → AxisSt) : (s.mdAx n f).planners = s.planners := rfl
@[simp] theorem State.mdAx_tiles (s : State) (n : Nat) (f : AxisSt → AxisSt) : (s.mdAx n f).tiles = s.tiles := rfl
@[simp] theorem State.mdAx_ssm (s : State) (n : Nat) (f : AxisSt → AxisSt) : (s.mdAx n f).ssm = s.ssm := rfl
@[simp] theorem State.mdAx_ssv (s : State) (n : Nat) (f : AxisSt → AxisSt) : (s.mdAx n f).ssv = s.ssv := rfl
@[simp] theorem State.mdAx_ttc (s : State) (n : Nat) (f : AxisSt → AxisSt) : (s.mdAx n f).ttc = s.ttc := rfl
@[simp] theorem State.mdAx_hif (s : State) (n : Nat) (f : AxisSt → AxisSt) : (s.mdAx n f).hif = s.hif := rfl
@[simp] theorem State.mdAx_fw (s : State) (n : Nat) (f : AxisSt → AxisSt) : (s.mdAx n f).fw = s.fw := rfl
@[simp] theorem State.mdAx_mlc (s : State) (n : Nat) (f : AxisSt → AxisSt) : (s.mdAx n f).mlc = s.mlc := rfl
@[simp] theorem State.mdAx_ldg (s : State) (n : Nat) (f : AxisSt → AxisSt) : (s.mdAx n f).ldg = s.ldg := rfl
@[simp] theorem State.mdAx_hlt (s : State) (n : Nat) (f : AxisSt → AxisSt) : (s.mdAx n f).hlt = s.hlt := rfl
@[simp] theorem State.mdAx_pwr (s : State) (n : Nat) (f : AxisSt → AxisSt) : (s.mdAx n f).pwr = s.pwr := rfl
@[simp] theorem State.mdAx_axes (s : State) (n : Nat) (f : AxisSt → AxisSt) : (s.mdAx n f).axes = vmd s.axes n f := rfl
@[simp] theorem State.mdAxes_pending (s : State) (l : List Nat) (f : AxisSt → AxisSt) : (s.mdAxes l f).pending = s.pending := rfl
@[simp] theorem State.mdAxes_fresh (s : State) (l : List Nat) (f : AxisSt → AxisSt) : (s.mdAxes l f).fresh = s.fresh := rfl
@[simp] theorem State.mdAxes_tb (s : State) (l : List Nat) (f : AxisSt → AxisSt) : (s.mdAxes l f).tb = s.tb := rfl
@[simp] theorem State.mdAxes_cyc (s : State) (l : List Nat) (f : AxisSt → AxisSt) : (s.mdAxes l f).cyc = s.cyc := rfl
@[simp] theorem State.mdAxes_sets (s : State) (l : List Nat) (f : AxisSt → AxisSt) : (s.mdAxes l f).sets = s.sets := rfl
@[simp] theorem State.mdAxes_lanes (s : State) (l : List Nat) (f : AxisSt → AxisSt) : (s.mdAxes l f).lanes = s.lanes := rfl
@[simp] theorem State.mdAxes_dps (s : State) (l : List Nat) (f : AxisSt → AxisSt) : (s.mdAxes l f).dps = s.dps := rfl
@[simp] theorem State.mdAxes_dl (s : State) (l : List Nat) (f : AxisSt → AxisSt) : (s.mdAxes l f).dl = s.dl := rfl
@[simp] theorem State.mdAxes_planners (s : State) (l : List Nat) (f : AxisSt → AxisSt) : (s.mdAxes l f).planners = s.planners := rfl
@[simp] theorem State.mdAxes_tiles (s : State) (l : List Nat) (f : AxisSt → AxisSt) : (s.mdAxes l f).tiles = s.tiles := rfl
@[simp] theorem State.mdAxes_ssm (s : State) (l : List Nat) (f : AxisSt → AxisSt) : (s.mdAxes l f).ssm = s.ssm := rfl
@[simp] theorem State.mdAxes_ssv (s : State) (l : List Nat) (f : AxisSt → AxisSt) : (s.mdAxes l f).ssv = s.ssv := rfl
@[simp] theorem State.mdAxes_ttc (s : State) (l : List Nat) (f : AxisSt → AxisSt) : (s.mdAxes l f).ttc = s.ttc := rfl
@[simp] theorem State.mdAxes_hif (s : State) (l : List Nat) (f : AxisSt → AxisSt) : (s.mdAxes l f).hif = s.hif := rfl
@[simp] theorem State.mdAxes_fw (s : State) (l : List Nat) (f : AxisSt → AxisSt) : (s.mdAxes l f).fw = s.fw := rfl
@[simp] theorem State.mdAxes_mlc (s : State) (l : List Nat) (f : AxisSt → AxisSt) : (s.mdAxes l f).mlc = s.mlc := rfl
@[simp] theorem State.mdAxes_ldg (s : State) (l : List Nat) (f : AxisSt → AxisSt) : (s.mdAxes l f).ldg = s.ldg := rfl
@[simp] theorem State.mdAxes_hlt (s : State) (l : List Nat) (f : AxisSt → AxisSt) : (s.mdAxes l f).hlt = s.hlt := rfl
@[simp] theorem State.mdAxes_pwr (s : State) (l : List Nat) (f : AxisSt → AxisSt) : (s.mdAxes l f).pwr = s.pwr := rfl
@[simp] theorem State.mdSc_pending (s : State) (k : Nat) (f : ScopeSt → ScopeSt) : (s.mdSc k f).pending = s.pending := rfl
@[simp] theorem State.mdSc_fresh (s : State) (k : Nat) (f : ScopeSt → ScopeSt) : (s.mdSc k f).fresh = s.fresh := rfl
@[simp] theorem State.mdSc_tb (s : State) (k : Nat) (f : ScopeSt → ScopeSt) : (s.mdSc k f).tb = s.tb := rfl
@[simp] theorem State.mdSc_cyc (s : State) (k : Nat) (f : ScopeSt → ScopeSt) : (s.mdSc k f).cyc = s.cyc := rfl
@[simp] theorem State.mdSc_sets (s : State) (k : Nat) (f : ScopeSt → ScopeSt) : (s.mdSc k f).sets = s.sets := rfl
@[simp] theorem State.mdSc_axes (s : State) (k : Nat) (f : ScopeSt → ScopeSt) : (s.mdSc k f).axes = s.axes := rfl
@[simp] theorem State.mdSc_lanes (s : State) (k : Nat) (f : ScopeSt → ScopeSt) : (s.mdSc k f).lanes = s.lanes := rfl
@[simp] theorem State.mdSc_dps (s : State) (k : Nat) (f : ScopeSt → ScopeSt) : (s.mdSc k f).dps = s.dps := rfl
@[simp] theorem State.mdSc_dl (s : State) (k : Nat) (f : ScopeSt → ScopeSt) : (s.mdSc k f).dl = s.dl := rfl
@[simp] theorem State.mdSc_planners (s : State) (k : Nat) (f : ScopeSt → ScopeSt) : (s.mdSc k f).planners = s.planners := rfl
@[simp] theorem State.mdSc_tiles (s : State) (k : Nat) (f : ScopeSt → ScopeSt) : (s.mdSc k f).tiles = s.tiles := rfl
@[simp] theorem State.mdSc_ssm (s : State) (k : Nat) (f : ScopeSt → ScopeSt) : (s.mdSc k f).ssm = s.ssm := rfl
@[simp] theorem State.mdSc_ttc (s : State) (k : Nat) (f : ScopeSt → ScopeSt) : (s.mdSc k f).ttc = s.ttc := rfl
@[simp] theorem State.mdSc_hif (s : State) (k : Nat) (f : ScopeSt → ScopeSt) : (s.mdSc k f).hif = s.hif := rfl
@[simp] theorem State.mdSc_fw (s : State) (k : Nat) (f : ScopeSt → ScopeSt) : (s.mdSc k f).fw = s.fw := rfl
@[simp] theorem State.mdSc_mlc (s : State) (k : Nat) (f : ScopeSt → ScopeSt) : (s.mdSc k f).mlc = s.mlc := rfl
@[simp] theorem State.mdSc_ldg (s : State) (k : Nat) (f : ScopeSt → ScopeSt) : (s.mdSc k f).ldg = s.ldg := rfl
@[simp] theorem State.mdSc_hlt (s : State) (k : Nat) (f : ScopeSt → ScopeSt) : (s.mdSc k f).hlt = s.hlt := rfl
@[simp] theorem State.mdSc_pwr (s : State) (k : Nat) (f : ScopeSt → ScopeSt) : (s.mdSc k f).pwr = s.pwr := rfl
@[simp] theorem State.mdSc_ssv_scopes (s : State) (k : Nat) (f : ScopeSt → ScopeSt) : (s.mdSc k f).ssv.scopes = vmd s.ssv.scopes k f := rfl
@[simp] theorem State.mdBk_pending (s : State) (k : Nat) (f : BrakeSt → BrakeSt) : (s.mdBk k f).pending = s.pending := rfl
@[simp] theorem State.mdBk_fresh (s : State) (k : Nat) (f : BrakeSt → BrakeSt) : (s.mdBk k f).fresh = s.fresh := rfl
@[simp] theorem State.mdBk_tb (s : State) (k : Nat) (f : BrakeSt → BrakeSt) : (s.mdBk k f).tb = s.tb := rfl
@[simp] theorem State.mdBk_cyc (s : State) (k : Nat) (f : BrakeSt → BrakeSt) : (s.mdBk k f).cyc = s.cyc := rfl
@[simp] theorem State.mdBk_sets (s : State) (k : Nat) (f : BrakeSt → BrakeSt) : (s.mdBk k f).sets = s.sets := rfl
@[simp] theorem State.mdBk_axes (s : State) (k : Nat) (f : BrakeSt → BrakeSt) : (s.mdBk k f).axes = s.axes := rfl
@[simp] theorem State.mdBk_lanes (s : State) (k : Nat) (f : BrakeSt → BrakeSt) : (s.mdBk k f).lanes = s.lanes := rfl
@[simp] theorem State.mdBk_dps (s : State) (k : Nat) (f : BrakeSt → BrakeSt) : (s.mdBk k f).dps = s.dps := rfl
@[simp] theorem State.mdBk_dl (s : State) (k : Nat) (f : BrakeSt → BrakeSt) : (s.mdBk k f).dl = s.dl := rfl
@[simp] theorem State.mdBk_planners (s : State) (k : Nat) (f : BrakeSt → BrakeSt) : (s.mdBk k f).planners = s.planners := rfl
@[simp] theorem State.mdBk_tiles (s : State) (k : Nat) (f : BrakeSt → BrakeSt) : (s.mdBk k f).tiles = s.tiles := rfl
@[simp] theorem State.mdBk_ssm (s : State) (k : Nat) (f : BrakeSt → BrakeSt) : (s.mdBk k f).ssm = s.ssm := rfl
@[simp] theorem State.mdBk_ttc (s : State) (k : Nat) (f : BrakeSt → BrakeSt) : (s.mdBk k f).ttc = s.ttc := rfl
@[simp] theorem State.mdBk_hif (s : State) (k : Nat) (f : BrakeSt → BrakeSt) : (s.mdBk k f).hif = s.hif := rfl
@[simp] theorem State.mdBk_fw (s : State) (k : Nat) (f : BrakeSt → BrakeSt) : (s.mdBk k f).fw = s.fw := rfl
@[simp] theorem State.mdBk_mlc (s : State) (k : Nat) (f : BrakeSt → BrakeSt) : (s.mdBk k f).mlc = s.mlc := rfl
@[simp] theorem State.mdBk_ldg (s : State) (k : Nat) (f : BrakeSt → BrakeSt) : (s.mdBk k f).ldg = s.ldg := rfl
@[simp] theorem State.mdBk_hlt (s : State) (k : Nat) (f : BrakeSt → BrakeSt) : (s.mdBk k f).hlt = s.hlt := rfl
@[simp] theorem State.mdBk_pwr (s : State) (k : Nat) (f : BrakeSt → BrakeSt) : (s.mdBk k f).pwr = s.pwr := rfl
@[simp] theorem State.mdBk_ssv_brakes (s : State) (k : Nat) (f : BrakeSt → BrakeSt) : (s.mdBk k f).ssv.brakes = vmd s.ssv.brakes k f := rfl
@[simp] theorem State.mdSin_pending (s : State) (k : Nat) (f : SafeIn → SafeIn) : (s.mdSin k f).pending = s.pending := rfl
@[simp] theorem State.mdSin_fresh (s : State) (k : Nat) (f : SafeIn → SafeIn) : (s.mdSin k f).fresh = s.fresh := rfl
@[simp] theorem State.mdSin_tb (s : State) (k : Nat) (f : SafeIn → SafeIn) : (s.mdSin k f).tb = s.tb := rfl
@[simp] theorem State.mdSin_cyc (s : State) (k : Nat) (f : SafeIn → SafeIn) : (s.mdSin k f).cyc = s.cyc := rfl
@[simp] theorem State.mdSin_sets (s : State) (k : Nat) (f : SafeIn → SafeIn) : (s.mdSin k f).sets = s.sets := rfl
@[simp] theorem State.mdSin_axes (s : State) (k : Nat) (f : SafeIn → SafeIn) : (s.mdSin k f).axes = s.axes := rfl
@[simp] theorem State.mdSin_lanes (s : State) (k : Nat) (f : SafeIn → SafeIn) : (s.mdSin k f).lanes = s.lanes := rfl
@[simp] theorem State.mdSin_dps (s : State) (k : Nat) (f : SafeIn → SafeIn) : (s.mdSin k f).dps = s.dps := rfl
@[simp] theorem State.mdSin_dl (s : State) (k : Nat) (f : SafeIn → SafeIn) : (s.mdSin k f).dl = s.dl := rfl
@[simp] theorem State.mdSin_planners (s : State) (k : Nat) (f : SafeIn → SafeIn) : (s.mdSin k f).planners = s.planners := rfl
@[simp] theorem State.mdSin_tiles (s : State) (k : Nat) (f : SafeIn → SafeIn) : (s.mdSin k f).tiles = s.tiles := rfl
@[simp] theorem State.mdSin_ssm (s : State) (k : Nat) (f : SafeIn → SafeIn) : (s.mdSin k f).ssm = s.ssm := rfl
@[simp] theorem State.mdSin_ttc (s : State) (k : Nat) (f : SafeIn → SafeIn) : (s.mdSin k f).ttc = s.ttc := rfl
@[simp] theorem State.mdSin_hif (s : State) (k : Nat) (f : SafeIn → SafeIn) : (s.mdSin k f).hif = s.hif := rfl
@[simp] theorem State.mdSin_fw (s : State) (k : Nat) (f : SafeIn → SafeIn) : (s.mdSin k f).fw = s.fw := rfl
@[simp] theorem State.mdSin_mlc (s : State) (k : Nat) (f : SafeIn → SafeIn) : (s.mdSin k f).mlc = s.mlc := rfl
@[simp] theorem State.mdSin_ldg (s : State) (k : Nat) (f : SafeIn → SafeIn) : (s.mdSin k f).ldg = s.ldg := rfl
@[simp] theorem State.mdSin_hlt (s : State) (k : Nat) (f : SafeIn → SafeIn) : (s.mdSin k f).hlt = s.hlt := rfl
@[simp] theorem State.mdSin_pwr (s : State) (k : Nat) (f : SafeIn → SafeIn) : (s.mdSin k f).pwr = s.pwr := rfl
@[simp] theorem State.mdPort_pending (s : State) (k : Nat) (f : PortSt → PortSt) : (s.mdPort k f).pending = s.pending := rfl
@[simp] theorem State.mdPort_fresh (s : State) (k : Nat) (f : PortSt → PortSt) : (s.mdPort k f).fresh = s.fresh := rfl
@[simp] theorem State.mdPort_tb (s : State) (k : Nat) (f : PortSt → PortSt) : (s.mdPort k f).tb = s.tb := rfl
@[simp] theorem State.mdPort_cyc (s : State) (k : Nat) (f : PortSt → PortSt) : (s.mdPort k f).cyc = s.cyc := rfl
@[simp] theorem State.mdPort_sets (s : State) (k : Nat) (f : PortSt → PortSt) : (s.mdPort k f).sets = s.sets := rfl
@[simp] theorem State.mdPort_axes (s : State) (k : Nat) (f : PortSt → PortSt) : (s.mdPort k f).axes = s.axes := rfl
@[simp] theorem State.mdPort_lanes (s : State) (k : Nat) (f : PortSt → PortSt) : (s.mdPort k f).lanes = s.lanes := rfl
@[simp] theorem State.mdPort_dps (s : State) (k : Nat) (f : PortSt → PortSt) : (s.mdPort k f).dps = s.dps := rfl
@[simp] theorem State.mdPort_planners (s : State) (k : Nat) (f : PortSt → PortSt) : (s.mdPort k f).planners = s.planners := rfl
@[simp] theorem State.mdPort_tiles (s : State) (k : Nat) (f : PortSt → PortSt) : (s.mdPort k f).tiles = s.tiles := rfl
@[simp] theorem State.mdPort_ssm (s : State) (k : Nat) (f : PortSt → PortSt) : (s.mdPort k f).ssm = s.ssm := rfl
@[simp] theorem State.mdPort_ssv (s : State) (k : Nat) (f : PortSt → PortSt) : (s.mdPort k f).ssv = s.ssv := rfl
@[simp] theorem State.mdPort_ttc (s : State) (k : Nat) (f : PortSt → PortSt) : (s.mdPort k f).ttc = s.ttc := rfl
@[simp] theorem State.mdPort_hif (s : State) (k : Nat) (f : PortSt → PortSt) : (s.mdPort k f).hif = s.hif := rfl
@[simp] theorem State.mdPort_fw (s : State) (k : Nat) (f : PortSt → PortSt) : (s.mdPort k f).fw = s.fw := rfl
@[simp] theorem State.mdPort_mlc (s : State) (k : Nat) (f : PortSt → PortSt) : (s.mdPort k f).mlc = s.mlc := rfl
@[simp] theorem State.mdPort_ldg (s : State) (k : Nat) (f : PortSt → PortSt) : (s.mdPort k f).ldg = s.ldg := rfl
@[simp] theorem State.mdPort_hlt (s : State) (k : Nat) (f : PortSt → PortSt) : (s.mdPort k f).hlt = s.hlt := rfl
@[simp] theorem State.mdPort_pwr (s : State) (k : Nat) (f : PortSt → PortSt) : (s.mdPort k f).pwr = s.pwr := rfl
@[simp] theorem State.mdPort_dl_ports (s : State) (k : Nat) (f : PortSt → PortSt) : (s.mdPort k f).dl.ports = vmd s.dl.ports k f := rfl
@[simp] theorem State.mdSsmArm_pending (s : State) (k : Nat) (f : SsmArm → SsmArm) : (s.mdSsmArm k f).pending = s.pending := rfl
@[simp] theorem State.mdSsmArm_fresh (s : State) (k : Nat) (f : SsmArm → SsmArm) : (s.mdSsmArm k f).fresh = s.fresh := rfl
@[simp] theorem State.mdSsmArm_tb (s : State) (k : Nat) (f : SsmArm → SsmArm) : (s.mdSsmArm k f).tb = s.tb := rfl
@[simp] theorem State.mdSsmArm_cyc (s : State) (k : Nat) (f : SsmArm → SsmArm) : (s.mdSsmArm k f).cyc = s.cyc := rfl
@[simp] theorem State.mdSsmArm_sets (s : State) (k : Nat) (f : SsmArm → SsmArm) : (s.mdSsmArm k f).sets = s.sets := rfl
@[simp] theorem State.mdSsmArm_axes (s : State) (k : Nat) (f : SsmArm → SsmArm) : (s.mdSsmArm k f).axes = s.axes := rfl
@[simp] theorem State.mdSsmArm_lanes (s : State) (k : Nat) (f : SsmArm → SsmArm) : (s.mdSsmArm k f).lanes = s.lanes := rfl
@[simp] theorem State.mdSsmArm_dps (s : State) (k : Nat) (f : SsmArm → SsmArm) : (s.mdSsmArm k f).dps = s.dps := rfl
@[simp] theorem State.mdSsmArm_dl (s : State) (k : Nat) (f : SsmArm → SsmArm) : (s.mdSsmArm k f).dl = s.dl := rfl
@[simp] theorem State.mdSsmArm_planners (s : State) (k : Nat) (f : SsmArm → SsmArm) : (s.mdSsmArm k f).planners = s.planners := rfl
@[simp] theorem State.mdSsmArm_tiles (s : State) (k : Nat) (f : SsmArm → SsmArm) : (s.mdSsmArm k f).tiles = s.tiles := rfl
@[simp] theorem State.mdSsmArm_ssv (s : State) (k : Nat) (f : SsmArm → SsmArm) : (s.mdSsmArm k f).ssv = s.ssv := rfl
@[simp] theorem State.mdSsmArm_ttc (s : State) (k : Nat) (f : SsmArm → SsmArm) : (s.mdSsmArm k f).ttc = s.ttc := rfl
@[simp] theorem State.mdSsmArm_hif (s : State) (k : Nat) (f : SsmArm → SsmArm) : (s.mdSsmArm k f).hif = s.hif := rfl
@[simp] theorem State.mdSsmArm_fw (s : State) (k : Nat) (f : SsmArm → SsmArm) : (s.mdSsmArm k f).fw = s.fw := rfl
@[simp] theorem State.mdSsmArm_mlc (s : State) (k : Nat) (f : SsmArm → SsmArm) : (s.mdSsmArm k f).mlc = s.mlc := rfl
@[simp] theorem State.mdSsmArm_ldg (s : State) (k : Nat) (f : SsmArm → SsmArm) : (s.mdSsmArm k f).ldg = s.ldg := rfl
@[simp] theorem State.mdSsmArm_hlt (s : State) (k : Nat) (f : SsmArm → SsmArm) : (s.mdSsmArm k f).hlt = s.hlt := rfl
@[simp] theorem State.mdSsmArm_pwr (s : State) (k : Nat) (f : SsmArm → SsmArm) : (s.mdSsmArm k f).pwr = s.pwr := rfl
@[simp] theorem State.mdSsmArm_ssm_arms (s : State) (k : Nat) (f : SsmArm → SsmArm) : (s.mdSsmArm k f).ssm.arms = vmd s.ssm.arms k f := rfl
@[simp] theorem State.mdPlr_pending (s : State) (k : Nat) (f : PlannerSt → PlannerSt) : (s.mdPlr k f).pending = s.pending := rfl
@[simp] theorem State.mdPlr_fresh (s : State) (k : Nat) (f : PlannerSt → PlannerSt) : (s.mdPlr k f).fresh = s.fresh := rfl
@[simp] theorem State.mdPlr_tb (s : State) (k : Nat) (f : PlannerSt → PlannerSt) : (s.mdPlr k f).tb = s.tb := rfl
@[simp] theorem State.mdPlr_cyc (s : State) (k : Nat) (f : PlannerSt → PlannerSt) : (s.mdPlr k f).cyc = s.cyc := rfl
@[simp] theorem State.mdPlr_sets (s : State) (k : Nat) (f : PlannerSt → PlannerSt) : (s.mdPlr k f).sets = s.sets := rfl
@[simp] theorem State.mdPlr_axes (s : State) (k : Nat) (f : PlannerSt → PlannerSt) : (s.mdPlr k f).axes = s.axes := rfl
@[simp] theorem State.mdPlr_lanes (s : State) (k : Nat) (f : PlannerSt → PlannerSt) : (s.mdPlr k f).lanes = s.lanes := rfl
@[simp] theorem State.mdPlr_dps (s : State) (k : Nat) (f : PlannerSt → PlannerSt) : (s.mdPlr k f).dps = s.dps := rfl
@[simp] theorem State.mdPlr_dl (s : State) (k : Nat) (f : PlannerSt → PlannerSt) : (s.mdPlr k f).dl = s.dl := rfl
@[simp] theorem State.mdPlr_tiles (s : State) (k : Nat) (f : PlannerSt → PlannerSt) : (s.mdPlr k f).tiles = s.tiles := rfl
@[simp] theorem State.mdPlr_ssm (s : State) (k : Nat) (f : PlannerSt → PlannerSt) : (s.mdPlr k f).ssm = s.ssm := rfl
@[simp] theorem State.mdPlr_ssv (s : State) (k : Nat) (f : PlannerSt → PlannerSt) : (s.mdPlr k f).ssv = s.ssv := rfl
@[simp] theorem State.mdPlr_ttc (s : State) (k : Nat) (f : PlannerSt → PlannerSt) : (s.mdPlr k f).ttc = s.ttc := rfl
@[simp] theorem State.mdPlr_hif (s : State) (k : Nat) (f : PlannerSt → PlannerSt) : (s.mdPlr k f).hif = s.hif := rfl
@[simp] theorem State.mdPlr_fw (s : State) (k : Nat) (f : PlannerSt → PlannerSt) : (s.mdPlr k f).fw = s.fw := rfl
@[simp] theorem State.mdPlr_mlc (s : State) (k : Nat) (f : PlannerSt → PlannerSt) : (s.mdPlr k f).mlc = s.mlc := rfl
@[simp] theorem State.mdPlr_ldg (s : State) (k : Nat) (f : PlannerSt → PlannerSt) : (s.mdPlr k f).ldg = s.ldg := rfl
@[simp] theorem State.mdPlr_hlt (s : State) (k : Nat) (f : PlannerSt → PlannerSt) : (s.mdPlr k f).hlt = s.hlt := rfl
@[simp] theorem State.mdPlr_pwr (s : State) (k : Nat) (f : PlannerSt → PlannerSt) : (s.mdPlr k f).pwr = s.pwr := rfl
@[simp] theorem State.mdPlr_planners (s : State) (k : Nat) (f : PlannerSt → PlannerSt) : (s.mdPlr k f).planners = vmd s.planners k f := rfl
@[simp] theorem State.mdChan_pending (s : State) (c : Nat) (f : ChanSt → ChanSt) : (s.mdChan c f).pending = s.pending := rfl
@[simp] theorem State.mdChan_fresh (s : State) (c : Nat) (f : ChanSt → ChanSt) : (s.mdChan c f).fresh = s.fresh := rfl
@[simp] theorem State.mdChan_tb (s : State) (c : Nat) (f : ChanSt → ChanSt) : (s.mdChan c f).tb = s.tb := rfl
@[simp] theorem State.mdChan_cyc (s : State) (c : Nat) (f : ChanSt → ChanSt) : (s.mdChan c f).cyc = s.cyc := rfl
@[simp] theorem State.mdChan_sets (s : State) (c : Nat) (f : ChanSt → ChanSt) : (s.mdChan c f).sets = s.sets := rfl
@[simp] theorem State.mdChan_axes (s : State) (c : Nat) (f : ChanSt → ChanSt) : (s.mdChan c f).axes = s.axes := rfl
@[simp] theorem State.mdChan_lanes (s : State) (c : Nat) (f : ChanSt → ChanSt) : (s.mdChan c f).lanes = s.lanes := rfl
@[simp] theorem State.mdChan_dps (s : State) (c : Nat) (f : ChanSt → ChanSt) : (s.mdChan c f).dps = s.dps := rfl
@[simp] theorem State.mdChan_dl (s : State) (c : Nat) (f : ChanSt → ChanSt) : (s.mdChan c f).dl = s.dl := rfl
@[simp] theorem State.mdChan_planners (s : State) (c : Nat) (f : ChanSt → ChanSt) : (s.mdChan c f).planners = s.planners := rfl
@[simp] theorem State.mdChan_tiles (s : State) (c : Nat) (f : ChanSt → ChanSt) : (s.mdChan c f).tiles = s.tiles := rfl
@[simp] theorem State.mdChan_ssm (s : State) (c : Nat) (f : ChanSt → ChanSt) : (s.mdChan c f).ssm = s.ssm := rfl
@[simp] theorem State.mdChan_ssv (s : State) (c : Nat) (f : ChanSt → ChanSt) : (s.mdChan c f).ssv = s.ssv := rfl
@[simp] theorem State.mdChan_ttc (s : State) (c : Nat) (f : ChanSt → ChanSt) : (s.mdChan c f).ttc = s.ttc := rfl
@[simp] theorem State.mdChan_fw (s : State) (c : Nat) (f : ChanSt → ChanSt) : (s.mdChan c f).fw = s.fw := rfl
@[simp] theorem State.mdChan_mlc (s : State) (c : Nat) (f : ChanSt → ChanSt) : (s.mdChan c f).mlc = s.mlc := rfl
@[simp] theorem State.mdChan_ldg (s : State) (c : Nat) (f : ChanSt → ChanSt) : (s.mdChan c f).ldg = s.ldg := rfl
@[simp] theorem State.mdChan_hlt (s : State) (c : Nat) (f : ChanSt → ChanSt) : (s.mdChan c f).hlt = s.hlt := rfl
@[simp] theorem State.mdChan_pwr (s : State) (c : Nat) (f : ChanSt → ChanSt) : (s.mdChan c f).pwr = s.pwr := rfl
@[simp] theorem State.mdChan_hif_ch (s : State) (c : Nat) (f : ChanSt → ChanSt) : (s.mdChan c f).hif.ch = vmd s.hif.ch c f := rfl
@[simp] theorem State.mdCb_pending (s : State) (c : Nat) (f : CbChan → CbChan) : (s.mdCb c f).pending = s.pending := rfl
@[simp] theorem State.mdCb_fresh (s : State) (c : Nat) (f : CbChan → CbChan) : (s.mdCb c f).fresh = s.fresh := rfl
@[simp] theorem State.mdCb_tb (s : State) (c : Nat) (f : CbChan → CbChan) : (s.mdCb c f).tb = s.tb := rfl
@[simp] theorem State.mdCb_cyc (s : State) (c : Nat) (f : CbChan → CbChan) : (s.mdCb c f).cyc = s.cyc := rfl
@[simp] theorem State.mdCb_sets (s : State) (c : Nat) (f : CbChan → CbChan) : (s.mdCb c f).sets = s.sets := rfl
@[simp] theorem State.mdCb_axes (s : State) (c : Nat) (f : CbChan → CbChan) : (s.mdCb c f).axes = s.axes := rfl
@[simp] theorem State.mdCb_lanes (s : State) (c : Nat) (f : CbChan → CbChan) : (s.mdCb c f).lanes = s.lanes := rfl
@[simp] theorem State.mdCb_dps (s : State) (c : Nat) (f : CbChan → CbChan) : (s.mdCb c f).dps = s.dps := rfl
@[simp] theorem State.mdCb_dl (s : State) (c : Nat) (f : CbChan → CbChan) : (s.mdCb c f).dl = s.dl := rfl
@[simp] theorem State.mdCb_planners (s : State) (c : Nat) (f : CbChan → CbChan) : (s.mdCb c f).planners = s.planners := rfl
@[simp] theorem State.mdCb_tiles (s : State) (c : Nat) (f : CbChan → CbChan) : (s.mdCb c f).tiles = s.tiles := rfl
@[simp] theorem State.mdCb_ssm (s : State) (c : Nat) (f : CbChan → CbChan) : (s.mdCb c f).ssm = s.ssm := rfl
@[simp] theorem State.mdCb_ssv (s : State) (c : Nat) (f : CbChan → CbChan) : (s.mdCb c f).ssv = s.ssv := rfl
@[simp] theorem State.mdCb_hif (s : State) (c : Nat) (f : CbChan → CbChan) : (s.mdCb c f).hif = s.hif := rfl
@[simp] theorem State.mdCb_fw (s : State) (c : Nat) (f : CbChan → CbChan) : (s.mdCb c f).fw = s.fw := rfl
@[simp] theorem State.mdCb_mlc (s : State) (c : Nat) (f : CbChan → CbChan) : (s.mdCb c f).mlc = s.mlc := rfl
@[simp] theorem State.mdCb_ldg (s : State) (c : Nat) (f : CbChan → CbChan) : (s.mdCb c f).ldg = s.ldg := rfl
@[simp] theorem State.mdCb_hlt (s : State) (c : Nat) (f : CbChan → CbChan) : (s.mdCb c f).hlt = s.hlt := rfl
@[simp] theorem State.mdCb_pwr (s : State) (c : Nat) (f : CbChan → CbChan) : (s.mdCb c f).pwr = s.pwr := rfl
@[simp] theorem State.mdCb_ttc_ch (s : State) (c : Nat) (f : CbChan → CbChan) : (s.mdCb c f).ttc.ch = vmd s.ttc.ch c f := rfl
@[simp] theorem State.mdBank_pending (s : State) (b : Nat) (f : BankSt → BankSt) : (s.mdBank b f).pending = s.pending := rfl
@[simp] theorem State.mdBank_fresh (s : State) (b : Nat) (f : BankSt → BankSt) : (s.mdBank b f).fresh = s.fresh := rfl
@[simp] theorem State.mdBank_tb (s : State) (b : Nat) (f : BankSt → BankSt) : (s.mdBank b f).tb = s.tb := rfl
@[simp] theorem State.mdBank_cyc (s : State) (b : Nat) (f : BankSt → BankSt) : (s.mdBank b f).cyc = s.cyc := rfl
@[simp] theorem State.mdBank_sets (s : State) (b : Nat) (f : BankSt → BankSt) : (s.mdBank b f).sets = s.sets := rfl
@[simp] theorem State.mdBank_axes (s : State) (b : Nat) (f : BankSt → BankSt) : (s.mdBank b f).axes = s.axes := rfl
@[simp] theorem State.mdBank_lanes (s : State) (b : Nat) (f : BankSt → BankSt) : (s.mdBank b f).lanes = s.lanes := rfl
@[simp] theorem State.mdBank_dps (s : State) (b : Nat) (f : BankSt → BankSt) : (s.mdBank b f).dps = s.dps := rfl
@[simp] theorem State.mdBank_dl (s : State) (b : Nat) (f : BankSt → BankSt) : (s.mdBank b f).dl = s.dl := rfl
@[simp] theorem State.mdBank_planners (s : State) (b : Nat) (f : BankSt → BankSt) : (s.mdBank b f).planners = s.planners := rfl
@[simp] theorem State.mdBank_tiles (s : State) (b : Nat) (f : BankSt → BankSt) : (s.mdBank b f).tiles = s.tiles := rfl
@[simp] theorem State.mdBank_ssm (s : State) (b : Nat) (f : BankSt → BankSt) : (s.mdBank b f).ssm = s.ssm := rfl
@[simp] theorem State.mdBank_ssv (s : State) (b : Nat) (f : BankSt → BankSt) : (s.mdBank b f).ssv = s.ssv := rfl
@[simp] theorem State.mdBank_ttc (s : State) (b : Nat) (f : BankSt → BankSt) : (s.mdBank b f).ttc = s.ttc := rfl
@[simp] theorem State.mdBank_hif (s : State) (b : Nat) (f : BankSt → BankSt) : (s.mdBank b f).hif = s.hif := rfl
@[simp] theorem State.mdBank_fw (s : State) (b : Nat) (f : BankSt → BankSt) : (s.mdBank b f).fw = s.fw := rfl
@[simp] theorem State.mdBank_mlc (s : State) (b : Nat) (f : BankSt → BankSt) : (s.mdBank b f).mlc = s.mlc := rfl
@[simp] theorem State.mdBank_hlt (s : State) (b : Nat) (f : BankSt → BankSt) : (s.mdBank b f).hlt = s.hlt := rfl
@[simp] theorem State.mdBank_pwr (s : State) (b : Nat) (f : BankSt → BankSt) : (s.mdBank b f).pwr = s.pwr := rfl
@[simp] theorem State.mdReq_pending (s : State) (r : Nat) (f : ReqSt → ReqSt) : (s.mdReq r f).pending = s.pending := rfl
@[simp] theorem State.mdReq_fresh (s : State) (r : Nat) (f : ReqSt → ReqSt) : (s.mdReq r f).fresh = s.fresh := rfl
@[simp] theorem State.mdReq_tb (s : State) (r : Nat) (f : ReqSt → ReqSt) : (s.mdReq r f).tb = s.tb := rfl
@[simp] theorem State.mdReq_cyc (s : State) (r : Nat) (f : ReqSt → ReqSt) : (s.mdReq r f).cyc = s.cyc := rfl
@[simp] theorem State.mdReq_sets (s : State) (r : Nat) (f : ReqSt → ReqSt) : (s.mdReq r f).sets = s.sets := rfl
@[simp] theorem State.mdReq_axes (s : State) (r : Nat) (f : ReqSt → ReqSt) : (s.mdReq r f).axes = s.axes := rfl
@[simp] theorem State.mdReq_lanes (s : State) (r : Nat) (f : ReqSt → ReqSt) : (s.mdReq r f).lanes = s.lanes := rfl
@[simp] theorem State.mdReq_dps (s : State) (r : Nat) (f : ReqSt → ReqSt) : (s.mdReq r f).dps = s.dps := rfl
@[simp] theorem State.mdReq_dl (s : State) (r : Nat) (f : ReqSt → ReqSt) : (s.mdReq r f).dl = s.dl := rfl
@[simp] theorem State.mdReq_planners (s : State) (r : Nat) (f : ReqSt → ReqSt) : (s.mdReq r f).planners = s.planners := rfl
@[simp] theorem State.mdReq_tiles (s : State) (r : Nat) (f : ReqSt → ReqSt) : (s.mdReq r f).tiles = s.tiles := rfl
@[simp] theorem State.mdReq_ssm (s : State) (r : Nat) (f : ReqSt → ReqSt) : (s.mdReq r f).ssm = s.ssm := rfl
@[simp] theorem State.mdReq_ssv (s : State) (r : Nat) (f : ReqSt → ReqSt) : (s.mdReq r f).ssv = s.ssv := rfl
@[simp] theorem State.mdReq_ttc (s : State) (r : Nat) (f : ReqSt → ReqSt) : (s.mdReq r f).ttc = s.ttc := rfl
@[simp] theorem State.mdReq_hif (s : State) (r : Nat) (f : ReqSt → ReqSt) : (s.mdReq r f).hif = s.hif := rfl
@[simp] theorem State.mdReq_fw (s : State) (r : Nat) (f : ReqSt → ReqSt) : (s.mdReq r f).fw = s.fw := rfl
@[simp] theorem State.mdReq_mlc (s : State) (r : Nat) (f : ReqSt → ReqSt) : (s.mdReq r f).mlc = s.mlc := rfl
@[simp] theorem State.mdReq_hlt (s : State) (r : Nat) (f : ReqSt → ReqSt) : (s.mdReq r f).hlt = s.hlt := rfl
@[simp] theorem State.mdReq_pwr (s : State) (r : Nat) (f : ReqSt → ReqSt) : (s.mdReq r f).pwr = s.pwr := rfl
@[simp] theorem State.mdUnit_pending (s : State) (c i : Nat) (f : UnitSt → UnitSt) : (s.mdUnit c i f).pending = s.pending := rfl
@[simp] theorem State.mdUnit_fresh (s : State) (c i : Nat) (f : UnitSt → UnitSt) : (s.mdUnit c i f).fresh = s.fresh := rfl
@[simp] theorem State.mdUnit_tb (s : State) (c i : Nat) (f : UnitSt → UnitSt) : (s.mdUnit c i f).tb = s.tb := rfl
@[simp] theorem State.mdUnit_cyc (s : State) (c i : Nat) (f : UnitSt → UnitSt) : (s.mdUnit c i f).cyc = s.cyc := rfl
@[simp] theorem State.mdUnit_sets (s : State) (c i : Nat) (f : UnitSt → UnitSt) : (s.mdUnit c i f).sets = s.sets := rfl
@[simp] theorem State.mdUnit_axes (s : State) (c i : Nat) (f : UnitSt → UnitSt) : (s.mdUnit c i f).axes = s.axes := rfl
@[simp] theorem State.mdUnit_lanes (s : State) (c i : Nat) (f : UnitSt → UnitSt) : (s.mdUnit c i f).lanes = s.lanes := rfl
@[simp] theorem State.mdUnit_dps (s : State) (c i : Nat) (f : UnitSt → UnitSt) : (s.mdUnit c i f).dps = s.dps := rfl
@[simp] theorem State.mdUnit_dl (s : State) (c i : Nat) (f : UnitSt → UnitSt) : (s.mdUnit c i f).dl = s.dl := rfl
@[simp] theorem State.mdUnit_planners (s : State) (c i : Nat) (f : UnitSt → UnitSt) : (s.mdUnit c i f).planners = s.planners := rfl
@[simp] theorem State.mdUnit_tiles (s : State) (c i : Nat) (f : UnitSt → UnitSt) : (s.mdUnit c i f).tiles = s.tiles := rfl
@[simp] theorem State.mdUnit_ssm (s : State) (c i : Nat) (f : UnitSt → UnitSt) : (s.mdUnit c i f).ssm = s.ssm := rfl
@[simp] theorem State.mdUnit_ssv (s : State) (c i : Nat) (f : UnitSt → UnitSt) : (s.mdUnit c i f).ssv = s.ssv := rfl
@[simp] theorem State.mdUnit_ttc (s : State) (c i : Nat) (f : UnitSt → UnitSt) : (s.mdUnit c i f).ttc = s.ttc := rfl
@[simp] theorem State.mdUnit_hif (s : State) (c i : Nat) (f : UnitSt → UnitSt) : (s.mdUnit c i f).hif = s.hif := rfl
@[simp] theorem State.mdUnit_fw (s : State) (c i : Nat) (f : UnitSt → UnitSt) : (s.mdUnit c i f).fw = s.fw := rfl
@[simp] theorem State.mdUnit_mlc (s : State) (c i : Nat) (f : UnitSt → UnitSt) : (s.mdUnit c i f).mlc = s.mlc := rfl
@[simp] theorem State.mdUnit_ldg (s : State) (c i : Nat) (f : UnitSt → UnitSt) : (s.mdUnit c i f).ldg = s.ldg := rfl
@[simp] theorem State.mdUnit_pwr (s : State) (c i : Nat) (f : UnitSt → UnitSt) : (s.mdUnit c i f).pwr = s.pwr := rfl
@[simp] theorem State.upTo_pending (s : State) (t : Time) : (s.upTo t).pending = s.pending := rfl
@[simp] theorem State.upTo_fresh (s : State) (t : Time) : (s.upTo t).fresh = s.fresh := rfl
@[simp] theorem State.upTo_tb (s : State) (t : Time) : (s.upTo t).tb = s.tb := rfl
@[simp] theorem State.upTo_sets (s : State) (t : Time) : (s.upTo t).sets = s.sets := rfl
@[simp] theorem State.upTo_axes (s : State) (t : Time) : (s.upTo t).axes = s.axes := rfl
@[simp] theorem State.upTo_lanes (s : State) (t : Time) : (s.upTo t).lanes = s.lanes := rfl
@[simp] theorem State.upTo_dps (s : State) (t : Time) : (s.upTo t).dps = s.dps := rfl
@[simp] theorem State.upTo_dl (s : State) (t : Time) : (s.upTo t).dl = s.dl := rfl
@[simp] theorem State.upTo_planners (s : State) (t : Time) : (s.upTo t).planners = s.planners := rfl
@[simp] theorem State.upTo_tiles (s : State) (t : Time) : (s.upTo t).tiles = s.tiles := rfl
@[simp] theorem State.upTo_ssm (s : State) (t : Time) : (s.upTo t).ssm = s.ssm := rfl
@[simp] theorem State.upTo_ssv (s : State) (t : Time) : (s.upTo t).ssv = s.ssv := rfl
@[simp] theorem State.upTo_ttc (s : State) (t : Time) : (s.upTo t).ttc = s.ttc := rfl
@[simp] theorem State.upTo_hif (s : State) (t : Time) : (s.upTo t).hif = s.hif := rfl
@[simp] theorem State.upTo_fw (s : State) (t : Time) : (s.upTo t).fw = s.fw := rfl
@[simp] theorem State.upTo_mlc (s : State) (t : Time) : (s.upTo t).mlc = s.mlc := rfl
@[simp] theorem State.upTo_ldg (s : State) (t : Time) : (s.upTo t).ldg = s.ldg := rfl
@[simp] theorem State.upTo_hlt (s : State) (t : Time) : (s.upTo t).hlt = s.hlt := rfl
@[simp] theorem State.upTo_pwr (s : State) (t : Time) : (s.upTo t).pwr = s.pwr := rfl
@[simp] theorem State.upTo_cyc_now (s : State) (t : Time) : (s.upTo t).cyc.now = max s.cyc.now t := rfl
@[simp] theorem State.drawn_pending (s : State) (n : Nat) : (s.drawn n).pending = s.pending := rfl
@[simp] theorem State.drawn_tb (s : State) (n : Nat) : (s.drawn n).tb = s.tb := rfl
@[simp] theorem State.drawn_cyc (s : State) (n : Nat) : (s.drawn n).cyc = s.cyc := rfl
@[simp] theorem State.drawn_sets (s : State) (n : Nat) : (s.drawn n).sets = s.sets := rfl
@[simp] theorem State.drawn_axes (s : State) (n : Nat) : (s.drawn n).axes = s.axes := rfl
@[simp] theorem State.drawn_lanes (s : State) (n : Nat) : (s.drawn n).lanes = s.lanes := rfl
@[simp] theorem State.drawn_dps (s : State) (n : Nat) : (s.drawn n).dps = s.dps := rfl
@[simp] theorem State.drawn_dl (s : State) (n : Nat) : (s.drawn n).dl = s.dl := rfl
@[simp] theorem State.drawn_planners (s : State) (n : Nat) : (s.drawn n).planners = s.planners := rfl
@[simp] theorem State.drawn_tiles (s : State) (n : Nat) : (s.drawn n).tiles = s.tiles := rfl
@[simp] theorem State.drawn_ssm (s : State) (n : Nat) : (s.drawn n).ssm = s.ssm := rfl
@[simp] theorem State.drawn_ssv (s : State) (n : Nat) : (s.drawn n).ssv = s.ssv := rfl
@[simp] theorem State.drawn_ttc (s : State) (n : Nat) : (s.drawn n).ttc = s.ttc := rfl
@[simp] theorem State.drawn_hif (s : State) (n : Nat) : (s.drawn n).hif = s.hif := rfl
@[simp] theorem State.drawn_fw (s : State) (n : Nat) : (s.drawn n).fw = s.fw := rfl
@[simp] theorem State.drawn_mlc (s : State) (n : Nat) : (s.drawn n).mlc = s.mlc := rfl
@[simp] theorem State.drawn_ldg (s : State) (n : Nat) : (s.drawn n).ldg = s.ldg := rfl
@[simp] theorem State.drawn_hlt (s : State) (n : Nat) : (s.drawn n).hlt = s.hlt := rfl
@[simp] theorem State.drawn_pwr (s : State) (n : Nat) : (s.drawn n).pwr = s.pwr := rfl
@[simp] theorem State.drawn_fresh (s : State) (n : Nat) : (s.drawn n).fresh = s.fresh + n := rfl
@[simp] theorem State.ldgWrite_pending (s : State) (a : Nat) (b : Bytes) : (s.ldgWrite a b).pending = s.pending := rfl
@[simp] theorem State.ldgWrite_fresh (s : State) (a : Nat) (b : Bytes) : (s.ldgWrite a b).fresh = s.fresh := rfl
@[simp] theorem State.ldgWrite_tb (s : State) (a : Nat) (b : Bytes) : (s.ldgWrite a b).tb = s.tb := rfl
@[simp] theorem State.ldgWrite_cyc (s : State) (a : Nat) (b : Bytes) : (s.ldgWrite a b).cyc = s.cyc := rfl
@[simp] theorem State.ldgWrite_sets (s : State) (a : Nat) (b : Bytes) : (s.ldgWrite a b).sets = s.sets := rfl
@[simp] theorem State.ldgWrite_axes (s : State) (a : Nat) (b : Bytes) : (s.ldgWrite a b).axes = s.axes := rfl
@[simp] theorem State.ldgWrite_lanes (s : State) (a : Nat) (b : Bytes) : (s.ldgWrite a b).lanes = s.lanes := rfl
@[simp] theorem State.ldgWrite_dps (s : State) (a : Nat) (b : Bytes) : (s.ldgWrite a b).dps = s.dps := rfl
@[simp] theorem State.ldgWrite_dl (s : State) (a : Nat) (b : Bytes) : (s.ldgWrite a b).dl = s.dl := rfl
@[simp] theorem State.ldgWrite_planners (s : State) (a : Nat) (b : Bytes) : (s.ldgWrite a b).planners = s.planners := rfl
@[simp] theorem State.ldgWrite_tiles (s : State) (a : Nat) (b : Bytes) : (s.ldgWrite a b).tiles = s.tiles := rfl
@[simp] theorem State.ldgWrite_ssm (s : State) (a : Nat) (b : Bytes) : (s.ldgWrite a b).ssm = s.ssm := rfl
@[simp] theorem State.ldgWrite_ssv (s : State) (a : Nat) (b : Bytes) : (s.ldgWrite a b).ssv = s.ssv := rfl
@[simp] theorem State.ldgWrite_ttc (s : State) (a : Nat) (b : Bytes) : (s.ldgWrite a b).ttc = s.ttc := rfl
@[simp] theorem State.ldgWrite_hif (s : State) (a : Nat) (b : Bytes) : (s.ldgWrite a b).hif = s.hif := rfl
@[simp] theorem State.ldgWrite_fw (s : State) (a : Nat) (b : Bytes) : (s.ldgWrite a b).fw = s.fw := rfl
@[simp] theorem State.ldgWrite_mlc (s : State) (a : Nat) (b : Bytes) : (s.ldgWrite a b).mlc = s.mlc := rfl
@[simp] theorem State.ldgWrite_hlt (s : State) (a : Nat) (b : Bytes) : (s.ldgWrite a b).hlt = s.hlt := rfl
@[simp] theorem State.ldgWrite_pwr (s : State) (a : Nat) (b : Bytes) : (s.ldgWrite a b).pwr = s.pwr := rfl
@[simp] theorem State.ldgWrite_ldg_mem (s : State) (a : Nat) (b : Bytes) : (s.ldgWrite a b).ldg.mem = memWrite s.ldg.mem a b := rfl
@[simp] theorem raiseEv_pending (s : State) (e st sub h l : Nat) : (raiseEv e st sub h l s).pending = s.pending := rfl
@[simp] theorem raiseEv_fresh (s : State) (e st sub h l : Nat) : (raiseEv e st sub h l s).fresh = s.fresh := rfl
@[simp] theorem raiseEv_tb (s : State) (e st sub h l : Nat) : (raiseEv e st sub h l s).tb = s.tb := rfl
@[simp] theorem raiseEv_cyc (s : State) (e st sub h l : Nat) : (raiseEv e st sub h l s).cyc = s.cyc := rfl
@[simp] theorem raiseEv_sets (s : State) (e st sub h l : Nat) : (raiseEv e st sub h l s).sets = s.sets := rfl
@[simp] theorem raiseEv_axes (s : State) (e st sub h l : Nat) : (raiseEv e st sub h l s).axes = s.axes := rfl
@[simp] theorem raiseEv_lanes (s : State) (e st sub h l : Nat) : (raiseEv e st sub h l s).lanes = s.lanes := rfl
@[simp] theorem raiseEv_dps (s : State) (e st sub h l : Nat) : (raiseEv e st sub h l s).dps = s.dps := rfl
@[simp] theorem raiseEv_dl (s : State) (e st sub h l : Nat) : (raiseEv e st sub h l s).dl = s.dl := rfl
@[simp] theorem raiseEv_planners (s : State) (e st sub h l : Nat) : (raiseEv e st sub h l s).planners = s.planners := rfl
@[simp] theorem raiseEv_tiles (s : State) (e st sub h l : Nat) : (raiseEv e st sub h l s).tiles = s.tiles := rfl
@[simp] theorem raiseEv_ssm (s : State) (e st sub h l : Nat) : (raiseEv e st sub h l s).ssm = s.ssm := rfl
@[simp] theorem raiseEv_ssv (s : State) (e st sub h l : Nat) : (raiseEv e st sub h l s).ssv = s.ssv := rfl
@[simp] theorem raiseEv_ttc (s : State) (e st sub h l : Nat) : (raiseEv e st sub h l s).ttc = s.ttc := rfl
@[simp] theorem raiseEv_fw (s : State) (e st sub h l : Nat) : (raiseEv e st sub h l s).fw = s.fw := rfl
@[simp] theorem raiseEv_mlc (s : State) (e st sub h l : Nat) : (raiseEv e st sub h l s).mlc = s.mlc := rfl
@[simp] theorem raiseEv_hlt (s : State) (e st sub h l : Nat) : (raiseEv e st sub h l s).hlt = s.hlt := rfl

/-! ### Units read after they are changed -/

theorem State.mdAx_ax_off (s : State) {i j : Nat} (f : AxisSt → AxisSt) (h : i ≠ j) : (s.mdAx i f).ax j = s.ax j := vrd_vmd_off h
@[simp] theorem State.mdAx_ax (s : State) {i : Nat} (f : AxisSt → AxisSt) (h : i < 64) : (s.mdAx i f).ax i = f (s.ax i) := vrd_vmd_same h
theorem State.mdSc_sc_off (s : State) {i j : Nat} (f : ScopeSt → ScopeSt) (h : i ≠ j) : (s.mdSc i f).sc j = s.sc j := vrd_vmd_off h
@[simp] theorem State.mdSc_sc (s : State) {i : Nat} (f : ScopeSt → ScopeSt) (h : i < 72) : (s.mdSc i f).sc i = f (s.sc i) := vrd_vmd_same h
theorem State.mdBk_bk_off (s : State) {i j : Nat} (f : BrakeSt → BrakeSt) (h : i ≠ j) : (s.mdBk i f).bk j = s.bk j := vrd_vmd_off h
@[simp] theorem State.mdBk_bk (s : State) {i : Nat} (f : BrakeSt → BrakeSt) (h : i < 8) : (s.mdBk i f).bk i = f (s.bk i) := vrd_vmd_same h
theorem State.mdPort_port_off (s : State) {i j : Nat} (f : PortSt → PortSt) (h : i ≠ j) : (s.mdPort i f).port j = s.port j := vrd_vmd_off h
@[simp] theorem State.mdPort_port (s : State) {i : Nat} (f : PortSt → PortSt) (h : i < 36) : (s.mdPort i f).port i = f (s.port i) := vrd_vmd_same h
theorem State.mdSsmArm_ssmArm_off (s : State) {i j : Nat} (f : SsmArm → SsmArm) (h : i ≠ j) : (s.mdSsmArm i f).ssmArm j = s.ssmArm j := vrd_vmd_off h
@[simp] theorem State.mdSsmArm_ssmArm (s : State) {i : Nat} (f : SsmArm → SsmArm) (h : i < 8) : (s.mdSsmArm i f).ssmArm i = f (s.ssmArm i) := vrd_vmd_same h
theorem State.mdPlr_plr_off (s : State) {i j : Nat} (f : PlannerSt → PlannerSt) (h : i ≠ j) : (s.mdPlr i f).plr j = s.plr j := vrd_vmd_off h
@[simp] theorem State.mdPlr_plr (s : State) {i : Nat} (f : PlannerSt → PlannerSt) (h : i < 8) : (s.mdPlr i f).plr i = f (s.plr i) := vrd_vmd_same h
theorem State.mdChan_chan_off (s : State) {i j : Nat} (f : ChanSt → ChanSt) (h : i ≠ j) : (s.mdChan i f).chan j = s.chan j := vrd_vmd_off h
@[simp] theorem State.mdChan_chan (s : State) {i : Nat} (f : ChanSt → ChanSt) (h : i < 4) : (s.mdChan i f).chan i = f (s.chan i) := vrd_vmd_same h

end Sys2Proof.Machine
end

