-- ==== Sys2Proof/Laws/Events.lean ====
section
/-!
SUPPORT. Everything raising an event changes in the host interface: the log index, its own status bit, and the vectors with
their messages.
-/
namespace Sys2Proof.Machine

/-- `k` differs from `h` in its vectors and their messages only. -/
def HifSt.SameButVectors (h k : HifSt) : Prop := k = { h with sent := k.sent, pba := k.pba, vpend := k.vpend }

theorem HifSt.SameButVectors.refl (h : HifSt) : h.SameButVectors h := rfl

theorem HifSt.SameButVectors.trans {h k l : HifSt} (a : h.SameButVectors k) (b : k.SameButVectors l) : h.SameButVectors l := by
  unfold HifSt.SameButVectors at *
  rw [b, a]

theorem HifSt.rise_same (h : HifSt) (v : Nat) : h.SameButVectors (h.rise v) := by
  unfold HifSt.rise
  split <;> rfl

theorem HifSt.foldl_same {α : Type} (f : HifSt → α → HifSt) (hf : ∀ (h : HifSt) (a : α), h.SameButVectors (f h a)) (l : List α) (h : HifSt) :
    h.SameButVectors (l.foldl f h) := by
  induction l generalizing h with
  | nil => rfl
  | cons a l ih => exact (hf h a).trans (ih (f h a))

theorem HifSt.settle_same (h : HifSt) (force : Nat) : h.SameButVectors (h.settle force) := by
  refine (HifSt.foldl_same _ ?_ (List.range 32) { h with vpend := h.vpend }).trans rfl
  intro k v
  split
  · exact k.rise_same v
  · rfl

theorem HifSt.flush_same (h : HifSt) : h.SameButVectors h.flush := by
  refine HifSt.foldl_same _ ?_ (List.range 32) h
  intro k v
  split <;> rfl

theorem raiseEv_hif (ev st sub hi lo : Nat) (s : State) :
    ({ s.hif with logNext := (s.hif.logNext + 1) % 2 ^ 32, evstat := s.hif.evstat ||| 2 ^ ev } : HifSt).SameButVectors
      (raiseEv ev st sub hi lo s).hif := HifSt.settle_same _ _

@[simp] theorem raiseEv_logNext (ev st sub hi lo : Nat) (s : State) :
    (raiseEv ev st sub hi lo s).hif.logNext = (s.hif.logNext + 1) % 2 ^ 32 := by rw [raiseEv_hif ev st sub hi lo s]

@[simp] theorem raiseEv_evstat (ev st sub hi lo : Nat) (s : State) :
    (raiseEv ev st sub hi lo s).hif.evstat = s.hif.evstat ||| 2 ^ ev := by rw [raiseEv_hif ev st sub hi lo s]

theorem raiseEv_own_bit (ev st sub hi lo : Nat) (s : State) : (raiseEv ev st sub hi lo s).hif.evstat.testBit ev = true := by
  simp [Nat.testBit_or]

@[simp] theorem raiseEv_hif_ch (ev st sub hi lo : Nat) (s : State) : (raiseEv ev st sub hi lo s).hif.ch = s.hif.ch := by
  rw [raiseEv_hif ev st sub hi lo s]

@[simp] theorem raiseEv_chan (ev st sub hi lo c : Nat) (s : State) : (raiseEv ev st sub hi lo s).chan c = s.chan c := by
  simp [State.chan]

@[simp] theorem raiseEv_hif_tickets (ev st sub hi lo : Nat) (s : State) :
    (raiseEv ev st sub hi lo s).hif.tickets = s.hif.tickets := by rw [raiseEv_hif ev st sub hi lo s]

@[simp] theorem raiseEv_hif_ram (ev st sub hi lo : Nat) (s : State) : (raiseEv ev st sub hi lo s).hif.ram = s.hif.ram := by
  rw [raiseEv_hif ev st sub hi lo s]

@[simp] theorem raiseEv_hif_fwReady (ev st sub hi lo : Nat) (s : State) :
    (raiseEv ev st sub hi lo s).hif.fwReady = s.hif.fwReady := by rw [raiseEv_hif ev st sub hi lo s]

end Sys2Proof.Machine
end

