-- ==== Sys2Proof/Laws/Host.lean ====
section
/-!
SUPPORT. Everything the frame of a host command can do: a unit in range, the checks of R377, and the answer of a channel
that serves.
-/
namespace Sys2Proof.Machine

theorem onUnit_in {what : String} {i n : Nat} {r : Out} (h : i < n) : onUnit what i n r = r := if_pos h

theorem onUnit_out {what : String} {i n : Nat} {r : Out} (h : n ≤ i) : onUnit what i n r = .fault (.noSuchUnit what i) :=
  if_neg (Nat.not_lt.mpr h)

theorem firstFail_append {l m : List (Bool × Nat)} (h : firstFail l = none) : firstFail (l ++ m) = firstFail m := by
  induction l with
  | nil => rfl
  | cons x l ih =>
    obtain ⟨b, st⟩ := x
    cases b
    · exact ih h
    · cases h

/-- A state that admits a command passes the gates of a payload in order whose scope the sender owns. -/
theorem gates_pass {who : Nat} {l : Letters} {s : State} (h : Admits l.f l.a l.c l.life s)
    (ho : ∀ k, l.o = some k → notOwner who k s = false) : firstFail (gates who false l s) = none := by
  obtain ⟨hf, hl, ha, hc⟩ := h
  have e1 : (s.ssv.f3 && !l.f) = false := by cases e : s.ssv.f3 <;> simp_all
  have e2 : (!l.life && decide (s.hlt.fuses.state ≠ 1)) = false := by rcases hl with h | h <;> simp [h]
  have e3 : (l.a && !s.commands) = false := by cases e : l.a <;> simp_all
  have e5 : (l.c && decide (s.ssv.mode = .uncommissioned)) = false := by cases e : l.c <;> simp_all
  unfold gates
  split
  · rfl
  · cases e : l.o with
    | none => simp only [firstFail, e1, e2, e3, e5, Bool.false_eq_true, if_false]
    | some k => simp only [firstFail, e1, e2, e3, e5, ho k e, Bool.false_eq_true, if_false]

/-- A command whose gates and checks pass takes its effect. -/
theorem fwRun_pass {who : Nat} {l : Letters} {checks : List (Bool × Nat)} {go : State → FwRes} {s : State}
    (h : Admits l.f l.a l.c l.life s) (ho : ∀ k, l.o = some k → notOwner who k s = false) (hc : firstFail checks = none) :
    fwRun who false l checks go s = go s := by
  unfold fwRun
  rw [firstFail_append (gates_pass h ho), hc]

/-- A command that a check refuses answers its status and changes nothing. -/
theorem fwRun_refused {who : Nat} {bad : Bool} {l : Letters} {checks : List (Bool × Nat)} {go : State → FwRes} {s : State}
    {st : Nat} (h : firstFail (gates who bad l s ++ checks) = some st) : fwRun who bad l checks go s = (some (rspOf st), s) := by
  unfold fwRun
  rw [h]

theorem Serves.lapse_eq {ch : Nat} {s : State} (h : Serves ch s) : lapse ch s.cyc.now s = s := by
  unfold lapse
  rw [h.2.2.2.1, Bool.and_false]
  rfl

/-- A channel that serves runs the command on its renewed session. -/
theorem hostRow_serves {ch op : Nat} {f : State → FwRes} {s : State} (h : Serves ch s) :
    hostRow ch op f s = .next (execReq ch (Config.free32 s.fresh).toNat op none none f (begun ch s)) := by
  obtain ⟨hch, hfw, ho, hl, hm⟩ := h
  have e : ((s.chan ch).mirrored && !s.commands) = false := by
    rcases hm with h | h <;> simp [h]
  unfold hostRow
  rw [onUnit_in hch, hfw]
  simp only [Bool.not_true, Bool.false_eq_true, if_false]
  rw [Serves.lapse_eq ⟨hch, hfw, ho, hl, hm⟩, ho, e]
  simp only [Bool.not_true, Bool.false_eq_true, if_false]
  rfl

theorem begun_chan_open {ch : Nat} {s : State} (h : Serves ch s) : ((begun ch s).chan ch).open_ = true := by
  simp only [begun, State.chan, State.mdChan, vrd_vmd_same h.1]
  exact h.2.2.1

theorem begun_chan_token {ch : Nat} {s : State} (h : Serves ch s) : ((begun ch s).chan ch).token = (s.chan ch).token := by
  simp only [begun, State.chan, State.mdChan, vrd_vmd_same h.1]
  rfl

theorem begun_chan_expect {ch : Nat} {s : State} (h : Serves ch s) : ((begun ch s).chan ch).expect_ = (s.chan ch).expect_ := by
  simp only [begun, State.chan, State.mdChan, vrd_vmd_same h.1]
  rfl

/-- A command that answers at once and keeps its session. -/
theorem hostRow_replies {ch op : Nat} {f : State → FwRes} {s t : State} {r : Rsp} (h : Serves ch s)
    (hf : f (begun ch s) = (some r, t)) (ho : (t.chan ch).open_ = true) (ht : (t.chan ch).token = (s.chan ch).token) :
    hostRow ch op f s = .next (replies ch op r s t) := by
  rw [hostRow_serves h]
  unfold execReq replies
  simp only [hf, ho, ht, begun_chan_token h, begun_chan_expect h, BEq.rfl, Bool.and_self, if_true]

/-- A command whose response waits for its effect and that keeps its session. -/
theorem hostRow_awaits {ch op : Nat} {f : State → FwRes} {s t : State} (h : Serves ch s)
    (hf : f (begun ch s) = (none, t)) (ho : (t.chan ch).open_ = true) (ht : (t.chan ch).token = (s.chan ch).token) :
    hostRow ch op f s = .next (awaits ch op s t) := by
  rw [hostRow_serves h]
  unfold execReq awaits
  simp only [hf, ho, ht, begun_chan_token h, begun_chan_expect h, BEq.rfl, Bool.and_self, if_true]

/-! ### Commands without an owner, and with one -/

section
variable {ch k op st : Nat} {s t : State} {l : Letters} {checks : List (Bool × Nat)} {go f : State → FwRes}

/-- A command of a class without an owner whose checks pass takes its effect. -/
theorem fwRun_free (ho : l.o = none) (ha : Admits l.f l.a l.c l.life s) (hc : firstFail checks = none) :
    fwRun ch false l checks go s = go s :=
  fwRun_pass ha (fun k e => by rw [ho] at e; cases e) hc

/-- A command for a scope that the channel may command takes its effect once its checks pass. -/
theorem fwRun_owned (ho : l.o = some k) (ha : Admits l.f l.a l.c l.life s) (h : notOwner ch k s = false)
    (hc : firstFail checks = none) : fwRun ch false l checks go s = go s :=
  fwRun_pass ha (fun j e => by rw [ho] at e; cases e; exact h) hc

/-- The first check that fails answers for a command without an owner. -/
theorem fwRun_free_refused (ho : l.o = none) (ha : Admits l.f l.a l.c l.life s) (hc : firstFail checks = some st) :
    fwRun ch false l checks go s = (some (rspOf st), s) :=
  fwRun_refused (by rw [firstFail_append (gates_pass ha (fun k e => by rw [ho] at e; cases e))]; exact hc)

/-- The first check that fails answers for a command on a scope that the channel may command. -/
theorem fwRun_owned_refused (ho : l.o = some k) (ha : Admits l.f l.a l.c l.life s) (h : notOwner ch k s = false)
    (hc : firstFail checks = some st) : fwRun ch false l checks go s = (some (rspOf st), s) :=
  fwRun_refused (by rw [firstFail_append (gates_pass ha (fun j e => by rw [ho] at e; cases e; exact h))]; exact hc)

/-- A row whose command only reports. -/
theorem hostRow_reports {r : State → Rsp} (h : Serves ch s) (hf : f (begun ch s) = (some (r (begun ch s)), begun ch s)) :
    hostRow ch op f s = .next (reports ch op r s) :=
  hostRow_replies h hf (begun_chan_open h) (begun_chan_token h)

/-- A row whose command takes its effect at once and keeps the session of its channel. -/
theorem hostRow_does {r : State → Rsp} {g : State → State} (h : Serves ch s)
    (hf : f (begun ch s) = (some (r (begun ch s)), g (begun ch s)))
    (ho : ((g (begun ch s)).chan ch).open_ = ((begun ch s).chan ch).open_)
    (ht : ((g (begun ch s)).chan ch).token = ((begun ch s).chan ch).token) :
    hostRow ch op f s = .next (does ch op r g s) :=
  hostRow_replies h hf (ho.trans (begun_chan_open h)) (ht.trans (begun_chan_token h))

/-- A row whose command is staged or waits and keeps the session of its channel. -/
theorem hostRow_waits (h : Serves ch s) (hf : f (begun ch s) = (none, t))
    (ho : (t.chan ch).open_ = ((begun ch s).chan ch).open_) (ht : (t.chan ch).token = ((begun ch s).chan ch).token) :
    hostRow ch op f s = .next (awaits ch op s t) :=
  hostRow_awaits h hf (ho.trans (begun_chan_open h)) (ht.trans (begun_chan_token h))

/-- A state with the same host interface has the same channels. -/
theorem chan_of_hif {c : Nat} (h : t.hif = s.hif) : t.chan c = s.chan c := by
  simp only [State.chan, h]

theorem mdChan_chan {g : ChanSt → ChanSt} (h : ch < 4) : (s.mdChan ch g).chan ch = g (s.chan ch) := vrd_vmd_same h

theorem mdChan_chan_off {d : Nat} {g : ChanSt → ChanSt} (h : d ≠ ch) : (s.mdChan ch g).chan d = s.chan d :=
  vrd_vmd_off (Ne.symm h)

/-- What the renewed session changes of the channels. -/
theorem begun_chan (h : ch < 4) (d : Nat) :
    (begun ch s).chan d = if d = ch then { s.chan ch with renewAt := s.cyc.now, used := true } else s.chan d := by
  unfold begun
  split
  · next e => subst e; exact mdChan_chan h
  · next e => exact mdChan_chan_off e

theorem begun_trans (h : ch < 4) (d : Nat) : (begun ch s).trans d = s.trans d := by
  unfold State.trans
  rw [begun_chan h]
  split <;> simp_all

/-- Staging a command leaves the host interface as it was. -/
theorem stagePut_hif {g : Staged} : (stagePut g s).hif = s.hif := by
  unfold stagePut mirSend
  split <;> rfl

theorem stageFor_hif {who scope axis : Nat} {wait : Bool} {cmd : StagedCmd} : (stageFor who scope axis wait cmd s).hif = s.hif :=
  stagePut_hif

/-- A row whose command is staged for the next control-cycle start. -/
theorem hostRow_stages {scope axis : Nat} {cmd : StagedCmd} (h : Serves ch s)
    (hf : f (begun ch s) = stageWait ch scope axis cmd (begun ch s)) :
    hostRow ch op f s = .next (stages ch op scope axis cmd s) :=
  hostRow_waits h hf (by rw [chan_of_hif stageFor_hif]) (by rw [chan_of_hif stageFor_hif])

end

end Sys2Proof.Machine
end

