-- ==== Sys2Proof/Laws/Keeps.lean ====
section
/-!
SUPPORT. What every operation keeps: the queue of waiting commands, the canonical form of the Ledger's memory, and the fuses that
are burned. `Keeps s t` says it of the state before and the state after; one lemma for each operation, in the files
Laws/Keeps*.lean, says it of that operation applied to any state that `Keeps` already relates to the first.
-/
namespace Sys2Proof.Machine

/-- `t` has the commands waiting in `s`, a canonical memory if `s` has one, and every fuse that `s` has burned. -/
def Keeps (s t : State) : Prop :=
  t.pending = s.pending ∧ (memWf s.ldg.mem = true → memWf t.ldg.mem = true) ∧ Burns s.hlt.fuses t.hlt.fuses

/-- Every next state an outcome holds is kept to. -/
def KeepsOut (s : State) (o : Out) : Prop := ∀ t, o = .next t → Keeps s t

theorem Burns.refl (f : FuseSt) : Burns f f := ⟨Nat.le_refl _, List.prefix_refl _, fun h => ⟨Nat.le_refl _, h⟩⟩

theorem Burns.trans {f g k : FuseSt} (h : Burns f g) (i : Burns g k) : Burns f k :=
  ⟨Nat.le_trans h.1 i.1, h.2.1.trans i.2.1, fun x => ⟨Nat.le_trans (h.2.2 x).1 (i.2.2 (h.2.2 x).2).1, (i.2.2 (h.2.2 x).2).2⟩⟩

theorem Keeps.refl (s : State) : Keeps s s := ⟨rfl, id, Burns.refl _⟩

theorem Keeps.trans {s t u : State} (h : Keeps s t) (k : Keeps t u) : Keeps s u :=
  ⟨k.1.trans h.1, fun x => k.2.1 (h.2.1 x), h.2.2.trans k.2.2⟩

/-- An update of other fields. -/
theorem Keeps.same {s t u : State} (h : Keeps s t) (hp : u.pending = t.pending) (hm : u.ldg.mem = t.ldg.mem)
    (hf : u.hlt.fuses = t.hlt.fuses) : Keeps s u :=
  ⟨hp.trans h.1, fun x => by rw [hm]; exact h.2.1 x, by rw [hf]; exact h.2.2⟩

/-- An update that writes memory in canonical form. -/
theorem Keeps.wrote {s t u : State} (h : Keeps s t) (hp : u.pending = t.pending)
    (hm : memWf t.ldg.mem = true → memWf u.ldg.mem = true) (hf : u.hlt.fuses = t.hlt.fuses) : Keeps s u :=
  ⟨hp.trans h.1, fun x => hm (h.2.1 x), by rw [hf]; exact h.2.2⟩

/-- An update that burns fuses. -/
theorem Keeps.burnt {s t u : State} (h : Keeps s t) (hp : u.pending = t.pending)
    (hm : memWf t.ldg.mem = true → memWf u.ldg.mem = true) (hf : Burns t.hlt.fuses u.hlt.fuses) : Keeps s u :=
  ⟨hp.trans h.1, fun x => hm (h.2.1 x), h.2.2.trans hf⟩

/-- Burning one more wipe-count bit. -/
theorem Burns.wipe (f : FuseSt) : Burns f { f with wipes := min 64 (f.wipes + 1) } :=
  ⟨Nat.le_refl _, List.prefix_refl _, fun h => ⟨by show f.wipes ≤ min 64 (f.wipes + 1); omega, by show min 64 (f.wipes + 1) ≤ 64; omega⟩⟩

/-- Adding a repair record. -/
theorem Burns.repair (f : FuseSt) (r : Nat) : Burns f { f with repairs := f.repairs ++ [r] } :=
  ⟨Nat.le_refl _, List.prefix_append _ _, fun h => ⟨Nat.le_refl _, h⟩⟩

/-- RETIRED is the last state. -/
theorem FuseSt.state_le (f : FuseSt) : f.state ≤ 2 := by
  unfold FuseSt.state
  split
  · exact Nat.le_refl _
  · split <;> omega

/-- Burning RETIRED_GRP and every wipe-count bit. -/
theorem Burns.retire (f : FuseSt) : Burns f { f with retiredGrp := 255, wipes := 64 } := by
  refine ⟨?_, List.prefix_refl _, fun h => ⟨h, Nat.le_refl _⟩⟩
  have e : FuseSt.state { f with retiredGrp := 255, wipes := 64 } = 2 := by
    unfold FuseSt.state
    exact if_pos (show 5 ≤ bitCount 255 from by decide)
  rw [e]
  exact f.state_le

/-- Fusing the root key and FIELD_GRP. -/
theorem Burns.field (f : FuseSt) (h : f.state = 0) : Burns f { f with rootKey := true, fieldGrp := 255 } :=
  ⟨by rw [h]; exact Nat.zero_le _, List.prefix_refl _, fun x => ⟨Nat.le_refl _, x⟩⟩

theorem bitCount_completeGrp (v : Nat) : bitCount v ≤ bitCount (completeGrp v) := by
  unfold completeGrp
  split
  · rename_i h
    have e : bitCount 255 = 8 := rfl
    omega
  · exact Nat.le_refl _

/-- Completing an interrupted burn. -/
theorem Burns.complete (f : FuseSt) :
    Burns f { f with fieldGrp := completeGrp f.fieldGrp, retiredGrp := completeGrp f.retiredGrp } := by
  refine ⟨?_, List.prefix_refl _, fun h => ⟨Nat.le_refl _, h⟩⟩
  have a := bitCount_completeGrp f.fieldGrp
  have b := bitCount_completeGrp f.retiredGrp
  unfold FuseSt.state
  dsimp only
  split
  · exact Nat.le_of_eq (if_pos (by omega)).symm
  · split
    · split
      · omega
      · exact Nat.le_of_eq (if_pos (by omega)).symm
    · exact Nat.zero_le _

theorem Keeps.foldl {α : Type} {s t : State} {f : State → α → State} {l : List α} (h : Keeps s t)
    (hf : ∀ x a, Keeps s x → Keeps s (f x a)) : Keeps s (l.foldl f t) := by
  induction l generalizing t with
  | nil => exact h
  | cons a l ih => exact ih (hf t a h)

theorem Keeps.foldl_snd {α β : Type} {s : State} {p : β × State} {f : β × State → α → β × State} {l : List α} (h : Keeps s p.2)
    (hf : ∀ x a, Keeps s x.2 → Keeps s (f x a).2) : Keeps s (l.foldl f p).2 := by
  induction l generalizing p with
  | nil => exact h
  | cons a l ih => exact ih (hf p a h)

theorem Keeps.foldl_fst {α β : Type} {s : State} {p : State × β} {f : State × β → α → State × β} {l : List α} (h : Keeps s p.1)
    (hf : ∀ x a, Keeps s x.1 → Keeps s (f x a).1) : Keeps s (l.foldl f p).1 := by
  induction l generalizing p with
  | nil => exact h
  | cons a l ih => exact ih (hf p a h)

/-- The state of a pair that a match took apart. -/
theorem Keeps.of_pair {α : Type} {s t : State} {p : α × State} {a : α} (e : p = (a, t)) (h : Keeps s p.2) : Keeps s t := by
  rw [e] at h; exact h

theorem Keeps.of_triple {α β : Type} {s t : State} {p : α × β × State} {a : α} {b : β} (e : p = (a, b, t))
    (h : Keeps s p.2.2) : Keeps s t := by
  rw [e] at h; exact h

theorem KeepsOut.next {s t : State} (h : Keeps s t) : KeepsOut s (.next t) := by
  intro u e
  cases e
  exact h

theorem KeepsOut.fault {s : State} (r : Fault) : KeepsOut s (.fault r) := by
  intro u e
  cases e

theorem KeepsOut.refused {s : State} (r : Refusal) : KeepsOut s (.refused r) := by
  intro u e
  cases e

theorem KeepsOut.onUnit {s : State} {what : String} {i n : Nat} {r : Out} (h : KeepsOut s r) : KeepsOut s (onUnit what i n r) := by
  unfold Machine.onUnit
  split
  · exact h
  · exact KeepsOut.fault _

/-! ### Canonical memory -/

/-- Canonical form above a bound: the form a tail has behind a cell below that bound. -/
def memAbove (n : Nat) (m : List Host.Cell) : Prop := memWf m = true ∧ ∀ c ∈ m, n ≤ c.1

theorem memWf_cons {c : Host.Cell} {m : List Host.Cell} (h0 : c.2 ≠ 0) (h : memAbove (c.1 + 1) m) : memWf (c :: m) = true := by
  cases m with
  | nil => simpa [memWf] using h0
  | cons d r =>
    have hd := h.2 d (by simp)
    have hlt : c.1 < d.1 := hd
    simp only [memWf, Bool.and_eq_true, bne_iff_ne, ne_eq, decide_eq_true_eq]
    exact ⟨⟨h0, hlt⟩, h.1⟩

theorem memWf_tail {c : Host.Cell} {m : List Host.Cell} (h : memWf (c :: m) = true) : c.2 ≠ 0 ∧ memAbove (c.1 + 1) m := by
  induction m generalizing c with
  | nil => simpa [memWf, memAbove] using h
  | cons d r ih =>
    simp only [memWf, Bool.and_eq_true, bne_iff_ne, ne_eq, decide_eq_true_eq] at h
    obtain ⟨⟨h0, h1⟩, h2⟩ := h
    refine ⟨h0, h2, ?_⟩
    intro x hx
    rcases List.mem_cons.1 hx with rfl | hx
    · omega
    · have := (ih h2).2.2 x hx
      omega

theorem memWf_filter {m : List Host.Cell} (p : Host.Cell → Bool) (h : memWf m = true) : memWf (m.filter p) = true := by
  induction m with
  | nil => rfl
  | cons c r ih =>
    obtain ⟨h0, h1, h2⟩ := memWf_tail h
    rw [List.filter_cons]
    split
    · exact memWf_cons h0 ⟨ih h1, fun x hx => h2 x (List.mem_filter.1 hx).1⟩
    · exact ih h1

theorem memWf_append {l m : List Host.Cell} {n : Nat} (hl : memWf l = true) (hn : ∀ c ∈ l, c.1 < n) (hm : memAbove n m) :
    memWf (l ++ m) = true := by
  induction l with
  | nil => exact hm.1
  | cons c r ih =>
    obtain ⟨h0, h1, h2⟩ := memWf_tail hl
    refine memWf_cons h0 ⟨ih h1 fun x hx => hn x (List.mem_cons_of_mem _ hx), ?_⟩
    intro x hx
    rcases List.mem_append.1 hx with hx | hx
    · exact h2 x hx
    · have := hm.2 x hx
      have := hn c (by simp)
      omega

theorem cellsOf_wf (a : Nat) (b : Bytes) : memAbove a (cellsOf a b) ∧ ∀ c ∈ cellsOf a b, c.1 < a + b.length := by
  induction b generalizing a with
  | nil => simp [cellsOf, memAbove, memWf]
  | cons x xs ih =>
    obtain ⟨⟨h1, h2⟩, h3⟩ := ih (a + 1)
    unfold cellsOf
    split
    · refine ⟨⟨h1, fun c hc => ?_⟩, fun c hc => ?_⟩
      · have := h2 c hc; omega
      · have := h3 c hc; simp only [List.length_cons]; omega
    · rename_i hx
      refine ⟨⟨memWf_cons hx ⟨h1, h2⟩, fun c hc => ?_⟩, fun c hc => ?_⟩
      · rcases List.mem_cons.1 hc with rfl | hc
        · exact Nat.le_refl _
        · have := h2 c hc; omega
      · rcases List.mem_cons.1 hc with rfl | hc
        · simp
        · have := h3 c hc; simp only [List.length_cons]; omega

/-- A write keeps the canonical form. -/
theorem memWrite_wf {m : List Host.Cell} (a : Nat) (b : Bytes) (h : memWf m = true) : memWf (memWrite m a b) = true := by
  obtain ⟨hc, hb⟩ := cellsOf_wf a b
  unfold memWrite
  rw [List.append_assoc]
  refine memWf_append (n := a) (memWf_filter _ h) (fun c hx => ?_) ⟨memWf_append (n := a + b.length) hc.1 hb ⟨memWf_filter _ h, fun c hx => ?_⟩, fun c hx => ?_⟩
  · simpa using (List.mem_filter.1 hx).2
  · simpa using (List.mem_filter.1 hx).2
  · rcases List.mem_append.1 hx with hx | hx
    · exact hc.2 c hx
    · have h2 := (List.mem_filter.1 hx).2
      have h3 := of_decide_eq_true h2
      omega

/-- Reading a byte outside what a write covers gives what it gave. -/
theorem memByte_write_off {m : List Host.Cell} {a x : Nat} {b : Bytes} (h : x < a ∨ a + b.length ≤ x) :
    memByte (memWrite m a b) x = memByte m x := by
  obtain ⟨hc, hb⟩ := cellsOf_wf a b
  have hcells : (cellsOf a b).find? (fun c => c.1 == x) = none := by
    rw [List.find?_eq_none]
    intro c hc' e
    have e : c.1 = x := by simpa using e
    have := hc.2 c hc'
    have := hb c hc'
    omega
  have hfind : (memWrite m a b).find? (fun c => c.1 == x) = m.find? (fun c => c.1 == x) := by
    unfold memWrite
    rw [List.find?_append, List.find?_append, hcells]
    rw [List.find?_filter, List.find?_filter]
    rcases h with h | h
    · have e1 : (fun c : Host.Cell => decide (decide (c.1 < a) = true ∧ (c.1 == x) = true)) = fun c => c.1 == x := by
        funext c
        by_cases e : c.1 = x
        · simp [e, h]
        · simp [e]
      have e2 : (fun c : Host.Cell => decide (decide (a + b.length ≤ c.1) = true ∧ (c.1 == x) = true)) = fun _ => false := by
        funext c
        by_cases e : c.1 = x
        · simp [e]; omega
        · simp [e]
      have e3 : m.find? (fun _ => false) = none := by simp
      rw [e1, e2, e3]
      cases m.find? (fun c => c.1 == x) <;> rfl
    · have e1 : (fun c : Host.Cell => decide (decide (c.1 < a) = true ∧ (c.1 == x) = true)) = fun _ => false := by
        funext c
        by_cases e : c.1 = x
        · simp [e]; omega
        · simp [e]
      have e2 : (fun c : Host.Cell => decide (decide (a + b.length ≤ c.1) = true ∧ (c.1 == x) = true)) = fun c => c.1 == x := by
        funext c
        by_cases e : c.1 = x
        · simp [e, h]
        · simp [e]
      have e3 : m.find? (fun _ => false) = none := by simp
      rw [e1, e2, e3]
      cases m.find? (fun c => c.1 == x) <;> rfl
  unfold memByte
  rw [hfind]

end Sys2Proof.Machine
end

