-- ==== Sys2Proof/Laws/KeepsOps.lean ====
section
/-!
SUPPORT. What the operations keep (Laws/Keeps.lean): the shared operations, the mailbox messages and the sets.
-/
namespace Sys2Proof.Machine

theorem triggerCaptures_keeps {s0 s : State} {p1 : _} (h : Keeps s0 s) : Keeps s0 (triggerCaptures p1 s) := by
  unfold triggerCaptures
  exact Keeps.same h rfl rfl rfl

theorem State.unspoil_keeps {s0 s : State} {p1 : _} (h : Keeps s0 s) : Keeps s0 (State.unspoil p1 s) := by
  unfold State.unspoil
  split
  · exact Keeps.same h rfl rfl rfl
  · exact h

theorem State.mdBk_keeps {s0 s : State} {p1 : _} {p2 : _} (h : Keeps s0 s) : Keeps s0 (State.mdBk s p1 p2) := by
  unfold State.mdBk
  exact Keeps.same h rfl rfl rfl

theorem State.mdPlr_keeps {s0 s : State} {p1 : _} {p2 : _} (h : Keeps s0 s) : Keeps s0 (State.mdPlr s p1 p2) := by
  unfold State.mdPlr
  exact Keeps.same h rfl rfl rfl

theorem endInjection_keeps {s0 s : State} {p1 : _} {p2 : _} (h : Keeps s0 s) : Keeps s0 (endInjection p1 p2 s) := by
  unfold endInjection
  exact Keeps.same h rfl rfl rfl

theorem ramPut_keeps {s0 s : State} {p1 : _} {p2 : _} (h : Keeps s0 s) : Keeps s0 (ramPut p1 p2 s) := by
  unfold ramPut
  exact Keeps.same h rfl rfl rfl

theorem raiseEv_keeps {s0 s : State} {p1 p2 p3 p4 p5 : Nat} (h : Keeps s0 s) : Keeps s0 (raiseEv p1 p2 p3 p4 p5 s) := by
  exact Keeps.wrote h rfl (memWrite_wf _ _) rfl

theorem State.mdPort_keeps {s0 s : State} {p1 : _} {p2 : _} (h : Keeps s0 s) : Keeps s0 (State.mdPort s p1 p2) := by
  unfold State.mdPort
  exact Keeps.same h rfl rfl rfl

theorem joinPair_keeps {s0 s : State} {p1 : _} (h : Keeps s0 s) : Keeps s0 (joinPair p1 s) := by
  unfold joinPair
  refine State.mdBk_keeps ?_
  exact h

theorem setMode_keeps {s0 s : State} {p1 : _} (h : Keeps s0 s) : Keeps s0 (setMode p1 s) := by
  unfold setMode
  extract_lets +onlyGivenNames y1
  extract_lets +onlyGivenNames y2
  have h2 : Keeps s0 y2 := by
    unfold y2
    exact Keeps.same h rfl rfl rfl
  clear_value y2
  split
  · exact h2
  · refine raiseEv_keeps ?_
    exact h2

theorem ttcTo_keeps {s0 s : State} {p1 : _} (h : Keeps s0 s) : Keeps s0 (ttcTo p1 s) := by
  unfold ttcTo
  split
  · exact h
  · refine raiseEv_keeps ?_
    exact Keeps.same h rfl rfl rfl

theorem raiseArm_keeps {s0 s : State} {p1 : _} {p2 : _} {p3 : _} (h : Keeps s0 s) : Keeps s0 (raiseArm p1 p2 p3 s) := by
  unfold raiseArm
  extract_lets +onlyGivenNames y1
  refine raiseEv_keeps ?_
  exact h

theorem State.mdChan_keeps {s0 s : State} {p1 : _} {p2 : _} (h : Keeps s0 s) : Keeps s0 (State.mdChan s p1 p2) := by
  unfold State.mdChan
  exact Keeps.same h rfl rfl rfl

theorem raiseCastle_keeps {s0 s : State} {p1 : _} {p2 : _} {p3 : _} {p4 : _} (h : Keeps s0 s) : Keeps s0 (raiseCastle p1 p2 p3 p4 s) := by
  unfold raiseCastle
  refine raiseEv_keeps ?_
  exact h

theorem State.mdSc_keeps {s0 s : State} {p1 : _} {p2 : _} (h : Keeps s0 s) : Keeps s0 (State.mdSc s p1 p2) := by
  unfold State.mdSc
  exact Keeps.same h rfl rfl rfl

theorem State.mdAxes_keeps {s0 s : State} {p1 : _} {p2 : _} (h : Keeps s0 s) : Keeps s0 (State.mdAxes s p1 p2) := by
  unfold State.mdAxes
  exact Keeps.same h rfl rfl rfl

theorem tbSetFreq_keeps {s0 s : State} {p1 : _} (h : Keeps s0 s) : Keeps s0 (tbSetFreq p1 s) := by
  unfold tbSetFreq
  extract_lets +onlyGivenNames y1
  extract_lets +onlyGivenNames y2
  extract_lets +onlyGivenNames y3
  exact Keeps.same h rfl rfl rfl

theorem cutPair_keeps {s0 s : State} {p1 : _} (h : Keeps s0 s) : Keeps s0 (cutPair p1 s) := by
  unfold cutPair
  refine State.mdBk_keeps ?_
  exact h

theorem mirSend_keeps {s0 s : State} {p1 : _} {p2 : _} {p3 : _} {p4 : _} {p5 : _} (h : Keeps s0 s) : Keeps s0 (mirSend p1 p2 p3 p4 p5 s) := by
  unfold mirSend
  exact Keeps.same h rfl rfl rfl

theorem tbFreeFreq_keeps {s0 s : State} (h : Keeps s0 s) : Keeps s0 (tbFreeFreq s) := by
  unfold tbFreeFreq
  split
  · exact h
  · refine tbSetFreq_keeps ?_
    exact h

theorem State.ldgWrite_keeps {s0 s : State} {a : Nat} {b : Bytes} (h : Keeps s0 s) : Keeps s0 (s.ldgWrite a b) := by
  exact Keeps.wrote h rfl (memWrite_wf a b) rfl

theorem raiseAxis_keeps {s0 s : State} {p1 : _} {p2 : _} (h : Keeps s0 s) : Keeps s0 (raiseAxis p1 p2 s) := by
  unfold raiseAxis
  extract_lets +onlyGivenNames y1
  refine raiseEv_keeps ?_
  exact h

theorem State.mdAx_keeps {s0 s : State} {p1 : _} {p2 : _} (h : Keeps s0 s) : Keeps s0 (State.mdAx s p1 p2) := by
  unfold State.mdAx
  exact Keeps.same h rfl rfl rfl

theorem State.drawn_keeps {s0 s : State} {p1 : _} (h : Keeps s0 s) : Keeps s0 (State.drawn s p1) := by
  unfold State.drawn
  exact Keeps.same h rfl rfl rfl

theorem State.mdSsmArm_keeps {s0 s : State} {p1 : _} {p2 : _} (h : Keeps s0 s) : Keeps s0 (State.mdSsmArm s p1 p2) := by
  unfold State.mdSsmArm
  exact Keeps.same h rfl rfl rfl

theorem State.upTo_keeps {s0 s : State} {p1 : _} (h : Keeps s0 s) : Keeps s0 (State.upTo s p1) := by
  unfold State.upTo
  exact Keeps.same h rfl rfl rfl

theorem setStoBits_keeps {s0 s : State} {p1 : _} {p2 : _} (h : Keeps s0 s) : Keeps s0 (setStoBits p1 p2 s) := by
  unfold setStoBits
  refine State.mdAxes_keeps ?_
  exact h

theorem raiseChan_keeps {s0 s : State} {p1 : _} {p2 : _} {p3 : _} {p4 : _} {p5 : _} {p6 : _} (h : Keeps s0 s) : Keeps s0 (raiseChan p1 p2 p3 p4 p5 p6 s) := by
  unfold raiseChan
  refine raiseEv_keeps ?_
  exact h

theorem writeRsp_keeps {s0 s : State} {p1 : _} {p2 : _} {p3 : _} {p4 : _} {p5 : _} {p6 : _} {p7 : _} {p8 : _} (h : Keeps s0 s) : Keeps s0 (writeRsp p1 p2 p3 p4 p5 p6 p7 p8 s) := by
  unfold writeRsp
  extract_lets +onlyGivenNames y1
  extract_lets +onlyGivenNames y2
  extract_lets +onlyGivenNames y3
  have h3 : Keeps s0 y3 := by
    unfold y3
    clear_value y2
    split
    · refine ramPut_keeps ?_
      exact h
    · exact h
  clear_value y3
  extract_lets +onlyGivenNames y4
  extract_lets +onlyGivenNames y5
  refine State.mdChan_keeps ?_
  refine ramPut_keeps ?_
  exact h3

theorem ownApply_keeps {s0 s : State} {p1 : _} (h : Keeps s0 s) : Keeps s0 (ownApply p1 s) := by
  unfold ownApply
  split
  · exact h
  · extract_lets +onlyGivenNames y1
    have h1 : Keeps s0 y1 := by
      unfold y1
      refine State.mdBk_keeps ?_
      refine cutPair_keeps ?_
      exact h
    clear_value y1
    split
    · exact h1
    · refine raiseEv_keeps ?_
      exact Keeps.same h1 rfl rfl rfl

theorem mirDelta_keeps {s0 s : State} {p1 : _} {p2 : _} (h : Keeps s0 s) : Keeps s0 (mirDelta p1 p2 s) := by
  unfold mirDelta
  split
  · exact h
  · extract_lets +onlyGivenNames y1
    refine Keeps.foldl ?_ ?_
    · exact h
    · intro x2 a3 h4
      refine mirSend_keeps ?_
      exact h4

theorem putSto_keeps {s0 s : State} {p1 : _} {p2 : _} (h : Keeps s0 s) : Keeps s0 (putSto p1 p2 s) := by
  unfold putSto
  split
  · refine State.mdBk_keeps ?_
    exact h
  · exact h

theorem sendHello_keeps {s0 s : State} (h : Keeps s0 s) : Keeps s0 (sendHello s) := by
  unfold sendHello
  refine mirSend_keeps ?_
  exact Keeps.same h rfl rfl rfl

theorem secTouch_keeps {s0 s : State} (h : Keeps s0 s) : Keeps s0 (secTouch s) := by
  unfold secTouch
  refine mirDelta_keeps ?_
  exact Keeps.same h rfl rfl rfl

theorem openPair_keeps {s0 s : State} {p1 : _} (h : Keeps s0 s) : Keeps s0 (openPair p1 s) := by
  unfold openPair
  split
  · refine cutPair_keeps ?_
    exact h
  · exact h

theorem closePair_keeps {s0 s : State} {p1 : _} (h : Keeps s0 s) : Keeps s0 (closePair p1 s) := by
  unfold closePair
  split
  · refine joinPair_keeps ?_
    exact h
  · exact h

theorem laneOut_keeps {s0 s : State} {p1 : _} (h : Keeps s0 s) : Keeps s0 (laneOut p1 s) := by
  unfold laneOut
  extract_lets +onlyGivenNames y1
  extract_lets +onlyGivenNames y2
  extract_lets +onlyGivenNames y3
  have h3 : Keeps s0 y3 := by
    unfold y3
    exact Keeps.same h rfl rfl rfl
  clear_value y3
  split
  · refine raiseEv_keeps ?_
    exact h3
  · exact h3

theorem raiseTb_keeps {s0 s : State} (h : Keeps s0 s) : Keeps s0 (raiseTb s) := by
  unfold raiseTb
  refine raiseEv_keeps ?_
  exact h

theorem ttcDrop_keeps {s0 s : State} (h : Keeps s0 s) : Keeps s0 (ttcDrop s) := by
  unfold ttcDrop
  extract_lets +onlyGivenNames y1
  extract_lets +onlyGivenNames y2
  have h2 : Keeps s0 y2 := by
    unfold y2
    exact Keeps.same h rfl rfl rfl
  split
  · refine ttcTo_keeps ?_
    exact h2
  · split
    · refine ttcTo_keeps ?_
      exact Keeps.same h2 rfl rfl rfl
    · exact h2

theorem addAudit_keeps {s0 s : State} {p1 : _} {p2 : _} {p3 : _} {p4 : _} {p5 : _} (h : Keeps s0 s) : Keeps s0 (addAudit p1 p2 p3 p4 p5 s) := by
  unfold addAudit
  extract_lets +onlyGivenNames y1
  extract_lets +onlyGivenNames y2
  refine secTouch_keeps ?_
  exact Keeps.same h rfl rfl rfl

theorem stagePut_keeps {s0 s : State} {p1 : _} (h : Keeps s0 s) : Keeps s0 (stagePut p1 s) := by
  unfold stagePut
  extract_lets +onlyGivenNames y1
  split
  · unfold y1
    refine Keeps.same (t := mirSend 6 (p1.at_ / tCtl % 2 ^ 32) 0 64 (some p1.at_) s) ?_ rfl rfl rfl
    refine mirSend_keeps ?_
    exact h
  · unfold y1
    exact Keeps.same h rfl rfl rfl

theorem beginMeas_keeps {s0 s : State} {p1 : _} {p2 : _} {p3 : _} (h : Keeps s0 s) : Keeps s0 (beginMeas p1 p2 p3 s) := by
  unfold beginMeas
  split
  · exact h
  · refine State.mdSsmArm_keeps ?_
    exact h

theorem progressTicket_keeps {s0 s : State} {p1 : _} {p2 : _} (h : Keeps s0 s) : Keeps s0 (progressTicket p1 p2 s) := by
  unfold progressTicket
  split
  · exact h
  · refine raiseChan_keeps ?_
    refine mirDelta_keeps ?_
    exact Keeps.same h rfl rfl rfl

theorem raiseScope_keeps {s0 s : State} {p1 : _} {p2 : _} (h : Keeps s0 s) : Keeps s0 (raiseScope p1 p2 s) := by
  unfold raiseScope
  split
  · refine raiseArm_keeps ?_
    exact h
  · refine raiseAxis_keeps ?_
    exact h

theorem raisePort_keeps {s0 s : State} {p1 : _} {p2 : _} {p3 : _} (h : Keeps s0 s) : Keeps s0 (raisePort p1 p2 p3 s) := by
  unfold raisePort
  refine raiseEv_keeps ?_
  refine State.drawn_keeps ?_
  exact h

theorem tbRate_keeps {s0 s : State} (h : Keeps s0 s) : Keeps s0 (tbRate s) := by
  unfold tbRate
  extract_lets +onlyGivenNames y1
  have h1 : Keeps s0 y1 := by
    unfold y1
    refine tbFreeFreq_keeps ?_
    exact h
  clear_value y1
  extract_lets +onlyGivenNames y2
  exact Keeps.same h1 rfl rfl rfl

theorem endTicket_keeps {s0 s : State} {p1 : _} {p2 : _} {p3 : _} (h : Keeps s0 s) : Keeps s0 (endTicket p1 p2 p3 s) := by
  unfold endTicket
  split
  · exact h
  · refine raiseChan_keeps ?_
    refine mirDelta_keeps ?_
    exact Keeps.same h rfl rfl rfl

theorem storeRsp_keeps {s0 s : State} {p1 : _} {p2 : _} {p3 : _} {p4 : _} {p5 : _} (h : Keeps s0 s) : Keeps s0 (storeRsp p1 p2 p3 p4 p5 s) := by
  unfold storeRsp
  refine mirDelta_keeps ?_
  refine mirDelta_keeps ?_
  refine State.mdChan_keeps ?_
  exact h

theorem withdraw_keeps {s0 s : State} {p1 : _} (h : Keeps s0 s) : Keeps s0 (withdraw p1 s) := by
  unfold withdraw
  extract_lets +onlyGivenNames y1
  split
  · exact h
  · extract_lets +onlyGivenNames y2
    extract_lets +onlyGivenNames y3
    have h3 : Keeps s0 y3 := by
      unfold y3
      refine State.ldgWrite_keeps ?_
      exact h
    clear_value y3
    refine State.mdPlr_keeps ?_
    exact h3

theorem newTicket_keeps {s0 s : State} {p1 : _} {p2 : _} (h : Keeps s0 s) : Keeps s0 (newTicket p1 p2 s).2 := by
  unfold newTicket
  extract_lets +onlyGivenNames y1
  dsimp only
  refine mirDelta_keeps ?_
  exact Keeps.same h rfl rfl rfl

theorem tbFollow_keeps {s0 s : State} (h : Keeps s0 s) : Keeps s0 (tbFollow s) := by
  unfold tbFollow
  split
  · exact h
  · refine tbRate_keeps ?_
    exact h

theorem tbWriteSrc_keeps {s0 s : State} {p1 : _} (h : Keeps s0 s) : Keeps s0 (tbWriteSrc p1 s) := by
  unfold tbWriteSrc
  extract_lets +onlyGivenNames y1
  extract_lets +onlyGivenNames y2
  extract_lets +onlyGivenNames y3
  extract_lets +onlyGivenNames y4
  have h4 : Keeps s0 y4 := by
    unfold y4
    refine tbFollow_keeps ?_
    exact Keeps.same h rfl rfl rfl
  clear_value y4
  split
  · exact h4
  · refine raiseTb_keeps ?_
    exact h4

theorem tileShut_keeps {s0 s : State} {p1 : _} (h : Keeps s0 s) : Keeps s0 (tileShut p1 s) := by
  unfold tileShut
  split
  · exact h
  · refine State.mdPlr_keeps ?_
    refine withdraw_keeps ?_
    exact h

theorem setInForce_keeps {s0 s : State} {p1 : _} (h : Keeps s0 s) : Keeps s0 (setInForce p1 s) := by
  unfold setInForce
  extract_lets +onlyGivenNames y1
  extract_lets +onlyGivenNames y2
  have h2 : Keeps s0 y2 := by
    unfold y2
    split
    · exact h
    · refine tbWriteSrc_keeps ?_
      exact h
  clear_value y2
  exact Keeps.same h2 rfl rfl rfl

theorem dropAuthority_keeps {s0 s : State} (h : Keeps s0 s) : Keeps s0 (dropAuthority s) := by
  unfold dropAuthority
  refine ttcDrop_keeps ?_
  exact Keeps.same h rfl rfl rfl

theorem answer_keeps {s0 s : State} {p1 : _} {p2 : _} {p3 : _} (h : Keeps s0 s) : Keeps s0 (answer p1 p2 p3 s) := by
  unfold answer
  split
  · exact h
  · extract_lets +onlyGivenNames y1
    extract_lets +onlyGivenNames y2
    have h2 : Keeps s0 y2 := by
      unfold y2
      refine State.mdChan_keeps ?_
      exact h
    clear_value y2
    extract_lets +onlyGivenNames y3
    have h3 : Keeps s0 y3 := by
      unfold y3
      refine storeRsp_keeps ?_
      exact h2
    clear_value y3
    split
    · refine writeRsp_keeps ?_
      exact h3
    · exact h3

theorem abortBrakeTest_keeps {s0 s : State} {p1 : _} (h : Keeps s0 s) : Keeps s0 (abortBrakeTest p1 s) := by
  unfold abortBrakeTest
  split
  · exact h
  · split
    · exact h
    · refine raiseEv_keeps ?_
      refine endTicket_keeps ?_
      refine State.mdBk_keeps ?_
      exact h

theorem finishTicket_keeps {s0 s : State} {p1 : _} {p2 : _} (h : Keeps s0 s) : Keeps s0 (finishTicket p1 p2 s) := by
  unfold finishTicket
  refine endTicket_keeps ?_
  exact h

theorem failHoming_keeps {s0 s : State} {p1 : _} {p2 : _} (h : Keeps s0 s) : Keeps s0 (failHoming p1 p2 s) := by
  unfold failHoming
  refine Keeps.foldl ?_ ?_
  · exact h
  · intro x1 a2 h3
    split
    · exact h3
    · refine finishTicket_keeps ?_
      refine State.mdAx_keeps ?_
      exact h3

theorem Staged.answer_keeps {s0 s : State} {p1 : Staged} {p2 : Rsp} (h : Keeps s0 s) : Keeps s0 (Staged.answer p1 p2 s) := by
  unfold Staged.answer
  split
  · exact Machine.answer_keeps h
  · exact h

theorem restoreImage_keeps {s0 s : State} {p1 : _} (h : Keeps s0 s) : Keeps s0 (restoreImage p1 s) := by
  unfold restoreImage
  extract_lets +onlyGivenNames y1
  have h1 : Keeps s0 y1 := by
    unfold y1
    refine setInForce_keeps ?_
    exact h
  clear_value y1
  exact Keeps.same h1 rfl rfl rfl

theorem faultSides_keeps {s0 s : State} {p1 : _} {p2 : _} (h : Keeps s0 s) : Keeps s0 (faultSides p1 p2 s) := by
  unfold faultSides
  refine tileShut_keeps ?_
  refine abortBrakeTest_keeps ?_
  refine failHoming_keeps ?_
  refine triggerCaptures_keeps ?_
  refine endInjection_keeps ?_
  exact h

theorem tbMirror_keeps {s0 s : State} (h : Keeps s0 s) : Keeps s0 (tbMirror s) := by
  unfold tbMirror
  split
  · exact h
  · refine tbWriteSrc_keeps ?_
    exact h

theorem castleFail_keeps {s0 s : State} {p1 : _} {p2 : _} (h : Keeps s0 s) : Keeps s0 (castleFail p1 p2 s) := by
  unfold castleFail
  split
  · exact h
  · extract_lets +onlyGivenNames y1
    extract_lets +onlyGivenNames y2
    have h2 : Keeps s0 y2 := by
      unfold y2
      refine raiseCastle_keeps ?_
      exact Keeps.same h rfl rfl rfl
    clear_value y2
    split
    · exact h2
    · refine finishTicket_keeps ?_
      exact h2

theorem f2One_keeps {s0 s : State} {p1 : _} {p2 : _} {p3 : _} (h : Keeps s0 s) : Keeps s0 (f2One p1 p2 p3 s) := by
  unfold f2One
  extract_lets +onlyGivenNames y1
  extract_lets +onlyGivenNames y2
  split
  · extract_lets +onlyGivenNames y3
    have h3 : Keeps s0 y3 := by
      unfold y3
      unfold y2
      extract_lets +onlyGivenNames y4
      have h4 : Keeps s0 y4 := by
        unfold y4
        refine setStoBits_keeps ?_
        exact h
      clear_value y4
      extract_lets +onlyGivenNames y5
      have h5 : Keeps s0 y5 := by
        unfold y5
        split
        · refine putSto_keeps ?_
          exact h4
        · exact h4
      clear_value y5
      split
      · refine openPair_keeps ?_
        exact h5
      · exact h5
    clear_value y3
    split
    · refine State.mdSc_keeps ?_
      exact h3
    · exact h3
  · extract_lets +onlyGivenNames y6
    have h6 : Keeps s0 y6 := by
      unfold y6
      refine beginMeas_keeps ?_
      refine faultSides_keeps ?_
      unfold y2
      extract_lets +onlyGivenNames y7
      have h7 : Keeps s0 y7 := by
        unfold y7
        refine setStoBits_keeps ?_
        exact h
      clear_value y7
      extract_lets +onlyGivenNames y8
      have h8 : Keeps s0 y8 := by
        unfold y8
        split
        · refine putSto_keeps ?_
          exact h7
        · exact h7
      clear_value y8
      split
      · refine openPair_keeps ?_
        exact h8
      · exact h8
    clear_value y6
    extract_lets +onlyGivenNames y9
    have h9 : Keeps s0 y9 := by
      unfold y9
      split
      · refine State.mdPlr_keeps ?_
        exact h6
      · exact h6
    clear_value y9
    extract_lets +onlyGivenNames y10
    have h10 : Keeps s0 y10 := by
      unfold y10
      refine State.mdSc_keeps ?_
      exact h9
    clear_value y10
    extract_lets +onlyGivenNames y11
    have h11 : Keeps s0 y11 := by
      unfold y11
      refine State.mdAxes_keeps ?_
      exact h10
    clear_value y11
    refine raiseEv_keeps ?_
    exact h11

theorem shadowTo_keeps {s0 s : State} {p1 : _} {p2 : _} (h : Keeps s0 s) : Keeps s0 (shadowTo p1 p2 s) := by
  unfold shadowTo
  extract_lets +onlyGivenNames y1
  extract_lets +onlyGivenNames y2
  have h2 : Keeps s0 y2 := by
    unfold y2
    exact Keeps.same h rfl rfl rfl
  clear_value y2
  extract_lets +onlyGivenNames y3
  have h3 : Keeps s0 y3 := by
    unfold y3
    split
    · split
      · refine castleFail_keeps ?_
        exact h2
      · exact h2
    · split
      · refine castleFail_keeps ?_
        exact h2
      · exact h2
  clear_value y3
  split
  · exact h3
  · extract_lets +onlyGivenNames y4
    refine raiseEv_keeps ?_
    exact h3

theorem faultF1_keeps {s0 s : State} {p1 : _} {p2 : _} {p3 : _} (h : Keeps s0 s) : Keeps s0 (faultF1 p1 p2 p3 s) := by
  unfold faultF1
  extract_lets +onlyGivenNames y1
  split
  · refine State.mdSc_keeps ?_
    exact h
  · split
    · split
      · refine State.mdSc_keeps ?_
        exact h
      · exact h
    · extract_lets +onlyGivenNames y2
      extract_lets +onlyGivenNames y3
      have h3 : Keeps s0 y3 := by
        unfold y3
        refine beginMeas_keeps ?_
        refine faultSides_keeps ?_
        exact h
      clear_value y3
      extract_lets +onlyGivenNames y4
      have h4 : Keeps s0 y4 := by
        unfold y4
        refine State.mdSc_keeps ?_
        exact h3
      clear_value y4
      extract_lets +onlyGivenNames y5
      have h5 : Keeps s0 y5 := by
        unfold y5
        refine State.mdAxes_keeps ?_
        exact h4
      clear_value y5
      refine raiseEv_keeps ?_
      exact h5

theorem faultF2_keeps {s0 s : State} {p1 : _} {p2 : _} {p3 : _} (h : Keeps s0 s) : Keeps s0 (faultF2 p1 p2 p3 s) := by
  unfold faultF2
  split
  · refine State.mdSc_keeps ?_
    exact h
  · refine Keeps.foldl ?_ ?_
    · exact h
    · intro x1 a2 h3
      refine f2One_keeps ?_
      exact h3

theorem depose_keeps {s0 s : State} (h : Keeps s0 s) : Keeps s0 (depose s) := by
  unfold depose
  refine shadowTo_keeps ?_
  exact Keeps.same h rfl rfl rfl

theorem faultF2s_keeps {s0 s : State} {p1 : _} {p2 : _} {p3 : _} (h : Keeps s0 s) : Keeps s0 (faultF2s p1 p2 p3 s) := by
  unfold faultF2s
  refine Keeps.foldl ?_ ?_
  · exact h
  · intro x1 a2 h3
    refine faultF2_keeps ?_
    exact h3

theorem faultAt_keeps {s0 s : State} {p1 : _} {p2 : _} {p3 : _} (h : Keeps s0 s) : Keeps s0 (faultAt p1 p2 p3 s) := by
  unfold faultAt
  split
  · refine faultF1_keeps ?_
    exact h
  · refine faultF2_keeps ?_
    exact h

theorem wipe_keeps {s0 s : State} {p1 : Nat} (h : Keeps s0 s) : Keeps s0 (wipe p1 s) := by
  unfold wipe
  extract_lets paired b s1 d s2 n ex h_ i_ j_ k_ l_ m_ s3 s4 s5 s6 s7 s8
  have h1 : Keeps s0 s1 := by
    refine Keeps.foldl (Keeps.same h rfl rfl rfl) ?_
    intro x a k
    split
    · exact answer_keeps k
    · exact k
  have h2 : Keeps s0 s2 := by
    refine Keeps.foldl (Keeps.same h1 rfl rfl rfl) ?_
    intro x a k
    exact finishTicket_keeps k
  have h3 : Keeps s0 s3 := Keeps.burnt h2 rfl (memWf_filter _) (Burns.wipe _)
  have h4 : Keeps s0 s4 := by
    unfold s4
    split
    · exact raiseEv_keeps h3
    · exact h3
  have h5 : Keeps s0 s5 := by
    unfold s5
    split
    · exact shadowTo_keeps h4
    · exact h4
  have h6 : Keeps s0 s6 := raiseEv_keeps h5
  have h7 : Keeps s0 s7 := by
    unfold s7
    split
    · exact raiseEv_keeps h6
    · exact h6
  exact faultF2s_keeps (setMode_keeps h7)

theorem faultF3_keeps {s0 s : State} {p1 : _} {p2 : _} (h : Keeps s0 s) : Keeps s0 (faultF3 p1 p2 s) := by
  unfold faultF3
  extract_lets +onlyGivenNames y1
  extract_lets +onlyGivenNames y2
  extract_lets +onlyGivenNames y3
  have h3 : Keeps s0 y3 := by
    unfold y3
    exact Keeps.same h rfl rfl rfl
  clear_value y3
  extract_lets +onlyGivenNames y4
  extract_lets +onlyGivenNames y5
  have h5 : Keeps s0 y5 := by
    unfold y5
    split
    · refine raiseEv_keeps ?_
      exact h3
    · exact h3
  clear_value y5
  extract_lets +onlyGivenNames y6
  have h6 : Keeps s0 y6 := by
    unfold y6
    split
    · refine castleFail_keeps ?_
      exact h5
    · exact h5
  clear_value y6
  split
  · extract_lets +onlyGivenNames y7
    have h7 : Keeps s0 y7 := by
      unfold y7
      refine mirSend_keeps ?_
      refine dropAuthority_keeps ?_
      exact h6
    clear_value y7
    refine raiseEv_keeps ?_
    refine depose_keeps ?_
    exact h7
  · extract_lets +onlyGivenNames y8
    have h8 : Keeps s0 y8 := by
      unfold y8
      refine faultF2s_keeps ?_
      exact h6
    clear_value y8
    split
    · refine Keeps.foldl ?_ ?_
      · exact h8
      · intro x9 a10 h11
        refine ownApply_keeps ?_
        exact h11
    · exact h8

end Sys2Proof.Machine
end

