-- ==== Sys2Proof/Laws/KeepsAxis.lean ====
section
/-!
SUPPORT. What the operations keep (Laws/Keeps.lean): units, current periods and motion.
-/
namespace Sys2Proof.Machine

theorem breakLocks_keeps {s0 s : State} {p1 : _} (h : Keeps s0 s) : Keeps s0 (breakLocks p1 s) := by
  unfold breakLocks
  exact Keeps.same h rfl rfl rfl

theorem State.mdUnit_keeps {s0 s : State} {p1 : _} {p2 : _} {p3 : _} (h : Keeps s0 s) : Keeps s0 (State.mdUnit s p1 p2 p3) := by
  unfold State.mdUnit
  exact Keeps.same h rfl rfl rfl

theorem clearSpoiled_keeps {s0 s : State} (h : Keeps s0 s) : Keeps s0 (clearSpoiled s) := by
  unfold clearSpoiled
  exact Keeps.same h rfl rfl rfl

theorem burnRecord_keeps {s0 s : State} {p1 : _} {p2 : _} {p3 : _} {p4 : _} (h : Keeps s0 s) : Keeps s0 (burnRecord p1 p2 p3 p4 s) := by
  unfold burnRecord
  extract_lets +onlyGivenNames y1
  split
  · exact h
  · extract_lets +onlyGivenNames y2
    extract_lets +onlyGivenNames y3
    extract_lets +onlyGivenNames y4
    extract_lets +onlyGivenNames y5
    have h5 : Keeps s0 y5 := by
      unfold y5
      refine raiseEv_keeps ?_
      exact Keeps.burnt h rfl id (Burns.repair _ _)
    clear_value y5
    split
    · refine raiseEv_keeps ?_
      exact Keeps.same h5 rfl rfl rfl
    · split
      · refine raiseEv_keeps ?_
        exact Keeps.same h5 rfl rfl rfl
      · exact h5

theorem poolEvents_keeps {s0 s : State} {p1 : _} {p2 : _} (h : Keeps s0 s) : Keeps s0 (poolEvents p1 p2 s) := by
  unfold poolEvents
  extract_lets +onlyGivenNames y1
  split
  · refine raiseEv_keeps ?_
    exact Keeps.same h rfl rfl rfl
  · split
    · refine raiseEv_keeps ?_
      exact Keeps.same h rfl rfl rfl
    · exact h

theorem tileLost_keeps {s0 s : State} {p1 : _} {p2 : _} (h : Keeps s0 s) : Keeps s0 (tileLost p1 p2 s) := by
  unfold tileLost
  split
  · exact h
  · extract_lets +onlyGivenNames y1
    have h1 : Keeps s0 y1 := by
      unfold y1
      refine State.mdPlr_keeps ?_
      exact h
    clear_value y1
    split
    · exact h1
    · exact Keeps.same h1 rfl rfl rfl

theorem State.serve_keeps {s0 s : State} {p1 : _} {p2 : _} (h : Keeps s0 s) : Keeps s0 (State.serve p1 p2 s) := by
  unfold State.serve
  refine Keeps.foldl ?_ ?_
  · exact h
  · intro x1 a2 h3
    extract_lets +onlyGivenNames y4
    have h4 : Keeps s0 y4 := by
      unfold y4
      refine State.drawn_keeps ?_
      exact h3
    clear_value y4
    exact Keeps.same h4 rfl rfl rfl

theorem portAvail_keeps {s0 s : State} {p1 : _} {p2 : _} (h : Keeps s0 s) : Keeps s0 (portAvail p1 p2 s) := by
  unfold portAvail
  refine Keeps.foldl ?_ ?_
  · exact h
  · intro x1 a2 h3
    refine State.mdAx_keeps ?_
    exact h3

theorem axisCut_keeps {s0 s : State} {p1 : Nat} {p2 : Option SlotIn} {p3 : Nat} (h : Keeps s0 s) : Keeps s0 (axisCut p1 p2 p3 s).1 := by
  unfold axisCut
  exact State.serve_keeps (State.mdAx_keeps h)

theorem sampleArm_keeps {s0 s : State} {p1 : _} (h : Keeps s0 s) : Keeps s0 (sampleArm p1 s) := by
  unfold sampleArm
  extract_lets +onlyGivenNames y1
  extract_lets +onlyGivenNames y2
  extract_lets +onlyGivenNames y3
  extract_lets +onlyGivenNames y4
  extract_lets +onlyGivenNames y5
  extract_lets +onlyGivenNames y6
  extract_lets +onlyGivenNames y7
  extract_lets +onlyGivenNames y8
  extract_lets +onlyGivenNames y9
  extract_lets +onlyGivenNames y10
  extract_lets +onlyGivenNames y11
  have h11 : Keeps s0 y11 := by
    unfold y11
    refine State.mdSsmArm_keeps ?_
    exact h
  clear_value y11
  refine Keeps.foldl ?_ ?_
  · exact h11
  · intro x12 a13 h14
    split
    · refine raiseEv_keeps ?_
      exact h14
    · exact h14

theorem missCurrent_keeps {s0 s : State} {p1 : _} (h : Keeps s0 s) : Keeps s0 (missCurrent p1 s) := by
  unfold missCurrent
  extract_lets +onlyGivenNames y1
  have h1 : Keeps s0 y1 := by
    unfold y1
    refine State.mdAx_keeps ?_
    exact h
  clear_value y1
  refine raiseAxis_keeps ?_
  exact h1

theorem ssmSample_keeps {s0 s : State} (h : Keeps s0 s) : Keeps s0 (ssmSample s) := by
  unfold ssmSample
  split
  · refine Keeps.foldl ?_ ?_
    · exact h
    · intro x1 a2 h3
      refine sampleArm_keeps ?_
      exact h3
  · exact h

theorem execCurrentPeriodEvent_keeps {s0 s : State} (h : Keeps s0 s) : KeepsOut s0 (execCurrentPeriodEvent s) := by
  unfold execCurrentPeriodEvent
  refine KeepsOut.next ?_
  split
  · exact h
  · extract_lets +onlyGivenNames y1
    extract_lets +onlyGivenNames y2
    have h2 : Keeps s0 y2 := by
      unfold y2
      refine State.upTo_keeps ?_
      exact h
    clear_value y2
    exact Keeps.same h2 rfl rfl rfl

theorem setPort_keeps {s0 s : State} {p1 : _} {p2 : _} (h : Keeps s0 s) : Keeps s0 (setPort p1 p2 s) := by
  unfold setPort
  split
  · exact h
  · extract_lets +onlyGivenNames y1
    have h1 : Keeps s0 y1 := by
      unfold y1
      refine State.mdPort_keeps ?_
      exact h
    clear_value y1
    refine raisePort_keeps ?_
    exact h1

theorem takeover_keeps {s0 s : State} {p1 : _} {p2 : _} {p3 : _} (h : Keeps s0 s) : Keeps s0 (takeover p1 p2 p3 s) := by
  unfold takeover
  split
  · refine tileLost_keeps ?_
    exact h
  · split
    · exact Keeps.same h rfl rfl rfl
    · exact h
  · refine laneOut_keeps ?_
    exact h
  · exact Keeps.same h rfl rfl rfl
  · exact Keeps.same h rfl rfl rfl
  · exact h

theorem launchPort_keeps {s0 s : State} {p1 : _} (h : Keeps s0 s) : Keeps s0 (launchPort p1 s) := by
  unfold launchPort
  split
  · refine State.mdPort_keeps ?_
    exact h
  · extract_lets +onlyGivenNames y1
    have h1 : Keeps s0 y1 := by
      unfold y1
      refine State.mdPort_keeps ?_
      exact h
    clear_value y1
    extract_lets +onlyGivenNames y2
    extract_lets +onlyGivenNames y3
    extract_lets +onlyGivenNames y4
    have h4 : Keeps s0 y4 := by
      unfold y4
      refine State.mdPort_keeps ?_
      exact h1
    clear_value y4
    split
    · refine setPort_keeps ?_
      refine portAvail_keeps ?_
      exact h4
    · exact h4

theorem execLaneOverrunRepeat_keeps {s0 s : State} {p1 : _} (h : Keeps s0 s) : KeepsOut s0 (execLaneOverrunRepeat p1 s) := by
  unfold execLaneOverrunRepeat
  refine KeepsOut.onUnit ?_
  refine KeepsOut.next ?_
  extract_lets +onlyGivenNames y1
  split
  · refine faultF2_keeps ?_
    exact h
  · exact h

theorem execOutboundLaunch_keeps {s0 s : State} {p1 : _} (h : Keeps s0 s) : KeepsOut s0 (execOutboundLaunch p1 s) := by
  unfold execOutboundLaunch
  refine KeepsOut.next ?_
  split
  · exact h
  · extract_lets +onlyGivenNames y1
    have h1 : Keeps s0 y1 := by
      unfold y1
      refine State.upTo_keeps ?_
      exact h
    clear_value y1
    extract_lets +onlyGivenNames y2
    extract_lets +onlyGivenNames y3
    extract_lets +onlyGivenNames y4
    have h4 : Keeps s0 y4 := by
      unfold y4
      refine clearSpoiled_keeps ?_
      exact Keeps.same h1 rfl rfl rfl
    clear_value y4
    extract_lets +onlyGivenNames y5
    have h5 : Keeps s0 y5 := by
      unfold y5
      refine Keeps.foldl ?_ ?_
      · exact h4
      · intro x6 a7 h8
        refine missCurrent_keeps ?_
        exact h8
    clear_value y5
    extract_lets +onlyGivenNames y9
    extract_lets +onlyGivenNames y10
    have h10 : Keeps s0 y10 := by
      unfold y10
      refine Keeps.foldl ?_ ?_
      · exact h5
      · intro x11 a12 h13
        refine faultF2_keeps ?_
        exact h13
    clear_value y10
    refine Keeps.foldl ?_ ?_
    · exact h10
    · intro x14 a15 h16
      refine launchPort_keeps ?_
      exact h16

theorem cutFaults_keeps {s0 s : State} {p1 : _} {p2 : _} (h : Keeps s0 s) : Keeps s0 (cutFaults p1 p2 s) := by
  unfold cutFaults
  extract_lets +onlyGivenNames y1
  extract_lets +onlyGivenNames y2
  have h2 : Keeps s0 y2 := by
    unfold y2
    split
    · refine faultF2_keeps ?_
      refine raiseAxis_keeps ?_
      exact h
    · exact h
  clear_value y2
  extract_lets +onlyGivenNames y3
  have h3 : Keeps s0 y3 := by
    unfold y3
    split
    · refine faultF1_keeps ?_
      refine raiseAxis_keeps ?_
      exact h2
    · exact h2
  clear_value y3
  split
  · extract_lets +onlyGivenNames y4
    have h4 : Keeps s0 y4 := by
      unfold y4
      refine raiseAxis_keeps ?_
      exact h3
    clear_value y4
    split
    · refine faultF1_keeps ?_
      exact h4
    · exact h4
  · exact h3

theorem poolEmpty_keeps {s0 s : State} {p1 : _} {p2 : _} {p3 : _} (h : Keeps s0 s) : Keeps s0 (poolEmpty p1 p2 p3 s) := by
  unfold poolEmpty
  split
  · split
    · refine State.mdAx_keeps ?_
      refine faultF2_keeps ?_
      exact h
    · exact h
  · refine tileLost_keeps ?_
    exact h
  · refine faultF3_keeps ?_
    exact h
  · refine laneOut_keeps ?_
    exact h
  · refine State.mdPort_keeps ?_
    exact h
  · exact Keeps.same h rfl rfl rfl
  · refine faultF3_keeps ?_
    exact h
  · exact h

theorem clusterDown_keeps {s0 s : State} {p1 : _} (h : Keeps s0 s) : Keeps s0 (clusterDown p1 s) := by
  unfold clusterDown
  split
  · exact h
  · extract_lets +onlyGivenNames y1
    refine faultF3_keeps ?_
    refine faultF2s_keeps ?_
    exact h

theorem cutFeedback_keeps {s0 s : State} (h : Keeps s0 s) : Keeps s0 (cutFeedback s) := by
  unfold cutFeedback
  extract_lets s1 missed c d s2 s3
  have h1 : Keeps s0 s1 := State.upTo_keeps h
  have h2 : Keeps s0 s2 := Keeps.same h1 rfl rfl rfl
  have h3 : Keeps s0 s3 :=
    Keeps.foldl h2 fun x a k => raisePort_keeps k
  have h4 := Keeps.foldl_fst (s := s0) (p := (s3, ([] : List (Nat × CutFinds)))) (l := (List.range 36).flatMap (portInputs s3))
    (f := fun r e => ((axisCut e.1 e.2.1 e.2.2 r.1).1, r.2 ++ [(e.1, (axisCut e.1 e.2.1 e.2.2 r.1).2)])) h3
    fun x a k => axisCut_keeps k
  exact ssmSample_keeps (Keeps.foldl h4 fun x a k => cutFaults_keeps k)

theorem suspectUnit_keeps {s0 s : State} {p1 : _} {p2 : _} {p3 : _} {p4 : _} (h : Keeps s0 s) : Keeps s0 (suspectUnit p1 p2 p3 p4 s) := by
  unfold suspectUnit
  extract_lets +onlyGivenNames y1
  split
  · exact h
  · exact h
  · extract_lets +onlyGivenNames y2
    have h2 : Keeps s0 y2 := by
      unfold y2
      refine State.mdUnit_keeps ?_
      exact h
    clear_value y2
    refine poolEvents_keeps ?_
    refine raiseEv_keeps ?_
    exact h2
  · extract_lets +onlyGivenNames y3
    extract_lets +onlyGivenNames y4
    have h4 : Keeps s0 y4 := by
      unfold y4
      refine State.mdUnit_keeps ?_
      exact h
    clear_value y4
    extract_lets +onlyGivenNames y5
    have h5 : Keeps s0 y5 := by
      unfold y5
      clear_value y3
      split
      · extract_lets +onlyGivenNames y6
        have h6 : Keeps s0 y6 := by
          unfold y6
          split
          · refine State.mdUnit_keeps ?_
            exact h4
          · exact h4
        clear_value y6
        refine poolEvents_keeps ?_
        refine takeover_keeps ?_
        exact h6
      · split
        · refine poolEmpty_keeps ?_
          exact h4
        · refine poolEvents_keeps ?_
          exact h4
    clear_value y5
    refine raiseEv_keeps ?_
    exact h5

theorem suspect_keeps {s0 s : State} {p1 : _} {p2 : _} {p3 : _} {p4 : _} (h : Keeps s0 s) : Keeps s0 (suspect p1 p2 p3 p4 s) := by
  unfold suspect
  split
  · split
    · refine suspectUnit_keeps ?_
      exact h
    · refine suspectUnit_keeps ?_
      exact h
  · refine suspectUnit_keeps ?_
    exact h

theorem retireEffects_keeps {s0 s : State} {p1 : _} {p2 : _} (h : Keeps s0 s) : Keeps s0 (retireEffects p1 p2 s) := by
  unfold retireEffects
  extract_lets +onlyGivenNames y1
  have h1 : Keeps s0 y1 := by
    unfold y1
    split
    · refine breakLocks_keeps ?_
      exact h
    · exact h
  clear_value y1
  split
  · refine clusterDown_keeps ?_
    exact Keeps.same h1 rfl rfl rfl
  · exact Keeps.same h1 rfl rfl rfl
  · refine State.mdPort_keeps ?_
    exact h1
  · exact Keeps.same h1 rfl rfl rfl
  · exact h1

theorem retireUnit_keeps {s0 s : State} {p1 : _} {p2 : _} {p3 : _} {p4 : _} (h : Keeps s0 s) : Keeps s0 (retireUnit p1 p2 p3 p4 s) := by
  unfold retireUnit
  extract_lets +onlyGivenNames y1
  have h1 : Keeps s0 y1 := by
    unfold y1
    refine burnRecord_keeps ?_
    exact h
  clear_value y1
  extract_lets +onlyGivenNames y2
  have h2 : Keeps s0 y2 := by
    unfold y2
    refine State.mdUnit_keeps ?_
    exact h1
  clear_value y2
  refine retireEffects_keeps ?_
  exact h2

end Sys2Proof.Machine
end

