-- ==== Sys2Proof/Laws/KeepsPlan.lean ====
section
/-!
SUPPORT. What the operations keep (Laws/Keeps.lean): health, the solver and the time base.
-/
namespace Sys2Proof.Machine

theorem tbEnableClamp_keeps {s0 s : State} (h : Keeps s0 s) : Keeps s0 (tbEnableClamp s) := by
  unfold tbEnableClamp
  extract_lets +onlyGivenNames y1
  split
  · exact h
  · extract_lets +onlyGivenNames y2
    exact Keeps.same h rfl rfl rfl

theorem tbMissed_keeps {s0 s : State} (h : Keeps s0 s) : Keeps s0 (tbMissed s) := by
  unfold tbMissed
  exact Keeps.same h rfl rfl rfl

theorem execPmbusAlert_keeps {s0 s : State} {p1 : _} (h : Keeps s0 s) : KeepsOut s0 (execPmbusAlert p1 s) := by
  unfold execPmbusAlert
  refine KeepsOut.next ?_
  refine raiseEv_keeps ?_
  exact h

theorem execPmbusRetry_keeps {s0 s : State} {p1 : _} {p2 : _} (h : Keeps s0 s) : KeepsOut s0 (execPmbusRetry p1 p2 s) := by
  unfold execPmbusRetry
  refine KeepsOut.next ?_
  split
  · split
    · refine raiseEv_keeps ?_
      exact Keeps.same h rfl rfl rfl
    · exact h
  · split
    · exact Keeps.same h rfl rfl rfl
    · split
      · refine raiseEv_keeps ?_
        exact Keeps.same h rfl rfl rfl
      · exact Keeps.same h rfl rfl rfl

theorem execTbNowFracRead_keeps {s0 s : State} (h : Keeps s0 s) : KeepsOut s0 (execTbNowFracRead s) := by
  unfold execTbNowFracRead
  refine KeepsOut.next ?_
  exact Keeps.same h rfl rfl rfl

theorem shiftTime_keeps {s0 s : State} {p1 : _} (h : Keeps s0 s) : Keeps s0 (shiftTime p1 s) := by
  unfold shiftTime
  extract_lets +onlyGivenNames y1
  extract_lets +onlyGivenNames y2
  exact Keeps.same h rfl rfl rfl

theorem execTempoWarning_keeps {s0 s : State} (h : Keeps s0 s) : KeepsOut s0 (execTempoWarning s) := by
  unfold execTempoWarning
  refine KeepsOut.next ?_
  extract_lets +onlyGivenNames y1
  split
  · refine raiseEv_keeps ?_
    exact Keeps.same h rfl rfl rfl
  · split
    · refine raiseEv_keeps ?_
      exact Keeps.same h rfl rfl rfl
    · exact h

theorem leavePlan_keeps {s0 s : State} {p1 : _} (h : Keeps s0 s) : Keeps s0 (leavePlan p1 s) := by
  unfold leavePlan
  extract_lets +onlyGivenNames y1
  have h1 : Keeps s0 y1 := by
    unfold y1
    refine State.mdPlr_keeps ?_
    exact h
  clear_value y1
  refine State.mdAxes_keeps ?_
  exact h1

theorem fallbackUp_keeps {s0 s : State} {p1 : _} (h : Keeps s0 s) : Keeps s0 (fallbackUp p1 s) := by
  unfold fallbackUp
  extract_lets +onlyGivenNames y1
  have h1 : Keeps s0 y1 := by
    unfold y1
    refine State.mdPlr_keeps ?_
    exact h
  clear_value y1
  refine State.mdAxes_keeps ?_
  exact h1

theorem execVoltageLoop_keeps {s0 s : State} {p1 : _} (h : Keeps s0 s) : KeepsOut s0 (execVoltageLoop p1 s) := by
  unfold execVoltageLoop
  refine KeepsOut.next ?_
  split
  · exact h
  · split
    · exact h
    · extract_lets +onlyGivenNames y1
      extract_lets +onlyGivenNames y2
      extract_lets +onlyGivenNames y3
      extract_lets +onlyGivenNames y4
      extract_lets +onlyGivenNames y5
      have h5 : Keeps s0 y5 := by
        unfold y5
        exact Keeps.same h rfl rfl rfl
      clear_value y5
      split
      · refine raiseEv_keeps ?_
        exact h5
      · split
        · refine raiseEv_keeps ?_
          exact h5
        · exact h5

theorem publish_keeps {s0 s : State} {p1 : _} {p2 : _} (h : Keeps s0 s) : Keeps s0 (publish p1 p2 s) := by
  unfold publish
  extract_lets +onlyGivenNames y1
  extract_lets +onlyGivenNames y2
  extract_lets +onlyGivenNames y3
  extract_lets +onlyGivenNames y4
  extract_lets +onlyGivenNames y5
  extract_lets +onlyGivenNames y6
  have h6 : Keeps s0 y6 := by
    unfold y6
    refine State.ldgWrite_keeps ?_
    exact h
  clear_value y6
  extract_lets +onlyGivenNames y7
  have h7 : Keeps s0 y7 := by
    unfold y7
    refine State.mdPlr_keeps ?_
    exact h6
  clear_value y7
  split
  · refine mirSend_keeps ?_
    exact h7
  · exact h7

theorem tileNan_keeps {s0 s : State} {p1 : _} (h : Keeps s0 s) : Keeps s0 (tileNan p1 s) := by
  unfold tileNan
  split
  · exact Keeps.same h rfl rfl rfl
  · exact h

theorem plyRename_keeps {s0 s : State} {p1 : _} {p2 : _} (h : Keeps s0 s) : Keeps s0 (plyRename p1 p2 s) := by
  unfold plyRename
  extract_lets +onlyGivenNames y1
  split
  · exact h
  · exact Keeps.same h rfl rfl rfl

theorem discardNext_keeps {s0 s : State} {p1 : _} (h : Keeps s0 s) : Keeps s0 (discardNext p1 s) := by
  unfold discardNext
  split
  · exact h
  · refine State.mdPlr_keeps ?_
    exact h

theorem tempoEvents_keeps {s0 s : State} {p1 : _} {p2 : _} {p3 : _} (h : Keeps s0 s) : Keeps s0 (tempoEvents p1 p2 p3 s) := by
  unfold tempoEvents
  extract_lets +onlyGivenNames y1
  extract_lets +onlyGivenNames y2
  extract_lets +onlyGivenNames y3
  have h3 : Keeps s0 y3 := by
    unfold y3
    split
    · refine raiseEv_keeps ?_
      exact h
    · split
      · refine raiseEv_keeps ?_
        exact h
      · exact h
  clear_value y3
  split
  · refine raiseEv_keeps ?_
    exact h3
  · exact h3

theorem publishStatic_keeps {s0 s : State} {p1 : _} {p2 : _} (h : Keeps s0 s) : Keeps s0 (publishStatic p1 p2 s) := by
  unfold publishStatic
  split
  · exact h
  · extract_lets +onlyGivenNames y1
    extract_lets +onlyGivenNames y2
    refine publish_keeps ?_
    exact h

theorem tbSetSlew_keeps {s0 s : State} {p1 : _} (h : Keeps s0 s) : Keeps s0 (tbSetSlew p1 s) := by
  unfold tbSetSlew
  extract_lets +onlyGivenNames y1
  exact Keeps.same h rfl rfl rfl

theorem moveTile_keeps {s0 s : State} {p1 : _} (h : Keeps s0 s) : Keeps s0 (moveTile p1 s) := by
  unfold moveTile
  split
  · exact h
  · extract_lets +onlyGivenNames y1
    have h1 : Keeps s0 y1 := by
      unfold y1
      split
      · refine plyRename_keeps ?_
        exact h
      · exact h
    clear_value y1
    extract_lets +onlyGivenNames y2
    have h2 : Keeps s0 y2 := by
      unfold y2
      exact Keeps.same h1 rfl rfl rfl
    clear_value y2
    refine State.mdPlr_keeps ?_
    exact h2

theorem workBack_keeps {s0 s : State} {p1 : _} {p2 : _} (h : Keeps s0 s) : Keeps s0 (workBack p1 p2 s) := by
  unfold workBack
  extract_lets +onlyGivenNames y1
  split
  · extract_lets +onlyGivenNames y2
    have h2 : Keeps s0 y2 := by
      unfold y2
      refine State.mdUnit_keeps ?_
      refine State.mdUnit_keeps ?_
      exact h
    clear_value y2
    split
    · refine State.mdPlr_keeps ?_
      exact h2
    · split
      · exact Keeps.same h2 rfl rfl rfl
      · exact h2
  · exact h

theorem beginAlong_keeps {s0 s : State} {p1 : _} {p2 : _} (h : Keeps s0 s) : Keeps s0 (beginAlong p1 p2 s) := by
  unfold beginAlong
  extract_lets +onlyGivenNames y1
  split
  · exact h
  · split
    · refine leavePlan_keeps ?_
      exact h
    · extract_lets +onlyGivenNames y2
      refine State.mdPlr_keeps ?_
      exact h

theorem execInterpolatorCalDone_keeps {s0 s : State} {p1 : _} {p2 : _} (h : Keeps s0 s) : KeepsOut s0 (execInterpolatorCalDone p1 p2 s) := by
  unfold execInterpolatorCalDone
  refine KeepsOut.onUnit ?_
  refine KeepsOut.next ?_
  extract_lets +onlyGivenNames y1
  extract_lets +onlyGivenNames y2
  extract_lets +onlyGivenNames y3
  have h3 : Keeps s0 y3 := by
    unfold y3
    exact Keeps.same h rfl rfl rfl
  split
  · exact Keeps.same h3 rfl rfl rfl
  · extract_lets +onlyGivenNames y4
    split
    · exact h3
    · extract_lets +onlyGivenNames y5
      exact Keeps.same h3 rfl rfl rfl

theorem planStep_keeps {s0 s : State} {p1 : _} {p2 : _} (h : Keeps s0 s) : Keeps s0 (planStep p1 p2 s).2 := by
  unfold planStep
  extract_lets +onlyGivenNames y1
  split
  · split
    · dsimp only
      exact h
    · split
      · dsimp only
        refine leavePlan_keeps ?_
        refine discardNext_keeps ?_
        exact h
      · extract_lets +onlyGivenNames y2
        extract_lets +onlyGivenNames y3
        extract_lets +onlyGivenNames y4
        extract_lets +onlyGivenNames y5
        dsimp only
        refine State.mdPlr_keeps ?_
        exact h
  · dsimp only
    exact h

theorem tbAcquire_keeps {s0 s : State} {p1 : _} {p2 : _} (h : Keeps s0 s) : Keeps s0 (tbAcquire p1 p2 s) := by
  unfold tbAcquire
  extract_lets +onlyGivenNames y1
  have h1 : Keeps s0 y1 := by
    unfold y1
    split
    · refine tbSetFreq_keeps ?_
      exact h
    · exact h
  clear_value y1
  extract_lets +onlyGivenNames y2
  have h2 : Keeps s0 y2 := by
    unfold y2
    refine tbSetSlew_keeps ?_
    exact h1
  clear_value y2
  exact Keeps.same h2 rfl rfl rfl

theorem raiseResult_keeps {s0 s : State} {p1 : _} {p2 : _} (h : Keeps s0 s) : Keeps s0 (raiseResult p1 p2 s) := by
  unfold raiseResult
  extract_lets +onlyGivenNames y1
  refine raiseArm_keeps ?_
  exact h

theorem passEffects_keeps {s0 s : State} {p1 : _} {p2 : _} (h : Keeps s0 s) : Keeps s0 (passEffects p1 p2 s) := by
  unfold passEffects
  split
  · extract_lets +onlyGivenNames y1
    extract_lets +onlyGivenNames y2
    split
    · refine State.mdAx_keeps ?_
      exact h
    · exact h
  · split
    · exact Keeps.same h rfl rfl rfl
    · exact h

theorem execHoldExceeded_keeps {s0 s : State} (h : Keeps s0 s) : KeepsOut s0 (execHoldExceeded s) := by
  unfold execHoldExceeded
  refine KeepsOut.next ?_
  split
  · exact h
  · extract_lets +onlyGivenNames y1
    have h1 : Keeps s0 y1 := by
      unfold y1
      refine State.upTo_keeps ?_
      exact h
    clear_value y1
    refine raiseEv_keeps ?_
    exact Keeps.same h1 rfl rfl rfl

theorem execTempoMonitor_keeps {s0 s : State} {p1 : _} {p2 : _} (h : Keeps s0 s) : KeepsOut s0 (execTempoMonitor p1 p2 s) := by
  unfold execTempoMonitor
  refine KeepsOut.next ?_
  extract_lets +onlyGivenNames y1
  extract_lets +onlyGivenNames y2
  extract_lets +onlyGivenNames y3
  extract_lets +onlyGivenNames y4
  extract_lets +onlyGivenNames y5
  have h5 : Keeps s0 y5 := by
    unfold y5
    exact Keeps.same h rfl rfl rfl
  clear_value y5
  refine Keeps.foldl ?_ ?_
  · exact h5
  · intro x6 a7 h8
    refine tempoEvents_keeps ?_
    exact h8

theorem execPmbusVoutTimeout_keeps {s0 s : State} (h : Keeps s0 s) : KeepsOut s0 (execPmbusVoutTimeout s) := by
  unfold execPmbusVoutTimeout
  refine KeepsOut.next ?_
  split
  · exact h
  · split
    · exact h
    · refine raiseEv_keeps ?_
      exact Keeps.same h rfl rfl rfl

theorem homeTile_keeps {s0 s : State} {p1 : _} (h : Keeps s0 s) : Keeps s0 (homeTile p1 s) := by
  unfold homeTile
  extract_lets +onlyGivenNames y1
  split
  · exact h
  · extract_lets +onlyGivenNames y2
    have h2 : Keeps s0 y2 := by
      unfold y2
      clear_value y1
      split
      · refine plyRename_keeps ?_
        refine State.mdUnit_keeps ?_
        exact Keeps.same h rfl rfl rfl
      · exact h
    clear_value y2
    extract_lets +onlyGivenNames y3
    have h3 : Keeps s0 y3 := by
      unfold y3
      exact Keeps.same h2 rfl rfl rfl
    clear_value y3
    refine State.mdPlr_keeps ?_
    refine State.mdUnit_keeps ?_
    exact h3

theorem execTimeOfDayShift_keeps {s0 s : State} (h : Keeps s0 s) : KeepsOut s0 (execTimeOfDayShift s) := by
  unfold execTimeOfDayShift
  refine KeepsOut.next ?_
  split
  · exact h
  · extract_lets +onlyGivenNames y1
    have h1 : Keeps s0 y1 := by
      unfold y1
      refine State.upTo_keeps ?_
      exact h
    clear_value y1
    extract_lets +onlyGivenNames y2
    extract_lets +onlyGivenNames y3
    extract_lets +onlyGivenNames y4
    have h4 : Keeps s0 y4 := by
      unfold y4
      exact Keeps.same h1 rfl rfl rfl
    clear_value y4
    split
    · exact h4
    · refine raiseEv_keeps ?_
      refine shiftTime_keeps ?_
      exact h4

theorem execPlanPeriodEvent_keeps {s0 s : State} {p1 : _} (h : Keeps s0 s) : KeepsOut s0 (execPlanPeriodEvent p1 s) := by
  unfold execPlanPeriodEvent
  refine KeepsOut.onUnit ?_
  refine KeepsOut.next ?_
  extract_lets +onlyGivenNames y1
  split
  · exact h
  · refine State.mdPlr_keeps ?_
    refine moveTile_keeps ?_
    refine State.upTo_keeps ?_
    exact h

theorem endSolve_keeps {s0 s : State} {p1 : _} {p2 : _} {p3 : _} {p4 : _} {p5 : _} {p6 : _} {p7 : _} (h : Keeps s0 s) : Keeps s0 (endSolve p1 p2 p3 p4 p5 p6 p7 s) := by
  unfold endSolve
  split
  · exact h
  · extract_lets +onlyGivenNames y3
    extract_lets +onlyGivenNames y4
    extract_lets +onlyGivenNames y5
    extract_lets +onlyGivenNames y6
    have h6 : Keeps s0 y6 := by
      unfold y6
      refine State.mdPlr_keeps ?_
      exact h
    clear_value y6
    extract_lets +onlyGivenNames y7
    have h7 : Keeps s0 y7 := by
      unfold y7
      split
      · exact Keeps.same h6 rfl rfl rfl
      · exact h6
    clear_value y7
    refine raiseResult_keeps ?_
    exact h7

theorem cutSolve_keeps {s0 s : State} {p1 : _} {p2 : _} {p3 : _} (h : Keeps s0 s) : Keeps s0 (cutSolve p1 p2 p3 s) := by
  unfold cutSolve
  refine endSolve_keeps ?_
  refine State.drawn_keeps ?_
  exact h

theorem execPpsinSeenExpiry_keeps {s0 s : State} (h : Keeps s0 s) : KeepsOut s0 (execPpsinSeenExpiry s) := by
  unfold execPpsinSeenExpiry
  refine KeepsOut.next ?_
  split
  · exact h
  · split
    · extract_lets +onlyGivenNames y1
      have h1 : Keeps s0 y1 := by
        unfold y1
        refine State.upTo_keeps ?_
        exact h
      clear_value y1
      exact Keeps.same h1 rfl rfl rfl
    · exact h

theorem execSolveDeadline_keeps {s0 s : State} {p1 : _} (h : Keeps s0 s) : KeepsOut s0 (execSolveDeadline p1 s) := by
  unfold execSolveDeadline
  refine KeepsOut.onUnit ?_
  refine KeepsOut.next ?_
  split
  · exact h
  · split
    · exact h
    · extract_lets +onlyGivenNames y1
      extract_lets +onlyGivenNames y2
      have h2 : Keeps s0 y2 := by
        unfold y2
        refine State.upTo_keeps ?_
        exact h
      clear_value y2
      refine cutSolve_keeps ?_
      exact h2

theorem latchSolve_keeps {s0 s : State} {p1 : _} {p2 : _} (h : Keeps s0 s) : Keeps s0 (latchSolve p1 p2 s) := by
  unfold latchSolve
  extract_lets +onlyGivenNames y1
  split
  · exact h
  · extract_lets +onlyGivenNames y2
    have h2 : Keeps s0 y2 := by
      unfold y2
      split
      · refine State.mdPlr_keeps ?_
        exact h
      · exact h
    clear_value y2
    split
    · split
      · refine State.drawn_keeps ?_
        refine State.mdPlr_keeps ?_
        exact h2
      · exact h2
    · exact h2

theorem execPpsOutRise_keeps {s0 s : State} (h : Keeps s0 s) : KeepsOut s0 (execPpsOutRise s) := by
  unfold execPpsOutRise
  refine KeepsOut.next ?_
  extract_lets +onlyGivenNames y1
  split
  · exact h
  · extract_lets +onlyGivenNames y2
    extract_lets +onlyGivenNames y3
    extract_lets +onlyGivenNames y4
    have h4 : Keeps s0 y4 := by
      unfold y4
      refine State.upTo_keeps ?_
      exact h
    clear_value y4
    exact Keeps.same h4 rfl rfl rfl

theorem planWork_keeps {s0 s : State} {p1 : _} (h : Keeps s0 s) : Keeps s0 (planWork p1 s) := by
  unfold planWork
  extract_lets +onlyGivenNames y1
  split
  · exact h
  · extract_lets +onlyGivenNames y2
    have h2 : Keeps s0 y2 := by
      unfold y2
      refine State.mdPlr_keeps ?_
      exact h
    clear_value y2
    split
    · refine State.mdPlr_keeps ?_
      exact h2
    · split
      · refine publishStatic_keeps ?_
        exact h2
      · exact h2

theorem tbTrack_keeps {s0 s : State} {p1 : _} {p2 : _} (h : Keeps s0 s) : Keeps s0 (tbTrack p1 p2 s) := by
  unfold tbTrack
  extract_lets +onlyGivenNames y1
  have h1 : Keeps s0 y1 := by
    unfold y1
    refine tbSetFreq_keeps ?_
    exact h
  clear_value y1
  refine tbSetSlew_keeps ?_
  exact h1

theorem execPpsOutFall_keeps {s0 s : State} (h : Keeps s0 s) : KeepsOut s0 (execPpsOutFall s) := by
  unfold execPpsOutFall
  refine KeepsOut.next ?_
  split
  · extract_lets +onlyGivenNames y1
    have h1 : Keeps s0 y1 := by
      unfold y1
      refine State.upTo_keeps ?_
      exact h
    clear_value y1
    exact Keeps.same h1 rfl rfl rfl
  · exact h

theorem completeSolve_keeps {s0 s : State} {p1 : _} {p2 : _} {p3 : _} (h : Keeps s0 s) : Keeps s0 (completeSolve p1 p2 p3 s) := by
  unfold completeSolve
  split
  · exact h
  · split
    · exact h
    · extract_lets +onlyGivenNames y1
      extract_lets +onlyGivenNames y2
      extract_lets +onlyGivenNames y3
      extract_lets +onlyGivenNames y4
      have h4 : Keeps s0 y4 := by
        unfold y4
        split
        · exact h
        · refine State.mdPlr_keeps ?_
          exact h
      clear_value y4
      extract_lets +onlyGivenNames y5
      extract_lets +onlyGivenNames y6
      have h6 : Keeps s0 y6 := by
        unfold y6
        split
        · exact h4
        · refine publish_keeps ?_
          exact h4
      clear_value y6
      refine endSolve_keeps ?_
      exact h6

theorem tbHold_keeps {s0 s : State} {p1 : _} (h : Keeps s0 s) : Keeps s0 (tbHold p1 s) := by
  unfold tbHold
  extract_lets +onlyGivenNames y1
  extract_lets +onlyGivenNames y2
  have h2 : Keeps s0 y2 := by
    unfold y2
    refine tbSetFreq_keeps ?_
    exact h
  clear_value y2
  extract_lets +onlyGivenNames y3
  extract_lets +onlyGivenNames y4
  have h4 : Keeps s0 y4 := by
    unfold y4
    refine tbFollow_keeps ?_
    exact Keeps.same h2 rfl rfl rfl
  clear_value y4
  split
  · exact h4
  · refine raiseTb_keeps ?_
    exact h4

theorem execRelabel_keeps {s0 s : State} (h : Keeps s0 s) : KeepsOut s0 (execRelabel s) := by
  unfold execRelabel
  refine KeepsOut.next ?_
  split
  · exact h
  · extract_lets +onlyGivenNames y1
    have h1 : Keeps s0 y1 := by
      unfold y1
      refine State.upTo_keeps ?_
      exact h
    clear_value y1
    extract_lets +onlyGivenNames y2
    extract_lets +onlyGivenNames y3
    extract_lets +onlyGivenNames y4
    extract_lets +onlyGivenNames y5
    have h5 : Keeps s0 y5 := by
      unfold y5
      exact Keeps.same h1 rfl rfl rfl
    clear_value y5
    split
    · exact h5
    · extract_lets +onlyGivenNames y6
      have h6 : Keeps s0 y6 := by
        unfold y6
        refine tbFollow_keeps ?_
        refine tbSetSlew_keeps ?_
        refine shiftTime_keeps ?_
        exact h5
      clear_value y6
      refine raiseEv_keeps ?_
      exact h6

theorem execHoldoverEntry_keeps {s0 s : State} (h : Keeps s0 s) : KeepsOut s0 (execHoldoverEntry s) := by
  unfold execHoldoverEntry
  refine KeepsOut.next ?_
  split
  · extract_lets +onlyGivenNames y1
    extract_lets +onlyGivenNames y2
    have h2 : Keeps s0 y2 := by
      unfold y2
      refine State.upTo_keeps ?_
      exact h
    clear_value y2
    split
    · unfold y1
      refine tbHold_keeps ?_
      exact h2
    · split
      · unfold y1
        refine tbHold_keeps ?_
        exact h2
      · exact h
    · exact h
    · split
      · unfold y1
        refine tbHold_keeps ?_
        exact h
      · exact h
  · exact h

theorem tbTakeover_keeps {s0 s : State} {p1 : _} (h : Keeps s0 s) : Keeps s0 (tbTakeover p1 s) := by
  unfold tbTakeover
  extract_lets +onlyGivenNames y1
  extract_lets +onlyGivenNames y2
  have h2 : Keeps s0 y2 := by
    unfold y2
    exact Keeps.same h rfl rfl rfl
  clear_value y2
  split
  · refine tbHold_keeps ?_
    exact h2
  · exact h2

theorem tbMeasure_keeps {s0 s : State} {p1 : _} {p2 : _} {p3 : _} (h : Keeps s0 s) : Keeps s0 (tbMeasure p1 p2 p3 s) := by
  unfold tbMeasure
  extract_lets +onlyGivenNames y1
  extract_lets +onlyGivenNames y2
  have h2 : Keeps s0 y2 := by
    unfold y2
    exact Keeps.same h rfl rfl rfl
  clear_value y2
  extract_lets +onlyGivenNames y3
  split
  · split
    · unfold y3
      refine raiseTb_keeps ?_
      refine tbAcquire_keeps ?_
      exact Keeps.same h2 rfl rfl rfl
    · refine tbTrack_keeps ?_
      exact h2
  · extract_lets +onlyGivenNames y4
    have h4 : Keeps s0 y4 := by
      unfold y4
      refine tbAcquire_keeps ?_
      exact h2
    clear_value y4
    split
    · refine raiseTb_keeps ?_
      exact Keeps.same h4 rfl rfl rfl
    · exact h4
  · unfold y3
    refine raiseTb_keeps ?_
    refine tbAcquire_keeps ?_
    exact Keeps.same h2 rfl rfl rfl

theorem planTs_keeps {s0 s : State} {p1 : _} {p2 : _} (h : Keeps s0 s) : Keeps s0 (planTs p1 p2 s) := by
  unfold planTs
  extract_lets +onlyGivenNames y1
  extract_lets +onlyGivenNames y2
  split
  · exact h
  · extract_lets +onlyGivenNames y3
    have h3 : Keeps s0 y3 := by
      unfold y3
      split
      · refine fallbackUp_keeps ?_
        exact h
      · split
        · refine fallbackUp_keeps ?_
          refine State.mdPlr_keeps ?_
          exact h
        · split
          · refine State.mdPlr_keeps ?_
            exact h
          · split
            · refine fallbackUp_keeps ?_
              refine State.mdPlr_keeps ?_
              exact h
            · split
              · split
                · extract_lets +onlyGivenNames y4
                  have h4 : Keeps s0 y4 := by
                    unfold y4
                    refine State.mdPlr_keeps ?_
                    exact h
                  clear_value y4
                  refine State.mdAxes_keeps ?_
                  exact h4
                · refine raiseResult_keeps ?_
                  refine fallbackUp_keeps ?_
                  refine tileNan_keeps ?_
                  refine State.mdPlr_keeps ?_
                  refine withdraw_keeps ?_
                  exact h
              · split
                · extract_lets +onlyGivenNames y5
                  have h5 : Keeps s0 y5 := by
                    unfold y5
                    refine State.mdPlr_keeps ?_
                    exact h
                  clear_value y5
                  refine State.mdAxes_keeps ?_
                  exact h5
                · refine raiseResult_keeps ?_
                  refine fallbackUp_keeps ?_
                  refine tileNan_keeps ?_
                  refine State.mdPlr_keeps ?_
                  refine withdraw_keeps ?_
                  exact h
    clear_value y3
    extract_lets +onlyGivenNames y6
    split
    · refine raiseResult_keeps ?_
      refine beginAlong_keeps ?_
      exact h3
    · exact h3

theorem execPpsInEdge_keeps {s0 s : State} {p1 : _} {p2 : _} (h : Keeps s0 s) : KeepsOut s0 (execPpsInEdge p1 p2 s) := by
  unfold execPpsInEdge
  refine KeepsOut.next ?_
  extract_lets +onlyGivenNames y1
  have h1 : Keeps s0 y1 := by
    unfold y1
    refine State.upTo_keeps ?_
    exact h
  split
  · exact h1
  · extract_lets +onlyGivenNames y2
    extract_lets +onlyGivenNames y3
    extract_lets +onlyGivenNames y4
    extract_lets +onlyGivenNames y5
    have h5 : Keeps s0 y5 := by
      unfold y5
      split
      · refine State.drawn_keeps ?_
        exact h1
      · exact h1
    extract_lets +onlyGivenNames y6
    split
    · exact Keeps.same h5 rfl rfl rfl
    · extract_lets +onlyGivenNames y7
      extract_lets +onlyGivenNames y8
      have h8 : Keeps s0 y8 := by
        unfold y8
        exact Keeps.same h5 rfl rfl rfl
      split
      · refine tbFollow_keeps ?_
        refine tbMeasure_keeps ?_
        exact h8
      · exact h8

theorem execSolveComplete_keeps {s0 s : State} {p1 : _} {p2 : _} {p3 : _} {p4 : _} {p5 : _} (h : Keeps s0 s) :
    KeepsOut s0 (execSolveComplete p1 p2 p3 p4 p5 s) := by
  unfold execSolveComplete
  refine KeepsOut.onUnit ?_
  refine KeepsOut.next ?_
  split
  · exact h
  · split
    · exact h
    · refine completeSolve_keeps ?_
      refine State.upTo_keeps ?_
      exact h

theorem execManufactureFinalTest_keeps {s0 s : State} (h : Keeps s0 s) : KeepsOut s0 (execManufactureFinalTest s) := by
  unfold execManufactureFinalTest
  refine KeepsOut.next ?_
  split
  · exact h
  · rename_i n
    refine wipe_keeps (raiseEv_keeps ?_)
    exact Keeps.burnt h rfl id (Burns.field _ (Decidable.byContradiction n))

theorem execUnitError_keeps {s0 s : State} {p1 : _} {p2 : _} {p3 : _} (h : Keeps s0 s) : KeepsOut s0 (execUnitError p1 p2 p3 s) := by
  unfold execUnitError
  refine KeepsOut.onUnit ?_
  refine KeepsOut.onUnit ?_
  refine KeepsOut.next ?_
  refine suspect_keeps ?_
  exact h

theorem execTileError_keeps {s0 s : State} {p1 : _} {p2 : _} (h : Keeps s0 s) : KeepsOut s0 (execTileError p1 p2 s) := by
  unfold execTileError
  refine KeepsOut.onUnit ?_
  refine KeepsOut.next ?_
  extract_lets +onlyGivenNames y1
  have h1 : Keeps s0 y1 := by
    unfold y1
    refine State.upTo_keeps ?_
    exact h
  clear_value y1
  extract_lets +onlyGivenNames y2
  extract_lets +onlyGivenNames y3
  have h3 : Keeps s0 y3 := by
    unfold y3
    refine suspect_keeps ?_
    exact h1
  clear_value y3
  clear_value y2
  split
  · exact h3
  · split
    · split
      · refine cutSolve_keeps ?_
        exact h3
      · exact h3
    · exact h3

theorem execRoverParallelEnd_keeps {s0 s : State} {p1 : _} {p2 : _} (h : Keeps s0 s) : KeepsOut s0 (execRoverParallelEnd p1 p2 s) := by
  unfold execRoverParallelEnd
  refine KeepsOut.onUnit ?_
  refine KeepsOut.next ?_
  extract_lets +onlyGivenNames y1
  split
  · exact h
  · extract_lets +onlyGivenNames y2
    have h2 : Keeps s0 y2 := by
      unfold y2
      refine State.upTo_keeps ?_
      exact h
    clear_value y2
    extract_lets +onlyGivenNames y3
    extract_lets +onlyGivenNames y4
    extract_lets +onlyGivenNames y5
    extract_lets +onlyGivenNames y6
    have h6 : Keeps s0 y6 := by
      unfold y6
      exact Keeps.same h2 rfl rfl rfl
    clear_value y6
    split
    · exact h6
    · extract_lets +onlyGivenNames y7
      extract_lets +onlyGivenNames y8
      have h8 : Keeps s0 y8 := by
        unfold y8
        exact Keeps.same h6 rfl rfl rfl
      clear_value y8
      extract_lets +onlyGivenNames y9
      have h9 : Keeps s0 y9 := by
        unfold y9
        refine raiseEv_keeps ?_
        exact h8
      clear_value y9
      refine suspect_keeps ?_
      refine suspect_keeps ?_
      exact h9

theorem execTargetedSelfTestDone_keeps {s0 s : State} {p1 : _} {p2 : _} {p3 : _} (h : Keeps s0 s) : KeepsOut s0 (execTargetedSelfTestDone p1 p2 p3 s) := by
  unfold execTargetedSelfTestDone
  refine KeepsOut.onUnit ?_
  refine KeepsOut.onUnit ?_
  refine KeepsOut.next ?_
  extract_lets +onlyGivenNames y1
  split
  · exact h
  · split
    · extract_lets +onlyGivenNames y2
      have h2 : Keeps s0 y2 := by
        unfold y2
        refine State.mdUnit_keeps ?_
        exact h
      clear_value y2
      extract_lets +onlyGivenNames y3
      have h3 : Keeps s0 y3 := by
        unfold y3
        split
        · refine workBack_keeps ?_
          exact h2
        · exact h2
      clear_value y3
      refine finishTicket_keeps ?_
      refine raiseEv_keeps ?_
      refine passEffects_keeps ?_
      exact h3
    · extract_lets +onlyGivenNames y4
      have h4 : Keeps s0 y4 := by
        unfold y4
        refine retireUnit_keeps ?_
        exact h
      clear_value y4
      refine finishTicket_keeps ?_
      refine raiseEv_keeps ?_
      exact h4
    · extract_lets +onlyGivenNames y5
      split
      · extract_lets +onlyGivenNames y6
        have h6 : Keeps s0 y6 := by
          unfold y6
          refine State.mdUnit_keeps ?_
          exact h
        clear_value y6
        refine raiseEv_keeps ?_
        refine passEffects_keeps ?_
        exact h6
      · refine raiseEv_keeps ?_
        refine retireUnit_keeps ?_
        exact h
    · refine raiseEv_keeps ?_
      refine retireUnit_keeps ?_
      exact h

theorem execBackgroundSelfTest_keeps {s0 s : State} {p1 : _} {p2 : _} {p3 : _} (h : Keeps s0 s) : KeepsOut s0 (execBackgroundSelfTest p1 p2 p3 s) := by
  unfold execBackgroundSelfTest
  refine KeepsOut.onUnit ?_
  refine KeepsOut.onUnit ?_
  refine KeepsOut.next ?_
  extract_lets +onlyGivenNames y1
  split
  · split
    · refine raiseEv_keeps ?_
      refine State.mdUnit_keeps ?_
      exact h
    · refine poolEvents_keeps ?_
      refine raiseEv_keeps ?_
      refine retireUnit_keeps ?_
      exact h
  · split
    · split
      · refine raiseEv_keeps ?_
        refine State.mdUnit_keeps ?_
        exact h
      · refine suspect_keeps ?_
        refine raiseEv_keeps ?_
        exact h
    · split
      · refine raiseEv_keeps ?_
        exact h
      · exact h

end Sys2Proof.Machine
end

