-- ==== Sys2Proof/Laws/KeepsSafety.lean ====
section
/-!
SUPPORT. What the operations keep (Laws/Keeps.lean): the safety supervisor, the separation monitor, the drive links and the axis events.
-/
namespace Sys2Proof.Machine

theorem gpioSet_keeps {s0 s : State} {p1 : _} {p2 : _} {p3 : _} (h : Keeps s0 s) : Keeps s0 (gpioSet p1 p2 p3 s) := by
  unfold gpioSet
  exact Keeps.same h rfl rfl rfl

theorem execListStale_keeps {s0 s : State} {p1 : _} (h : Keeps s0 s) : KeepsOut s0 (execListStale p1 s) := by
  unfold execListStale
  refine KeepsOut.onUnit ?_
  refine KeepsOut.next ?_
  extract_lets +onlyGivenNames y1
  split
  · exact h
  · refine raiseEv_keeps ?_
    exact Keeps.same h rfl rfl rfl

theorem execBrakeTestDue_keeps {s0 s : State} {p1 : _} (h : Keeps s0 s) : KeepsOut s0 (execBrakeTestDue p1 s) := by
  unfold execBrakeTestDue
  refine KeepsOut.onUnit ?_
  refine KeepsOut.next ?_
  extract_lets +onlyGivenNames y1
  extract_lets +onlyGivenNames y2
  have h2 : Keeps s0 y2 := by
    unfold y2
    refine State.mdBk_keeps ?_
    exact h
  clear_value y2
  split
  · exact h2
  · refine raiseEv_keeps ?_
    refine State.mdBk_keeps ?_
    exact h2

theorem protRelease_keeps {s0 s : State} {p1 : _} {p2 : _} (h : Keeps s0 s) : Keeps s0 (protRelease p1 p2 s) := by
  unfold protRelease
  refine State.mdSc_keeps ?_
  exact h

theorem leaveServiceMode_keeps {s0 s : State} (h : Keeps s0 s) : Keeps s0 (leaveServiceMode s) := by
  unfold leaveServiceMode
  refine raiseEv_keeps ?_
  refine setMode_keeps ?_
  exact h

theorem State.mdSin_keeps {s0 s : State} {p1 : _} {p2 : _} (h : Keeps s0 s) : Keeps s0 (State.mdSin s p1 p2) := by
  unfold State.mdSin
  exact Keeps.same h rfl rfl rfl

theorem judgeSlip_keeps {s0 s : State} {p1 : _} {p2 : _} (h : Keeps s0 s) : Keeps s0 (judgeSlip p1 p2 s) := by
  unfold judgeSlip
  split
  · exact h
  · extract_lets +onlyGivenNames y1
    split
    · exact h
    · extract_lets +onlyGivenNames y2
      extract_lets +onlyGivenNames y3
      extract_lets +onlyGivenNames y4
      split
      · exact h
      · refine State.mdBk_keeps ?_
        exact h

theorem resumeLoops_keeps {s0 s : State} {p1 : _} (h : Keeps s0 s) : Keeps s0 (resumeLoops p1 s) := by
  unfold resumeLoops
  refine Keeps.foldl ?_ ?_
  · exact h
  · intro x1 a2 h3
    refine State.mdAx_keeps ?_
    exact h3

theorem putFrf_keeps {s0 s : State} {p1 : _} {p2 : _} (h : Keeps s0 s) : Keeps s0 (putFrf p1 p2 s) := by
  unfold putFrf
  split
  · split
    · refine State.ldgWrite_keeps ?_
      exact h
    · exact h
  · exact h

theorem slsSettle_keeps {s0 s : State} {p1 : _} {p2 : _} (h : Keeps s0 s) : Keeps s0 (slsSettle p1 p2 s) := by
  unfold slsSettle
  extract_lets +onlyGivenNames y1
  extract_lets +onlyGivenNames y2
  extract_lets +onlyGivenNames y3
  have h3 : Keeps s0 y3 := by
    unfold y3
    refine State.mdSc_keeps ?_
    exact h
  clear_value y3
  exact Keeps.same h3 rfl rfl rfl

theorem execCaptureAreaFree_keeps {s0 s : State} {p1 : _} (h : Keeps s0 s) : KeepsOut s0 (execCaptureAreaFree p1 s) := by
  unfold execCaptureAreaFree
  refine KeepsOut.onUnit ?_
  refine KeepsOut.next ?_
  split
  · exact h
  · split
    · exact h
    · extract_lets +onlyGivenNames y1
      have h1 : Keeps s0 y1 := by
        unfold y1
        split
        · exact h
        · refine State.upTo_keeps ?_
          exact h
      clear_value y1
      exact Keeps.same h1 rfl rfl rfl

theorem raiseSi_keeps {s0 s : State} {p1 : _} {p2 : _} (h : Keeps s0 s) : Keeps s0 (raiseSi p1 p2 s) := by
  unfold raiseSi
  refine raiseEv_keeps ?_
  exact h

theorem stopAxes.leavePlanMoving_keeps {s0 s : State} {p1 : _} (h : Keeps s0 s) : Keeps s0 (stopAxes.leavePlanMoving p1 s) := by
  unfold stopAxes.leavePlanMoving
  extract_lets +onlyGivenNames y1
  have h1 : Keeps s0 y1 := by
    unfold y1
    refine State.mdPlr_keeps ?_
    exact h
  clear_value y1
  refine State.mdAxes_keeps ?_
  exact h1

theorem siHeld_keeps {s0 s : State} {p1 : _} {p2 : _} (h : Keeps s0 s) : Keeps s0 (siHeld p1 p2 s) := by
  unfold siHeld
  extract_lets +onlyGivenNames y1
  extract_lets +onlyGivenNames y2
  split
  · refine State.mdSin_keeps ?_
    exact h
  · split
    · refine State.mdSin_keeps ?_
      exact h
    · exact h

theorem execBrakeTimerSave_keeps {s0 s : State} (h : Keeps s0 s) : KeepsOut s0 (execBrakeTimerSave s) := by
  unfold execBrakeTimerSave
  refine KeepsOut.next ?_
  refine secTouch_keeps ?_
  exact Keeps.same h rfl rfl rfl

theorem slsOrder_keeps {s0 s : State} {p1 : _} {p2 : _} {p3 : _} {p4 : _} (h : Keeps s0 s) : Keeps s0 (slsOrder p1 p2 p3 p4 s) := by
  unfold slsOrder
  extract_lets +onlyGivenNames y1
  extract_lets +onlyGivenNames y2
  split
  · exact h
  · extract_lets +onlyGivenNames y3
    have h3 : Keeps s0 y3 := by
      unfold y3
      split
      · refine endInjection_keeps ?_
        exact h
      · exact h
    clear_value y3
    refine slsSettle_keeps ?_
    refine State.mdSc_keeps ?_
    exact h3

theorem stopCap_keeps {s0 s : State} {p1 : _} {p2 : _} (h : Keeps s0 s) : Keeps s0 (stopCap p1 p2 s) := by
  unfold stopCap
  split
  · exact h
  · split
    · exact h
    · extract_lets +onlyGivenNames y1
      extract_lets +onlyGivenNames y2
      extract_lets +onlyGivenNames y3
      have h3 : Keeps s0 y3 := by
        unfold y3
        split
        · refine State.ldgWrite_keeps ?_
          exact h
        · exact h
      clear_value y3
      exact Keeps.same h3 rfl rfl rfl

theorem execHoldDelayExpiry_keeps {s0 s : State} {p1 : _} (h : Keeps s0 s) : KeepsOut s0 (execHoldDelayExpiry p1 s) := by
  unfold execHoldDelayExpiry
  refine KeepsOut.onUnit ?_
  refine KeepsOut.next ?_
  split
  · refine State.mdAx_keeps ?_
    exact h
  · exact h

theorem execLaneSpareTakeover_keeps {s0 s : State} {p1 : _} (h : Keeps s0 s) : KeepsOut s0 (execLaneSpareTakeover p1 s) := by
  unfold execLaneSpareTakeover
  refine KeepsOut.onUnit ?_
  refine KeepsOut.next ?_
  extract_lets +onlyGivenNames y1
  extract_lets +onlyGivenNames y2
  clear_value y1
  clear_value y2
  split
  · split
    · exact h
    · exact Keeps.same h rfl rfl rfl
  · exact h

theorem execTraceOverflow_keeps {s0 s : State} {p1 : _} (h : Keeps s0 s) : KeepsOut s0 (execTraceOverflow p1 s) := by
  unfold execTraceOverflow
  refine KeepsOut.onUnit ?_
  refine KeepsOut.next ?_
  refine stopCap_keeps ?_
  exact h

theorem execStepEdge_keeps {s0 s : State} {p1 : _} {p2 : _} {p3 : _} {p4 : _} {p5 : _} {p6 : _} (h : Keeps s0 s) : KeepsOut s0 (execStepEdge p1 p2 p3 p4 p5 p6 s) := by
  unfold execStepEdge
  refine KeepsOut.onUnit ?_
  refine KeepsOut.next ?_
  extract_lets +onlyGivenNames y1
  have h1 : Keeps s0 y1 := by
    unfold y1
    refine gpioSet_keeps ?_
    refine State.upTo_keeps ?_
    exact h
  clear_value y1
  extract_lets +onlyGivenNames y2
  extract_lets +onlyGivenNames y3
  have h3 : Keeps s0 y3 := by
    unfold y3
    exact Keeps.same h1 rfl rfl rfl
  clear_value y3
  split
  · exact h3
  · split
    · exact h3
    · split
      · refine State.mdAx_keeps ?_
        exact h3
      · refine State.mdAx_keeps ?_
        exact h3

theorem execBkSettleCheck_keeps {s0 s : State} {p1 : _} {p2 : _} {p3 : _} (h : Keeps s0 s) : KeepsOut s0 (execBkSettleCheck p1 p2 p3 s) := by
  unfold execBkSettleCheck
  refine KeepsOut.onUnit ?_
  refine KeepsOut.next ?_
  extract_lets +onlyGivenNames y1
  extract_lets +onlyGivenNames y2
  have h2 : Keeps s0 y2 := by
    unfold y2
    split
    · refine State.upTo_keeps ?_
      exact h
    · exact h
  clear_value y2
  extract_lets +onlyGivenNames y3
  refine State.mdBk_keeps ?_
  exact h2

theorem stoSettle_keeps {s0 s : State} {p1 : _} (h : Keeps s0 s) : Keeps s0 (stoSettle p1 s) := by
  unfold stoSettle
  extract_lets +onlyGivenNames y1
  split
  · refine putSto_keeps ?_
    exact h
  · exact h

theorem record_keeps {s0 s : State} {p1 : _} {p2 : _} {p3 : _} {p4 : _} (h : Keeps s0 s) : Keeps s0 (record p1 p2 p3 p4 s) := by
  unfold record
  extract_lets +onlyGivenNames y1
  extract_lets +onlyGivenNames y2
  extract_lets +onlyGivenNames y3
  extract_lets +onlyGivenNames y4
  extract_lets +onlyGivenNames y5
  extract_lets +onlyGivenNames y6
  extract_lets +onlyGivenNames y7
  have h7 : Keeps s0 y7 := by
    unfold y7
    refine State.mdSsmArm_keeps ?_
    exact h
  clear_value y7
  refine State.mdPlr_keeps ?_
  exact h7

theorem execStoConfirmCheck_keeps {s0 s : State} {p1 : _} (h : Keeps s0 s) : KeepsOut s0 (execStoConfirmCheck p1 s) := by
  unfold execStoConfirmCheck
  refine KeepsOut.onUnit ?_
  refine KeepsOut.next ?_
  extract_lets +onlyGivenNames y1
  extract_lets +onlyGivenNames y2
  extract_lets +onlyGivenNames y3
  have h3 : Keeps s0 y3 := by
    unfold y3
    refine Keeps.foldl ?_ ?_
    · exact h
    · intro x4 a5 h6
      split
      · refine State.upTo_keeps ?_
        exact h6
      · exact h6
  clear_value y3
  extract_lets +onlyGivenNames y7
  extract_lets +onlyGivenNames y8
  extract_lets +onlyGivenNames y9
  have h9 : Keeps s0 y9 := by
    unfold y9
    refine Keeps.foldl ?_ ?_
    · exact h3
    · intro x10 a11 h12
      refine State.mdSc_keeps ?_
      exact h12
  clear_value y9
  extract_lets +onlyGivenNames y13
  extract_lets +onlyGivenNames y14
  have h14 : Keeps s0 y14 := by
    unfold y14
    refine Keeps.foldl ?_ ?_
    · exact h9
    · intro x15 a16 h17
      split
      · refine openPair_keeps ?_
        exact h17
      · exact h17
  clear_value y14
  split
  · refine raiseEv_keeps ?_
    refine State.mdBk_keeps ?_
    exact h14
  · split
    · refine raiseEv_keeps ?_
      refine State.mdBk_keeps ?_
      exact h14
    · exact h14

theorem execTorqueBuildEnd_keeps {s0 s : State} {p1 : _} (h : Keeps s0 s) : KeepsOut s0 (execTorqueBuildEnd p1 s) := by
  unfold execTorqueBuildEnd
  refine KeepsOut.onUnit ?_
  refine KeepsOut.next ?_
  split
  · extract_lets +onlyGivenNames y1
    have h1 : Keeps s0 y1 := by
      unfold y1
      refine State.upTo_keeps ?_
      exact h
    clear_value y1
    extract_lets +onlyGivenNames y2
    have h2 : Keeps s0 y2 := by
      unfold y2
      split
      · refine closePair_keeps ?_
        exact h1
      · exact h1
    clear_value y2
    refine State.mdSc_keeps ?_
    exact h2
  · exact h

theorem execInjectionRunEnd_keeps {s0 s : State} {p1 : _} (h : Keeps s0 s) : KeepsOut s0 (execInjectionRunEnd p1 s) := by
  unfold execInjectionRunEnd
  refine KeepsOut.onUnit ?_
  refine KeepsOut.next ?_
  split
  · exact h
  · split
    · exact h
    · extract_lets +onlyGivenNames y1
      extract_lets +onlyGivenNames y2
      have h2 : Keeps s0 y2 := by
        unfold y2
        exact Keeps.same h rfl rfl rfl
      clear_value y2
      split
      · refine raiseArm_keeps ?_
        exact h2
      · refine raiseAxis_keeps ?_
        exact h2

theorem execBkReleaseEnd_keeps {s0 s : State} {p1 : _} (h : Keeps s0 s) : KeepsOut s0 (execBkReleaseEnd p1 s) := by
  unfold execBkReleaseEnd
  refine KeepsOut.onUnit ?_
  refine KeepsOut.next ?_
  split
  · extract_lets +onlyGivenNames y1
    have h1 : Keeps s0 y1 := by
      unfold y1
      refine State.upTo_keeps ?_
      exact h
    clear_value y1
    refine State.mdSc_keeps ?_
    exact h1
  · exact h

theorem execSeparationCycleEvent_keeps {s0 s : State} (h : Keeps s0 s) : KeepsOut s0 (execSeparationCycleEvent s) := by
  unfold execSeparationCycleEvent
  refine KeepsOut.next ?_
  split
  · exact h
  · extract_lets +onlyGivenNames y1
    extract_lets +onlyGivenNames y2
    have h2 : Keeps s0 y2 := by
      unfold y2
      refine State.upTo_keeps ?_
      exact h
    clear_value y2
    extract_lets +onlyGivenNames y3
    extract_lets +onlyGivenNames y4
    extract_lets +onlyGivenNames y5
    have h5 : Keeps s0 y5 := by
      unfold y5
      exact Keeps.same h2 rfl rfl rfl
    clear_value y5
    refine Keeps.foldl ?_ ?_
    · exact h5
    · intro x6 a7 h8
      extract_lets +onlyGivenNames y9
      split
      · extract_lets +onlyGivenNames y10
        extract_lets +onlyGivenNames y11
        have h11 : Keeps s0 y11 := by
          unfold y11
          exact Keeps.same h8 rfl rfl rfl
        clear_value y11
        refine raiseEv_keeps ?_
        exact h11
      · exact h8

theorem pairSettle_keeps {s0 s : State} {p1 : _} (h : Keeps s0 s) : Keeps s0 (pairSettle p1 s) := by
  unfold pairSettle
  split
  · exact h
  · extract_lets +onlyGivenNames y1
    extract_lets +onlyGivenNames y2
    extract_lets +onlyGivenNames y3
    extract_lets +onlyGivenNames y4
    extract_lets +onlyGivenNames y5
    extract_lets +onlyGivenNames y6
    extract_lets +onlyGivenNames y7
    have h7 : Keeps s0 y7 := by
      unfold y7
      exact Keeps.same h rfl rfl rfl
    clear_value y7
    split
    · refine raiseSi_keeps ?_
      exact h7
    · exact h7

theorem execLockoutEnd_keeps {s0 s : State} {p1 : _} (h : Keeps s0 s) : KeepsOut s0 (execLockoutEnd p1 s) := by
  unfold execLockoutEnd
  refine KeepsOut.next ?_
  split
  · exact h
  · split
    · exact h
    · extract_lets +onlyGivenNames y1
      have h1 : Keeps s0 y1 := by
        unfold y1
        refine State.upTo_keeps ?_
        exact h
      clear_value y1
      refine secTouch_keeps ?_
      exact Keeps.same h1 rfl rfl rfl

theorem beginEnable_keeps {s0 s : State} {p1 : _} {p2 : _} (h : Keeps s0 s) : Keeps s0 (beginEnable p1 p2 s) := by
  unfold beginEnable
  split
  · exact h
  · extract_lets +onlyGivenNames y1
    have h1 : Keeps s0 y1 := by
      unfold y1
      split
      · refine putSto_keeps ?_
        exact h
      · exact h
    clear_value y1
    extract_lets +onlyGivenNames y2
    have h2 : Keeps s0 y2 := by
      unfold y2
      exact Keeps.same h1 rfl rfl rfl
    clear_value y2
    extract_lets +onlyGivenNames y3
    have h3 : Keeps s0 y3 := by
      unfold y3
      refine State.mdSc_keeps ?_
      exact h2
    clear_value y3
    extract_lets +onlyGivenNames y4
    have h4 : Keeps s0 y4 := by
      unfold y4
      split
      · refine State.mdPlr_keeps ?_
        exact h3
      · exact h3
    clear_value y4
    refine tbEnableClamp_keeps ?_
    exact h4

theorem beginBrakeTest_keeps {s0 s : State} {p1 : _} {p2 : _} {p3 : _} {p4 : _} (h : Keeps s0 s) : Keeps s0 (beginBrakeTest p1 p2 p3 p4 s) := by
  unfold beginBrakeTest
  extract_lets +onlyGivenNames y1
  extract_lets +onlyGivenNames y2
  have h2 : Keeps s0 y2 := by
    unfold y2
    refine openPair_keeps ?_
    exact h
  clear_value y2
  refine State.mdBk_keeps ?_
  exact h2

theorem execStallImminent_keeps {s0 s : State} {p1 : _} (h : Keeps s0 s) : KeepsOut s0 (execStallImminent p1 s) := by
  unfold execStallImminent
  refine KeepsOut.onUnit ?_
  refine KeepsOut.next ?_
  extract_lets +onlyGivenNames y1
  split
  · refine raiseAxis_keeps ?_
    refine State.mdAx_keeps ?_
    exact h
  · exact h

theorem execSiFaultClear_keeps {s0 s : State} {p1 : _} (h : Keeps s0 s) : KeepsOut s0 (execSiFaultClear p1 s) := by
  unfold execSiFaultClear
  refine KeepsOut.onUnit ?_
  refine KeepsOut.next ?_
  extract_lets +onlyGivenNames y1
  split
  · exact h
  · refine raiseSi_keeps ?_
    refine State.mdSin_keeps ?_
    exact h

theorem execDiscrepancy_keeps {s0 s : State} {p1 : _} (h : Keeps s0 s) : KeepsOut s0 (execDiscrepancy p1 s) := by
  unfold execDiscrepancy
  refine KeepsOut.onUnit ?_
  refine KeepsOut.next ?_
  extract_lets +onlyGivenNames y1
  split
  · exact h
  · split
    · exact h
    · extract_lets +onlyGivenNames y2
      have h2 : Keeps s0 y2 := by
        unfold y2
        refine State.upTo_keeps ?_
        exact h
      clear_value y2
      refine raiseSi_keeps ?_
      exact Keeps.same h2 rfl rfl rfl

theorem siJudge_keeps {s0 s : State} {p1 : _} {p2 : _} (h : Keeps s0 s) : Keeps s0 (siJudge p1 p2 s) := by
  unfold siJudge
  extract_lets +onlyGivenNames y1
  have h1 : Keeps s0 y1 := by
    unfold y1
    refine siHeld_keeps ?_
    exact h
  clear_value y1
  extract_lets +onlyGivenNames y2
  extract_lets +onlyGivenNames y3
  extract_lets +onlyGivenNames y4
  have h4 : Keeps s0 y4 := by
    unfold y4
    refine State.mdSin_keeps ?_
    exact h1
  clear_value y4
  split
  · refine raiseSi_keeps ?_
    refine State.mdSin_keeps ?_
    exact h4
  · exact h4

theorem execStepFinalSegment_keeps {s0 s : State} {p1 : _} (h : Keeps s0 s) : KeepsOut s0 (execStepFinalSegment p1 s) := by
  unfold execStepFinalSegment
  refine KeepsOut.onUnit ?_
  refine KeepsOut.next ?_
  extract_lets +onlyGivenNames y1
  split
  · exact h
  · split
    · exact h
    · extract_lets +onlyGivenNames y2
      have h2 : Keeps s0 y2 := by
        unfold y2
        refine State.upTo_keeps ?_
        exact h
      clear_value y2
      refine State.mdAx_keeps ?_
      exact h2

theorem execGpioEdge_keeps {s0 s : State} {p1 : _} {p2 : _} {p3 : _} (h : Keeps s0 s) : KeepsOut s0 (execGpioEdge p1 p2 p3 s) := by
  unfold execGpioEdge
  refine KeepsOut.onUnit ?_
  refine KeepsOut.next ?_
  extract_lets +onlyGivenNames y1
  have h1 : Keeps s0 y1 := by
    unfold y1
    refine State.upTo_keeps ?_
    exact h
  clear_value y1
  extract_lets +onlyGivenNames y2
  extract_lets +onlyGivenNames y3
  have h3 : Keeps s0 y3 := by
    unfold y3
    refine gpioSet_keeps ?_
    exact h1
  clear_value y3
  split
  · exact h3
  · exact Keeps.same h3 rfl rfl rfl

theorem execHardStopDetected_keeps {s0 s : State} {p1 : _} (h : Keeps s0 s) : KeepsOut s0 (execHardStopDetected p1 s) := by
  unfold execHardStopDetected
  refine KeepsOut.onUnit ?_
  refine KeepsOut.next ?_
  extract_lets +onlyGivenNames y1
  split
  · exact h
  · split
    · extract_lets +onlyGivenNames y2
      refine State.mdAx_keeps ?_
      exact h
    · exact h

theorem setVerdict_keeps {s0 s : State} {p1 : _} {p2 : _} (h : Keeps s0 s) : Keeps s0 (setVerdict p1 p2 s) := by
  unfold setVerdict
  extract_lets +onlyGivenNames y1
  split
  · exact h
  · extract_lets +onlyGivenNames y2
    have h2 : Keeps s0 y2 := by
      unfold y2
      refine State.mdSsmArm_keeps ?_
      exact h
    clear_value y2
    refine raiseEv_keeps ?_
    exact h2

theorem stopAxes_keeps {s0 s : State} {p1 : _} {p2 : _} (h : Keeps s0 s) : Keeps s0 (stopAxes p1 p2 s) := by
  unfold stopAxes
  extract_lets +onlyGivenNames y1
  have h1 : Keeps s0 y1 := by
    unfold y1
    split
    · refine stopAxes.leavePlanMoving_keeps ?_
      exact h
    · exact h
  clear_value y1
  exact Keeps.same h1 rfl rfl rfl

theorem execPortRecovered_keeps {s0 s : State} {p1 : _} (h : Keeps s0 s) : KeepsOut s0 (execPortRecovered p1 s) := by
  unfold execPortRecovered
  refine KeepsOut.onUnit ?_
  refine KeepsOut.next ?_
  extract_lets +onlyGivenNames y1
  split
  · refine setPort_keeps ?_
    refine portAvail_keeps ?_
    exact h
  · exact h

theorem setDemand_keeps {s0 s : State} {p1 : _} {p2 : _} (h : Keeps s0 s) : Keeps s0 (setDemand p1 p2 s) := by
  unfold setDemand
  split
  · exact h
  · refine raiseSi_keeps ?_
    refine pairSettle_keeps ?_
    refine State.mdSin_keeps ?_
    exact h

theorem execSiDemand_keeps {s0 s : State} {p1 : _} (h : Keeps s0 s) : KeepsOut s0 (execSiDemand p1 s) := by
  unfold execSiDemand
  refine KeepsOut.onUnit ?_
  refine KeepsOut.next ?_
  extract_lets +onlyGivenNames y1
  split
  · exact h
  · refine setDemand_keeps ?_
    refine State.upTo_keeps ?_
    exact h

theorem removeTorque_keeps {s0 s : State} {p1 : _} (h : Keeps s0 s) : Keeps s0 (removeTorque p1 s) := by
  unfold removeTorque
  extract_lets +onlyGivenNames y1
  have h1 : Keeps s0 y1 := by
    unfold y1
    refine setStoBits_keeps ?_
    exact h
  clear_value y1
  extract_lets +onlyGivenNames y2
  have h2 : Keeps s0 y2 := by
    unfold y2
    refine State.mdSc_keeps ?_
    exact h1
  clear_value y2
  split
  · refine stoSettle_keeps ?_
    exact h2
  · exact h2

theorem judgeEpoch_keeps {s0 s : State} {p1 : _} {p2 : _} (h : Keeps s0 s) : Keeps s0 (judgeEpoch p1 p2 s) := by
  unfold judgeEpoch
  extract_lets +onlyGivenNames y1
  extract_lets +onlyGivenNames y2
  extract_lets +onlyGivenNames y3
  have h3 : Keeps s0 y3 := by
    unfold y3
    refine State.mdPort_keeps ?_
    exact h
  clear_value y3
  extract_lets +onlyGivenNames y4
  extract_lets +onlyGivenNames y5
  have h5 : Keeps s0 y5 := by
    unfold y5
    split
    · exact Keeps.same h3 rfl rfl rfl
    · exact h3
  clear_value y5
  extract_lets +onlyGivenNames y6
  split
  · exact h5
  · split
    · split
      · exact h5
      · refine raiseEv_keeps ?_
        refine portAvail_keeps ?_
        refine State.mdPort_keeps ?_
        exact h5
    · extract_lets +onlyGivenNames y7
      have h7 : Keeps s0 y7 := by
        unfold y7
        split
        · refine portAvail_keeps ?_
          exact h5
        · exact h5
      clear_value y7
      extract_lets +onlyGivenNames y8
      extract_lets +onlyGivenNames y9
      have h9 : Keeps s0 y9 := by
        unfold y9
        split
        · exact Keeps.same h7 rfl rfl rfl
        · exact h7
      clear_value y9
      refine State.mdPort_keeps ?_
      exact h9

theorem rematch_keeps {s0 s : State} {p1 : _} {p2 : _} (h : Keeps s0 s) : Keeps s0 (rematch p1 p2 s) := by
  unfold rematch
  split
  · refine setPort_keeps ?_
    refine State.mdPort_keeps ?_
    exact h
  · refine setPort_keeps ?_
    refine State.mdPort_keeps ?_
    exact h

theorem execSparePortMove_keeps {s0 s : State} {p1 : _} (h : Keeps s0 s) : KeepsOut s0 (execSparePortMove p1 s) := by
  unfold execSparePortMove
  refine KeepsOut.onUnit ?_
  refine KeepsOut.next ?_
  extract_lets +onlyGivenNames y1
  split
  · exact h
  · extract_lets +onlyGivenNames y2
    clear_value y2
    split
    · refine setPort_keeps ?_
      exact h
    · split
      · exact h
      · extract_lets +onlyGivenNames y3
        extract_lets +onlyGivenNames y4
        have h4 : Keeps s0 y4 := by
          unfold y4
          exact Keeps.same h rfl rfl rfl
        clear_value y4
        extract_lets +onlyGivenNames y5
        have h5 : Keeps s0 y5 := by
          unfold y5
          refine State.mdPort_keeps ?_
          exact h4
        clear_value y5
        refine raiseEv_keeps ?_
        refine raisePort_keeps ?_
        exact Keeps.same h5 rfl rfl rfl

theorem execCaptureEnd_keeps {s0 s : State} {p1 : _} (h : Keeps s0 s) : KeepsOut s0 (execCaptureEnd p1 s) := by
  unfold execCaptureEnd
  refine KeepsOut.onUnit ?_
  refine KeepsOut.next ?_
  split
  · split
    · refine stopCap_keeps ?_
      exact h
    · exact h
  · exact h

theorem engage_keeps {s0 s : State} {p1 : _} (h : Keeps s0 s) : Keeps s0 (engage p1 s) := by
  unfold engage
  extract_lets +onlyGivenNames y1
  extract_lets +onlyGivenNames y2
  extract_lets +onlyGivenNames y3
  have h3 : Keeps s0 y3 := by
    unfold y3
    split
    · split
      · refine beginBrakeTest_keeps ?_
        exact h
      · refine openPair_keeps ?_
        exact h
    · exact h
  clear_value y3
  refine State.mdSc_keeps ?_
  exact h3

theorem execDlSymbolLock_keeps {s0 s : State} {p1 : _} (h : Keeps s0 s) : KeepsOut s0 (execDlSymbolLock p1 s) := by
  unfold execDlSymbolLock
  refine KeepsOut.onUnit ?_
  refine KeepsOut.next ?_
  extract_lets +onlyGivenNames y1
  have h1 : Keeps s0 y1 := by
    unfold y1
    refine State.mdPort_keeps ?_
    exact h
  clear_value y1
  split
  · refine setPort_keeps ?_
    refine State.mdPort_keeps ?_
    exact h1
  · exact h1

theorem notMonitored_keeps {s0 s : State} {p1 : _} {p2 : _} (h : Keeps s0 s) : Keeps s0 (notMonitored p1 p2 s) := by
  unfold notMonitored
  extract_lets +onlyGivenNames y1
  have h1 : Keeps s0 y1 := by
    unfold y1
    refine State.mdSsmArm_keeps ?_
    refine setVerdict_keeps ?_
    exact h
  clear_value y1
  refine slsOrder_keeps ?_
  refine protRelease_keeps ?_
  exact h1

theorem execSafeInputEdge_keeps {s0 s : State} {p1 : _} {p2 : _} {p3 : _} (h : Keeps s0 s) : KeepsOut s0 (execSafeInputEdge p1 p2 p3 s) := by
  unfold execSafeInputEdge
  refine KeepsOut.onUnit ?_
  refine KeepsOut.next ?_
  extract_lets +onlyGivenNames y1
  have h1 : Keeps s0 y1 := by
    unfold y1
    refine State.upTo_keeps ?_
    exact h
  clear_value y1
  split
  · exact h1
  · extract_lets +onlyGivenNames y2
    have h2 : Keeps s0 y2 := by
      unfold y2
      split
      · exact h1
      · refine siHeld_keeps ?_
        exact h1
    clear_value y2
    extract_lets +onlyGivenNames y3
    extract_lets +onlyGivenNames y4
    extract_lets +onlyGivenNames y5
    have h5 : Keeps s0 y5 := by
      unfold y5
      refine State.mdSin_keeps ?_
      exact h2
    clear_value y5
    split
    · refine setDemand_keeps ?_
      exact h5
    · exact h5

theorem execPortReady_keeps {s0 s : State} {p1 : _} (h : Keeps s0 s) : KeepsOut s0 (execPortReady p1 s) := by
  unfold execPortReady
  refine KeepsOut.onUnit ?_
  refine KeepsOut.next ?_
  extract_lets +onlyGivenNames y1
  split
  · refine setPort_keeps ?_
    refine portAvail_keeps ?_
    exact h
  · exact h

theorem beginStops_keeps {s0 s : State} {p1 : _} (h : Keeps s0 s) : Keeps s0 (beginStops p1 s) := by
  unfold beginStops
  refine Keeps.foldl ?_ ?_
  · exact h
  · intro x1 a2 h3
    split
    · split
      · refine stopAxes_keeps ?_
        refine State.mdSc_keeps ?_
        exact h3
      · exact h3
    · exact h3

theorem standstillOf_keeps {s0 s : State} {p1 : _} (h : Keeps s0 s) : Keeps s0 (standstillOf p1 s) := by
  unfold standstillOf
  extract_lets +onlyGivenNames y1
  split
  · refine engage_keeps ?_
    exact h
  · split
    · refine State.mdSc_keeps ?_
      exact h
    · exact h

theorem execDlSymbolLockLost_keeps {s0 s : State} {p1 : _} (h : Keeps s0 s) : KeepsOut s0 (execDlSymbolLockLost p1 s) := by
  unfold execDlSymbolLockLost
  refine KeepsOut.onUnit ?_
  refine KeepsOut.next ?_
  refine setPort_keeps ?_
  refine portAvail_keeps ?_
  refine State.mdPort_keeps ?_
  exact h

theorem answerRead_keeps {s0 s : State} {p1 : _} {p2 : _} {p3 : _} (h : Keeps s0 s) : Keeps s0 (answerRead p1 p2 p3 s) := by
  unfold answerRead
  extract_lets +onlyGivenNames y1
  extract_lets +onlyGivenNames y2
  have h2 : Keeps s0 y2 := by
    unfold y2
    refine State.mdPort_keeps ?_
    exact h
  clear_value y2
  split
  · refine answer_keeps ?_
    exact h2
  · exact h2

theorem execStageNoResponse_keeps {s0 s : State} {p1 : _} (h : Keeps s0 s) : KeepsOut s0 (execStageNoResponse p1 s) := by
  unfold execStageNoResponse
  refine KeepsOut.onUnit ?_
  refine KeepsOut.next ?_
  split
  · split
    · refine answerRead_keeps ?_
      exact h
    · exact h
  · exact h

theorem execBkEngageEnd_keeps {s0 s : State} {p1 : _} (h : Keeps s0 s) : KeepsOut s0 (execBkEngageEnd p1 s) := by
  unfold execBkEngageEnd
  refine KeepsOut.onUnit ?_
  refine KeepsOut.next ?_
  split
  · extract_lets +onlyGivenNames y1
    have h1 : Keeps s0 y1 := by
      unfold y1
      refine State.upTo_keeps ?_
      exact h
    clear_value y1
    extract_lets +onlyGivenNames y2
    clear_value y2
    split
    · extract_lets +onlyGivenNames y3
      refine State.mdBk_keeps ?_
      refine State.mdSc_keeps ?_
      exact h1
    · refine removeTorque_keeps ?_
      exact h1
  · exact h

theorem execTestPulse_keeps {s0 s : State} {p1 : _} (h : Keeps s0 s) : KeepsOut s0 (execTestPulse p1 s) := by
  unfold execTestPulse
  refine KeepsOut.onUnit ?_
  refine KeepsOut.next ?_
  split
  · exact h
  · split
    · extract_lets +onlyGivenNames y1
      extract_lets +onlyGivenNames y2
      extract_lets +onlyGivenNames y3
      extract_lets +onlyGivenNames y4
      extract_lets +onlyGivenNames y5
      have h5 : Keeps s0 y5 := by
        unfold y5
        refine State.upTo_keeps ?_
        exact h
      clear_value y5
      extract_lets +onlyGivenNames y6
      have h6 : Keeps s0 y6 := by
        unfold y6
        refine Keeps.foldl ?_ ?_
        · exact h5
        · intro x7 a8 h9
          split
          · refine siJudge_keeps ?_
            exact h9
          · exact h9
      clear_value y6
      exact Keeps.same h6 rfl rfl rfl
    · extract_lets +onlyGivenNames y10
      have h10 : Keeps s0 y10 := by
        unfold y10
        refine State.upTo_keeps ?_
        exact h
      clear_value y10
      exact Keeps.same h10 rfl rfl rfl

theorem endBrakeTest_keeps {s0 s : State} {p1 : _} {p2 : _} (h : Keeps s0 s) : Keeps s0 (endBrakeTest p1 p2 s) := by
  unfold endBrakeTest
  split
  · exact h
  · extract_lets +onlyGivenNames y1
    have h1 : Keeps s0 y1 := by
      unfold y1
      refine State.mdBk_keeps ?_
      exact h
    clear_value y1
    extract_lets +onlyGivenNames y2
    have h2 : Keeps s0 y2 := by
      unfold y2
      refine raiseEv_keeps ?_
      refine secTouch_keeps ?_
      exact h1
    clear_value y2
    split
    · refine finishTicket_keeps ?_
      exact h2
    · exact h2

theorem execFrfAnalysisDone_keeps {s0 s : State} {p1 : _} (h : Keeps s0 s) : KeepsOut s0 (execFrfAnalysisDone p1 s) := by
  unfold execFrfAnalysisDone
  refine KeepsOut.onUnit ?_
  refine KeepsOut.next ?_
  split
  · exact h
  · split
    · exact h
    · extract_lets +onlyGivenNames y1
      extract_lets +onlyGivenNames y2
      extract_lets +onlyGivenNames y3
      have h3 : Keeps s0 y3 := by
        unfold y3
        refine State.drawn_keeps ?_
        exact Keeps.same h rfl rfl rfl
      clear_value y3
      extract_lets +onlyGivenNames y4
      have h4 : Keeps s0 y4 := by
        unfold y4
        clear_value y1
        split
        · refine putFrf_keeps ?_
          exact h3
        · exact h3
      clear_value y4
      refine finishTicket_keeps ?_
      exact h4

theorem execBrakeTestStepEnd_keeps {s0 s : State} {p1 : _} (h : Keeps s0 s) : KeepsOut s0 (execBrakeTestStepEnd p1 s) := by
  unfold execBrakeTestStepEnd
  refine KeepsOut.onUnit ?_
  refine KeepsOut.next ?_
  split
  · exact h
  · split
    · exact h
    · extract_lets +onlyGivenNames y1
      extract_lets +onlyGivenNames y2
      have h2 : Keeps s0 y2 := by
        unfold y2
        refine State.upTo_keeps ?_
        exact h
      clear_value y2
      extract_lets +onlyGivenNames y3
      split
      · extract_lets +onlyGivenNames y4
        have h4 : Keeps s0 y4 := by
          unfold y4
          refine resumeLoops_keeps ?_
          exact h2
        clear_value y4
        split
        · refine removeTorque_keeps ?_
          refine State.mdBk_keeps ?_
          exact h4
        · split
          · extract_lets +onlyGivenNames y5
            have h5 : Keeps s0 y5 := by
              unfold y5
              refine endBrakeTest_keeps ?_
              exact h4
            clear_value y5
            split
            · exact h5
            · refine removeTorque_keeps ?_
              exact h5
          · split
            · unfold y3
              extract_lets +onlyGivenNames y6
              refine State.mdBk_keeps ?_
              refine closePair_keeps ?_
              exact h4
            · refine removeTorque_keeps ?_
              refine endBrakeTest_keeps ?_
              exact h4
      · split
        · refine State.mdBk_keeps ?_
          exact h2
        · refine endBrakeTest_keeps ?_
          exact h2
      · unfold y3
        extract_lets +onlyGivenNames y7
        refine State.mdBk_keeps ?_
        exact h2

theorem execServiceExpired_keeps {s0 s : State} (h : Keeps s0 s) : KeepsOut s0 (execServiceExpired s) := by
  unfold execServiceExpired
  refine KeepsOut.next ?_
  split
  · exact h
  · extract_lets +onlyGivenNames y1
    have h1 : Keeps s0 y1 := by
      unfold y1
      refine State.upTo_keeps ?_
      exact h
    clear_value y1
    refine leaveServiceMode_keeps ?_
    refine Keeps.foldl ?_ ?_
    · exact h1
    · intro x2 a3 h4
      refine faultF1_keeps ?_
      exact h4

theorem endMeas_keeps {s0 s : State} {p1 : _} (h : Keeps s0 s) : Keeps s0 (endMeas p1 s) := by
  unfold endMeas
  extract_lets +onlyGivenNames y1
  split
  · exact h
  · extract_lets +onlyGivenNames y2
    extract_lets +onlyGivenNames y3
    extract_lets +onlyGivenNames y4
    extract_lets +onlyGivenNames y5
    extract_lets +onlyGivenNames y6
    extract_lets +onlyGivenNames y7
    have h7 : Keeps s0 y7 := by
      unfold y7
      refine State.mdSsmArm_keeps ?_
      exact h
    clear_value y7
    extract_lets +onlyGivenNames y8
    have h8 : Keeps s0 y8 := by
      unfold y8
      split
      · refine finishTicket_keeps ?_
        refine raiseEv_keeps ?_
        exact h7
      · exact h7
    clear_value y8
    split
    · refine raiseEv_keeps ?_
      extract_lets +onlyGivenNames y9
      have h9 : Keeps s0 y9 := by
        unfold y9
        refine State.mdSsmArm_keeps ?_
        exact h8
      clear_value y9
      exact Keeps.same h9 rfl rfl rfl
    · exact h8

theorem beginDisable_keeps {s0 s : State} {p1 : _} {p2 : _} {p3 : _} {p4 : _} (h : Keeps s0 s) : Keeps s0 (beginDisable p1 p2 p3 p4 s) := by
  unfold beginDisable
  split
  · exact h
  · extract_lets +onlyGivenNames y1
    have h1 : Keeps s0 y1 := by
      unfold y1
      refine tileShut_keeps ?_
      refine abortBrakeTest_keeps ?_
      refine failHoming_keeps ?_
      refine endInjection_keeps ?_
      exact h
    clear_value y1
    extract_lets +onlyGivenNames y2
    have h2 : Keeps s0 y2 := by
      unfold y2
      refine State.mdSc_keeps ?_
      exact h1
    clear_value y2
    refine State.mdAxes_keeps ?_
    exact h2

theorem beginProt_keeps {s0 s : State} {p1 : _} {p2 : _} {p3 : _} {p4 : _} {p5 : _} (h : Keeps s0 s) : Keeps s0 (beginProt p1 p2 p3 p4 p5 s) := by
  unfold beginProt
  extract_lets +onlyGivenNames y1
  split
  · exact h
  · extract_lets +onlyGivenNames y2
    split
    · split
      · exact h
      · refine State.mdSc_keeps ?_
        refine beginMeas_keeps ?_
        exact h
    · split
      · extract_lets +onlyGivenNames y3
        have h3 : Keeps s0 y3 := by
          unfold y3
          refine tileShut_keeps ?_
          refine failHoming_keeps ?_
          refine endInjection_keeps ?_
          refine beginMeas_keeps ?_
          exact h
        clear_value y3
        extract_lets +onlyGivenNames y4
        have h4 : Keeps s0 y4 := by
          unfold y4
          refine State.mdSc_keeps ?_
          exact h3
        clear_value y4
        refine State.mdAxes_keeps ?_
        exact h4
      · split
        · exact h
        · extract_lets +onlyGivenNames y5
          have h5 : Keeps s0 y5 := by
            unfold y5
            refine failHoming_keeps ?_
            refine endInjection_keeps ?_
            refine beginMeas_keeps ?_
            exact h
          clear_value y5
          refine State.mdSc_keeps ?_
          exact h5

theorem currentFault_keeps {s0 s : State} {p1 : _} {p2 : _} {p3 : _} (h : Keeps s0 s) : Keeps s0 (currentFault p1 p2 p3 s) := by
  unfold currentFault
  refine faultF2_keeps ?_
  refine raiseAxis_keeps ?_
  exact h

theorem laneStill_keeps {s0 s : State} {p1 : _} (h : Keeps s0 s) : Keeps s0 (laneStill p1 s) := by
  unfold laneStill
  split
  · exact h
  · extract_lets +onlyGivenNames y1
    extract_lets +onlyGivenNames y2
    have h2 : Keeps s0 y2 := by
      unfold y2
      refine State.mdSc_keeps ?_
      exact h
    clear_value y2
    split
    · refine standstillOf_keeps ?_
      exact h2
    · exact h2

theorem execCoilFault_keeps {s0 s : State} {p1 : _} (h : Keeps s0 s) : KeepsOut s0 (execCoilFault p1 s) := by
  unfold execCoilFault
  refine KeepsOut.onUnit ?_
  refine KeepsOut.next ?_
  extract_lets +onlyGivenNames y1
  split
  · refine currentFault_keeps ?_
    refine State.mdAx_keeps ?_
    exact h
  · exact h

theorem envFails_keeps {s0 s : State} {p1 : _} {p2 : _} {p3 : _} {p4 : _} (h : Keeps s0 s) : Keeps s0 (envFails p1 p2 p3 p4 s) := by
  unfold envFails
  extract_lets +onlyGivenNames y1
  have h1 : Keeps s0 y1 := by
    unfold y1
    refine State.mdSc_keeps ?_
    exact h
  clear_value y1
  extract_lets +onlyGivenNames y2
  have h2 : Keeps s0 y2 := by
    unfold y2
    refine raiseEv_keeps ?_
    exact h1
  clear_value y2
  refine ownApply_keeps ?_
  refine faultF2_keeps ?_
  exact h2

theorem execSsmXchk_keeps {s0 s : State} {p1 : _} (h : Keeps s0 s) : KeepsOut s0 (execSsmXchk p1 s) := by
  unfold execSsmXchk
  refine KeepsOut.onUnit ?_
  refine KeepsOut.next ?_
  extract_lets +onlyGivenNames y1
  split
  · exact h
  · extract_lets +onlyGivenNames y2
    extract_lets +onlyGivenNames y3
    have h3 : Keeps s0 y3 := by
      unfold y3
      exact Keeps.same h rfl rfl rfl
    clear_value y3
    refine faultF2_keeps ?_
    refine raiseEv_keeps ?_
    exact h3

theorem execSampleLost_keeps {s0 s : State} {p1 : _} (h : Keeps s0 s) : KeepsOut s0 (execSampleLost p1 s) := by
  unfold execSampleLost
  refine KeepsOut.onUnit ?_
  refine KeepsOut.next ?_
  extract_lets +onlyGivenNames y1
  split
  · refine currentFault_keeps ?_
    refine State.mdAx_keeps ?_
    exact h
  · exact h

theorem execLinkFault_keeps {s0 s : State} {p1 : _} (h : Keeps s0 s) : KeepsOut s0 (execLinkFault p1 s) := by
  unfold execLinkFault
  refine KeepsOut.onUnit ?_
  refine KeepsOut.next ?_
  extract_lets +onlyGivenNames y1
  split
  · extract_lets +onlyGivenNames y2
    extract_lets +onlyGivenNames y3
    have h3 : Keeps s0 y3 := by
      unfold y3
      refine raisePort_keeps ?_
      refine State.mdPort_keeps ?_
      exact h
    clear_value y3
    extract_lets +onlyGivenNames y4
    have h4 : Keeps s0 y4 := by
      unfold y4
      refine setPort_keeps ?_
      refine portAvail_keeps ?_
      exact h3
    clear_value y4
    refine Keeps.foldl ?_ ?_
    · exact h4
    · intro x5 a6 h7
      split
      · refine faultF2_keeps ?_
        refine raiseAxis_keeps ?_
        exact h7
      · exact h7
  · exact h

theorem execBrakeSwitch_keeps {s0 s : State} {p1 : _} (h : Keeps s0 s) : KeepsOut s0 (execBrakeSwitch p1 s) := by
  unfold execBrakeSwitch
  refine KeepsOut.onUnit ?_
  refine KeepsOut.next ?_
  extract_lets +onlyGivenNames y1
  split
  · exact h
  · split
    · exact h
    · extract_lets +onlyGivenNames y2
      have h2 : Keeps s0 y2 := by
        unfold y2
        refine State.upTo_keeps ?_
        exact h
      clear_value y2
      extract_lets +onlyGivenNames y3
      have h3 : Keeps s0 y3 := by
        unfold y3
        refine raiseEv_keeps ?_
        refine State.mdBk_keeps ?_
        exact h2
      clear_value y3
      extract_lets +onlyGivenNames y4
      split
      · refine faultF2s_keeps ?_
        exact h3
      · split
        · refine Keeps.foldl ?_ ?_
          · refine openPair_keeps ?_
            exact h3
          · intro x5 a6 h7
            refine beginDisable_keeps ?_
            exact h7
        · exact h3

theorem execFollowingError_keeps {s0 s : State} {p1 : _} (h : Keeps s0 s) : KeepsOut s0 (execFollowingError p1 s) := by
  unfold execFollowingError
  refine KeepsOut.onUnit ?_
  refine KeepsOut.next ?_
  extract_lets +onlyGivenNames y1
  extract_lets +onlyGivenNames y2
  split
  · exact h
  · refine faultF1_keeps ?_
    refine raiseAxis_keeps ?_
    refine State.mdAx_keeps ?_
    exact h

theorem protStop_keeps {s0 s : State} {p1 : _} {p2 : _} {p3 : _} {p4 : _} {p5 : _} (h : Keeps s0 s) : Keeps s0 (protStop p1 p2 p3 p4 p5 s) := by
  unfold protStop
  split
  · exact h
  · refine beginProt_keeps ?_
    refine State.mdSc_keeps ?_
    exact h

theorem execBrakeTestOverdue_keeps {s0 s : State} {p1 : _} (h : Keeps s0 s) : KeepsOut s0 (execBrakeTestOverdue p1 s) := by
  unfold execBrakeTestOverdue
  refine KeepsOut.onUnit ?_
  refine KeepsOut.next ?_
  extract_lets +onlyGivenNames y1
  extract_lets +onlyGivenNames y2
  have h2 : Keeps s0 y2 := by
    unfold y2
    refine State.mdBk_keeps ?_
    exact h
  clear_value y2
  split
  · exact h2
  · refine faultF1_keeps ?_
    refine State.mdBk_keeps ?_
    exact h2

theorem execPhaseSum_keeps {s0 s : State} {p1 : _} (h : Keeps s0 s) : KeepsOut s0 (execPhaseSum p1 s) := by
  unfold execPhaseSum
  refine KeepsOut.onUnit ?_
  refine KeepsOut.next ?_
  extract_lets +onlyGivenNames y1
  split
  · refine currentFault_keeps ?_
    refine State.mdAx_keeps ?_
    exact h
  · exact h

theorem judgeArm_keeps {s0 s : State} {p1 : _} {p2 : _} (h : Keeps s0 s) : Keeps s0 (judgeArm p1 p2 s) := by
  unfold judgeArm
  extract_lets +onlyGivenNames y1
  extract_lets +onlyGivenNames y2
  extract_lets +onlyGivenNames y3
  extract_lets +onlyGivenNames y4
  split
  · exact h
  · extract_lets +onlyGivenNames y5
    have h5 : Keeps s0 y5 := by
      unfold y5
      split
      · exact h
      · split
        · refine State.mdSc_keeps ?_
          exact h
        · split
          · refine envFails_keeps ?_
            exact h
          · exact h
    clear_value y5
    extract_lets +onlyGivenNames y6
    have h6 : Keeps s0 y6 := by
      unfold y6
      split
      · exact h5
      · split
        · refine State.mdSc_keeps ?_
          exact h5
        · split
          · split
            · exact h5
            · refine envFails_keeps ?_
              exact h5
          · exact h5
    clear_value y6
    split
    · exact h6
    · split
      · refine envFails_keeps ?_
        exact h6
      · exact h6

theorem stageReboot_keeps {s0 s : State} {p1 : _} {p2 : _} (h : Keeps s0 s) : Keeps s0 (stageReboot p1 p2 s) := by
  unfold stageReboot
  extract_lets +onlyGivenNames y1
  extract_lets +onlyGivenNames y2
  have h2 : Keeps s0 y2 := by
    unfold y2
    refine Keeps.foldl ?_ ?_
    · exact h
    · intro x3 a4 h5
      split
      · refine faultF2_keeps ?_
        refine raiseAxis_keeps ?_
        exact h5
      · exact h5
  clear_value y2
  extract_lets +onlyGivenNames y6
  have h6 : Keeps s0 y6 := by
    unfold y6
    refine State.mdAxes_keeps ?_
    exact h2
  clear_value y6
  extract_lets +onlyGivenNames y7
  have h7 : Keeps s0 y7 := by
    unfold y7
    refine Keeps.foldl ?_ ?_
    · exact h6
    · intro x8 a9 h10
      refine State.mdAx_keeps ?_
      exact h10
  clear_value y7
  extract_lets +onlyGivenNames y11
  have h11 : Keeps s0 y11 := by
    unfold y11
    refine raisePort_keeps ?_
    refine State.mdPort_keeps ?_
    exact h7
  clear_value y11
  extract_lets +onlyGivenNames y12
  have h12 : Keeps s0 y12 := by
    unfold y12
    refine portAvail_keeps ?_
    exact h11
  clear_value y12
  extract_lets +onlyGivenNames y13
  have h13 : Keeps s0 y13 := by
    unfold y13
    split
    · refine State.mdPort_keeps ?_
      exact h12
    · exact h12
  clear_value y13
  refine rematch_keeps ?_
  exact h13

theorem execStandstill_keeps {s0 s : State} {p1 : _} (h : Keeps s0 s) : KeepsOut s0 (execStandstill p1 s) := by
  unfold execStandstill
  refine KeepsOut.onUnit ?_
  refine KeepsOut.next ?_
  split
  · exact h
  · extract_lets +onlyGivenNames y1
    have h1 : Keeps s0 y1 := by
      unfold y1
      split
      · refine endMeas_keeps ?_
        exact h
      · exact h
    clear_value y1
    refine standstillOf_keeps ?_
    exact h1

theorem requests_keeps {s0 s : State} {p1 : _} {p2 : _} (h : Keeps s0 s) : Keeps s0 (requests p1 p2 s) := by
  unfold requests
  extract_lets +onlyGivenNames y1
  extract_lets +onlyGivenNames y2
  have h2 : Keeps s0 y2 := by
    unfold y2
    split
    · refine protStop_keeps ?_
      refine State.mdSsmArm_keeps ?_
      exact h
    · exact h
  clear_value y2
  extract_lets +onlyGivenNames y3
  extract_lets +onlyGivenNames y4
  have h4 : Keeps s0 y4 := by
    unfold y4
    split
    · refine State.mdSsmArm_keeps ?_
      exact h2
    · split
      · refine State.mdSsmArm_keeps ?_
        exact h2
      · exact h2
  clear_value y4
  split
  · exact h4
  · refine slsOrder_keeps ?_
    exact h4

theorem execBusUndervolt_keeps {s0 s : State} {p1 : _} (h : Keeps s0 s) : KeepsOut s0 (execBusUndervolt p1 s) := by
  unfold execBusUndervolt
  refine KeepsOut.onUnit ?_
  refine KeepsOut.next ?_
  extract_lets +onlyGivenNames y1
  split
  · refine currentFault_keeps ?_
    refine State.mdAx_keeps ?_
    exact h
  · exact h

theorem execAuthorityLost_keeps {s0 s : State} (h : Keeps s0 s) : KeepsOut s0 (execAuthorityLost s) := by
  unfold execAuthorityLost
  refine KeepsOut.next ?_
  split
  · extract_lets +onlyGivenNames y1
    extract_lets +onlyGivenNames y2
    extract_lets +onlyGivenNames y3
    have h3 : Keeps s0 y3 := by
      unfold y3
      refine ttcDrop_keeps ?_
      exact Keeps.same h rfl rfl rfl
    clear_value y3
    extract_lets +onlyGivenNames y4
    have h4 : Keeps s0 y4 := by
      unfold y4
      refine depose_keeps ?_
      exact h3
    clear_value y4
    refine raiseEv_keeps ?_
    exact h4
  · exact h

theorem execSafetyWatchdog_keeps {s0 s : State} (h : Keeps s0 s) : KeepsOut s0 (execSafetyWatchdog s) := by
  unfold execSafetyWatchdog
  refine KeepsOut.next ?_
  extract_lets +onlyGivenNames y1
  have h1 : Keeps s0 y1 := by
    unfold y1
    refine State.upTo_keeps ?_
    exact h
  clear_value y1
  extract_lets +onlyGivenNames y2
  have h2 : Keeps s0 y2 := by
    unfold y2
    refine raiseEv_keeps ?_
    exact h1
  clear_value y2
  extract_lets +onlyGivenNames y3
  have h3 : Keeps s0 y3 := by
    unfold y3
    refine Keeps.foldl ?_ ?_
    · exact h2
    · intro x4 a5 h6
      refine openPair_keeps ?_
      refine putSto_keeps ?_
      exact h6
  clear_value y3
  refine faultF3_keeps ?_
  refine faultF2s_keeps ?_
  exact h3

theorem releaseStop_keeps {s0 s : State} {p1 : _} {p2 : _} (h : Keeps s0 s) : Keeps s0 (releaseStop p1 p2 s) := by
  unfold releaseStop
  extract_lets +onlyGivenNames y1
  have h1 : Keeps s0 y1 := by
    unfold y1
    refine protRelease_keeps ?_
    refine State.mdSsmArm_keeps ?_
    exact h
  clear_value y1
  refine requests_keeps ?_
  split
  · refine setVerdict_keeps ?_
    exact h1
  · exact h1

theorem execStopRequestRelease_keeps {s0 s : State} {p1 : _} (h : Keeps s0 s) : KeepsOut s0 (execStopRequestRelease p1 s) := by
  unfold execStopRequestRelease
  refine KeepsOut.onUnit ?_
  refine KeepsOut.next ?_
  split
  · refine releaseStop_keeps ?_
    exact h
  · exact h

theorem siReact.hold_keeps {s0 s : State} {p1 : _} {p2 : _} {p3 : _} {p4 : _} {p5 : _} (h : Keeps s0 s) : Keeps s0 (siReact.hold p1 p2 p3 p4 p5 s) := by
  unfold siReact.hold
  extract_lets +onlyGivenNames y1
  split
  · split
    · refine protStop_keeps ?_
      exact h
    · exact h
  · extract_lets +onlyGivenNames y2
    extract_lets +onlyGivenNames y3
    have h3 : Keeps s0 y3 := by
      unfold y3
      refine State.mdSc_keeps ?_
      exact h
    clear_value y3
    split
    · exact h3
    · split
      · split
        · refine protRelease_keeps ?_
          exact h3
        · exact h3
      · split
        · refine protRelease_keeps ?_
          exact h3
        · exact h3

theorem discoverFrame_keeps {s0 s : State} {p1 : _} {p2 : _} (h : Keeps s0 s) : Keeps s0 (discoverFrame p1 p2 s) := by
  unfold discoverFrame
  extract_lets +onlyGivenNames y1
  have h1 : Keeps s0 y1 := by
    unfold y1
    refine judgeEpoch_keeps ?_
    exact h
  clear_value y1
  extract_lets +onlyGivenNames y2
  extract_lets +onlyGivenNames y3
  extract_lets +onlyGivenNames y4
  have h4 : Keeps s0 y4 := by
    unfold y4
    refine State.mdPort_keeps ?_
    exact h1
  clear_value y4
  clear_value y3
  split
  · exact h4
  · refine rematch_keeps ?_
    exact h4
  · refine rematch_keeps ?_
    exact h4
  · refine stageReboot_keeps ?_
    exact h4

theorem execCheckValueRecompute_keeps {s0 s : State} {p1 : _} (h : Keeps s0 s) : KeepsOut s0 (execCheckValueRecompute p1 s) := by
  unfold execCheckValueRecompute
  refine KeepsOut.next ?_
  split
  · exact h
  · extract_lets +onlyGivenNames y1
    extract_lets +onlyGivenNames y2
    have h2 : Keeps s0 y2 := by
      unfold y2
      refine faultF2s_keeps ?_
      exact Keeps.same h rfl rfl rfl
    clear_value y2
    split
    · refine setMode_keeps ?_
      exact h2
    · exact h2

theorem publishArm_keeps {s0 s : State} {p1 : _} {p2 : _} (h : Keeps s0 s) : Keeps s0 (publishArm p1 p2 s) := by
  unfold publishArm
  extract_lets +onlyGivenNames y1
  have h1 : Keeps s0 y1 := by
    unfold y1
    refine State.mdSsmArm_keeps ?_
    exact h
  clear_value y1
  extract_lets +onlyGivenNames y2
  extract_lets +onlyGivenNames y3
  have h3 : Keeps s0 y3 := by
    unfold y3
    split
    · refine setVerdict_keeps ?_
      exact h1
    · exact h1
  clear_value y3
  extract_lets +onlyGivenNames y4
  have h4 : Keeps s0 y4 := by
    unfold y4
    refine requests_keeps ?_
    exact h3
  clear_value y4
  split
  · refine releaseStop_keeps ?_
    exact h4
  · exact h4

theorem siReact_keeps {s0 s : State} {p1 : _} {p2 : _} (h : Keeps s0 s) : Keeps s0 (siReact p1 p2 s) := by
  unfold siReact
  extract_lets +onlyGivenNames y1
  extract_lets +onlyGivenNames y2
  refine Keeps.foldl ?_ ?_
  · exact h
  · intro x3 a4 h5
    clear_value y2
    split
    · split
      · exact h5
      · split
        · extract_lets +onlyGivenNames y6
          have h6 : Keeps s0 y6 := by
            unfold y6
            refine ownApply_keeps ?_
            exact h5
          clear_value y6
          split
          · exact h6
          · refine State.mdSc_keeps ?_
            refine faultF2_keeps ?_
            exact h6
        · split
          · exact h5
          · refine State.mdSc_keeps ?_
            refine faultF1_keeps ?_
            exact h5
    · refine siReact.hold_keeps ?_
      exact h5
    · refine slsOrder_keeps ?_
      exact h5
    · refine siReact.hold_keeps ?_
      exact h5
    · exact h5

theorem execVerdictFallClear_keeps {s0 s : State} {p1 : _} (h : Keeps s0 s) : KeepsOut s0 (execVerdictFallClear p1 s) := by
  unfold execVerdictFallClear
  refine KeepsOut.onUnit ?_
  refine KeepsOut.next ?_
  extract_lets +onlyGivenNames y1
  split
  · refine requests_keeps ?_
    refine setVerdict_keeps ?_
    exact h
  · exact h

theorem goodFrame_keeps {s0 s : State} {p1 : _} {p2 : _} {p3 : _} (h : Keeps s0 s) : Keeps s0 (goodFrame p1 p2 p3 s) := by
  unfold goodFrame
  extract_lets +onlyGivenNames y1
  extract_lets +onlyGivenNames y2
  extract_lets +onlyGivenNames y3
  extract_lets +onlyGivenNames y4
  extract_lets +onlyGivenNames y5
  extract_lets +onlyGivenNames y6
  have h6 : Keeps s0 y6 := by
    unfold y6
    refine State.mdPort_keeps ?_
    exact h
  clear_value y6
  extract_lets +onlyGivenNames y7
  have h7 : Keeps s0 y7 := by
    unfold y7
    split
    · refine answerRead_keeps ?_
      exact h6
    · exact h6
  clear_value y7
  extract_lets +onlyGivenNames y8
  extract_lets +onlyGivenNames y9
  extract_lets +onlyGivenNames y10
  have h10 : Keeps s0 y10 := by
    unfold y10
    split
    · refine raisePort_keeps ?_
      exact h7
    · exact h7
  clear_value y10
  extract_lets +onlyGivenNames y11
  have h11 : Keeps s0 y11 := by
    unfold y11
    split
    · refine raisePort_keeps ?_
      exact h10
    · exact h10
  clear_value y11
  extract_lets +onlyGivenNames y12
  have h12 : Keeps s0 y12 := by
    unfold y12
    split
    · refine raisePort_keeps ?_
      exact h11
    · exact h11
  clear_value y12
  split
  · split
    · refine stageReboot_keeps ?_
      exact h12
    · exact h12
  · exact h12

theorem siEvaluate_keeps {s0 s : State} {p1 : _} (h : Keeps s0 s) : Keeps s0 (siEvaluate p1 s) := by
  unfold siEvaluate
  refine Keeps.foldl ?_ ?_
  · exact h
  · intro x1 a2 h3
    refine siReact_keeps ?_
    exact h3

theorem forceUmbra_keeps {s0 s : State} {p1 : _} {p2 : _} {p3 : _} (h : Keeps s0 s) : Keeps s0 (forceUmbra p1 p2 p3 s) := by
  unfold forceUmbra
  extract_lets +onlyGivenNames y1
  have h1 : Keeps s0 y1 := by
    unfold y1
    refine State.mdSsmArm_keeps ?_
    exact h
  clear_value y1
  refine requests_keeps ?_
  refine setVerdict_keeps ?_
  exact h1

theorem execDiscoveryFrame_keeps {s0 s : State} {p1 : _} {p2 : _} {p3 : _} (h : Keeps s0 s) : KeepsOut s0 (execDiscoveryFrame p1 p2 p3 s) := by
  unfold execDiscoveryFrame
  refine KeepsOut.onUnit ?_
  refine KeepsOut.next ?_
  extract_lets +onlyGivenNames y1
  have h1 : Keeps s0 y1 := by
    unfold y1
    refine State.upTo_keeps ?_
    exact h
  clear_value y1
  split
  · refine discoverFrame_keeps ?_
    exact h1
  · exact h1

theorem execInboundCycleFrame_keeps {s0 s : State} {p1 : _} {p2 : _} {p3 : _} {p4 : _} {p5 : _} (h : Keeps s0 s) : KeepsOut s0 (execInboundCycleFrame p1 p2 p3 p4 p5 s) := by
  unfold execInboundCycleFrame
  refine KeepsOut.onUnit ?_
  refine KeepsOut.next ?_
  extract_lets +onlyGivenNames y1
  have h1 : Keeps s0 y1 := by
    unfold y1
    refine State.upTo_keeps ?_
    exact h
  clear_value y1
  extract_lets +onlyGivenNames y2
  split
  · exact h1
  · split
    · refine discoverFrame_keeps ?_
      exact h1
    · extract_lets +onlyGivenNames y3
      have h3 : Keeps s0 y3 := by
        unfold y3
        split
        · refine judgeEpoch_keeps ?_
          exact h1
        · exact h1
      clear_value y3
      split
      · exact h3
      · extract_lets +onlyGivenNames y4
        extract_lets +onlyGivenNames y5
        split
        · refine State.mdPort_keeps ?_
          exact h3
        · split
          · refine State.mdPort_keeps ?_
            exact h3
          · extract_lets +onlyGivenNames y6
            extract_lets +onlyGivenNames y7
            extract_lets +onlyGivenNames y8
            have h8 : Keeps s0 y8 := by
              unfold y8
              refine State.mdPort_keeps ?_
              exact h3
            clear_value y8
            split
            · refine goodFrame_keeps ?_
              exact h8
            · exact h8

theorem execSsmPublish_keeps {s0 s : State} {p1 : _} {p2 : _} {p3 : _} (h : Keeps s0 s) : KeepsOut s0 (execSsmPublish p1 p2 p3 s) := by
  unfold execSsmPublish
  refine KeepsOut.next ?_
  split
  · exact h
  · extract_lets +onlyGivenNames y1
    extract_lets +onlyGivenNames y2
    extract_lets +onlyGivenNames y3
    have h3 : Keeps s0 y3 := by
      unfold y3
      refine State.upTo_keeps ?_
      exact h
    clear_value y3
    extract_lets +onlyGivenNames y4
    extract_lets +onlyGivenNames y5
    extract_lets +onlyGivenNames y6
    extract_lets +onlyGivenNames y7
    have h7 : Keeps s0 y7 := by
      unfold y7
      exact Keeps.same h3 rfl rfl rfl
    clear_value y7
    extract_lets +onlyGivenNames y8
    extract_lets +onlyGivenNames y9
    have h9 : Keeps s0 y9 := by
      unfold y9
      refine Keeps.foldl ?_ ?_
      · exact h7
      · intro x10 a11 h12
        split
        · exact h12
        · refine notMonitored_keeps ?_
          exact h12
    clear_value y9
    extract_lets +onlyGivenNames y13
    extract_lets +onlyGivenNames y14
    extract_lets +onlyGivenNames y15
    extract_lets +onlyGivenNames y16
    have h16 : Keeps s0 y16 := by
      unfold y16
      refine raiseEv_keeps ?_
      exact Keeps.same h9 rfl rfl rfl
    clear_value y16
    extract_lets +onlyGivenNames y17
    have h17 : Keeps s0 y17 := by
      unfold y17
      refine Keeps.foldl ?_ ?_
      · exact h16
      · intro x18 a19 h20
        refine forceUmbra_keeps ?_
        refine State.mdSsmArm_keeps ?_
        exact h20
    clear_value y17
    extract_lets +onlyGivenNames y21
    extract_lets +onlyGivenNames y22
    have h22 : Keeps s0 y22 := by
      unfold y22
      exact Keeps.same h9 rfl rfl rfl
    clear_value y22
    extract_lets +onlyGivenNames y23
    extract_lets +onlyGivenNames y24
    have h24 : Keeps s0 y24 := by
      unfold y24
      refine Keeps.foldl ?_ ?_
      · exact h22
      · intro x25 a26 h27
        split
        · refine record_keeps ?_
          exact h27
        · refine State.mdSsmArm_keeps ?_
          exact h27
    clear_value y24
    extract_lets +onlyGivenNames y28
    extract_lets +onlyGivenNames y29
    extract_lets +onlyGivenNames y30
    have h30 : Keeps s0 y30 := by
      unfold y30
      refine raiseEv_keeps ?_
      exact Keeps.same h24 rfl rfl rfl
    clear_value y30
    extract_lets +onlyGivenNames y31
    have h31 : Keeps s0 y31 := by
      unfold y31
      split
      · split
        · refine faultF2s_keeps ?_
          exact h17
        · exact h17
      · split
        · refine faultF2s_keeps ?_
          refine Keeps.foldl ?_ ?_
          · exact h30
          · intro x32 a33 h34
            refine forceUmbra_keeps ?_
            exact h34
        · refine Keeps.foldl ?_ ?_
          · exact h24
          · intro x35 a36 h37
            refine publishArm_keeps ?_
            exact h37
    clear_value y31
    extract_lets +onlyGivenNames y38
    have h38 : Keeps s0 y38 := by
      unfold y38
      split
      · exact h31
      · refine Keeps.foldl ?_ ?_
        · exact h31
        · intro x39 a40 h41
          refine judgeSlip_keeps ?_
          refine judgeArm_keeps ?_
          exact h41
    clear_value y38
    refine Keeps.foldl ?_ ?_
    · exact h38
    · intro x42 a43 h44
      refine laneStill_keeps ?_
      exact h44

end Sys2Proof.Machine
end

