-- ==== Sys2Proof/Laws/KeepsCell.lean ====
section
/-!
SUPPORT. What the operations keep (Laws/Keeps.lean): the cell bus.
-/
namespace Sys2Proof.Machine

theorem cbMeasure_keeps {s0 s : State} (h : Keeps s0 s) : Keeps s0 (cbMeasure s) := by
  unfold cbMeasure
  extract_lets +onlyGivenNames y1
  extract_lets +onlyGivenNames y2
  extract_lets +onlyGivenNames y3
  extract_lets +onlyGivenNames y4
  extract_lets +onlyGivenNames y5
  extract_lets +onlyGivenNames y6
  extract_lets +onlyGivenNames y7
  extract_lets +onlyGivenNames y8
  have h8 : Keeps s0 y8 := by
    unfold y8
    exact Keeps.same h rfl rfl rfl
  clear_value y8
  extract_lets +onlyGivenNames y9
  have h9 : Keeps s0 y9 := by
    unfold y9
    split
    · refine raiseEv_keeps ?_
      exact h8
    · exact h8
  clear_value y9
  split
  · exact h9
  · refine raiseEv_keeps ?_
    exact h9

theorem cbSyncCount_keeps {s0 s : State} {p1 : _} {p2 : _} (h : Keeps s0 s) : Keeps s0 (cbSyncCount p1 p2 s) := by
  unfold cbSyncCount
  split
  · exact h
  · exact Keeps.same h rfl rfl rfl

theorem raiseCs_keeps {s0 s : State} {p1 : _} (h : Keeps s0 s) : Keeps s0 (raiseCs p1 s) := by
  unfold raiseCs
  refine raiseEv_keeps ?_
  exact h

theorem cbCalib_keeps {s0 s : State} {p1 : _} {p2 : _} {p3 : _} {p4 : _} (h : Keeps s0 s) : Keeps s0 (cbCalib p1 p2 p3 p4 s) := by
  unfold cbCalib
  extract_lets +onlyGivenNames y1
  extract_lets +onlyGivenNames y2
  extract_lets +onlyGivenNames y3
  extract_lets +onlyGivenNames y4
  extract_lets +onlyGivenNames y5
  extract_lets +onlyGivenNames y6
  extract_lets +onlyGivenNames y7
  split
  · unfold y7
    exact Keeps.same h rfl rfl rfl
  · extract_lets +onlyGivenNames y8
    extract_lets +onlyGivenNames y9
    extract_lets +onlyGivenNames y10
    extract_lets +onlyGivenNames y11
    extract_lets +onlyGivenNames y12
    split
    · unfold y7
      exact Keeps.same h rfl rfl rfl
    · extract_lets +onlyGivenNames y13
      split
      · unfold y7
        exact Keeps.same h rfl rfl rfl
      · split
        · refine raiseEv_keeps ?_
          unfold y7
          exact Keeps.same h rfl rfl rfl
        · unfold y7
          exact Keeps.same h rfl rfl rfl

theorem cbStore_keeps {s0 s : State} {p1 : _} {p2 : _} {p3 : _} {p4 : _} (h : Keeps s0 s) : Keeps s0 (cbStore p1 p2 p3 p4 s) := by
  unfold cbStore
  split
  · exact h
  · extract_lets +onlyGivenNames y1
    exact Keeps.same h rfl rfl rfl

theorem cbFollow_keeps {s0 s : State} {p1 : _} {p2 : _} (h : Keeps s0 s) : Keeps s0 (cbFollow p1 p2 s) := by
  unfold cbFollow
  extract_lets +onlyGivenNames y1
  split
  · exact h
  · exact Keeps.same h rfl rfl rfl

theorem cbNoSlot_keeps {s0 s : State} (h : Keeps s0 s) : Keeps s0 (cbNoSlot s) := by
  unfold cbNoSlot
  extract_lets +onlyGivenNames y1
  extract_lets +onlyGivenNames y2
  exact Keeps.same h rfl rfl rfl

theorem cbClear_keeps {s0 s : State} (h : Keeps s0 s) : Keeps s0 (cbClear s) := by
  unfold cbClear
  exact Keeps.same h rfl rfl rfl

theorem cbTraffic_keeps {s0 s : State} {p1 : _} {p2 : _} (h : Keeps s0 s) : Keeps s0 (cbTraffic p1 p2 s) := by
  unfold cbTraffic
  split
  · exact h
  · exact Keeps.same h rfl rfl rfl

theorem execModeChangeRequest_keeps {s0 s : State} (h : Keeps s0 s) : KeepsOut s0 (execModeChangeRequest s) := by
  unfold execModeChangeRequest
  refine KeepsOut.next ?_
  split
  · exact h
  · split
    · exact Keeps.same h rfl rfl rfl
    · exact h

theorem csFail_keeps {s0 s : State} {p1 : _} (h : Keeps s0 s) : Keeps s0 (csFail p1 s) := by
  unfold csFail
  extract_lets +onlyGivenNames y1
  extract_lets +onlyGivenNames y2
  extract_lets +onlyGivenNames y3
  have h3 : Keeps s0 y3 := by
    unfold y3
    exact Keeps.same h rfl rfl rfl
  clear_value y3
  split
  · extract_lets +onlyGivenNames y4
    have h4 : Keeps s0 y4 := by
      unfold y4
      refine raiseCs_keeps ?_
      exact h3
    clear_value y4
    refine ttcTo_keeps ?_
    exact Keeps.same h4 rfl rfl rfl
  · refine raiseCs_keeps ?_
    exact Keeps.same h3 rfl rfl rfl

theorem State.mdCb_keeps {s0 s : State} {p1 : _} {p2 : _} (h : Keeps s0 s) : Keeps s0 (State.mdCb s p1 p2) := by
  unfold State.mdCb
  exact Keeps.same h rfl rfl rfl

theorem cbSee_keeps {s0 s : State} {p1 : _} {p2 : _} {p3 : _} (h : Keeps s0 s) : Keeps s0 (cbSee p1 p2 p3 s) := by
  unfold cbSee
  split
  · exact Keeps.same h rfl rfl rfl
  · exact h

theorem raiseSens_keeps {s0 s : State} {p1 : _} {p2 : _} (h : Keeps s0 s) : Keeps s0 (raiseSens p1 p2 s) := by
  unfold raiseSens
  refine raiseEv_keeps ?_
  exact h

theorem coldFollow_keeps {s0 s : State} {p1 : _} {p2 : _} {p3 : _} (h : Keeps s0 s) : Keeps s0 (coldFollow p1 p2 p3 s) := by
  unfold coldFollow
  extract_lets +onlyGivenNames y1
  extract_lets +onlyGivenNames y2
  extract_lets +onlyGivenNames y3
  extract_lets +onlyGivenNames y4
  extract_lets +onlyGivenNames y5
  have h5 : Keeps s0 y5 := by
    unfold y5
    refine ttcTo_keeps ?_
    refine cbFollow_keeps ?_
    exact Keeps.same h rfl rfl rfl
  clear_value y5
  exact Keeps.same h5 rfl rfl rfl

theorem execValueLatch_keeps {s0 s : State} {p1 : _} (h : Keeps s0 s) : KeepsOut s0 (execValueLatch p1 s) := by
  unfold execValueLatch
  refine KeepsOut.onUnit ?_
  refine KeepsOut.next ?_
  split
  · exact h
  · split
    · exact h
    · extract_lets +onlyGivenNames y1
      have h1 : Keeps s0 y1 := by
        unfold y1
        refine State.upTo_keeps ?_
        exact h
      clear_value y1
      extract_lets +onlyGivenNames y2
      extract_lets +onlyGivenNames y3
      have h3 : Keeps s0 y3 := by
        unfold y3
        refine State.unspoil_keeps ?_
        exact h1
      clear_value y3
      refine mirDelta_keeps ?_
      exact Keeps.same h3 rfl rfl rfl

theorem execColdstartWatchEnd_keeps {s0 s : State} {p1 : _} (h : Keeps s0 s) : KeepsOut s0 (execColdstartWatchEnd p1 s) := by
  unfold execColdstartWatchEnd
  refine KeepsOut.next ?_
  split
  · exact h
  · extract_lets +onlyGivenNames y1
    have h1 : Keeps s0 y1 := by
      unfold y1
      refine State.upTo_keeps ?_
      exact h
    clear_value y1
    split
    · refine csFail_keeps ?_
      exact h1
    · extract_lets +onlyGivenNames y2
      extract_lets +onlyGivenNames y3
      extract_lets +onlyGivenNames y4
      have h4 : Keeps s0 y4 := by
        unfold y4
        refine raiseCs_keeps ?_
        exact h1
      clear_value y4
      exact Keeps.same h4 rfl rfl rfl

theorem raiseCb_keeps {s0 s : State} {p1 : _} {p2 : _} (h : Keeps s0 s) : Keeps s0 (raiseCb p1 p2 s) := by
  unfold raiseCb
  refine raiseEv_keeps ?_
  exact h

theorem toPassive_keeps {s0 s : State} {p1 : _} (h : Keeps s0 s) : Keeps s0 (toPassive p1 s) := by
  unfold toPassive
  refine ttcTo_keeps ?_
  exact Keeps.same h rfl rfl rfl

theorem execTtcFrameTransmit_keeps {s0 s : State} {p1 : _} (h : Keeps s0 s) : KeepsOut s0 (execTtcFrameTransmit p1 s) := by
  unfold execTtcFrameTransmit
  refine KeepsOut.onUnit ?_
  refine KeepsOut.next ?_
  split
  · exact h
  · split
    · exact h
    · split
      · exact h
      · extract_lets +onlyGivenNames y1
        extract_lets +onlyGivenNames y2
        have h2 : Keeps s0 y2 := by
          unfold y2
          refine State.upTo_keeps ?_
          exact h
        clear_value y2
        extract_lets +onlyGivenNames y3
        extract_lets +onlyGivenNames y4
        extract_lets +onlyGivenNames y5
        extract_lets +onlyGivenNames y6
        extract_lets +onlyGivenNames y7
        have h7 : Keeps s0 y7 := by
          unfold y7
          refine State.mdCb_keeps ?_
          exact h2
        clear_value y7
        exact Keeps.same h7 rfl rfl rfl

theorem channelOff_keeps {s0 s : State} {p1 : _} (h : Keeps s0 s) : Keeps s0 (channelOff p1 s) := by
  unfold channelOff
  extract_lets +onlyGivenNames y1
  split
  · refine raiseCb_keeps ?_
    refine State.mdCb_keeps ?_
    exact h
  · exact h

theorem execChannelDisabled_keeps {s0 s : State} {p1 : _} (h : Keeps s0 s) : KeepsOut s0 (execChannelDisabled p1 s) := by
  unfold execChannelDisabled
  refine KeepsOut.onUnit ?_
  refine KeepsOut.next ?_
  refine channelOff_keeps ?_
  exact h

theorem execColdstartWaitEnd_keeps {s0 s : State} (h : Keeps s0 s) : KeepsOut s0 (execColdstartWaitEnd s) := by
  unfold execColdstartWaitEnd
  refine KeepsOut.next ?_
  split
  · exact h
  · extract_lets +onlyGivenNames y1
    have h1 : Keeps s0 y1 := by
      unfold y1
      refine State.upTo_keeps ?_
      exact h
    clear_value y1
    extract_lets +onlyGivenNames y2
    extract_lets +onlyGivenNames y3
    extract_lets +onlyGivenNames y4
    extract_lets +onlyGivenNames y5
    extract_lets +onlyGivenNames y6
    extract_lets +onlyGivenNames y7
    extract_lets +onlyGivenNames y8
    have h8 : Keeps s0 y8 := by
      unfold y8
      exact Keeps.same h1 rfl rfl rfl
    clear_value y8
    refine raiseCs_keeps ?_
    exact h8

theorem cbOwnDelays_keeps {s0 s : State} (h : Keeps s0 s) : Keeps s0 (cbOwnDelays s) := by
  unfold cbOwnDelays
  extract_lets +onlyGivenNames y1
  extract_lets +onlyGivenNames y2
  have h2 : Keeps s0 y2 := by
    unfold y2
    split
    · exact Keeps.same h rfl rfl rfl
    · exact h
  clear_value y2
  split
  · refine mirDelta_keeps ?_
    exact h2
  · exact h2

theorem cbReject_keeps {s0 s : State} {p1 : _} {p2 : _} {p3 : _} (h : Keeps s0 s) : Keeps s0 (cbReject p1 p2 p3 s) := by
  unfold cbReject
  extract_lets +onlyGivenNames y1
  extract_lets +onlyGivenNames y2
  extract_lets +onlyGivenNames y3
  extract_lets +onlyGivenNames y4
  have h4 : Keeps s0 y4 := by
    unfold y4
    refine State.mdCb_keeps ?_
    exact h
  clear_value y4
  extract_lets +onlyGivenNames y5
  extract_lets +onlyGivenNames y6
  have h6 : Keeps s0 y6 := by
    unfold y6
    split
    · exact h4
    · exact Keeps.same h4 rfl rfl rfl
  clear_value y6
  split
  · exact h6
  · refine raiseEv_keeps ?_
    exact h6

theorem raiseCbs_keeps {s0 s : State} {p1 : _} (h : Keeps s0 s) : Keeps s0 (raiseCbs p1 s) := by
  unfold raiseCbs
  refine Keeps.foldl ?_ ?_
  · exact h
  · intro x1 a2 h3
    split
    · exact h3
    · refine raiseCb_keeps ?_
      exact h3

theorem execColdstartEntry_keeps {s0 s : State} (h : Keeps s0 s) : KeepsOut s0 (execColdstartEntry s) := by
  unfold execColdstartEntry
  refine KeepsOut.next ?_
  split
  · exact h
  · extract_lets +onlyGivenNames y1
    extract_lets +onlyGivenNames y2
    have h2 : Keeps s0 y2 := by
      unfold y2
      refine State.upTo_keeps ?_
      exact h
    clear_value y2
    split
    · refine ttcTo_keeps ?_
      exact Keeps.same h2 rfl rfl rfl
    · exact Keeps.same h2 rfl rfl rfl

theorem cbState_keeps {s0 s : State} {p1 : _} (h : Keeps s0 s) : Keeps s0 (cbState p1 s) := by
  unfold cbState
  extract_lets +onlyGivenNames y1
  split
  · split
    · split
      · refine ttcTo_keeps ?_
        exact Keeps.same h rfl rfl rfl
      · exact h
    · exact h
  · split
    · extract_lets +onlyGivenNames y2
      extract_lets +onlyGivenNames y3
      have h3 : Keeps s0 y3 := by
        unfold y3
        exact Keeps.same h rfl rfl rfl
      split
      · refine ttcTo_keeps ?_
        exact h3
      · refine ttcTo_keeps ?_
        exact h3
    · exact h
  · split
    · split
      · refine toPassive_keeps ?_
        refine raiseEv_keeps ?_
        exact h
      · split
        · refine toPassive_keeps ?_
          exact h
        · split
          · refine toPassive_keeps ?_
            exact h
          · exact h
    · split
      · refine toPassive_keeps ?_
        refine raiseEv_keeps ?_
        exact h
      · split
        · refine toPassive_keeps ?_
          exact h
        · split
          · refine toPassive_keeps ?_
            exact h
          · exact h
  · extract_lets +onlyGivenNames y4
    extract_lets +onlyGivenNames y5
    have h5 : Keeps s0 y5 := by
      unfold y5
      exact Keeps.same h rfl rfl rfl
    split
    · refine ttcTo_keeps ?_
      exact Keeps.same h5 rfl rfl rfl
    · split
      · refine ttcTo_keeps ?_
        exact h5
      · exact h5
  · split
    · split
      · refine ttcTo_keeps ?_
        exact Keeps.same h rfl rfl rfl
      · refine ttcTo_keeps ?_
        exact h
    · exact h
  · exact h

theorem execSlotWindowClose_keeps {s0 s : State} {p1 : _} (h : Keeps s0 s) : KeepsOut s0 (execSlotWindowClose p1 s) := by
  unfold execSlotWindowClose
  refine KeepsOut.onUnit ?_
  refine KeepsOut.next ?_
  split
  · exact h
  · split
    · exact h
    · split
      · exact h
      · extract_lets +onlyGivenNames y1
        have h1 : Keeps s0 y1 := by
          unfold y1
          refine State.upTo_keeps ?_
          exact h
        clear_value y1
        extract_lets +onlyGivenNames y2
        extract_lets +onlyGivenNames y3
        extract_lets +onlyGivenNames y4
        have h4 : Keeps s0 y4 := by
          unfold y4
          exact Keeps.same h1 rfl rfl rfl
        clear_value y4
        split
        · exact h4
        · extract_lets +onlyGivenNames y5
          extract_lets +onlyGivenNames y6
          have h6 : Keeps s0 y6 := by
            unfold y6
            refine State.mdCb_keeps ?_
            exact h4
          clear_value y6
          split
          · exact h6
          · refine raiseEv_keeps ?_
            exact h6

theorem sensFail_keeps {s0 s : State} {p1 : _} {p2 : _} (h : Keeps s0 s) : Keeps s0 (sensFail p1 p2 s) := by
  unfold sensFail
  refine raiseSens_keeps ?_
  exact Keeps.same h rfl rfl rfl

theorem writeTx_keeps {s0 s : State} {p1 : _} {p2 : _} {p3 : _} {p4 : _} (h : Keeps s0 s) : Keeps s0 (writeTx p1 p2 p3 p4 s) := by
  unfold writeTx
  extract_lets +onlyGivenNames y1
  extract_lets +onlyGivenNames y2
  refine mirDelta_keeps ?_
  exact Keeps.same h rfl rfl rfl

theorem sensAccept_keeps {s0 s : State} {p1 : _} {p2 : _} {p3 : _} (h : Keeps s0 s) : Keeps s0 (sensAccept p1 p2 p3 s) := by
  unfold sensAccept
  extract_lets +onlyGivenNames y1
  extract_lets +onlyGivenNames y2
  extract_lets +onlyGivenNames y3
  extract_lets +onlyGivenNames y4
  split
  · unfold y1
    refine raiseSens_keeps ?_
    exact Keeps.same h rfl rfl rfl
  · split
    · unfold y1
      refine raiseSens_keeps ?_
      exact Keeps.same h rfl rfl rfl
    · split
      · unfold y1
        refine raiseSens_keeps ?_
        exact Keeps.same h rfl rfl rfl
      · extract_lets +onlyGivenNames y5
        extract_lets +onlyGivenNames y6
        extract_lets +onlyGivenNames y7
        extract_lets +onlyGivenNames y8
        have h8 : Keeps s0 y8 := by
          unfold y8
          exact Keeps.same h rfl rfl rfl
        clear_value y8
        split
        · refine raiseSens_keeps ?_
          exact h8
        · exact h8

theorem sensFrame_keeps {s0 s : State} {p1 : _} {p2 : _} {p3 : _} (h : Keeps s0 s) : Keeps s0 (sensFrame p1 p2 p3 s) := by
  unfold sensFrame
  extract_lets +onlyGivenNames y1
  extract_lets +onlyGivenNames y2
  extract_lets +onlyGivenNames y3
  extract_lets +onlyGivenNames y4
  extract_lets +onlyGivenNames y5
  extract_lets +onlyGivenNames y6
  split
  · refine sensFail_keeps ?_
    exact h
  · split
    · refine sensFail_keeps ?_
      exact h
    · split
      · exact Keeps.same h rfl rfl rfl
      · extract_lets +onlyGivenNames y7
        split
        · refine sensFail_keeps ?_
          exact h
        · split
          · refine sensFail_keeps ?_
            exact Keeps.same h rfl rfl rfl
          · refine sensAccept_keeps ?_
            exact Keeps.same h rfl rfl rfl

theorem cbAdopt_keeps {s0 s : State} (h : Keeps s0 s) : Keeps s0 (cbAdopt s) := by
  unfold cbAdopt
  extract_lets +onlyGivenNames y1
  extract_lets +onlyGivenNames y2
  extract_lets +onlyGivenNames y3
  extract_lets +onlyGivenNames y4
  have h4 : Keeps s0 y4 := by
    unfold y4
    exact Keeps.same h rfl rfl rfl
  split
  · refine raiseCbs_keeps ?_
    refine ttcTo_keeps ?_
    exact Keeps.same h4 rfl rfl rfl
  · split
    · refine raiseCbs_keeps ?_
      refine ttcTo_keeps ?_
      exact Keeps.same h4 rfl rfl rfl
    · exact h4

theorem cbDeliver_keeps {s0 s : State} {p1 : _} (h : Keeps s0 s) : Keeps s0 (cbDeliver p1 s) := by
  unfold cbDeliver
  extract_lets +onlyGivenNames y1
  extract_lets +onlyGivenNames y2
  extract_lets +onlyGivenNames y3
  have h3 : Keeps s0 y3 := by
    unfold y3
    exact Keeps.same h rfl rfl rfl
  clear_value y3
  extract_lets +onlyGivenNames y4
  have h4 : Keeps s0 y4 := by
    unfold y4
    split
    · split
      · refine tbMeasure_keeps ?_
        exact h
      · refine tbMissed_keeps ?_
        exact h
    · split
      · clear_value y1
        split
        · refine tbMeasure_keeps ?_
          exact h3
        · refine tbMissed_keeps ?_
          exact h3
      · exact h
  clear_value y4
  refine tbRate_keeps ?_
  exact h4

theorem cbSafety_keeps {s0 s : State} {p1 : _} {p2 : _} {p3 : _} (h : Keeps s0 s) : Keeps s0 (cbSafety p1 p2 p3 s) := by
  unfold cbSafety
  split
  · exact h
  · refine Keeps.foldl ?_ ?_
    · exact h
    · intro x1 a2 h3
      split
      · refine sensFrame_keeps ?_
        exact h3
      · exact h3

theorem cbAccept_keeps {s0 s : State} {p1 : _} {p2 : _} {p3 : _} {p4 : _} {p5 : _} (h : Keeps s0 s) : Keeps s0 (cbAccept p1 p2 p3 p4 p5 s) := by
  unfold cbAccept
  extract_lets +onlyGivenNames y1
  split
  · refine State.unspoil_keeps ?_
    exact h
  · extract_lets +onlyGivenNames y2
    have h2 : Keeps s0 y2 := by
      unfold y2
      refine cbSafety_keeps ?_
      refine cbStore_keeps ?_
      exact h
    clear_value y2
    split
    · refine cbCalib_keeps ?_
      exact h2
    · exact h2

theorem mcEnd_keeps {s0 s : State} {p1 : _} {p2 : _} {p3 : _} (h : Keeps s0 s) : Keeps s0 (mcEnd p1 p2 p3 s) := by
  unfold mcEnd
  extract_lets +onlyGivenNames y1
  have h1 : Keeps s0 y1 := by
    unfold y1
    refine raiseEv_keeps ?_
    exact h
  clear_value y1
  split
  · exact h1
  · split
    · exact h1
    · extract_lets +onlyGivenNames y2
      extract_lets +onlyGivenNames y3
      extract_lets +onlyGivenNames y4
      have h4 : Keeps s0 y4 := by
        unfold y4
        exact Keeps.same h1 rfl rfl rfl
      clear_value y4
      refine finishTicket_keeps ?_
      exact h4

theorem cbCheck_keeps {s0 s : State} {p1 : _} {p2 : _} {p3 : _} {p4 : _} (h : Keeps s0 s) : Keeps s0 (cbCheck p1 p2 p3 p4 s) := by
  unfold cbCheck
  extract_lets +onlyGivenNames y1
  extract_lets +onlyGivenNames y2
  extract_lets +onlyGivenNames y3
  extract_lets +onlyGivenNames y4
  extract_lets +onlyGivenNames y5
  extract_lets +onlyGivenNames y6
  extract_lets +onlyGivenNames y7
  have h7 : Keeps s0 y7 := by
    unfold y7
    split
    · refine ttcTo_keeps ?_
      refine cbFollow_keeps ?_
      exact h
    · exact h
  clear_value y7
  extract_lets +onlyGivenNames y8
  extract_lets +onlyGivenNames y9
  extract_lets +onlyGivenNames y10
  extract_lets +onlyGivenNames y11
  have h11 : Keeps s0 y11 := by
    unfold y11
    split
    · exact Keeps.same h7 rfl rfl rfl
    · exact h7
  clear_value y11
  extract_lets +onlyGivenNames y12
  have h12 : Keeps s0 y12 := by
    unfold y12
    refine cbSyncCount_keeps ?_
    exact h11
  clear_value y12
  extract_lets +onlyGivenNames y13
  have h13 : Keeps s0 y13 := by
    unfold y13
    split
    · refine cbSee_keeps ?_
      exact h12
    · exact h12
  clear_value y13
  split
  · refine cbAccept_keeps ?_
    exact h13
  · refine cbReject_keeps ?_
    exact h13
  · exact h13

theorem mcLeave_keeps {s0 s : State} (h : Keeps s0 s) : Keeps s0 (mcLeave s) := by
  unfold mcLeave
  extract_lets +onlyGivenNames y1
  extract_lets +onlyGivenNames y2
  have h2 : Keeps s0 y2 := by
    unfold y2
    split
    · split
      · exact h
      · refine mcEnd_keeps ?_
        exact h
    · exact h
  split
  · exact h2
  · exact Keeps.same h2 rfl rfl rfl

theorem execColdstartFrame_keeps {s0 s : State} {p1 : _} {p2 : _} {p3 : _} (h : Keeps s0 s) : KeepsOut s0 (execColdstartFrame p1 p2 p3 s) := by
  unfold execColdstartFrame
  refine KeepsOut.onUnit ?_
  refine KeepsOut.next ?_
  extract_lets +onlyGivenNames y1
  have h1 : Keeps s0 y1 := by
    unfold y1
    refine State.upTo_keeps ?_
    exact h
  clear_value y1
  extract_lets +onlyGivenNames y2
  extract_lets +onlyGivenNames y3
  split
  · exact h1
  · split
    · exact h1
    · extract_lets +onlyGivenNames y4
      have h4 : Keeps s0 y4 := by
        unfold y4
        refine cbTraffic_keeps ?_
        exact h1
      clear_value y4
      split
      · refine coldFollow_keeps ?_
        refine raiseCs_keeps ?_
        exact h4
      · refine csFail_keeps ?_
        exact h4
  · extract_lets +onlyGivenNames y5
    have h5 : Keeps s0 y5 := by
      unfold y5
      refine cbTraffic_keeps ?_
      exact h1
    clear_value y5
    split
    · refine coldFollow_keeps ?_
      exact h5
    · refine cbCheck_keeps ?_
      exact Keeps.same h5 rfl rfl rfl
  · extract_lets +onlyGivenNames y6
    have h6 : Keeps s0 y6 := by
      unfold y6
      refine cbTraffic_keeps ?_
      exact h1
    clear_value y6
    split
    · refine coldFollow_keeps ?_
      exact h6
    · refine cbCheck_keeps ?_
      exact Keeps.same h6 rfl rfl rfl
  · refine cbCheck_keeps ?_
    refine cbTraffic_keeps ?_
    exact Keeps.same h1 rfl rfl rfl

theorem mcClose_keeps {s0 s : State} (h : Keeps s0 s) : Keeps s0 (mcClose s) := by
  unfold mcClose
  extract_lets +onlyGivenNames y1
  extract_lets +onlyGivenNames y2
  extract_lets +onlyGivenNames y3
  extract_lets +onlyGivenNames y4
  extract_lets +onlyGivenNames y5
  have h5 : Keeps s0 y5 := by
    unfold y5
    exact Keeps.same h rfl rfl rfl
  clear_value y5
  split
  · extract_lets +onlyGivenNames y6
    extract_lets +onlyGivenNames y7
    extract_lets +onlyGivenNames y8
    extract_lets +onlyGivenNames y9
    extract_lets +onlyGivenNames y10
    have h10 : Keeps s0 y10 := by
      unfold y10
      exact Keeps.same h5 rfl rfl rfl
    clear_value y10
    refine mcEnd_keeps ?_
    exact h10
  · split
    · exact Keeps.same h5 rfl rfl rfl
    · split
      · exact h5
      · extract_lets +onlyGivenNames y11
        extract_lets +onlyGivenNames y12
        extract_lets +onlyGivenNames y13
        extract_lets +onlyGivenNames y14
        exact Keeps.same h5 rfl rfl rfl

theorem execCbFrameReceived_keeps {s0 s : State} {p1 : _} {p2 : _} {p3 : _} {p4 : _} (h : Keeps s0 s) : KeepsOut s0 (execCbFrameReceived p1 p2 p3 p4 s) := by
  unfold execCbFrameReceived
  refine KeepsOut.onUnit ?_
  refine KeepsOut.next ?_
  extract_lets +onlyGivenNames y1
  have h1 : Keeps s0 y1 := by
    unfold y1
    refine State.upTo_keeps ?_
    exact h
  clear_value y1
  split
  · exact h1
  · extract_lets +onlyGivenNames y2
    split
    · exact h1
    · refine csFail_keeps ?_
      refine cbTraffic_keeps ?_
      exact h1
  · refine cbCheck_keeps ?_
    refine cbTraffic_keeps ?_
    exact h1

theorem execCellCycleClose_keeps {s0 s : State} (h : Keeps s0 s) : KeepsOut s0 (execCellCycleClose s) := by
  unfold execCellCycleClose
  refine KeepsOut.next ?_
  split
  · exact h
  · extract_lets +onlyGivenNames y1
    have h1 : Keeps s0 y1 := by
      unfold y1
      refine State.upTo_keeps ?_
      exact h
    clear_value y1
    extract_lets +onlyGivenNames y2
    extract_lets +onlyGivenNames y3
    extract_lets +onlyGivenNames y4
    extract_lets +onlyGivenNames y5
    extract_lets +onlyGivenNames y6
    extract_lets +onlyGivenNames y7
    have h7 : Keeps s0 y7 := by
      unfold y7
      split
      · refine cbMeasure_keeps ?_
        exact h1
      · exact Keeps.same h1 rfl rfl rfl
    clear_value y7
    extract_lets +onlyGivenNames y8
    have h8 : Keeps s0 y8 := by
      unfold y8
      split
      · refine mcClose_keeps ?_
        exact h7
      · exact h7
    clear_value y8
    extract_lets +onlyGivenNames y9
    have h9 : Keeps s0 y9 := by
      unfold y9
      refine cbDeliver_keeps ?_
      refine mcLeave_keeps ?_
      refine cbState_keeps ?_
      exact h8
    clear_value y9
    extract_lets +onlyGivenNames y10
    have h10 : Keeps s0 y10 := by
      unfold y10
      refine cbAdopt_keeps ?_
      refine cbOwnDelays_keeps ?_
      refine cbClear_keeps ?_
      exact h9
    clear_value y10
    refine cbNoSlot_keeps ?_
    exact Keeps.same h10 rfl rfl rfl

end Sys2Proof.Machine
end

