-- ==== Sys2Proof/Laws/KeepsFw.lean ====
section
/-!
SUPPORT. What the operations keep (Laws/Keeps.lean): the commands the firmware runs.
-/
namespace Sys2Proof.Machine

theorem cbErrClear_keeps {s0 s : State} (h : Keeps s0 s) : Keeps s0 (cbErrClear s) := by
  unfold cbErrClear
  exact Keeps.same h rfl rfl rfl

theorem putCap_keeps {s0 s : State} {p1 : _} {p2 : _} (h : Keeps s0 s) : Keeps s0 (putCap p1 p2 s) := by
  unfold putCap
  extract_lets +onlyGivenNames y1
  have h1 : Keeps s0 y1 := by
    unfold y1
    refine Keeps.foldl ?_ ?_
    · exact h
    · intro x2 a3 h4
      exact Keeps.same h4 rfl rfl rfl
  clear_value y1
  exact Keeps.same h1 rfl rfl rfl

theorem fwRun_keeps {s0 s : State} {p1 : Nat} {p2 : Bool} {p3 : Letters} {p4 : List (Bool × Nat)} {p5 : State → FwRes} (hf : ∀ x, Keeps s0 x → Keeps s0 (p5 x).2) (h : Keeps s0 s) : Keeps s0 (fwRun p1 p2 p3 p4 p5 s).2 := by
  unfold fwRun
  split
  · exact h
  · exact hf s h

theorem latchNow_keeps {s0 s : State} {p1 : _} (h : Keeps s0 s) : Keeps s0 (latchNow p1 s) := by
  unfold latchNow
  split
  · exact Keeps.same h rfl rfl rfl
  · exact h

theorem cancelRuns_keeps {s0 s : State} {p1 : _} {p2 : _} {p3 : _} (h : Keeps s0 s) : Keeps s0 (cancelRuns p1 p2 p3 s) := by
  unfold cancelRuns
  extract_lets +onlyGivenNames y1
  extract_lets +onlyGivenNames y2
  extract_lets +onlyGivenNames y3
  have h3 : Keeps s0 y3 := by
    unfold y3
    exact Keeps.same h rfl rfl rfl
  clear_value y3
  refine Keeps.foldl ?_ ?_
  · exact h3
  · intro x4 a5 h6
    split
    · split
      · refine endInjection_keeps ?_
        exact h6
      · exact h6
    · exact h6

theorem fwDlReset_keeps {s0 s : State} {p1 : _} {p2 : _} {p3 : _} (h : Keeps s0 s) : Keeps s0 (fwDlReset p1 p2 p3 s).2 := by
  unfold fwDlReset
  refine fwRun_keeps ?_ ?_
  · intro x1 h2
    extract_lets +onlyGivenNames y3
    dsimp only
    exact Keeps.same h2 rfl rfl rfl
  · exact h

theorem fwSetTimeOfDay_keeps {s0 s : State} {p1 : _} {p2 : _} {p3 : _} (h : Keeps s0 s) : Keeps s0 (fwSetTimeOfDay p1 p2 p3 s).2 := by
  unfold fwSetTimeOfDay
  refine fwRun_keeps ?_ ?_
  · intro x1 h2
    extract_lets +onlyGivenNames y3
    dsimp only
    exact Keeps.same h2 rfl rfl rfl
  · exact h

theorem clearW1c_keeps {s0 s : State} {p1 : _} {p2 : _} (h : Keeps s0 s) : Keeps s0 (clearW1c p1 p2 s) := by
  unfold clearW1c
  split
  · exact Keeps.same h rfl rfl rfl
  · refine State.mdPort_keeps ?_
    exact h
  · exact Keeps.same h rfl rfl rfl
  · split
    · exact Keeps.same h rfl rfl rfl
    · exact h
  · exact h

theorem fwSetLease_keeps {s0 s : State} {p1 : _} {p2 : _} {p3 : _} (h : Keeps s0 s) : Keeps s0 (fwSetLease p1 p2 p3 s).2 := by
  unfold fwSetLease
  refine fwRun_keeps ?_ ?_
  · intro x1 h2
    dsimp only
    refine State.mdChan_keeps ?_
    exact h2
  · exact h

theorem fwWriteSeg_keeps {s0 s : State} {p1 : _} {p2 : _} {p3 : _} {p4 : _} (h : Keeps s0 s) : Keeps s0 (fwWriteSeg p1 p2 p3 p4 s).2 := by
  unfold fwWriteSeg
  extract_lets +onlyGivenNames y1
  refine fwRun_keeps ?_ ?_
  · intro x2 h3
    dsimp only
    refine State.mdChan_keeps ?_
    exact h3
  · exact h

theorem fwGetTtc_keeps {s0 s : State} {p1 : _} {p2 : _} (h : Keeps s0 s) : Keeps s0 (fwGetTtc p1 p2 s).2 := by
  unfold fwGetTtc
  refine fwRun_keeps ?_ ?_
  · intro x1 h2
    dsimp only
    refine cbErrClear_keeps ?_
    exact Keeps.same h2 rfl rfl rfl
  · exact h

theorem fwReclaim_keeps {s0 s : State} {p1 : _} {p2 : _} {p3 : _} (h : Keeps s0 s) : Keeps s0 (fwReclaim p1 p2 p3 s).2 := by
  unfold fwReclaim
  extract_lets +onlyGivenNames y1
  refine fwRun_keeps ?_ ?_
  · intro x2 h3
    dsimp only
    refine State.mdSc_keeps ?_
    exact h3
  · exact h

theorem fwOpenSet_keeps {s0 s : State} {p1 : _} {p2 : _} {p3 : _} {p4 : _} (h : Keeps s0 s) : Keeps s0 (fwOpenSet p1 p2 p3 p4 s).2 := by
  unfold fwOpenSet
  refine fwRun_keeps ?_ ?_
  · intro x1 h2
    extract_lets +onlyGivenNames y3
    dsimp only
    refine State.mdChan_keeps ?_
    exact h2
  · exact h

theorem fwClearSsmFlags_keeps {s0 s : State} {p1 : _} {p2 : _} (h : Keeps s0 s) : Keeps s0 (fwClearSsmFlags p1 p2 s).2 := by
  unfold fwClearSsmFlags
  refine fwRun_keeps ?_ ?_
  · intro x1 h2
    dsimp only
    exact Keeps.same h2 rfl rfl rfl
  · exact h

theorem castleStart_keeps {s0 s : State} {p1 : _} (h : Keeps s0 s) : Keeps s0 (castleStart p1 s) := by
  unfold castleStart
  extract_lets +onlyGivenNames y1
  extract_lets +onlyGivenNames y2
  have h2 : Keeps s0 y2 := by
    unfold y2
    refine mirSend_keeps ?_
    exact h
  clear_value y2
  refine raiseCastle_keeps ?_
  exact Keeps.same h2 rfl rfl rfl

theorem fwRead_keeps {s0 s : State} {p1 : Nat} {p2 : Bool} {p3 : Letters} {p4 : List (Bool × Nat)} {p5 : State → Rsp} (h : Keeps s0 s) : Keeps s0 (fwRead p1 p2 p3 p4 p5 s).2 := by
  unfold fwRead
  exact fwRun_keeps (fun _ k => k) h

theorem fwGetArm_keeps {s0 s : State} {p1 : _} {p2 : _} {p3 : _} (h : Keeps s0 s) : Keeps s0 (fwGetArm p1 p2 p3 s).2 := by
  unfold fwGetArm
  refine fwRead_keeps ?_
  exact h

theorem fwClearSafetyFlags_keeps {s0 s : State} {p1 : _} {p2 : _} (h : Keeps s0 s) : Keeps s0 (fwClearSafetyFlags p1 p2 s).2 := by
  unfold fwClearSafetyFlags
  refine fwRun_keeps ?_ ?_
  · intro x1 h2
    dsimp only
    exact Keeps.same h2 rfl rfl rfl
  · exact h

theorem clearRc_keeps {s0 s : State} {p1 : _} {p2 : _} (h : Keeps s0 s) : Keeps s0 (clearRc p1 p2 s) := by
  unfold clearRc
  split
  · exact Keeps.same h rfl rfl rfl
  · refine State.mdPort_keeps ?_
    exact h
  · exact Keeps.same h rfl rfl rfl
  · split
    · exact Keeps.same h rfl rfl rfl
    · exact Keeps.same h rfl rfl rfl
    · exact Keeps.same h rfl rfl rfl
    · exact h
  · exact h

theorem stageParam_keeps {s0 s : State} {p1 : _} {p2 : _} (h : Keeps s0 s) : Keeps s0 (stageParam p1 p2 s) := by
  unfold stageParam
  extract_lets +onlyGivenNames y1
  extract_lets +onlyGivenNames y2
  have h2 : Keeps s0 y2 := by
    unfold y2
    split
    · refine mirSend_keeps ?_
      exact h
    · exact h
  clear_value y2
  exact Keeps.same h2 rfl rfl rfl

theorem fwStartCapture_keeps {s0 s : State} {p1 : _} {p2 : _} {p3 : _} {p4 : _} {p5 : _} {p6 : _} {p7 : _} (h : Keeps s0 s) : Keeps s0 (fwStartCapture p1 p2 p3 p4 p5 p6 p7 s).2 := by
  unfold fwStartCapture
  extract_lets +onlyGivenNames y1
  extract_lets +onlyGivenNames y2
  refine fwRun_keeps ?_ ?_
  · intro x3 h4
    extract_lets +onlyGivenNames y5
    dsimp only
    refine putCap_keeps ?_
    exact h4
  · exact h

theorem fwReadValue_keeps {s0 s : State} {p1 : _} {p2 : _} {p3 : _} (h : Keeps s0 s) : Keeps s0 (fwReadValue p1 p2 p3 s).2 := by
  unfold fwReadValue
  refine fwRead_keeps ?_
  exact h

theorem fwCloseSet_keeps {s0 s : State} {p1 : _} {p2 : _} (h : Keeps s0 s) : Keeps s0 (fwCloseSet p1 p2 s).2 := by
  unfold fwCloseSet
  refine fwRun_keeps ?_ ?_
  · intro x1 h2
    extract_lets +onlyGivenNames y3
    split
    · dsimp only
      exact h2
    · split
      · dsimp only
        refine State.mdChan_keeps ?_
        exact h2
      · extract_lets +onlyGivenNames y4
        extract_lets +onlyGivenNames y5
        dsimp only
        refine State.mdChan_keeps ?_
        exact h2
  · exact h

theorem fwLeaveService_keeps {s0 s : State} {p1 : _} {p2 : _} (h : Keeps s0 s) : Keeps s0 (fwLeaveService p1 p2 s).2 := by
  unfold fwLeaveService
  refine fwRun_keeps ?_ ?_
  · intro x1 h2
    dsimp only
    split
    · refine leaveServiceMode_keeps ?_
      exact h2
    · exact h2
  · exact h

theorem fwGetFault_keeps {s0 s : State} {p1 : _} {p2 : _} (h : Keeps s0 s) : Keeps s0 (fwGetFault p1 p2 s).2 := by
  unfold fwGetFault
  refine fwRead_keeps ?_
  exact h

theorem fwGetSafety_keeps {s0 s : State} {p1 : _} {p2 : _} (h : Keeps s0 s) : Keeps s0 (fwGetSafety p1 p2 s).2 := by
  unfold fwGetSafety
  refine fwRead_keeps ?_
  exact h

theorem fwGetVerdict_keeps {s0 s : State} {p1 : _} {p2 : _} {p3 : _} (h : Keeps s0 s) : Keeps s0 (fwGetVerdict p1 p2 p3 s).2 := by
  unfold fwGetVerdict
  refine fwRead_keeps ?_
  exact h

theorem fwGetSsmStat_keeps {s0 s : State} {p1 : _} {p2 : _} (h : Keeps s0 s) : Keeps s0 (fwGetSsmStat p1 p2 s).2 := by
  unfold fwGetSsmStat
  refine fwRun_keeps ?_ ?_
  · intro x1 h2
    dsimp only
    exact Keeps.same h2 rfl rfl rfl
  · exact h

theorem fwGetObjects_keeps {s0 s : State} {p1 : _} {p2 : _} (h : Keeps s0 s) : Keeps s0 (fwGetObjects p1 p2 s).2 := by
  unfold fwGetObjects
  refine fwRead_keeps ?_
  exact h

theorem fwTicketStatus_keeps {s0 s : State} {p1 : _} {p2 : _} {p3 : _} (h : Keeps s0 s) : Keeps s0 (fwTicketStatus p1 p2 p3 s).2 := by
  unfold fwTicketStatus
  refine fwRead_keeps ?_
  exact h

theorem fwApplyCalibration_keeps {s0 s : State} {p1 : _} {p2 : _} (h : Keeps s0 s) : Keeps s0 (fwApplyCalibration p1 p2 s).2 := by
  unfold fwApplyCalibration
  refine fwRun_keeps ?_ ?_
  · intro x1 h2
    dsimp only
    refine raiseEv_keeps ?_
    exact Keeps.same h2 rfl rfl rfl
  · exact h

theorem fwKeepalive_keeps {s0 s : State} {p1 : _} {p2 : _} (h : Keeps s0 s) : Keeps s0 (fwKeepalive p1 p2 s).2 := by
  unfold fwKeepalive
  refine fwRead_keeps ?_
  exact h

theorem fwHandover_keeps {s0 s : State} {p1 : _} {p2 : _} {p3 : _} {p4 : _} {p5 : _} (h : Keeps s0 s) : Keeps s0 (fwHandover p1 p2 p3 p4 p5 s).2 := by
  unfold fwHandover
  extract_lets +onlyGivenNames y1
  refine fwRun_keeps ?_ ?_
  · intro x2 h3
    split
    · extract_lets +onlyGivenNames y4
      have h4 : Keeps s0 y4 := by
        unfold y4
        refine State.mdSc_keeps ?_
        exact h3
      clear_value y4
      dsimp only
      exact Keeps.same h4 rfl rfl rfl
    · dsimp only
      refine raiseChan_keeps ?_
      refine State.mdSc_keeps ?_
      exact h3
  · exact h

theorem sendParams_keeps {s0 s : State} {p1 p2 p3 : Nat} (h : Keeps s0 s) : Keeps s0 (sendParams p1 p2 p3 s) := by
  induction p1 generalizing p2 p3 s with
  | zero => exact h
  | succ n ih =>
    unfold sendParams
    split
    · exact h
    · exact ih (mirSend_keeps h)

theorem fwClearBlock_keeps {s0 s : State} {p1 : _} {p2 : _} {p3 : _} {p4 : _} (h : Keeps s0 s) : Keeps s0 (fwClearBlock p1 p2 p3 p4 s).2 := by
  unfold fwClearBlock
  refine fwRun_keeps ?_ ?_
  · intro x1 h2
    dsimp only
    refine clearW1c_keeps ?_
    refine clearRc_keeps ?_
    exact h2
  · exact h

theorem fwReadBlock_keeps {s0 s : State} {p1 : _} {p2 : _} {p3 : _} {p4 : _} (h : Keeps s0 s) : Keeps s0 (fwReadBlock p1 p2 p3 p4 s).2 := by
  unfold fwReadBlock
  refine fwRun_keeps ?_ ?_
  · intro x1 h2
    dsimp only
    refine clearRc_keeps ?_
    refine latchNow_keeps ?_
    exact h2
  · exact h

theorem fwGetStopTest_keeps {s0 s : State} {p1 : _} {p2 : _} {p3 : _} (h : Keeps s0 s) : Keeps s0 (fwGetStopTest p1 p2 p3 s).2 := by
  unfold fwGetStopTest
  refine fwRead_keeps ?_
  exact h

theorem fwClearAxisFlags_keeps {s0 s : State} {p1 : _} {p2 : _} {p3 : _} {p4 : _} (h : Keeps s0 s) : Keeps s0 (fwClearAxisFlags p1 p2 p3 p4 s).2 := by
  unfold fwClearAxisFlags
  refine fwRun_keeps ?_ ?_
  · intro x1 h2
    dsimp only
    refine State.mdAx_keeps ?_
    exact h2
  · exact h

theorem fwClearTtc_keeps {s0 s : State} {p1 : _} {p2 : _} (h : Keeps s0 s) : Keeps s0 (fwClearTtc p1 p2 s).2 := by
  unfold fwClearTtc
  refine fwRun_keeps ?_ ?_
  · intro x1 h2
    dsimp only
    refine cbErrClear_keeps ?_
    exact h2
  · exact h

theorem fwAbortSet_keeps {s0 s : State} {p1 : _} {p2 : _} (h : Keeps s0 s) : Keeps s0 (fwAbortSet p1 p2 s).2 := by
  unfold fwAbortSet
  refine fwRun_keeps ?_ ?_
  · intro x1 h2
    dsimp only
    refine State.mdChan_keeps ?_
    exact h2
  · exact h

theorem fwReadSet_keeps {s0 s : State} {p1 : _} {p2 : _} {p3 : _} {p4 : _} {p5 : _} (h : Keeps s0 s) : Keeps s0 (fwReadSet p1 p2 p3 p4 p5 s).2 := by
  unfold fwReadSet
  extract_lets +onlyGivenNames y1
  refine fwRead_keeps ?_
  exact h

theorem passTest_keeps {s0 s : State} {p1 : _} {p2 : _} (h : Keeps s0 s) : Keeps s0 (passTest p1 p2 s).2 := by
  unfold passTest
  split
  · dsimp only
    exact h
  · extract_lets +onlyGivenNames y1
    extract_lets +onlyGivenNames y2
    split
    · dsimp only
      exact h
    · split
      · dsimp only
        unfold y1
        refine secTouch_keeps ?_
        exact Keeps.same h rfl rfl rfl
      · extract_lets +onlyGivenNames y3
        split
        · extract_lets +onlyGivenNames y4
          dsimp only
          refine raiseEv_keeps ?_
          unfold y1
          refine secTouch_keeps ?_
          exact Keeps.same h rfl rfl rfl
        · dsimp only
          unfold y1
          refine secTouch_keeps ?_
          exact Keeps.same h rfl rfl rfl

theorem fwCancelTicket_keeps {s0 s : State} {p1 : _} {p2 : _} {p3 : _} (h : Keeps s0 s) : Keeps s0 (fwCancelTicket p1 p2 p3 s).2 := by
  unfold fwCancelTicket
  extract_lets +onlyGivenNames y1
  refine fwRun_keeps ?_ ?_
  · intro x2 h3
    dsimp only
    exact Keeps.same h3 rfl rfl rfl
  · exact h

theorem fwReadAudit_keeps {s0 s : State} {p1 : _} {p2 : _} {p3 : _} {p4 : _} (h : Keeps s0 s) : Keeps s0 (fwReadAudit p1 p2 p3 p4 s).2 := by
  unfold fwReadAudit
  refine fwRead_keeps ?_
  exact h

theorem fwGetLifecycle_keeps {s0 s : State} {p1 : _} {p2 : _} (h : Keeps s0 s) : Keeps s0 (fwGetLifecycle p1 p2 s).2 := by
  unfold fwGetLifecycle
  refine fwRead_keeps ?_
  exact h

theorem fwStageRead_keeps {s0 s : State} {p1 : _} {p2 : _} {p3 : _} {p4 : _} (h : Keeps s0 s) : Keeps s0 (fwStageRead p1 p2 p3 p4 s).2 := by
  unfold fwStageRead
  refine fwRun_keeps ?_ ?_
  · intro x1 h2
    dsimp only
    refine State.mdPort_keeps ?_
    exact h2
  · exact h

theorem fwStopInjection_keeps {s0 s : State} {p1 : _} {p2 : _} {p3 : _} (h : Keeps s0 s) : Keeps s0 (fwStopInjection p1 p2 p3 s).2 := by
  unfold fwStopInjection
  extract_lets +onlyGivenNames y1
  refine fwRun_keeps ?_ ?_
  · intro x2 h3
    dsimp only
    refine endInjection_keeps ?_
    exact h3
  · exact h

theorem sessionOpen_keeps {s0 s : State} {p1 : _} {p2 : _} {p3 : _} {p4 : _} (h : Keeps s0 s) : Keeps s0 (sessionOpen p1 p2 p3 p4 s).2 := by
  unfold sessionOpen
  extract_lets +onlyGivenNames y1
  extract_lets +onlyGivenNames y2
  extract_lets +onlyGivenNames y3
  extract_lets +onlyGivenNames y4
  have h4 : Keeps s0 y4 := by
    unfold y4
    refine State.mdChan_keeps ?_
    refine State.drawn_keeps ?_
    exact h
  clear_value y4
  dsimp only
  refine raiseChan_keeps ?_
  exact h4

theorem fwGetFrf_keeps {s0 s : State} {p1 : _} {p2 : _} {p3 : _} {p4 : _} {p5 : _} (h : Keeps s0 s) : Keeps s0 (fwGetFrf p1 p2 p3 p4 p5 s).2 := by
  unfold fwGetFrf
  extract_lets +onlyGivenNames y1
  extract_lets +onlyGivenNames y2
  refine fwRun_keeps ?_ ?_
  · intro x3 h4
    dsimp only
    exact Keeps.same h4 rfl rfl rfl
  · exact h

theorem fwAcceptHandover_keeps {s0 s : State} {p1 : _} {p2 : _} {p3 : _} (h : Keeps s0 s) : Keeps s0 (fwAcceptHandover p1 p2 p3 s).2 := by
  unfold fwAcceptHandover
  extract_lets +onlyGivenNames y1
  refine fwRun_keeps ?_ ?_
  · intro x2 h3
    extract_lets +onlyGivenNames y4
    dsimp only
    refine raiseChan_keeps ?_
    refine State.mdSc_keeps ?_
    exact h3
  · exact h

theorem withdrawStaged_keeps {s0 s : State} {p1 : _} (h : Keeps s0 s) : Keeps s0 (withdrawStaged p1 s) := by
  unfold withdrawStaged
  extract_lets +onlyGivenNames y1
  extract_lets +onlyGivenNames y2
  extract_lets +onlyGivenNames y3
  extract_lets +onlyGivenNames y4
  have h4 : Keeps s0 y4 := by
    unfold y4
    exact Keeps.same h rfl rfl rfl
  clear_value y4
  refine Keeps.foldl ?_ ?_
  · exact h4
  · intro x5 a6 h7
    refine endTicket_keeps ?_
    exact h7

theorem fwFaultAck_keeps {s0 s : State} {p1 : _} {p2 : _} {p3 : _} (h : Keeps s0 s) : Keeps s0 (fwFaultAck p1 p2 p3 s).2 := by
  unfold fwFaultAck
  extract_lets +onlyGivenNames y1
  extract_lets +onlyGivenNames y2
  refine fwRun_keeps ?_ ?_
  · intro x3 h4
    dsimp only
    split
    · refine State.mdSc_keeps ?_
      exact h4
    · exact h4
  · exact h

theorem fwGetMovePlan_keeps {s0 s : State} {p1 : _} {p2 : _} {p3 : _} (h : Keeps s0 s) : Keeps s0 (fwGetMovePlan p1 p2 p3 s).2 := by
  unfold fwGetMovePlan
  refine fwRead_keeps ?_
  exact h

theorem fwGetPlan_keeps {s0 s : State} {p1 : _} {p2 : _} {p3 : _} {p4 : _} (h : Keeps s0 s) : Keeps s0 (fwGetPlan p1 p2 p3 p4 s).2 := by
  unfold fwGetPlan
  refine fwRead_keeps ?_
  exact h

theorem fwGetIdentity_keeps {s0 s : State} {p1 : _} {p2 : _} (h : Keeps s0 s) : Keeps s0 (fwGetIdentity p1 p2 s).2 := by
  unfold fwGetIdentity
  refine fwRead_keeps ?_
  exact h

theorem fwSetPath_keeps {s0 s : State} {p1 : _} {p2 : _} {p3 : _} {p4 : _} (h : Keeps s0 s) : Keeps s0 (fwSetPath p1 p2 p3 p4 s).2 := by
  unfold fwSetPath
  extract_lets +onlyGivenNames y1
  extract_lets +onlyGivenNames y2
  extract_lets +onlyGivenNames y3
  extract_lets +onlyGivenNames y4
  extract_lets +onlyGivenNames y5
  refine fwRun_keeps ?_ ?_
  · intro x6 h7
    extract_lets +onlyGivenNames y8
    dsimp only
    refine State.mdPlr_keeps ?_
    split
    · refine mirSend_keeps ?_
      exact h7
    · exact h7
  · exact h

theorem stageFor_keeps {s0 s : State} {p1 : _} {p2 : _} {p3 : _} {p4 : _} {p5 : _} (h : Keeps s0 s) : Keeps s0 (stageFor p1 p2 p3 p4 p5 s) := by
  unfold stageFor
  refine stagePut_keeps ?_
  exact h

theorem fwGetPair_keeps {s0 s : State} {p1 : _} {p2 : _} (h : Keeps s0 s) : Keeps s0 (fwGetPair p1 p2 s).2 := by
  unfold fwGetPair
  refine fwRead_keeps ?_
  exact h

theorem fwGetCalibration_keeps {s0 s : State} {p1 : _} {p2 : _} {p3 : _} (h : Keeps s0 s) : Keeps s0 (fwGetCalibration p1 p2 p3 s).2 := by
  unfold fwGetCalibration
  refine fwRead_keeps ?_
  exact h

theorem fwGetHealth_keeps {s0 s : State} {p1 : _} {p2 : _} (h : Keeps s0 s) : Keeps s0 (fwGetHealth p1 p2 s).2 := by
  unfold fwGetHealth
  refine fwRead_keeps ?_
  exact h

theorem fwReadParam_keeps {s0 s : State} {p1 : _} {p2 : _} {p3 : _} {p4 : _} {p5 : _} {p6 : _} (h : Keeps s0 s) : Keeps s0 (fwReadParam p1 p2 p3 p4 p5 p6 s).2 := by
  unfold fwReadParam
  extract_lets +onlyGivenNames y1
  refine fwRead_keeps ?_
  exact h

theorem stageWait_keeps {s0 s : State} {p1 : _} {p2 : _} {p3 : _} {p4 : _} (h : Keeps s0 s) : Keeps s0 (stageWait p1 p2 p3 p4 s).2 := by
  unfold stageWait
  dsimp only
  refine stageFor_keeps ?_
  exact h

theorem fwEnterService_keeps {s0 s : State} {p1 : _} {p2 : _} {p3 : _} {p4 : _} (h : Keeps s0 s) : Keeps s0 (fwEnterService p1 p2 p3 p4 s).2 := by
  unfold fwEnterService
  refine fwRun_keeps ?_ ?_
  · intro x1 h2
    split
    rename_i x3 e4
    have h5 : Keeps s0 x3 := by
      refine Keeps.of_pair e4 ?_
      refine passTest_keeps ?_
      exact h2
    extract_lets +onlyGivenNames y6
    extract_lets +onlyGivenNames y7
    have h7 : Keeps s0 y7 := by
      unfold y7
      refine setMode_keeps ?_
      exact Keeps.same h5 rfl rfl rfl
    clear_value y7
    extract_lets +onlyGivenNames y8
    have h8 : Keeps s0 y8 := by
      unfold y8
      split
      · exact h5
      · refine raiseEv_keeps ?_
        exact h7
    clear_value y8
    dsimp only
    exact h8
  · exact h

theorem fwEnable_keeps {s0 s : State} {p1 : _} {p2 : _} {p3 : _} (h : Keeps s0 s) : Keeps s0 (fwEnable p1 p2 p3 s).2 := by
  unfold fwEnable
  extract_lets +onlyGivenNames y1
  extract_lets +onlyGivenNames y2
  refine fwRun_keeps ?_ ?_
  · intro x3 h4
    split
    · dsimp only
      exact h4
    · refine stageWait_keeps ?_
      exact h4
  · exact h

theorem execReq_keeps {s0 s : State} {p1 p2 p3 : Nat} {p4 : Option Nat} {p5 : Option (Nat × Nat)} {p6 : State → FwRes} (hf : ∀ x, Keeps s0 x → Keeps s0 (p6 x).2) (h : Keeps s0 s) : Keeps s0 (execReq p1 p2 p3 p4 p5 p6 s) := by
  unfold execReq
  extract_lets y1 y2 w
  have hw : ∀ r x, Keeps s0 x → Keeps s0 (w r x) := by
    intro r x hx
    unfold w
    split
    · exact writeRsp_keeps hx
    · exact hx
  clear_value w
  split
  rename_i r t e
  have ht : Keeps s0 t := Keeps.of_pair e (hf s h)
  split
  · extract_lets z
    have hz : Keeps s0 z := State.mdChan_keeps ht
    split
    · exact hw _ _ (storeRsp_keeps hz)
    · exact State.mdChan_keeps hz
  · exact hw _ _ (State.mdChan_keeps ht)

theorem fwWriteParam_keeps {s0 s : State} {p1 : _} {p2 : _} {p3 : _} {p4 : _} {p5 : _} {p6 : _} (h : Keeps s0 s) : Keeps s0 (fwWriteParam p1 p2 p3 p4 p5 p6 s).2 := by
  unfold fwWriteParam
  extract_lets +onlyGivenNames y1
  extract_lets +onlyGivenNames y2
  extract_lets +onlyGivenNames y3
  extract_lets +onlyGivenNames y4
  refine fwRun_keeps ?_ ?_
  · intro x5 h6
    dsimp only
    refine stageParam_keeps ?_
    exact h6
  · exact h

theorem fwGetSizing_keeps {s0 s : State} {p1 : _} {p2 : _} {p3 : _} (h : Keeps s0 s) : Keeps s0 (fwGetSizing p1 p2 p3 s).2 := by
  unfold fwGetSizing
  refine fwRead_keeps ?_
  exact h

theorem stageSet_keeps {s0 s : State} {p1 : _} {p2 : _} {p3 : _} {p4 : _} {p5 : _} (h : Keeps s0 s) : Keeps s0 (stageSet p1 p2 p3 p4 p5 s) := by
  unfold stageSet
  extract_lets +onlyGivenNames y1
  extract_lets +onlyGivenNames y2
  extract_lets +onlyGivenNames y3
  extract_lets +onlyGivenNames y4
  extract_lets +onlyGivenNames y5
  have h5 : Keeps s0 y5 := by
    unfold y5
    exact Keeps.same h rfl rfl rfl
  clear_value y5
  split
  · extract_lets +onlyGivenNames y6
    refine mirDelta_keeps ?_
    refine mirDelta_keeps ?_
    exact Keeps.same h5 rfl rfl rfl
  · exact h5

theorem fwEnterPlanned_keeps {s0 s : State} {p1 : _} {p2 : _} {p3 : _} (h : Keeps s0 s) : Keeps s0 (fwEnterPlanned p1 p2 p3 s).2 := by
  unfold fwEnterPlanned
  extract_lets +onlyGivenNames y1
  extract_lets +onlyGivenNames y2
  extract_lets +onlyGivenNames y3
  refine fwRun_keeps ?_ ?_
  · intro x4 h5
    refine stageWait_keeps ?_
    exact h5
  · exact h

theorem fwGetSetInfo_keeps {s0 s : State} {p1 : _} {p2 : _} (h : Keeps s0 s) : Keeps s0 (fwGetSetInfo p1 p2 s).2 := by
  unfold fwGetSetInfo
  refine fwRead_keeps ?_
  exact h

theorem fwGetAxis_keeps {s0 s : State} {p1 : _} {p2 : _} {p3 : _} (h : Keeps s0 s) : Keeps s0 (fwGetAxis p1 p2 p3 s).2 := by
  unfold fwGetAxis
  refine fwRead_keeps ?_
  exact h

theorem fwLeavePlanned_keeps {s0 s : State} {p1 : _} {p2 : _} {p3 : _} (h : Keeps s0 s) : Keeps s0 (fwLeavePlanned p1 p2 p3 s).2 := by
  unfold fwLeavePlanned
  extract_lets +onlyGivenNames y1
  refine fwRun_keeps ?_ ?_
  · intro x2 h3
    refine stageWait_keeps ?_
    exact h3
  · exact h

theorem fwConfirm_keeps {s0 s : State} {p1 : _} {p2 : _} {p3 : _} {p4 : _} {p5 : _} (h : Keeps s0 s) : Keeps s0 (fwConfirm p1 p2 p3 p4 p5 s).2 := by
  unfold fwConfirm
  refine fwRun_keeps ?_ ?_
  · intro x1 h2
    extract_lets +onlyGivenNames y3
    extract_lets +onlyGivenNames y4
    extract_lets +onlyGivenNames y5
    split
    rename_i x6 e7
    have h8 : Keeps s0 x6 := by
      refine Keeps.of_pair e7 ?_
      split
      · dsimp only
        exact h2
      · split
        · dsimp only
          exact h2
        · split
          · dsimp only
            exact h2
          · refine passTest_keeps ?_
            exact h2
    extract_lets +onlyGivenNames y9
    extract_lets +onlyGivenNames y10
    have h10 : Keeps s0 y10 := by
      unfold y10
      refine secTouch_keeps ?_
      exact Keeps.same h8 rfl rfl rfl
    clear_value y10
    extract_lets +onlyGivenNames y11
    have h11 : Keeps s0 y11 := by
      unfold y11
      split
      · exact h8
      · split
        · refine State.mdChan_keeps ?_
          exact h8
        · split
          · refine setMode_keeps ?_
            exact h10
          · exact h10
    clear_value y11
    extract_lets +onlyGivenNames y12
    have h12 : Keeps s0 y12 := by
      unfold y12
      refine addAudit_keeps ?_
      refine raiseEv_keeps ?_
      exact h11
    clear_value y12
    dsimp only
    exact h12
  · exact h

theorem fwGetResult_keeps {s0 s : State} {p1 : _} {p2 : _} {p3 : _} (h : Keeps s0 s) : Keeps s0 (fwGetResult p1 p2 p3 s).2 := by
  unfold fwGetResult
  refine fwRead_keeps ?_
  exact h

theorem authTest_keeps {s0 s : State} {p1 : _} {p2 : _} (h : Keeps s0 s) : Keeps s0 (authTest p1 p2 s).2 := by
  unfold authTest
  split
  · refine passTest_keeps ?_
    exact h
  · split
    · dsimp only
      exact h
    · split
      · dsimp only
        exact h
      · dsimp only
        exact h

theorem abandonPairing_keeps {s0 s : State} (h : Keeps s0 s) : Keeps s0 (abandonPairing s) := by
  unfold abandonPairing
  extract_lets +onlyGivenNames y1
  extract_lets +onlyGivenNames y2
  have h2 : Keeps s0 y2 := by
    unfold y2
    exact Keeps.same h rfl rfl rfl
  clear_value y2
  split
  · refine endTicket_keeps ?_
    exact h2
  · exact h2

theorem fwUnpair_keeps {s0 s : State} {p1 : _} {p2 : _} (h : Keeps s0 s) : Keeps s0 (fwUnpair p1 p2 s).2 := by
  unfold fwUnpair
  refine fwRun_keeps ?_ ?_
  · intro x1 h2
    dsimp only
    split
    · exact h2
    · refine Keeps.same (t := abandonPairing x1) ?_ rfl rfl rfl
      refine abandonPairing_keeps ?_
      exact h2
  · exact h

theorem ticketFor_keeps {s0 s : State} {p1 : _} {p2 : _} (h : Keeps s0 s) : Keeps s0 (ticketFor p1 p2 s).2 := by
  unfold ticketFor
  split
  · refine newTicket_keeps ?_
    exact h
  · dsimp only
    exact h

theorem fwDisable_keeps {s0 s : State} {p1 : _} {p2 : _} {p3 : _} (h : Keeps s0 s) : Keeps s0 (fwDisable p1 p2 p3 s).2 := by
  unfold fwDisable
  refine fwRun_keeps ?_ ?_
  · intro x1 h2
    refine stageWait_keeps ?_
    exact h2
  · exact h

theorem fwJog_keeps {s0 s : State} {p1 : _} {p2 : _} {p3 : _} {p4 : _} (h : Keeps s0 s) : Keeps s0 (fwJog p1 p2 p3 p4 s).2 := by
  unfold fwJog
  refine fwRun_keeps ?_ ?_
  · intro x1 h2
    refine stageWait_keeps ?_
    exact h2
  · exact h

theorem fwModeChange_keeps {s0 s : State} {p1 : _} {p2 : _} {p3 : _} (h : Keeps s0 s) : Keeps s0 (fwModeChange p1 p2 p3 s).2 := by
  unfold fwModeChange
  refine fwRun_keeps ?_ ?_
  · intro x1 h2
    split
    rename_i x3 e4
    have h5 : Keeps s0 x3 := by
      refine Keeps.of_pair e4 ?_
      refine ticketFor_keeps ?_
      exact h2
    dsimp only
    exact Keeps.same h5 rfl rfl rfl
  · exact h

theorem fwStopCapture_keeps {s0 s : State} {p1 : _} {p2 : _} {p3 : _} (h : Keeps s0 s) : Keeps s0 (fwStopCapture p1 p2 p3 s).2 := by
  unfold fwStopCapture
  extract_lets +onlyGivenNames y1
  refine fwRun_keeps ?_ ?_
  · intro x2 h3
    dsimp only
    split
    · exact h3
    · split
      · exact Keeps.same h3 rfl rfl rfl
      · refine stopCap_keeps ?_
        exact h3
  · exact h

theorem disableOwned_keeps {s0 s : State} {p1 : _} {p2 : _} (h : Keeps s0 s) : Keeps s0 (disableOwned p1 p2 s) := by
  unfold disableOwned
  refine Keeps.foldl ?_ ?_
  · exact h
  · intro x1 a2 h3
    split
    · refine stageFor_keeps ?_
      exact h3
    · exact h3

theorem fwMove_keeps {s0 s : State} {p1 : _} {p2 : _} {p3 : _} {p4 : _} {p5 : _} (h : Keeps s0 s) : Keeps s0 (fwMove p1 p2 p3 p4 p5 s).2 := by
  unfold fwMove
  refine fwRun_keeps ?_ ?_
  · intro x1 h2
    refine stageWait_keeps ?_
    exact h2
  · exact h

theorem fwWriteValue_keeps {s0 s : State} {p1 : _} {p2 : _} {p3 : _} {p4 : _} (h : Keeps s0 s) : Keeps s0 (fwWriteValue p1 p2 p3 p4 s).2 := by
  unfold fwWriteValue
  refine fwRun_keeps ?_ ?_
  · intro x1 h2
    dsimp only
    refine writeTx_keeps ?_
    exact h2
  · exact h

theorem fwCastle_keeps {s0 s : State} {p1 : _} {p2 : _} (h : Keeps s0 s) : Keeps s0 (fwCastle p1 p2 s).2 := by
  unfold fwCastle
  refine fwRun_keeps ?_ ?_
  · intro x1 h2
    split
    rename_i x3 e4
    have h5 : Keeps s0 x3 := by
      refine Keeps.of_pair e4 ?_
      refine ticketFor_keeps ?_
      exact h2
    dsimp only
    refine castleStart_keeps ?_
    exact h5
  · exact h

theorem fwRemoveEngineer_keeps {s0 s : State} {p1 : _} {p2 : _} {p3 : _} {p4 : _} {p5 : _} (h : Keeps s0 s) : Keeps s0 (fwRemoveEngineer p1 p2 p3 p4 p5 s).2 := by
  unfold fwRemoveEngineer
  extract_lets +onlyGivenNames y1
  refine fwRun_keeps ?_ ?_
  · intro x2 h3
    split
    rename_i x4 e5
    have h6 : Keeps s0 x4 := by
      refine Keeps.of_pair e5 ?_
      split
      · dsimp only
        exact h3
      · refine authTest_keeps ?_
        exact h3
    extract_lets +onlyGivenNames y7
    extract_lets +onlyGivenNames y8
    extract_lets +onlyGivenNames y9
    extract_lets +onlyGivenNames y10
    have h10 : Keeps s0 y10 := by
      unfold y10
      split
      · exact h6
      · refine secTouch_keeps ?_
        exact Keeps.same h6 rfl rfl rfl
    clear_value y10
    dsimp only
    refine addAudit_keeps ?_
    exact h10
  · exact h

theorem fwStop_keeps {s0 s : State} {p1 : _} {p2 : _} {p3 : _} (h : Keeps s0 s) : Keeps s0 (fwStop p1 p2 p3 s).2 := by
  unfold fwStop
  refine fwRun_keeps ?_ ?_
  · intro x1 h2
    refine stageWait_keeps ?_
    exact h2
  · exact h

theorem fwChannelDisable_keeps {s0 s : State} {p1 : _} {p2 : _} {p3 : _} (h : Keeps s0 s) : Keeps s0 (fwChannelDisable p1 p2 p3 s).2 := by
  unfold fwChannelDisable
  refine fwRun_keeps ?_ ?_
  · intro x1 h2
    refine stageWait_keeps ?_
    exact h2
  · exact h

theorem fwSetLimits_keeps {s0 s : State} {p1 : _} {p2 : _} {p3 : _} {p4 : _} {p5 : _} {p6 : _} {p7 : _} {p8 : _} (h : Keeps s0 s) : Keeps s0 (fwSetLimits p1 p2 p3 p4 p5 p6 p7 p8 s).2 := by
  unfold fwSetLimits
  extract_lets +onlyGivenNames y1
  extract_lets +onlyGivenNames y2
  extract_lets +onlyGivenNames y3
  refine fwRun_keeps ?_ ?_
  · intro x4 h5
    refine stageWait_keeps ?_
    exact h5
  · exact h

theorem fwGear_keeps {s0 s : State} {p1 : _} {p2 : _} {p3 : _} {p4 : _} {p5 : _} {p6 : _} {p7 : _} {p8 : _} {p9 : _} {p10 : _} (h : Keeps s0 s) : Keeps s0 (fwGear p1 p2 p3 p4 p5 p6 p7 p8 p9 p10 s).2 := by
  unfold fwGear
  extract_lets +onlyGivenNames y1
  extract_lets +onlyGivenNames y2
  refine fwRun_keeps ?_ ?_
  · intro x3 h4
    refine stageWait_keeps ?_
    exact h4
  · exact h

theorem fwSetEngineer_keeps {s0 s : State} {p1 : _} {p2 : _} {p3 : _} {p4 : _} {p5 : _} {p6 : _} (h : Keeps s0 s) : Keeps s0 (fwSetEngineer p1 p2 p3 p4 p5 p6 s).2 := by
  unfold fwSetEngineer
  extract_lets +onlyGivenNames y1
  refine fwRun_keeps ?_ ?_
  · intro x2 h3
    split
    rename_i x4 e5
    have h6 : Keeps s0 x4 := by
      refine Keeps.of_pair e5 ?_
      split
      · dsimp only
        exact h3
      · refine authTest_keeps ?_
        exact h3
    extract_lets +onlyGivenNames y7
    extract_lets +onlyGivenNames y8
    extract_lets +onlyGivenNames y9
    have h9 : Keeps s0 y9 := by
      unfold y9
      refine State.drawn_keeps ?_
      exact h6
    clear_value y9
    extract_lets +onlyGivenNames y10
    extract_lets +onlyGivenNames y11
    have h11 : Keeps s0 y11 := by
      unfold y11
      split
      · exact h6
      · refine secTouch_keeps ?_
        exact Keeps.same h9 rfl rfl rfl
    clear_value y11
    dsimp only
    refine addAudit_keeps ?_
    exact h11
  · exact h

theorem fwPairBegin_keeps {s0 s : State} {p1 : _} {p2 : _} (h : Keeps s0 s) : Keeps s0 (fwPairBegin p1 p2 s).2 := by
  unfold fwPairBegin
  extract_lets +onlyGivenNames y1
  refine fwRun_keeps ?_ ?_
  · intro x2 h3
    split
    rename_i x4 e5
    have h6 : Keeps s0 x4 := by
      refine Keeps.of_pair e5 ?_
      refine ticketFor_keeps ?_
      exact h3
    extract_lets +onlyGivenNames y7
    extract_lets +onlyGivenNames y8
    extract_lets +onlyGivenNames y9
    have h9 : Keeps s0 y9 := by
      unfold y9
      exact Keeps.same h6 rfl rfl rfl
    clear_value y9
    dsimp only
    refine sendParams_keeps ?_
    exact h9
  · exact h

theorem fwStepFollow_keeps {s0 s : State} {p1 : _} {p2 : _} {p3 : _} {p4 : _} {p5 : _} (h : Keeps s0 s) : Keeps s0 (fwStepFollow p1 p2 p3 p4 p5 s).2 := by
  unfold fwStepFollow
  extract_lets +onlyGivenNames y1
  refine fwRun_keeps ?_ ?_
  · intro x2 h3
    refine stageWait_keeps ?_
    exact h3
  · exact h

theorem fwStartInjection_keeps {s0 s : State} {p1 : _} {p2 : _} {p3 : _} {p4 : _} {p5 : _} {p6 : _} {p7 : _} {p8 : _} {p9 : _} {p10 : _} {p11 : _} {p12 : _} {p13 : _} {p14 : _} (h : Keeps s0 s) : Keeps s0 (fwStartInjection p1 p2 p3 p4 p5 p6 p7 p8 p9 p10 p11 p12 p13 p14 s).2 := by
  unfold fwStartInjection
  extract_lets +onlyGivenNames y1
  extract_lets +onlyGivenNames y2
  extract_lets +onlyGivenNames y3
  extract_lets +onlyGivenNames y4
  refine fwRun_keeps ?_ ?_
  · intro x5 h6
    extract_lets +onlyGivenNames y7
    split
    rename_i x8 e9
    have h10 : Keeps s0 x8 := by
      refine Keeps.of_pair e9 ?_
      refine ticketFor_keeps ?_
      exact h6
    extract_lets +onlyGivenNames y11
    have h11 : Keeps s0 y11 := by
      unfold y11
      refine putCap_keeps ?_
      exact h10
    clear_value y11
    extract_lets +onlyGivenNames y12
    extract_lets +onlyGivenNames y13
    have h13 : Keeps s0 y13 := by
      unfold y13
      exact Keeps.same h11 rfl rfl rfl
    clear_value y13
    dsimp only
    refine stageFor_keeps ?_
    exact h13
  · exact h

theorem fwCommit_keeps {s0 s : State} {p1 : _} {p2 : _} {p3 : _} (h : Keeps s0 s) : Keeps s0 (fwCommit p1 p2 p3 s).2 := by
  unfold fwCommit
  extract_lets +onlyGivenNames y1
  refine fwRun_keeps ?_ ?_
  · intro x2 h3
    extract_lets +onlyGivenNames y4
    extract_lets +onlyGivenNames y5
    extract_lets +onlyGivenNames y6
    have h6 : Keeps s0 y6 := by
      unfold y6
      refine State.mdChan_keeps ?_
      exact h3
    clear_value y6
    split
    · dsimp only
      refine stageSet_keeps ?_
      exact h6
    · split
      rename_i x7 e8
      have h9 : Keeps s0 x7 := by
        refine Keeps.of_pair e8 ?_
        refine ticketFor_keeps ?_
        exact h6
      extract_lets +onlyGivenNames y10
      extract_lets +onlyGivenNames y11
      have h11 : Keeps s0 y11 := by
        unfold y11
        exact Keeps.same h9 rfl rfl rfl
      clear_value y11
      dsimp only
      refine stageSet_keeps ?_
      exact h11
  · exact h

theorem fwChannelEnable_keeps {s0 s : State} {p1 : _} {p2 : _} {p3 : _} (h : Keeps s0 s) : Keeps s0 (fwChannelEnable p1 p2 p3 s).2 := by
  unfold fwChannelEnable
  extract_lets +onlyGivenNames y1
  refine fwRun_keeps ?_ ?_
  · intro x2 h3
    split
    · dsimp only
      exact h3
    · refine stageWait_keeps ?_
      exact h3
  · exact h

theorem answerAll_keeps {s0 s : State} {p1 : _} {p2 : _} (h : Keeps s0 s) : Keeps s0 (answerAll p1 p2 s) := by
  unfold answerAll
  extract_lets +onlyGivenNames y1
  have h1 : Keeps s0 y1 := by
    unfold y1
    refine Keeps.foldl ?_ ?_
    · exact h
    · intro x2 a3 h4
      refine answer_keeps ?_
      exact h4
  clear_value y1
  exact Keeps.same h1 rfl rfl rfl

theorem execFlashWriteDone_keeps {s0 s : State} {p1 : _} (h : Keeps s0 s) : KeepsOut s0 (execFlashWriteDone p1 s) := by
  unfold execFlashWriteDone
  refine KeepsOut.next ?_
  split
  · exact h
  · extract_lets +onlyGivenNames y1
    extract_lets +onlyGivenNames y2
    have h2 : Keeps s0 y2 := by
      unfold y2
      exact Keeps.same h rfl rfl rfl
    clear_value y2
    split
    · refine finishTicket_keeps ?_
      exact h2
    · extract_lets +onlyGivenNames y3
      extract_lets +onlyGivenNames y4
      extract_lets +onlyGivenNames y5
      have h5 : Keeps s0 y5 := by
        unfold y5
        exact Keeps.same h2 rfl rfl rfl
      clear_value y5
      refine finishTicket_keeps ?_
      refine raiseEv_keeps ?_
      exact h5

theorem fwResume_keeps {s0 s : State} {p1 : _} {p2 : _} {p3 : _} (h : Keeps s0 s) : Keeps s0 (fwResume p1 p2 p3 s).2 := by
  unfold fwResume
  refine fwRun_keeps ?_ ?_
  · intro x1 h2
    refine stageWait_keeps ?_
    exact h2
  · exact h

theorem fwHome_keeps {s0 s : State} {p1 : _} {p2 : _} {p3 : _} {p4 : _} {p5 : _} {p6 : _} {p7 : _} {p8 : _} {p9 : _} (h : Keeps s0 s) : Keeps s0 (fwHome p1 p2 p3 p4 p5 p6 p7 p8 p9 s).2 := by
  unfold fwHome
  extract_lets +onlyGivenNames y1
  extract_lets +onlyGivenNames y2
  extract_lets +onlyGivenNames y3
  refine fwRun_keeps ?_ ?_
  · intro x4 h5
    split
    rename_i x6 e7
    have h8 : Keeps s0 x6 := by
      refine Keeps.of_pair e7 ?_
      refine ticketFor_keeps ?_
      exact h5
    extract_lets +onlyGivenNames y9
    dsimp only
    refine stageFor_keeps ?_
    exact h8
  · exact h

theorem fwBrakeTest_keeps {s0 s : State} {p1 : _} {p2 : _} {p3 : _} (h : Keeps s0 s) : Keeps s0 (fwBrakeTest p1 p2 p3 s).2 := by
  unfold fwBrakeTest
  extract_lets +onlyGivenNames y1
  extract_lets +onlyGivenNames y2
  refine fwRun_keeps ?_ ?_
  · intro x3 h4
    split
    rename_i x5 e6
    have h7 : Keeps s0 x5 := by
      refine Keeps.of_pair e6 ?_
      refine ticketFor_keeps ?_
      exact h4
    dsimp only
    refine stageFor_keeps ?_
    exact h7
  · exact h

theorem fwStopTest_keeps {s0 s : State} {p1 : _} {p2 : _} {p3 : _} (h : Keeps s0 s) : Keeps s0 (fwStopTest p1 p2 p3 s).2 := by
  unfold fwStopTest
  extract_lets +onlyGivenNames y1
  refine fwRun_keeps ?_ ?_
  · intro x2 h3
    split
    rename_i x4 e5
    have h6 : Keeps s0 x4 := by
      refine Keeps.of_pair e5 ?_
      refine ticketFor_keeps ?_
      exact h3
    dsimp only
    refine stageFor_keeps ?_
    exact h6
  · exact h

theorem sessionEnd_keeps {s0 s : State} {p1 : _} {p2 : _} (h : Keeps s0 s) : Keeps s0 (sessionEnd p1 p2 s) := by
  unfold sessionEnd
  split
  · exact h
  · extract_lets +onlyGivenNames y1
    extract_lets +onlyGivenNames y2
    have h2 : Keeps s0 y2 := by
      unfold y2
      refine withdrawStaged_keeps ?_
      refine answerAll_keeps ?_
      exact h
    clear_value y2
    extract_lets +onlyGivenNames y3
    have h3 : Keeps s0 y3 := by
      unfold y3
      refine cancelRuns_keeps ?_
      exact h2
    clear_value y3
    extract_lets +onlyGivenNames y4
    extract_lets +onlyGivenNames y5
    extract_lets +onlyGivenNames y6
    have h6 : Keeps s0 y6 := by
      unfold y6
      exact Keeps.same h3 rfl rfl rfl
    clear_value y6
    extract_lets +onlyGivenNames y7
    have h7 : Keeps s0 y7 := by
      unfold y7
      refine disableOwned_keeps ?_
      exact h6
    clear_value y7
    extract_lets +onlyGivenNames y8
    have h8 : Keeps s0 y8 := by
      unfold y8
      refine State.mdChan_keeps ?_
      exact h7
    clear_value y8
    refine raiseChan_keeps ?_
    refine mirDelta_keeps ?_
    exact h8

theorem fwCloseSession_keeps {s0 s : State} {p1 : _} {p2 : _} (h : Keeps s0 s) : Keeps s0 (fwCloseSession p1 p2 s).2 := by
  unfold fwCloseSession
  refine fwRun_keeps ?_ ?_
  · intro x1 h2
    dsimp only
    refine sessionEnd_keeps ?_
    exact h2
  · exact h

theorem fwPairConfirm_keeps {s0 s : State} {p1 : _} {p2 : _} {p3 : _} {p4 : _} {p5 : _} (h : Keeps s0 s) : Keeps s0 (fwPairConfirm p1 p2 p3 p4 p5 s).2 := by
  unfold fwPairConfirm
  extract_lets +onlyGivenNames y1
  extract_lets +onlyGivenNames y2
  extract_lets +onlyGivenNames y3
  refine fwRun_keeps ?_ ?_
  · intro x4 h5
    split
    rename_i x6 e7
    have h8 : Keeps s0 x6 := by
      refine Keeps.of_pair e7 ?_
      refine passTest_keeps ?_
      exact h5
    split
    · dsimp only
      exact h8
    · extract_lets +onlyGivenNames y9
      extract_lets +onlyGivenNames y10
      extract_lets +onlyGivenNames y11
      have h11 : Keeps s0 y11 := by
        unfold y11
        refine mirSend_keeps ?_
        refine State.drawn_keeps ?_
        exact h8
      clear_value y11
      extract_lets +onlyGivenNames y12
      extract_lets +onlyGivenNames y13
      have h13 : Keeps s0 y13 := by
        unfold y13
        refine secTouch_keeps ?_
        exact Keeps.same h11 rfl rfl rfl
      clear_value y13
      extract_lets +onlyGivenNames y14
      have h14 : Keeps s0 y14 := by
        unfold y14
        refine raiseEv_keeps ?_
        refine addAudit_keeps ?_
        exact h13
      clear_value y14
      dsimp only
      refine shadowTo_keeps ?_
      exact h14
  · exact h

theorem lapse_keeps {s0 s : State} {p1 : _} {p2 : _} (h : Keeps s0 s) : Keeps s0 (lapse p1 p2 s) := by
  unfold lapse
  split
  · refine sessionEnd_keeps ?_
    exact h
  · exact h

theorem hostRow_keeps {s0 s : State} {p1 p2 : Nat} {p3 : State → FwRes} (hf : ∀ x, Keeps s0 x → Keeps s0 (p3 x).2) (h : Keeps s0 s) : KeepsOut s0 (hostRow p1 p2 p3 s) := by
  unfold hostRow
  refine KeepsOut.onUnit (KeepsOut.next ?_)
  split
  · exact h
  · extract_lets y1
    have h1 : Keeps s0 y1 := lapse_keeps h
    split
    · exact State.mdChan_keeps h1
    · split
      · exact State.mdChan_keeps h1
      · exact execReq_keeps hf (State.mdChan_keeps (State.drawn_keeps h1))

theorem execSetEngineer_keeps {s0 s : State} {p1 : _} {p2 : _} {p3 : _} {p4 : _} {p5 : _} (h : Keeps s0 s) : KeepsOut s0 (execSetEngineer p1 p2 p3 p4 p5 s) := by
  unfold execSetEngineer
  refine hostRow_keeps ?_ ?_
  · intro x1 h2
    refine fwSetEngineer_keeps ?_
    exact h2
  · exact h

theorem execGetSetInfo_keeps {s0 s : State} {p1 : _} (h : Keeps s0 s) : KeepsOut s0 (execGetSetInfo p1 s) := by
  unfold execGetSetInfo
  refine hostRow_keeps ?_ ?_
  · intro x1 h2
    refine fwGetSetInfo_keeps ?_
    exact h2
  · exact h

theorem execCancelTicket_keeps {s0 s : State} {p1 : _} {p2 : _} (h : Keeps s0 s) : KeepsOut s0 (execCancelTicket p1 p2 s) := by
  unfold execCancelTicket
  refine hostRow_keeps ?_ ?_
  · intro x1 h2
    refine fwCancelTicket_keeps ?_
    exact h2
  · exact h

theorem execEnterService_keeps {s0 s : State} {p1 : _} {p2 : _} {p3 : _} (h : Keeps s0 s) : KeepsOut s0 (execEnterService p1 p2 p3 s) := by
  unfold execEnterService
  refine hostRow_keeps ?_ ?_
  · intro x1 h2
    refine fwEnterService_keeps ?_
    exact h2
  · exact h

theorem execPairBegin_keeps {s0 s : State} {p1 : _} (h : Keeps s0 s) : KeepsOut s0 (execPairBegin p1 s) := by
  unfold execPairBegin
  refine hostRow_keeps ?_ ?_
  · intro x1 h2
    refine fwPairBegin_keeps ?_
    exact h2
  · exact h

theorem execAcceptHandover_keeps {s0 s : State} {p1 : _} {p2 : _} (h : Keeps s0 s) : KeepsOut s0 (execAcceptHandover p1 p2 s) := by
  unfold execAcceptHandover
  refine hostRow_keeps ?_ ?_
  · intro x1 h2
    refine fwAcceptHandover_keeps ?_
    exact h2
  · exact h

theorem execCloseSet_keeps {s0 s : State} {p1 : _} (h : Keeps s0 s) : KeepsOut s0 (execCloseSet p1 s) := by
  unfold execCloseSet
  refine hostRow_keeps ?_ ?_
  · intro x1 h2
    refine fwCloseSet_keeps ?_
    exact h2
  · exact h

theorem execHandover_keeps {s0 s : State} {p1 : _} {p2 : _} {p3 : _} {p4 : _} (h : Keeps s0 s) : KeepsOut s0 (execHandover p1 p2 p3 p4 s) := by
  unfold execHandover
  refine hostRow_keeps ?_ ?_
  · intro x1 h2
    refine fwHandover_keeps ?_
    exact h2
  · exact h

theorem execClearSsmFlags_keeps {s0 s : State} {p1 : _} (h : Keeps s0 s) : KeepsOut s0 (execClearSsmFlags p1 s) := by
  unfold execClearSsmFlags
  refine hostRow_keeps ?_ ?_
  · intro x1 h2
    refine fwClearSsmFlags_keeps ?_
    exact h2
  · exact h

theorem execAbortSet_keeps {s0 s : State} {p1 : _} (h : Keeps s0 s) : KeepsOut s0 (execAbortSet p1 s) := by
  unfold execAbortSet
  refine hostRow_keeps ?_ ?_
  · intro x1 h2
    refine fwAbortSet_keeps ?_
    exact h2
  · exact h

theorem execConfirm_keeps {s0 s : State} {p1 : _} {p2 : _} {p3 : _} {p4 : _} (h : Keeps s0 s) : KeepsOut s0 (execConfirm p1 p2 p3 p4 s) := by
  unfold execConfirm
  refine hostRow_keeps ?_ ?_
  · intro x1 h2
    refine fwConfirm_keeps ?_
    exact h2
  · exact h

theorem execGetFrf_keeps {s0 s : State} {p1 : _} {p2 : _} {p3 : _} {p4 : _} (h : Keeps s0 s) : KeepsOut s0 (execGetFrf p1 p2 p3 p4 s) := by
  unfold execGetFrf
  refine hostRow_keeps ?_ ?_
  · intro x1 h2
    refine fwGetFrf_keeps ?_
    exact h2
  · exact h

theorem retireEffect_keeps {s0 s : State} (h : Keeps s0 s) : Keeps s0 (retireEffect s) := by
  unfold retireEffect
  extract_lets +onlyGivenNames y1
  extract_lets +onlyGivenNames y2
  extract_lets +onlyGivenNames y3
  have h3 : Keeps s0 y3 := by
    unfold y3
    exact Keeps.burnt h rfl id (Burns.retire _)
  clear_value y3
  extract_lets +onlyGivenNames y4
  have h4 : Keeps s0 y4 := by
    unfold y4
    refine wipe_keeps ?_
    refine raiseEv_keeps ?_
    exact h3
  clear_value y4
  refine ttcDrop_keeps ?_
  exact Keeps.same h4 rfl rfl rfl

theorem execWriteSeg_keeps {s0 s : State} {p1 : _} {p2 : _} {p3 : _} (h : Keeps s0 s) : KeepsOut s0 (execWriteSeg p1 p2 p3 s) := by
  unfold execWriteSeg
  refine hostRow_keeps ?_ ?_
  · intro x1 h2
    refine fwWriteSeg_keeps ?_
    exact h2
  · exact h

theorem execCastle_keeps {s0 s : State} {p1 : _} (h : Keeps s0 s) : KeepsOut s0 (execCastle p1 s) := by
  unfold execCastle
  refine hostRow_keeps ?_ ?_
  · intro x1 h2
    refine fwCastle_keeps ?_
    exact h2
  · exact h

theorem execModeChange_keeps {s0 s : State} {p1 : _} {p2 : _} (h : Keeps s0 s) : KeepsOut s0 (execModeChange p1 p2 s) := by
  unfold execModeChange
  refine hostRow_keeps ?_ ?_
  · intro x1 h2
    refine fwModeChange_keeps ?_
    exact h2
  · exact h

theorem execDisable_keeps {s0 s : State} {p1 : _} {p2 : _} (h : Keeps s0 s) : KeepsOut s0 (execDisable p1 p2 s) := by
  unfold execDisable
  refine hostRow_keeps ?_ ?_
  · intro x1 h2
    refine fwDisable_keeps ?_
    exact h2
  · exact h

theorem resumeEffect_keeps {s0 s : State} {p1 : _} (h : Keeps s0 s) : Keeps s0 (resumeEffect p1 s) := by
  unfold resumeEffect
  split
  · exact h
  · extract_lets +onlyGivenNames y1
    refine Keeps.foldl ?_ ?_
    · exact h
    · intro x2 a3 h4
      split
      · refine releaseStop_keeps ?_
        exact h4
      · refine protRelease_keeps ?_
        exact h4

theorem execWriteParam_keeps {s0 s : State} {p1 : _} {p2 : _} {p3 : _} {p4 : _} {p5 : _} (h : Keeps s0 s) : KeepsOut s0 (execWriteParam p1 p2 p3 p4 p5 s) := by
  unfold execWriteParam
  refine hostRow_keeps ?_ ?_
  · intro x1 h2
    refine fwWriteParam_keeps ?_
    exact h2
  · exact h

theorem execGetVerdict_keeps {s0 s : State} {p1 : _} {p2 : _} (h : Keeps s0 s) : KeepsOut s0 (execGetVerdict p1 p2 s) := by
  unfold execGetVerdict
  refine hostRow_keeps ?_ ?_
  · intro x1 h2
    refine fwGetVerdict_keeps ?_
    exact h2
  · exact h

theorem execClearSafetyFlags_keeps {s0 s : State} {p1 : _} (h : Keeps s0 s) : KeepsOut s0 (execClearSafetyFlags p1 s) := by
  unfold execClearSafetyFlags
  refine hostRow_keeps ?_ ?_
  · intro x1 h2
    refine fwClearSafetyFlags_keeps ?_
    exact h2
  · exact h

theorem openCore_keeps {s0 s : State} {p1 : _} {p2 : _} {p3 : _} {p4 : _} {p5 : _} (h : Keeps s0 s) : Keeps s0 (openCore p1 p2 p3 p4 p5 s).2.2 := by
  unfold openCore
  extract_lets +onlyGivenNames y1
  have h1 : Keeps s0 y1 := by
    unfold y1
    refine lapse_keeps ?_
    exact h
  clear_value y1
  extract_lets +onlyGivenNames y2
  split
  · dsimp only
    exact h1
  · split
    · dsimp only
      exact h1
    · split
      · dsimp only
        exact h1
      · split
        · dsimp only
          exact h1
        · extract_lets +onlyGivenNames y3
          have h3 : Keeps s0 y3 := by
            unfold y3
            refine sessionEnd_keeps ?_
            exact h1
          clear_value y3
          split
          rename_i x4 e5
          have h6 : Keeps s0 x4 := by
            refine Keeps.of_pair e5 ?_
            refine sessionOpen_keeps ?_
            exact h3
          dsimp only
          exact h6

theorem execGetIdentity_keeps {s0 s : State} {p1 : _} (h : Keeps s0 s) : KeepsOut s0 (execGetIdentity p1 s) := by
  unfold execGetIdentity
  refine hostRow_keeps ?_ ?_
  · intro x1 h2
    refine fwGetIdentity_keeps ?_
    exact h2
  · exact h

theorem execJog_keeps {s0 s : State} {p1 : _} {p2 : _} {p3 : _} (h : Keeps s0 s) : KeepsOut s0 (execJog p1 p2 p3 s) := by
  unfold execJog
  refine hostRow_keeps ?_ ?_
  · intro x1 h2
    refine fwJog_keeps ?_
    exact h2
  · exact h

theorem execReadSet_keeps {s0 s : State} {p1 : _} {p2 : _} {p3 : _} {p4 : _} (h : Keeps s0 s) : KeepsOut s0 (execReadSet p1 p2 p3 p4 s) := by
  unfold execReadSet
  refine hostRow_keeps ?_ ?_
  · intro x1 h2
    refine fwReadSet_keeps ?_
    exact h2
  · exact h

theorem execGetCalibration_keeps {s0 s : State} {p1 : _} {p2 : _} (h : Keeps s0 s) : KeepsOut s0 (execGetCalibration p1 p2 s) := by
  unfold execGetCalibration
  refine hostRow_keeps ?_ ?_
  · intro x1 h2
    refine fwGetCalibration_keeps ?_
    exact h2
  · exact h

theorem execResume_keeps {s0 s : State} {p1 : _} {p2 : _} (h : Keeps s0 s) : KeepsOut s0 (execResume p1 p2 s) := by
  unfold execResume
  refine hostRow_keeps ?_ ?_
  · intro x1 h2
    refine fwResume_keeps ?_
    exact h2
  · exact h

theorem execStartCapture_keeps {s0 s : State} {p1 : _} {p2 : _} {p3 : _} {p4 : _} {p5 : _} {p6 : _} (h : Keeps s0 s) : KeepsOut s0 (execStartCapture p1 p2 p3 p4 p5 p6 s) := by
  unfold execStartCapture
  refine hostRow_keeps ?_ ?_
  · intro x1 h2
    refine fwStartCapture_keeps ?_
    exact h2
  · exact h

theorem execOpenSet_keeps {s0 s : State} {p1 : _} {p2 : _} {p3 : _} (h : Keeps s0 s) : KeepsOut s0 (execOpenSet p1 p2 p3 s) := by
  unfold execOpenSet
  refine hostRow_keeps ?_ ?_
  · intro x1 h2
    refine fwOpenSet_keeps ?_
    exact h2
  · exact h

theorem execFaultAck_keeps {s0 s : State} {p1 : _} {p2 : _} (h : Keeps s0 s) : KeepsOut s0 (execFaultAck p1 p2 s) := by
  unfold execFaultAck
  refine hostRow_keeps ?_ ?_
  · intro x1 h2
    refine fwFaultAck_keeps ?_
    exact h2
  · exact h

theorem execApplyCalibration_keeps {s0 s : State} {p1 : _} (h : Keeps s0 s) : KeepsOut s0 (execApplyCalibration p1 s) := by
  unfold execApplyCalibration
  refine hostRow_keeps ?_ ?_
  · intro x1 h2
    refine fwApplyCalibration_keeps ?_
    exact h2
  · exact h

theorem execChannelEnable_keeps {s0 s : State} {p1 : _} {p2 : _} (h : Keeps s0 s) : KeepsOut s0 (execChannelEnable p1 p2 s) := by
  unfold execChannelEnable
  refine hostRow_keeps ?_ ?_
  · intro x1 h2
    refine fwChannelEnable_keeps ?_
    exact h2
  · exact h

theorem execChannelDisable_keeps {s0 s : State} {p1 : _} {p2 : _} (h : Keeps s0 s) : KeepsOut s0 (execChannelDisable p1 p2 s) := by
  unfold execChannelDisable
  refine hostRow_keeps ?_ ?_
  · intro x1 h2
    refine fwChannelDisable_keeps ?_
    exact h2
  · exact h

theorem execOpenSession_keeps {s0 s : State} {p1 : _} {p2 : _} {p3 : _} {p4 : _} (h : Keeps s0 s) : KeepsOut s0 (execOpenSession p1 p2 p3 p4 s) := by
  unfold execOpenSession
  refine KeepsOut.onUnit ?_
  refine KeepsOut.next ?_
  split
  · exact h
  · split
    rename_i x1 e2
    have h3 : Keeps s0 x1 := by
      refine Keeps.of_triple e2 ?_
      refine openCore_keeps ?_
      exact h
    refine State.mdChan_keeps ?_
    exact h3

theorem execMove_keeps {s0 s : State} {p1 : _} {p2 : _} {p3 : _} {p4 : _} (h : Keeps s0 s) : KeepsOut s0 (execMove p1 p2 p3 p4 s) := by
  unfold execMove
  refine hostRow_keeps ?_ ?_
  · intro x1 h2
    refine fwMove_keeps ?_
    exact h2
  · exact h

theorem execGetSizing_keeps {s0 s : State} {p1 : _} {p2 : _} (h : Keeps s0 s) : KeepsOut s0 (execGetSizing p1 p2 s) := by
  unfold execGetSizing
  refine hostRow_keeps ?_ ?_
  · intro x1 h2
    refine fwGetSizing_keeps ?_
    exact h2
  · exact h

theorem execStopTest_keeps {s0 s : State} {p1 : _} {p2 : _} (h : Keeps s0 s) : KeepsOut s0 (execStopTest p1 p2 s) := by
  unfold execStopTest
  refine hostRow_keeps ?_ ?_
  · intro x1 h2
    refine fwStopTest_keeps ?_
    exact h2
  · exact h

theorem execGetTtc_keeps {s0 s : State} {p1 : _} (h : Keeps s0 s) : KeepsOut s0 (execGetTtc p1 s) := by
  unfold execGetTtc
  refine hostRow_keeps ?_ ?_
  · intro x1 h2
    refine fwGetTtc_keeps ?_
    exact h2
  · exact h

theorem execPairConfirm_keeps {s0 s : State} {p1 : _} {p2 : _} {p3 : _} {p4 : _} (h : Keeps s0 s) : KeepsOut s0 (execPairConfirm p1 p2 p3 p4 s) := by
  unfold execPairConfirm
  refine hostRow_keeps ?_ ?_
  · intro x1 h2
    refine fwPairConfirm_keeps ?_
    exact h2
  · exact h

theorem execCloseSession_keeps {s0 s : State} {p1 : _} (h : Keeps s0 s) : KeepsOut s0 (execCloseSession p1 s) := by
  unfold execCloseSession
  refine hostRow_keeps ?_ ?_
  · intro x1 h2
    refine fwCloseSession_keeps ?_
    exact h2
  · exact h

theorem execGetLifecycle_keeps {s0 s : State} {p1 : _} (h : Keeps s0 s) : KeepsOut s0 (execGetLifecycle p1 s) := by
  unfold execGetLifecycle
  refine hostRow_keeps ?_ ?_
  · intro x1 h2
    refine fwGetLifecycle_keeps ?_
    exact h2
  · exact h

theorem execGear_keeps {s0 s : State} {p1 : _} {p2 : _} {p3 : _} {p4 : _} {p5 : _} {p6 : _} {p7 : _} {p8 : _} {p9 : _} (h : Keeps s0 s) : KeepsOut s0 (execGear p1 p2 p3 p4 p5 p6 p7 p8 p9 s) := by
  unfold execGear
  refine hostRow_keeps ?_ ?_
  · intro x1 h2
    refine fwGear_keeps ?_
    exact h2
  · exact h

theorem execReadParam_keeps {s0 s : State} {p1 : _} {p2 : _} {p3 : _} {p4 : _} {p5 : _} (h : Keeps s0 s) : KeepsOut s0 (execReadParam p1 p2 p3 p4 p5 s) := by
  unfold execReadParam
  refine hostRow_keeps ?_ ?_
  · intro x1 h2
    refine fwReadParam_keeps ?_
    exact h2
  · exact h

theorem execReadValue_keeps {s0 s : State} {p1 : _} {p2 : _} (h : Keeps s0 s) : KeepsOut s0 (execReadValue p1 p2 s) := by
  unfold execReadValue
  refine hostRow_keeps ?_ ?_
  · intro x1 h2
    refine fwReadValue_keeps ?_
    exact h2
  · exact h

theorem execStepFollow_keeps {s0 s : State} {p1 : _} {p2 : _} {p3 : _} {p4 : _} (h : Keeps s0 s) : KeepsOut s0 (execStepFollow p1 p2 p3 p4 s) := by
  unfold execStepFollow
  refine hostRow_keeps ?_ ?_
  · intro x1 h2
    refine fwStepFollow_keeps ?_
    exact h2
  · exact h

theorem execLeavePlanned_keeps {s0 s : State} {p1 : _} {p2 : _} (h : Keeps s0 s) : KeepsOut s0 (execLeavePlanned p1 p2 s) := by
  unfold execLeavePlanned
  refine hostRow_keeps ?_ ?_
  · intro x1 h2
    refine fwLeavePlanned_keeps ?_
    exact h2
  · exact h

theorem execGetStopTest_keeps {s0 s : State} {p1 : _} {p2 : _} (h : Keeps s0 s) : KeepsOut s0 (execGetStopTest p1 p2 s) := by
  unfold execGetStopTest
  refine hostRow_keeps ?_ ?_
  · intro x1 h2
    refine fwGetStopTest_keeps ?_
    exact h2
  · exact h

theorem execStopCapture_keeps {s0 s : State} {p1 : _} {p2 : _} (h : Keeps s0 s) : KeepsOut s0 (execStopCapture p1 p2 s) := by
  unfold execStopCapture
  refine hostRow_keeps ?_ ?_
  · intro x1 h2
    refine fwStopCapture_keeps ?_
    exact h2
  · exact h

theorem execStartInjection_keeps {s0 s : State} {p1 : _} {p2 : _} {p3 : _} {p4 : _} {p5 : _} {p6 : _} {p7 : _} {p8 : _} {p9 : _} {p10 : _} {p11 : _} {p12 : _} {p13 : _} (h : Keeps s0 s) : KeepsOut s0 (execStartInjection p1 p2 p3 p4 p5 p6 p7 p8 p9 p10 p11 p12 p13 s) := by
  unfold execStartInjection
  refine hostRow_keeps ?_ ?_
  · intro x1 h2
    refine fwStartInjection_keeps ?_
    exact h2
  · exact h

theorem execGetResult_keeps {s0 s : State} {p1 : _} {p2 : _} (h : Keeps s0 s) : KeepsOut s0 (execGetResult p1 p2 s) := by
  unfold execGetResult
  refine hostRow_keeps ?_ ?_
  · intro x1 h2
    refine fwGetResult_keeps ?_
    exact h2
  · exact h

theorem execGetSsmStat_keeps {s0 s : State} {p1 : _} (h : Keeps s0 s) : KeepsOut s0 (execGetSsmStat p1 s) := by
  unfold execGetSsmStat
  refine hostRow_keeps ?_ ?_
  · intro x1 h2
    refine fwGetSsmStat_keeps ?_
    exact h2
  · exact h

theorem execStopInjection_keeps {s0 s : State} {p1 : _} {p2 : _} (h : Keeps s0 s) : KeepsOut s0 (execStopInjection p1 p2 s) := by
  unfold execStopInjection
  refine hostRow_keeps ?_ ?_
  · intro x1 h2
    refine fwStopInjection_keeps ?_
    exact h2
  · exact h

theorem execReadAudit_keeps {s0 s : State} {p1 : _} {p2 : _} (h : Keeps s0 s) : KeepsOut s0 (execReadAudit p1 p2 s) := by
  unfold execReadAudit
  refine hostRow_keeps ?_ ?_
  · intro x1 h2
    refine fwReadAudit_keeps ?_
    exact h2
  · exact h

theorem execHome_keeps {s0 s : State} {p1 : _} {p2 : _} {p3 : _} {p4 : _} {p5 : _} {p6 : _} {p7 : _} {p8 : _} (h : Keeps s0 s) : KeepsOut s0 (execHome p1 p2 p3 p4 p5 p6 p7 p8 s) := by
  unfold execHome
  refine hostRow_keeps ?_ ?_
  · intro x1 h2
    refine fwHome_keeps ?_
    exact h2
  · exact h

theorem execEnable_keeps {s0 s : State} {p1 : _} {p2 : _} (h : Keeps s0 s) : KeepsOut s0 (execEnable p1 p2 s) := by
  unfold execEnable
  refine hostRow_keeps ?_ ?_
  · intro x1 h2
    refine fwEnable_keeps ?_
    exact h2
  · exact h

theorem execRemoveEngineer_keeps {s0 s : State} {p1 : _} {p2 : _} {p3 : _} {p4 : _} (h : Keeps s0 s) : KeepsOut s0 (execRemoveEngineer p1 p2 p3 p4 s) := by
  unfold execRemoveEngineer
  refine hostRow_keeps ?_ ?_
  · intro x1 h2
    refine fwRemoveEngineer_keeps ?_
    exact h2
  · exact h

theorem execLeaveService_keeps {s0 s : State} {p1 : _} (h : Keeps s0 s) : KeepsOut s0 (execLeaveService p1 s) := by
  unfold execLeaveService
  refine hostRow_keeps ?_ ?_
  · intro x1 h2
    refine fwLeaveService_keeps ?_
    exact h2
  · exact h

theorem execGetFault_keeps {s0 s : State} {p1 : _} (h : Keeps s0 s) : KeepsOut s0 (execGetFault p1 s) := by
  unfold execGetFault
  refine hostRow_keeps ?_ ?_
  · intro x1 h2
    refine fwGetFault_keeps ?_
    exact h2
  · exact h

theorem execReclaim_keeps {s0 s : State} {p1 : _} {p2 : _} (h : Keeps s0 s) : KeepsOut s0 (execReclaim p1 p2 s) := by
  unfold execReclaim
  refine hostRow_keeps ?_ ?_
  · intro x1 h2
    refine fwReclaim_keeps ?_
    exact h2
  · exact h

theorem execGetSafety_keeps {s0 s : State} {p1 : _} (h : Keeps s0 s) : KeepsOut s0 (execGetSafety p1 s) := by
  unfold execGetSafety
  refine hostRow_keeps ?_ ?_
  · intro x1 h2
    refine fwGetSafety_keeps ?_
    exact h2
  · exact h

theorem execGetHealth_keeps {s0 s : State} {p1 : _} (h : Keeps s0 s) : KeepsOut s0 (execGetHealth p1 s) := by
  unfold execGetHealth
  refine hostRow_keeps ?_ ?_
  · intro x1 h2
    refine fwGetHealth_keeps ?_
    exact h2
  · exact h

theorem execGetAxis_keeps {s0 s : State} {p1 : _} {p2 : _} (h : Keeps s0 s) : KeepsOut s0 (execGetAxis p1 p2 s) := by
  unfold execGetAxis
  refine hostRow_keeps ?_ ?_
  · intro x1 h2
    refine fwGetAxis_keeps ?_
    exact h2
  · exact h

theorem execEnterPlanned_keeps {s0 s : State} {p1 : _} {p2 : _} (h : Keeps s0 s) : KeepsOut s0 (execEnterPlanned p1 p2 s) := by
  unfold execEnterPlanned
  refine hostRow_keeps ?_ ?_
  · intro x1 h2
    refine fwEnterPlanned_keeps ?_
    exact h2
  · exact h

theorem execDlReset_keeps {s0 s : State} {p1 : _} {p2 : _} (h : Keeps s0 s) : KeepsOut s0 (execDlReset p1 p2 s) := by
  unfold execDlReset
  refine hostRow_keeps ?_ ?_
  · intro x1 h2
    refine fwDlReset_keeps ?_
    exact h2
  · exact h

theorem execSetLease_keeps {s0 s : State} {p1 : _} {p2 : _} (h : Keeps s0 s) : KeepsOut s0 (execSetLease p1 p2 s) := by
  unfold execSetLease
  refine hostRow_keeps ?_ ?_
  · intro x1 h2
    refine fwSetLease_keeps ?_
    exact h2
  · exact h

theorem execSetPath_keeps {s0 s : State} {p1 : _} {p2 : _} {p3 : _} (h : Keeps s0 s) : KeepsOut s0 (execSetPath p1 p2 p3 s) := by
  unfold execSetPath
  refine hostRow_keeps ?_ ?_
  · intro x1 h2
    refine fwSetPath_keeps ?_
    exact h2
  · exact h

theorem execClearTtc_keeps {s0 s : State} {p1 : _} (h : Keeps s0 s) : KeepsOut s0 (execClearTtc p1 s) := by
  unfold execClearTtc
  refine hostRow_keeps ?_ ?_
  · intro x1 h2
    refine fwClearTtc_keeps ?_
    exact h2
  · exact h

theorem execGetPlan_keeps {s0 s : State} {p1 : _} {p2 : _} {p3 : _} (h : Keeps s0 s) : KeepsOut s0 (execGetPlan p1 p2 p3 s) := by
  unfold execGetPlan
  refine hostRow_keeps ?_ ?_
  · intro x1 h2
    refine fwGetPlan_keeps ?_
    exact h2
  · exact h

theorem execBrakeTest_keeps {s0 s : State} {p1 : _} {p2 : _} (h : Keeps s0 s) : KeepsOut s0 (execBrakeTest p1 p2 s) := by
  unfold execBrakeTest
  refine hostRow_keeps ?_ ?_
  · intro x1 h2
    refine fwBrakeTest_keeps ?_
    exact h2
  · exact h

theorem execGetPair_keeps {s0 s : State} {p1 : _} (h : Keeps s0 s) : KeepsOut s0 (execGetPair p1 s) := by
  unfold execGetPair
  refine hostRow_keeps ?_ ?_
  · intro x1 h2
    refine fwGetPair_keeps ?_
    exact h2
  · exact h

theorem execWriteValue_keeps {s0 s : State} {p1 : _} {p2 : _} {p3 : _} (h : Keeps s0 s) : KeepsOut s0 (execWriteValue p1 p2 p3 s) := by
  unfold execWriteValue
  refine hostRow_keeps ?_ ?_
  · intro x1 h2
    refine fwWriteValue_keeps ?_
    exact h2
  · exact h

theorem execStageRead_keeps {s0 s : State} {p1 : _} {p2 : _} {p3 : _} (h : Keeps s0 s) : KeepsOut s0 (execStageRead p1 p2 p3 s) := by
  unfold execStageRead
  refine hostRow_keeps ?_ ?_
  · intro x1 h2
    refine fwStageRead_keeps ?_
    exact h2
  · exact h

theorem execClearAxisFlags_keeps {s0 s : State} {p1 : _} {p2 : _} {p3 : _} (h : Keeps s0 s) : KeepsOut s0 (execClearAxisFlags p1 p2 p3 s) := by
  unfold execClearAxisFlags
  refine hostRow_keeps ?_ ?_
  · intro x1 h2
    refine fwClearAxisFlags_keeps ?_
    exact h2
  · exact h

theorem execGetMovePlan_keeps {s0 s : State} {p1 : _} {p2 : _} (h : Keeps s0 s) : KeepsOut s0 (execGetMovePlan p1 p2 s) := by
  unfold execGetMovePlan
  refine hostRow_keeps ?_ ?_
  · intro x1 h2
    refine fwGetMovePlan_keeps ?_
    exact h2
  · exact h

theorem execReadBlock_keeps {s0 s : State} {p1 : _} {p2 : _} {p3 : _} (h : Keeps s0 s) : KeepsOut s0 (execReadBlock p1 p2 p3 s) := by
  unfold execReadBlock
  refine hostRow_keeps ?_ ?_
  · intro x1 h2
    refine fwReadBlock_keeps ?_
    exact h2
  · exact h

theorem execKeepalive_keeps {s0 s : State} {p1 : _} (h : Keeps s0 s) : KeepsOut s0 (execKeepalive p1 s) := by
  unfold execKeepalive
  refine hostRow_keeps ?_ ?_
  · intro x1 h2
    refine fwKeepalive_keeps ?_
    exact h2
  · exact h

theorem execCommit_keeps {s0 s : State} {p1 : _} {p2 : _} (h : Keeps s0 s) : KeepsOut s0 (execCommit p1 p2 s) := by
  unfold execCommit
  refine hostRow_keeps ?_ ?_
  · intro x1 h2
    refine fwCommit_keeps ?_
    exact h2
  · exact h

theorem execClearBlock_keeps {s0 s : State} {p1 : _} {p2 : _} {p3 : _} (h : Keeps s0 s) : KeepsOut s0 (execClearBlock p1 p2 p3 s) := by
  unfold execClearBlock
  refine hostRow_keeps ?_ ?_
  · intro x1 h2
    refine fwClearBlock_keeps ?_
    exact h2
  · exact h

theorem fwRetire_keeps {s0 s : State} {p1 : _} {p2 : _} {p3 : _} {p4 : _} {p5 : _} (h : Keeps s0 s) : Keeps s0 (fwRetire p1 p2 p3 p4 p5 s).2 := by
  unfold fwRetire
  refine fwRun_keeps ?_ ?_
  · intro x1 h2
    split
    rename_i x3 e4
    have h5 : Keeps s0 x3 := by
      refine Keeps.of_pair e4 ?_
      refine passTest_keeps ?_
      exact h2
    dsimp only
    split
    · refine retireEffect_keeps ?_
      exact h5
    · exact h5
  · exact h

theorem execUnpair_keeps {s0 s : State} {p1 : _} (h : Keeps s0 s) : KeepsOut s0 (execUnpair p1 s) := by
  unfold execUnpair
  refine hostRow_keeps ?_ ?_
  · intro x1 h2
    refine fwUnpair_keeps ?_
    exact h2
  · exact h

theorem execSetTimeOfDay_keeps {s0 s : State} {p1 : _} {p2 : _} (h : Keeps s0 s) : KeepsOut s0 (execSetTimeOfDay p1 p2 s) := by
  unfold execSetTimeOfDay
  refine hostRow_keeps ?_ ?_
  · intro x1 h2
    refine fwSetTimeOfDay_keeps ?_
    exact h2
  · exact h

theorem execStop_keeps {s0 s : State} {p1 : _} {p2 : _} (h : Keeps s0 s) : KeepsOut s0 (execStop p1 p2 s) := by
  unfold execStop
  refine hostRow_keeps ?_ ?_
  · intro x1 h2
    refine fwStop_keeps ?_
    exact h2
  · exact h

theorem execTicketStatus_keeps {s0 s : State} {p1 : _} {p2 : _} (h : Keeps s0 s) : KeepsOut s0 (execTicketStatus p1 p2 s) := by
  unfold execTicketStatus
  refine hostRow_keeps ?_ ?_
  · intro x1 h2
    refine fwTicketStatus_keeps ?_
    exact h2
  · exact h

theorem execGetArm_keeps {s0 s : State} {p1 : _} {p2 : _} (h : Keeps s0 s) : KeepsOut s0 (execGetArm p1 p2 s) := by
  unfold execGetArm
  refine hostRow_keeps ?_ ?_
  · intro x1 h2
    refine fwGetArm_keeps ?_
    exact h2
  · exact h

theorem execSetLimits_keeps {s0 s : State} {p1 : _} {p2 : _} {p3 : _} {p4 : _} {p5 : _} {p6 : _} {p7 : _} (h : Keeps s0 s) : KeepsOut s0 (execSetLimits p1 p2 p3 p4 p5 p6 p7 s) := by
  unfold execSetLimits
  refine hostRow_keeps ?_ ?_
  · intro x1 h2
    refine fwSetLimits_keeps ?_
    exact h2
  · exact h

theorem execGetObjects_keeps {s0 s : State} {p1 : _} (h : Keeps s0 s) : KeepsOut s0 (execGetObjects p1 s) := by
  unfold execGetObjects
  refine hostRow_keeps ?_ ?_
  · intro x1 h2
    refine fwGetObjects_keeps ?_
    exact h2
  · exact h

theorem fwSelfTest_keeps {s0 s : State} {p1 : _} {p2 : _} {p3 : _} {p4 : _} (h : Keeps s0 s) : Keeps s0 (fwSelfTest p1 p2 p3 p4 s).2 := by
  unfold fwSelfTest
  extract_lets +onlyGivenNames y1
  refine fwRun_keeps ?_ ?_
  · intro x2 h3
    split
    rename_i x4 e5
    have h6 : Keeps s0 x4 := by
      refine Keeps.of_pair e5 ?_
      refine ticketFor_keeps ?_
      exact h3
    dsimp only
    refine suspect_keeps ?_
    exact h6
  · exact h

theorem execRetire_keeps {s0 s : State} {p1 : _} {p2 : _} {p3 : _} {p4 : _} (h : Keeps s0 s) : KeepsOut s0 (execRetire p1 p2 p3 p4 s) := by
  unfold execRetire
  refine hostRow_keeps ?_ ?_
  · intro x1 h2
    refine fwRetire_keeps ?_
    exact h2
  · exact h

theorem execSelfTest_keeps {s0 s : State} {p1 : _} {p2 : _} {p3 : _} (h : Keeps s0 s) : KeepsOut s0 (execSelfTest p1 p2 p3 s) := by
  unfold execSelfTest
  refine hostRow_keeps ?_ ?_
  · intro x1 h2
    refine fwSelfTest_keeps ?_
    exact h2
  · exact h

end Sys2Proof.Machine
end

