-- ==== Sys2Proof/Laws/KeepsHost.lean ====
section
/-!
SUPPORT. What the operations keep (Laws/Keeps.lean): power, the host port and requests.
-/
namespace Sys2Proof.Machine

theorem execJournalEraseEnd_keeps {s0 s : State} (h : Keeps s0 s) : KeepsOut s0 (execJournalEraseEnd s) := by
  unfold execJournalEraseEnd
  refine KeepsOut.next ?_
  exact Keeps.same h rfl rfl rfl

theorem cfgWrite_keeps {s0 s : State} {p1 : _} {p2 : _} (h : Keeps s0 s) : Keeps s0 (cfgWrite p1 p2 s) := by
  unfold cfgWrite
  extract_lets +onlyGivenNames y1
  split
  · exact Keeps.same h rfl rfl rfl
  · split
    · exact Keeps.same h rfl rfl rfl
    · split
      · exact Keeps.same h rfl rfl rfl
      · split
        · exact Keeps.same h rfl rfl rfl
        · split
          · exact Keeps.same h rfl rfl rfl
          · split
            · exact Keeps.same h rfl rfl rfl
            · split
              · exact Keeps.same h rfl rfl rfl
              · split
                · exact Keeps.same h rfl rfl rfl
                · exact h

theorem lockWrite_keeps {s0 s : State} {p1 : _} {p2 : _} (h : Keeps s0 s) : Keeps s0 (lockWrite p1 p2 s) := by
  unfold lockWrite
  exact Keeps.same h rfl rfl rfl

theorem execBar2Read_keeps {s0 s : State} {p1 : _} {p2 : _} (h : Keeps s0 s) : KeepsOut s0 (execBar2Read p1 p2 s) := by
  unfold execBar2Read
  refine KeepsOut.next ?_
  split
  · exact h
  · exact Keeps.same h rfl rfl rfl

theorem holdReset_keeps {s0 s : State} (h : Keeps s0 s) : Keeps s0 (holdReset s) := by
  exact ⟨h.1, fun _ => rfl, h.2.2⟩

theorem execJtagInstruction_keeps {s0 s : State} {p1 : _} (h : Keeps s0 s) : KeepsOut s0 (execJtagInstruction p1 s) := by
  unfold execJtagInstruction
  refine KeepsOut.next ?_
  extract_lets +onlyGivenNames y1
  exact Keeps.same h rfl rfl rfl

theorem execUartCtsN_keeps {s0 s : State} {p1 : _} (h : Keeps s0 s) : KeepsOut s0 (execUartCtsN p1 s) := by
  unfold execUartCtsN
  refine KeepsOut.next ?_
  split
  · exact Keeps.same h rfl rfl rfl
  · exact Keeps.same h rfl rfl rfl

theorem execBar2Write_keeps {s0 s : State} {p1 : _} (h : Keeps s0 s) : KeepsOut s0 (execBar2Write p1 s) := by
  unfold execBar2Write
  refine KeepsOut.next ?_
  split
  · exact h
  · exact Keeps.same h rfl rfl rfl

theorem msixWrite_keeps {s0 s : State} {p1 : _} {p2 : _} (h : Keeps s0 s) : Keeps s0 (msixWrite p1 p2 s) := by
  unfold msixWrite
  extract_lets +onlyGivenNames y1
  exact Keeps.same h rfl rfl rfl

theorem wipeInReset_keeps {s0 s : State} {p1 : _} (h : Keeps s0 s) : Keeps s0 (wipeInReset p1 s) := by
  unfold wipeInReset
  extract_lets +onlyGivenNames y1
  exact Keeps.burnt h rfl id (Burns.wipe _)

theorem execSupplyRise_keeps {s0 s : State} {p1 : _} (h : Keeps s0 s) : KeepsOut s0 (execSupplyRise p1 s) := by
  unfold execSupplyRise
  refine KeepsOut.onUnit ?_
  refine KeepsOut.next ?_
  exact Keeps.same h rfl rfl rfl

theorem execResetN_keeps {s0 s : State} {p1 : _} {p2 : _} {p3 : _} (h : Keeps s0 s) : KeepsOut s0 (execResetN p1 p2 p3 s) := by
  unfold execResetN
  refine KeepsOut.next ?_
  split
  · exact h
  · extract_lets +onlyGivenNames y1
    have h1 : Keeps s0 y1 := by
      unfold y1
      split
      · refine holdReset_keeps ?_
        exact h
      · exact h
    clear_value y1
    exact Keeps.same h1 rfl rfl rfl

theorem execInternalResetRelease_keeps {s0 s : State} {p1 : _} {p2 : _} (h : Keeps s0 s) : KeepsOut s0 (execInternalResetRelease p1 p2 s) := by
  unfold execInternalResetRelease
  refine KeepsOut.next ?_
  split
  · exact Keeps.same h rfl rfl rfl
  · exact h

theorem execTemperatureRecovery_keeps {s0 s : State} (h : Keeps s0 s) : KeepsOut s0 (execTemperatureRecovery s) := by
  unfold execTemperatureRecovery
  refine KeepsOut.next ?_
  exact Keeps.same h rfl rfl rfl

theorem evmaskWrite_keeps {s0 s : State} {p1 : _} {p2 : _} (h : Keeps s0 s) : Keeps s0 (evmaskWrite p1 p2 s) := by
  unfold evmaskWrite
  extract_lets +onlyGivenNames y1
  exact Keeps.same h rfl rfl rfl

theorem execBar2ReadAbort_keeps {s0 s : State} {p1 : _} (h : Keeps s0 s) : KeepsOut s0 (execBar2ReadAbort p1 s) := by
  unfold execBar2ReadAbort
  refine KeepsOut.next ?_
  split
  · exact h
  · refine raiseEv_keeps ?_
    exact Keeps.same h rfl rfl rfl

theorem reqCfgWrite_keeps {s0 s : State} {p1 : _} {p2 : _} (h : Keeps s0 s) : Keeps s0 (reqCfgWrite p1 p2 s) := by
  unfold reqCfgWrite
  split
  · exact h
  · extract_lets +onlyGivenNames y1
    exact Keeps.same h rfl rfl rfl

theorem execReadClearAccess_keeps {s0 s : State} {p1 : _} (h : Keeps s0 s) : KeepsOut s0 (execReadClearAccess p1 s) := by
  unfold execReadClearAccess
  refine KeepsOut.next ?_
  split
  · exact Keeps.same h rfl rfl rfl
  · split
    · exact h
    · extract_lets +onlyGivenNames y1
      extract_lets +onlyGivenNames y2
      extract_lets +onlyGivenNames y3
      exact Keeps.same h rfl rfl rfl

theorem applyRepair_keeps {s0 s : State} {p1 : _} (h : Keeps s0 s) : Keeps s0 (applyRepair s p1) := by
  unfold applyRepair
  split
  · exact h
  · extract_lets +onlyGivenNames y1
    extract_lets +onlyGivenNames y2
    extract_lets +onlyGivenNames y3
    split
    · exact h
    · extract_lets +onlyGivenNames y4
      extract_lets +onlyGivenNames y5
      have h5 : Keeps s0 y5 := by
        unfold y5
        refine State.mdUnit_keeps ?_
        exact h
      clear_value y5
      extract_lets +onlyGivenNames y6
      have h6 : Keeps s0 y6 := by
        unfold y6
        split
        · refine State.mdUnit_keeps ?_
          exact h5
        · exact h5
      clear_value y6
      clear_value y1
      split
      · exact Keeps.same h6 rfl rfl rfl
      · exact Keeps.same h6 rfl rfl rfl
      · exact Keeps.same h6 rfl rfl rfl
      · exact Keeps.same h6 rfl rfl rfl
      · exact Keeps.same h6 rfl rfl rfl
      · refine State.mdPort_keeps ?_
        exact h6
      · exact Keeps.same h6 rfl rfl rfl
      · exact h6

theorem execPowerStateWrite_keeps {s0 s : State} {p1 : _} (h : Keeps s0 s) : KeepsOut s0 (execPowerStateWrite p1 s) := by
  unfold execPowerStateWrite
  refine KeepsOut.next ?_
  exact Keeps.same h rfl rfl rfl

theorem execTestPin_keeps {s0 s : State} {p1 : _} {p2 : _} (h : Keeps s0 s) : KeepsOut s0 (execTestPin p1 p2 s) := by
  unfold execTestPin
  refine KeepsOut.next ?_
  extract_lets +onlyGivenNames y1
  have h1 : Keeps s0 y1 := by
    unfold y1
    split
    · refine holdReset_keeps ?_
      exact h
    · exact h
  clear_value y1
  exact Keeps.same h1 rfl rfl rfl

theorem execLinkWidthRateChange_keeps {s0 s : State} {p1 : _} {p2 : _} (h : Keeps s0 s) : KeepsOut s0 (execLinkWidthRateChange p1 p2 s) := by
  unfold execLinkWidthRateChange
  refine KeepsOut.next ?_
  split
  · exact h
  · refine raiseEv_keeps ?_
    exact Keeps.same h rfl rfl rfl

theorem execPresentNInsertion_keeps {s0 s : State} (h : Keeps s0 s) : KeepsOut s0 (execPresentNInsertion s) := by
  unfold execPresentNInsertion
  refine KeepsOut.next ?_
  exact Keeps.same h rfl rfl rfl

theorem execMsixUnmask_keeps {s0 s : State} {p1 : _} {p2 : _} (h : Keeps s0 s) : KeepsOut s0 (execMsixUnmask p1 p2 s) := by
  unfold execMsixUnmask
  refine KeepsOut.next ?_
  extract_lets +onlyGivenNames y1
  extract_lets +onlyGivenNames y2
  exact Keeps.same h rfl rfl rfl

theorem execPerstNRelease_keeps {s0 s : State} (h : Keeps s0 s) : KeepsOut s0 (execPerstNRelease s) := by
  unfold execPerstNRelease
  refine KeepsOut.next ?_
  exact Keeps.same h rfl rfl rfl

theorem hifReset_keeps {s0 s : State} (h : Keeps s0 s) : Keeps s0 (hifReset s) := by
  unfold hifReset
  extract_lets +onlyGivenNames y1
  extract_lets +onlyGivenNames y2
  exact Keeps.same h rfl rfl rfl

theorem evstatWrite_keeps {s0 s : State} {p1 : _} {p2 : _} {p3 : _} (h : Keeps s0 s) : Keeps s0 (evstatWrite p1 p2 p3 s) := by
  unfold evstatWrite
  extract_lets +onlyGivenNames y1
  extract_lets +onlyGivenNames y2
  extract_lets +onlyGivenNames y3
  extract_lets +onlyGivenNames y4
  exact Keeps.same h rfl rfl rfl

theorem execLinkDown_keeps {s0 s : State} (h : Keeps s0 s) : KeepsOut s0 (execLinkDown s) := by
  unfold execLinkDown
  refine KeepsOut.next ?_
  split
  · exact h
  · extract_lets +onlyGivenNames y1
    extract_lets +onlyGivenNames y2
    have h2 : Keeps s0 y2 := by
      unfold y2
      refine hifReset_keeps ?_
      exact Keeps.same h rfl rfl rfl
    clear_value y2
    refine raiseEv_keeps ?_
    exact h2

theorem ramWrite_keeps {s0 s : State} {p1 : _} {p2 : _} (h : Keeps s0 s) : Keeps s0 (ramWrite p1 p2 s) := by
  unfold ramWrite
  split
  · exact h
  · refine ramPut_keeps ?_
    exact h

theorem execConventionalReset_keeps {s0 s : State} {p1 : _} (h : Keeps s0 s) : KeepsOut s0 (execConventionalReset p1 s) := by
  unfold execConventionalReset
  refine KeepsOut.next ?_
  extract_lets +onlyGivenNames y1
  extract_lets +onlyGivenNames y2
  have h2 : Keeps s0 y2 := by
    unfold y2
    split
    · exact Keeps.same h rfl rfl rfl
    · exact h
  clear_value y2
  split
  · refine holdReset_keeps ?_
    exact h2
  · refine hifReset_keeps ?_
    exact h2

theorem execFuseLoadEnd_keeps {s0 s : State} (h : Keeps s0 s) : KeepsOut s0 (execFuseLoadEnd s) := by
  unfold execFuseLoadEnd
  refine KeepsOut.next ?_
  split
  · exact h
  · extract_lets f f' s1 a_ b_ s2 s3
    have h1 : Keeps s0 s1 := State.upTo_keeps h
    have h2 : Keeps s0 s2 := Keeps.burnt h1 rfl id (Burns.complete _)
    have h3 : Keeps s0 s3 := Keeps.foldl h2 fun x a k => applyRepair_keeps k
    split
    · exact h3
    · exact raiseEv_keeps h3

theorem execAerError_keeps {s0 s : State} {p1 : _} {p2 : _} (h : Keeps s0 s) : KeepsOut s0 (execAerError p1 p2 s) := by
  unfold execAerError
  refine KeepsOut.next ?_
  extract_lets +onlyGivenNames y1
  extract_lets +onlyGivenNames y2
  have h2 : Keeps s0 y2 := by
    unfold y2
    exact Keeps.same h rfl rfl rfl
  clear_value y2
  refine raiseEv_keeps ?_
  exact h2

theorem execLinkUp_keeps {s0 s : State} {p1 : _} {p2 : _} (h : Keeps s0 s) : KeepsOut s0 (execLinkUp p1 p2 s) := by
  unfold execLinkUp
  refine KeepsOut.next ?_
  split
  · exact h
  · extract_lets +onlyGivenNames y1
    extract_lets +onlyGivenNames y2
    have h2 : Keeps s0 y2 := by
      unfold y2
      exact Keeps.same h rfl rfl rfl
    clear_value y2
    refine raiseEv_keeps ?_
    exact h2

theorem doorbellWrite_keeps {s0 s : State} {p1 : _} {p2 : _} {p3 : _} (h : Keeps s0 s) : Keeps s0 (doorbellWrite p1 p2 p3 s) := by
  unfold doorbellWrite
  extract_lets +onlyGivenNames y1
  extract_lets +onlyGivenNames y2
  split
  · refine State.mdChan_keeps ?_
    exact h
  · refine raiseChan_keeps ?_
    exact Keeps.same h rfl rfl rfl

theorem execEvmaskWrite_keeps {s0 s : State} {p1 : _} {p2 : _} (h : Keeps s0 s) : KeepsOut s0 (execEvmaskWrite p1 p2 s) := by
  unfold execEvmaskWrite
  refine KeepsOut.onUnit ?_
  refine KeepsOut.next ?_
  split
  · exact h
  · refine evmaskWrite_keeps ?_
    exact h

theorem execDoorbell_keeps {s0 s : State} {p1 : _} {p2 : _} {p3 : _} (h : Keeps s0 s) : KeepsOut s0 (execDoorbell p1 p2 p3 s) := by
  unfold execDoorbell
  refine KeepsOut.onUnit ?_
  refine KeepsOut.next ?_
  extract_lets +onlyGivenNames y1
  have h1 : Keeps s0 y1 := by
    unfold y1
    refine State.upTo_keeps ?_
    exact h
  clear_value y1
  split
  · exact h1
  · refine doorbellWrite_keeps ?_
    exact h1

theorem execEvstatClear_keeps {s0 s : State} {p1 : _} {p2 : _} {p3 : _} (h : Keeps s0 s) : KeepsOut s0 (execEvstatClear p1 p2 p3 s) := by
  unfold execEvstatClear
  refine KeepsOut.onUnit ?_
  refine KeepsOut.next ?_
  split
  · exact h
  · refine evstatWrite_keeps ?_
    exact h

theorem execMailboxRamWrite_keeps {s0 s : State} {p1 : _} {p2 : _} {p3 : _} (h : Keeps s0 s) : KeepsOut s0 (execMailboxRamWrite p1 p2 p3 s) := by
  unfold execMailboxRamWrite
  refine KeepsOut.next ?_
  split
  · exact h
  · split
    · refine raiseChan_keeps ?_
      exact Keeps.same h rfl rfl rfl
    · refine ramWrite_keeps ?_
      exact h

theorem rspAckWrite_keeps {s0 s : State} {p1 : _} {p2 : _} (h : Keeps s0 s) : Keeps s0 (rspAckWrite p1 p2 s) := by
  unfold rspAckWrite
  extract_lets +onlyGivenNames y1
  extract_lets +onlyGivenNames y2
  split
  · refine State.mdChan_keeps ?_
    exact h
  · refine raiseChan_keeps ?_
    exact Keeps.same h rfl rfl rfl

theorem bar0Write_keeps {s0 s : State} {p1 : _} {p2 : _} (h : Keeps s0 s) : Keeps s0 (bar0Write p1 p2 s) := by
  unfold bar0Write
  extract_lets +onlyGivenNames y1
  extract_lets +onlyGivenNames y2
  split
  · exact Keeps.same h rfl rfl rfl
  · split
    · exact Keeps.same h rfl rfl rfl
    · split
      · split
        · refine doorbellWrite_keeps ?_
          exact h
        · refine rspAckWrite_keeps ?_
          exact h
        · exact h
      · split
        · refine evstatWrite_keeps ?_
          exact h
        · split
          · refine evmaskWrite_keeps ?_
            exact h
          · split
            · extract_lets +onlyGivenNames y3
              exact Keeps.same h rfl rfl rfl
            · split
              · refine msixWrite_keeps ?_
                exact h
              · split
                · refine ramWrite_keeps ?_
                  exact h
                · exact h

theorem execRspAck_keeps {s0 s : State} {p1 : _} {p2 : _} (h : Keeps s0 s) : KeepsOut s0 (execRspAck p1 p2 s) := by
  unfold execRspAck
  refine KeepsOut.onUnit ?_
  refine KeepsOut.next ?_
  split
  · exact h
  · refine rspAckWrite_keeps ?_
    exact h

theorem execMirrorLaneUp_keeps {s0 s : State} {p1 : _} (h : Keeps s0 s) : KeepsOut s0 (execMirrorLaneUp p1 s) := by
  unfold execMirrorLaneUp
  refine KeepsOut.onUnit ?_
  refine KeepsOut.next ?_
  extract_lets +onlyGivenNames y1
  extract_lets +onlyGivenNames y2
  have h2 : Keeps s0 y2 := by
    unfold y2
    split
    · exact h
    · refine State.drawn_keeps ?_
      exact Keeps.same h rfl rfl rfl
  clear_value y2
  refine sendHello_keeps ?_
  exact Keeps.same h2 rfl rfl rfl

theorem execRegisterWrite_keeps {s0 s : State} {p1 : _} {p2 : _} {p3 : _} (h : Keeps s0 s) : KeepsOut s0 (execRegisterWrite p1 p2 p3 s) := by
  unfold execRegisterWrite
  refine KeepsOut.next ?_
  extract_lets +onlyGivenNames y1
  split
  · split
    · exact h
    · refine bar0Write_keeps ?_
      exact h
  · refine cfgWrite_keeps ?_
    exact h
  · refine lockWrite_keeps ?_
    exact h
  · refine reqCfgWrite_keeps ?_
    exact h
  · exact h

theorem execLeaseExpiry_keeps {s0 s : State} {p1 : _} (h : Keeps s0 s) : KeepsOut s0 (execLeaseExpiry p1 s) := by
  unfold execLeaseExpiry
  refine KeepsOut.onUnit ?_
  refine KeepsOut.next ?_
  extract_lets +onlyGivenNames y1
  split
  · exact h
  · split
    · exact h
    · refine sessionEnd_keeps ?_
      refine State.upTo_keeps ?_
      exact h

theorem execFwReady_keeps {s0 s : State} (h : Keeps s0 s) : KeepsOut s0 (execFwReady s) := by
  unfold execFwReady
  refine KeepsOut.next ?_
  split
  · exact h
  · extract_lets +onlyGivenNames y1
    have h1 : Keeps s0 y1 := by
      unfold y1
      refine State.upTo_keeps ?_
      exact h
    clear_value y1
    extract_lets +onlyGivenNames y2
    have h2 : Keeps s0 y2 := by
      unfold y2
      split
      · refine restoreImage_keeps ?_
        exact h1
      · refine setInForce_keeps ?_
        exact h1
    clear_value y2
    extract_lets +onlyGivenNames y3
    extract_lets +onlyGivenNames y4
    extract_lets +onlyGivenNames y5
    extract_lets +onlyGivenNames y6
    extract_lets +onlyGivenNames y7
    extract_lets +onlyGivenNames y8
    have h8 : Keeps s0 y8 := by
      unfold y8
      exact Keeps.same h2 rfl rfl rfl
    clear_value y8
    extract_lets +onlyGivenNames y9
    have h9 : Keeps s0 y9 := by
      unfold y9
      split
      · exact h8
      · refine raiseEv_keeps ?_
        exact h8
    clear_value y9
    extract_lets +onlyGivenNames y10
    have h10 : Keeps s0 y10 := by
      unfold y10
      split
      · refine setMode_keeps ?_
        exact h9
      · exact h9
    clear_value y10
    split
    · refine tbMirror_keeps ?_
      exact Keeps.same h10 rfl rfl rfl
    · exact h10

theorem openReq_keeps {s0 s : State} {p1 : _} {p2 : _} {p3 : _} {p4 : _} {p5 : _} (h : Keeps s0 s) : Keeps s0 (openReq p1 p2 p3 p4 p5 s) := by
  unfold openReq
  extract_lets +onlyGivenNames y1
  split
  · unfold y1
    refine writeRsp_keeps ?_
    refine State.mdChan_keeps ?_
    exact h
  · split
    · unfold y1
      refine writeRsp_keeps ?_
      refine State.mdChan_keeps ?_
      exact h
    · split
      rename_i x2 e3
      have h4 : Keeps s0 x2 := by
        refine Keeps.of_triple e3 ?_
        refine openCore_keeps ?_
        exact h
      unfold y1
      refine writeRsp_keeps ?_
      refine State.mdChan_keeps ?_
      exact h4

theorem rangeFault_keeps {s0 s : State} {p1 : _} (h : Keeps s0 s) : Keeps s0 (rangeFault p1 s) := by
  unfold rangeFault
  extract_lets +onlyGivenNames y1
  have h1 : Keeps s0 y1 := by
    unfold y1
    split
    · exact h
    · refine holdReset_keeps ?_
      refine faultF3_keeps ?_
      exact h
  clear_value y1
  exact Keeps.same h1 rfl rfl rfl

theorem execTrip_keeps {s0 s : State} {p1 : _} (h : Keeps s0 s) : KeepsOut s0 (execTrip p1 s) := by
  unfold execTrip
  refine KeepsOut.onUnit ?_
  refine KeepsOut.next ?_
  refine wipeInReset_keeps ?_
  refine rangeFault_keeps ?_
  exact h

theorem execCoreSelfTestEnd_keeps {s0 s : State} (h : Keeps s0 s) : KeepsOut s0 (execCoreSelfTestEnd s) := by
  unfold execCoreSelfTestEnd
  refine KeepsOut.next ?_
  split
  · exact h
  · extract_lets +onlyGivenNames y1
    have h1 : Keeps s0 y1 := by
      unfold y1
      refine State.upTo_keeps ?_
      exact h
    clear_value y1
    extract_lets +onlyGivenNames y2
    extract_lets +onlyGivenNames y3
    have h3 : Keeps s0 y3 := by
      unfold y3
      refine wipe_keeps ?_
      exact h1
    clear_value y3
    extract_lets +onlyGivenNames y4
    extract_lets +onlyGivenNames y5
    have h5 : Keeps s0 y5 := by
      unfold y5
      split
      · exact h1
      · exact Keeps.same h3 rfl rfl rfl
    clear_value y5
    extract_lets +onlyGivenNames y6
    have h6 : Keeps s0 y6 := by
      unfold y6
      refine State.upTo_keeps ?_
      exact h5
    clear_value y6
    exact Keeps.same h6 rfl rfl rfl

theorem execSupplyRangeFault_keeps {s0 s : State} {p1 : _} (h : Keeps s0 s) : KeepsOut s0 (execSupplyRangeFault p1 s) := by
  unfold execSupplyRangeFault
  refine KeepsOut.onUnit ?_
  refine KeepsOut.next ?_
  refine rangeFault_keeps ?_
  exact h

theorem execPresentNRemoval_keeps {s0 s : State} (h : Keeps s0 s) : KeepsOut s0 (execPresentNRemoval s) := by
  unfold execPresentNRemoval
  refine KeepsOut.next ?_
  extract_lets +onlyGivenNames y1
  extract_lets +onlyGivenNames y2
  have h2 : Keeps s0 y2 := by
    unfold y2
    exact Keeps.same h rfl rfl rfl
  clear_value y2
  split
  · exact h2
  · refine dropAuthority_keeps ?_
    refine faultF3_keeps ?_
    exact Keeps.same h2 rfl rfl rfl

theorem execRomSelfTestEnd_keeps {s0 s : State} {p1 : _} (h : Keeps s0 s) : KeepsOut s0 (execRomSelfTestEnd p1 s) := by
  unfold execRomSelfTestEnd
  refine KeepsOut.next ?_
  split
  · exact h
  · extract_lets +onlyGivenNames y1
    have h1 : Keeps s0 y1 := by
      unfold y1
      refine State.upTo_keeps ?_
      exact h
    clear_value y1
    extract_lets +onlyGivenNames y2
    extract_lets +onlyGivenNames y3
    extract_lets +onlyGivenNames y4
    have h4 : Keeps s0 y4 := by
      unfold y4
      exact Keeps.same h1 rfl rfl rfl
    clear_value y4
    extract_lets +onlyGivenNames y5
    have h5 : Keeps s0 y5 := by
      unfold y5
      refine Keeps.foldl ?_ ?_
      · exact h4
      · intro x6 a7 h8
        split
        · exact h8
        · split
          · refine faultF3_keeps ?_
            exact h8
          · extract_lets +onlyGivenNames y9
            extract_lets +onlyGivenNames y10
            have h10 : Keeps s0 y10 := by
              unfold y10
              refine burnRecord_keeps ?_
              exact h8
            clear_value y10
            refine applyRepair_keeps ?_
            exact h10
    clear_value y5
    refine Keeps.foldl ?_ ?_
    · exact h5
    · intro x11 a12 h13
      refine clusterDown_keeps ?_
      exact h13

theorem runOp_keeps {s0 s : State} {p1 : _} {p2 : _} {p3 : _} {p4 : _} {p5 : _} {p6 : _} (h : Keeps s0 s) : Keeps s0 (runOp p1 p2 p3 p4 p5 p6 s).2 := by
  unfold runOp
  extract_lets +onlyGivenNames y1
  split
  · refine fwCloseSession_keeps ?_
    exact h
  · refine fwKeepalive_keeps ?_
    exact h
  · refine fwTicketStatus_keeps ?_
    exact h
  · refine fwCancelTicket_keeps ?_
    exact h
  · refine fwSetLease_keeps ?_
    exact h
  · refine fwGetIdentity_keeps ?_
    exact h
  · refine fwGetHealth_keeps ?_
    exact h
  · refine fwReadBlock_keeps ?_
    exact h
  · refine fwClearBlock_keeps ?_
    exact h
  · refine fwGetFault_keeps ?_
    exact h
  · refine fwOpenSet_keeps ?_
    exact h
  · refine fwWriteSeg_keeps ?_
    exact h
  · refine fwCloseSet_keeps ?_
    exact h
  · refine fwConfirm_keeps ?_
    exact h
  · refine fwCommit_keeps ?_
    exact h
  · refine fwAbortSet_keeps ?_
    exact h
  · refine fwReadParam_keeps ?_
    exact h
  · refine fwGetSetInfo_keeps ?_
    exact h
  · refine fwReadSet_keeps ?_
    exact h
  · refine fwWriteParam_keeps ?_
    exact h
  · refine fwMove_keeps ?_
    exact h
  · refine fwJog_keeps ?_
    exact h
  · refine fwStop_keeps ?_
    exact h
  · refine fwSetLimits_keeps ?_
    exact h
  · refine fwGear_keeps ?_
    exact h
  · refine fwStepFollow_keeps ?_
    exact h
  · refine fwHome_keeps ?_
    exact h
  · refine fwGetAxis_keeps ?_
    exact h
  · refine fwGetMovePlan_keeps ?_
    exact h
  · refine fwClearAxisFlags_keeps ?_
    exact h
  · refine fwStageRead_keeps ?_
    exact h
  · refine fwDlReset_keeps ?_
    exact h
  · refine fwEnable_keeps ?_
    exact h
  · refine fwDisable_keeps ?_
    exact h
  · refine fwFaultAck_keeps ?_
    exact h
  · refine fwEnterPlanned_keeps ?_
    exact h
  · refine fwLeavePlanned_keeps ?_
    exact h
  · refine fwSetPath_keeps ?_
    exact h
  · refine fwHandover_keeps ?_
    exact h
  · refine fwAcceptHandover_keeps ?_
    exact h
  · refine fwReclaim_keeps ?_
    exact h
  · refine fwGetArm_keeps ?_
    exact h
  · refine fwGetResult_keeps ?_
    exact h
  · refine fwGetPlan_keeps ?_
    exact h
  · refine fwGetSizing_keeps ?_
    exact h
  · refine fwGetVerdict_keeps ?_
    exact h
  · refine fwGetSsmStat_keeps ?_
    exact h
  · refine fwResume_keeps ?_
    exact h
  · refine fwStopTest_keeps ?_
    exact h
  · refine fwGetStopTest_keeps ?_
    exact h
  · refine fwGetObjects_keeps ?_
    exact h
  · refine fwClearSsmFlags_keeps ?_
    exact h
  · refine fwBrakeTest_keeps ?_
    exact h
  · refine fwEnterService_keeps ?_
    exact h
  · refine fwLeaveService_keeps ?_
    exact h
  · refine fwGetSafety_keeps ?_
    exact h
  · refine fwClearSafetyFlags_keeps ?_
    exact h
  · refine fwSetEngineer_keeps ?_
    exact h
  · refine fwRemoveEngineer_keeps ?_
    exact h
  · refine fwReadAudit_keeps ?_
    exact h
  · refine fwSetTimeOfDay_keeps ?_
    exact h
  · refine fwModeChange_keeps ?_
    exact h
  · refine fwChannelEnable_keeps ?_
    exact h
  · refine fwChannelDisable_keeps ?_
    exact h
  · refine fwApplyCalibration_keeps ?_
    exact h
  · refine fwWriteValue_keeps ?_
    exact h
  · refine fwReadValue_keeps ?_
    exact h
  · refine fwGetTtc_keeps ?_
    exact h
  · refine fwClearTtc_keeps ?_
    exact h
  · refine fwGetCalibration_keeps ?_
    exact h
  · refine fwGetPair_keeps ?_
    exact h
  · refine fwCastle_keeps ?_
    exact h
  · refine fwPairBegin_keeps ?_
    exact h
  · refine fwPairConfirm_keeps ?_
    exact h
  · refine fwUnpair_keeps ?_
    exact h
  · refine fwStartCapture_keeps ?_
    exact h
  · refine fwStopCapture_keeps ?_
    exact h
  · refine fwStartInjection_keeps ?_
    exact h
  · refine fwStopInjection_keeps ?_
    exact h
  · refine fwGetFrf_keeps ?_
    exact h
  · refine fwGetLifecycle_keeps ?_
    exact h
  · refine fwRetire_keeps ?_
    exact h
  · refine fwSelfTest_keeps ?_
    exact h
  · dsimp only
    exact h

theorem runReq_keeps {s0 s : State} {p1 : _} {p2 : _} {p3 : _} {p4 : _} {p5 : _} (h : Keeps s0 s) : Keeps s0 (runReq p1 p2 p3 p4 p5 s).2 := by
  unfold runReq
  split
  · refine runOp_keeps ?_
    exact h
  · refine runOp_keeps ?_
    exact h

theorem seqRun_keeps {s0 s : State} {p1 : _} {p2 : _} {p3 : _} {p4 : _} (h : Keeps s0 s) : Keeps s0 (seqRun p1 p2 p3 p4 s) := by
  unfold seqRun
  extract_lets +onlyGivenNames y1
  extract_lets +onlyGivenNames y2
  extract_lets +onlyGivenNames y3
  extract_lets +onlyGivenNames y4
  split
  · refine execReq_keeps ?_ ?_
    · intro x5 h6
      refine runReq_keeps ?_
      exact h6
    · exact h
  · split
    · split
      · unfold y2
        refine writeRsp_keeps ?_
        exact h
      · unfold y2
        refine writeRsp_keeps ?_
        exact h
    · split
      · unfold y2
        refine writeRsp_keeps ?_
        exact h
      · unfold y2
        refine writeRsp_keeps ?_
        exact h

theorem judgeReq_keeps {s0 s : State} {p1 : _} {p2 : _} {p3 : _} {p4 : _} (h : Keeps s0 s) : Keeps s0 (judgeReq p1 p2 p3 p4 s) := by
  unfold judgeReq
  extract_lets +onlyGivenNames y1
  extract_lets +onlyGivenNames y2
  split
  · unfold y2
    refine writeRsp_keeps ?_
    exact h
  · split
    · unfold y2
      refine writeRsp_keeps ?_
      exact h
    · split
      · refine openReq_keeps ?_
        exact h
      · extract_lets +onlyGivenNames y3
        have h3 : Keeps s0 y3 := by
          unfold y3
          refine lapse_keeps ?_
          exact h
        clear_value y3
        split
        · unfold y2
          refine writeRsp_keeps ?_
          exact h3
        · split
          · unfold y2
            refine writeRsp_keeps ?_
            exact h3
          · refine seqRun_keeps ?_
            refine State.mdChan_keeps ?_
            exact h3

theorem execRequestTaken_keeps {s0 s : State} {p1 : _} (h : Keeps s0 s) : KeepsOut s0 (execRequestTaken p1 s) := by
  unfold execRequestTaken
  refine KeepsOut.onUnit ?_
  refine KeepsOut.next ?_
  split
  · exact h
  · extract_lets +onlyGivenNames y1
    extract_lets +onlyGivenNames y2
    extract_lets +onlyGivenNames y3
    extract_lets +onlyGivenNames y4
    extract_lets +onlyGivenNames y5
    have h5 : Keeps s0 y5 := by
      unfold y5
      refine State.mdChan_keeps ?_
      exact h
    clear_value y5
    refine judgeReq_keeps ?_
    exact Keeps.same h5 rfl rfl rfl

end Sys2Proof.Machine
end

