-- ==== Sys2Proof/Laws/KeepsPair.lean ====
section
/-!
SUPPORT. What the operations keep (Laws/Keeps.lean): the pair, the control cycle, the Ledger and the end of shutdowns.
-/
namespace Sys2Proof.Machine

theorem takeLinks_keeps {s0 s : State} {p1 : _} (h : Keeps s0 s) : Keeps s0 (takeLinks p1 s) := by
  unfold takeLinks
  extract_lets +onlyGivenNames y1
  extract_lets +onlyGivenNames y2
  extract_lets +onlyGivenNames y3
  have h3 : Keeps s0 y3 := by
    unfold y3
    split
    · split
      · exact h
      · exact Keeps.same h rfl rfl rfl
    · exact h
  clear_value y3
  split
  · split
    · exact h3
    · exact Keeps.same h3 rfl rfl rfl
  · exact h3

theorem handValues_keeps {s0 s : State} {p1 : _} (h : Keeps s0 s) : Keeps s0 (handValues p1 s) := by
  unfold handValues
  extract_lets +onlyGivenNames y1
  exact Keeps.same h rfl rfl rfl

theorem takeDelays_keeps {s0 s : State} (h : Keeps s0 s) : Keeps s0 (takeDelays s) := by
  unfold takeDelays
  exact Keeps.same h rfl rfl rfl

theorem takeInjection_keeps {s0 s : State} (h : Keeps s0 s) : Keeps s0 (takeInjection s) := by
  unfold takeInjection
  exact Keeps.same h rfl rfl rfl

theorem takeTxVal_keeps {s0 s : State} {p1 : _} (h : Keeps s0 s) : Keeps s0 (takeTxVal p1 s) := by
  unfold takeTxVal
  extract_lets +onlyGivenNames y1
  split
  · exact h
  · extract_lets +onlyGivenNames y2
    extract_lets +onlyGivenNames y3
    exact Keeps.same h rfl rfl rfl

theorem execJournalCompaction_keeps {s0 s : State} (h : Keeps s0 s) : KeepsOut s0 (execJournalCompaction s) := by
  unfold execJournalCompaction
  refine KeepsOut.next ?_
  split
  · exact Keeps.same h rfl rfl rfl
  · exact h

theorem execCastleAck_keeps {s0 s : State} {p1 : _} (h : Keeps s0 s) : KeepsOut s0 (execCastleAck p1 s) := by
  unfold execCastleAck
  refine KeepsOut.next ?_
  exact Keeps.same h rfl rfl rfl

theorem resend_keeps {s0 s : State} {p1 : _} {p2 : _} (h : Keeps s0 s) : Keeps s0 (resend p1 p2 s) := by
  unfold resend
  extract_lets +onlyGivenNames y1
  split
  · exact Keeps.same h rfl rfl rfl
  · extract_lets +onlyGivenNames y2
    exact Keeps.same h rfl rfl rfl

theorem execJournalAppend_keeps {s0 s : State} (h : Keeps s0 s) : KeepsOut s0 (execJournalAppend s) := by
  unfold execJournalAppend
  refine KeepsOut.next ?_
  split
  · exact Keeps.same h rfl rfl rfl
  · exact h

theorem recordInjection_keeps {s0 s : State} (h : Keeps s0 s) : Keeps s0 (recordInjection s) := by
  unfold recordInjection
  exact Keeps.same h rfl rfl rfl

theorem State.mdBank_keeps {s0 s : State} {p1 : _} {p2 : _} (h : Keeps s0 s) : Keeps s0 (State.mdBank s p1 p2) := by
  unfold State.mdBank
  exact Keeps.same h rfl rfl rfl

theorem takeRecovery_keeps {s0 s : State} (h : Keeps s0 s) : Keeps s0 (takeRecovery s) := by
  unfold takeRecovery
  exact Keeps.same h rfl rfl rfl

theorem State.mdReq_keeps {s0 s : State} {p1 : _} {p2 : _} (h : Keeps s0 s) : Keeps s0 (State.mdReq s p1 p2) := by
  unfold State.mdReq
  exact Keeps.same h rfl rfl rfl

theorem execCorrectedWriteback_keeps {s0 s : State} {p1 : _} (h : Keeps s0 s) : KeepsOut s0 (execCorrectedWriteback p1 s) := by
  unfold execCorrectedWriteback
  refine KeepsOut.onUnit ?_
  refine KeepsOut.next ?_
  refine State.mdBank_keeps ?_
  exact h

theorem takeTicket_keeps {s0 s : State} {p1 : _} (h : Keeps s0 s) : Keeps s0 (takeTicket p1 s) := by
  unfold takeTicket
  extract_lets +onlyGivenNames y1
  extract_lets +onlyGivenNames y2
  split
  · exact h
  · exact Keeps.same h rfl rfl rfl

theorem execParamRecord_keeps {s0 s : State} {p1 : _} {p2 : _} {p3 : _} (h : Keeps s0 s) : KeepsOut s0 (execParamRecord p1 p2 p3 s) := by
  unfold execParamRecord
  refine KeepsOut.next ?_
  split
  · exact h
  · extract_lets +onlyGivenNames y1
    extract_lets +onlyGivenNames y2
    have h2 : Keeps s0 y2 := by
      unfold y2
      exact Keeps.same h rfl rfl rfl
    clear_value y2
    split
    · exact Keeps.same h2 rfl rfl rfl
    · exact h2

theorem execMirPeerEngChange_keeps {s0 s : State} {p1 : _} (h : Keeps s0 s) : KeepsOut s0 (execMirPeerEngChange p1 s) := by
  unfold execMirPeerEngChange
  refine KeepsOut.next ?_
  split
  · exact h
  · refine raiseEv_keeps ?_
    exact Keeps.same h rfl rfl rfl

theorem raiseStale_keeps {s0 s : State} (h : Keeps s0 s) : Keeps s0 (raiseStale s) := by
  unfold raiseStale
  extract_lets +onlyGivenNames y1
  refine raiseEv_keeps ?_
  exact h

theorem takeLanes_keeps {s0 s : State} (h : Keeps s0 s) : Keeps s0 (takeLanes s) := by
  unfold takeLanes
  exact Keeps.same h rfl rfl rfl

theorem sysRelease_keeps {s0 s : State} (h : Keeps s0 s) : Keeps s0 (sysRelease s) := by
  unfold sysRelease
  split
  · exact h
  · refine Keeps.foldl ?_ ?_
    · exact h
    · intro x1 a2 h3
      split
      · refine State.mdBk_keeps ?_
        refine joinPair_keeps ?_
        exact h3
      · exact h3

theorem engRaise_keeps {s0 s : State} (h : Keeps s0 s) : Keeps s0 (engRaise s) := by
  unfold engRaise
  split
  · exact h
  · refine raiseEv_keeps ?_
    exact Keeps.same h rfl rfl rfl

theorem takeStored_keeps {s0 s : State} {p1 : _} {p2 : _} (h : Keeps s0 s) : Keeps s0 (takeStored p1 p2 s) := by
  unfold takeStored
  extract_lets +onlyGivenNames y1
  extract_lets +onlyGivenNames y2
  split
  · exact h
  · refine State.mdChan_keeps ?_
    exact h

theorem enterEffect_keeps {s0 s : State} {p1 : _} {p2 : _} (h : Keeps s0 s) : Keeps s0 (enterEffect p1 p2 s) := by
  unfold enterEffect
  extract_lets +onlyGivenNames y1
  split
  · exact h
  · refine State.mdPlr_keeps ?_
    exact h

theorem takeWarm_keeps {s0 s : State} {p1 : _} (h : Keeps s0 s) : Keeps s0 (takeWarm p1 s) := by
  unfold takeWarm
  extract_lets +onlyGivenNames y1
  extract_lets +onlyGivenNames y2
  extract_lets +onlyGivenNames y3
  extract_lets +onlyGivenNames y4
  have h4 : Keeps s0 y4 := by
    unfold y4
    refine State.mdPlr_keeps ?_
    exact h
  clear_value y4
  exact Keeps.same h4 rfl rfl rfl

theorem takeSession_keeps {s0 s : State} {p1 : _} (h : Keeps s0 s) : Keeps s0 (takeSession p1 s) := by
  unfold takeSession
  extract_lets +onlyGivenNames y1
  refine State.mdChan_keeps ?_
  exact h

theorem State.putLock_keeps {s0 s : State} {p1 : _} {p2 : _} (h : Keeps s0 s) : Keeps s0 (State.putLock s p1 p2) := by
  unfold State.putLock
  exact Keeps.same h rfl rfl rfl

theorem execBankFillComplete_keeps {s0 s : State} {p1 : _} (h : Keeps s0 s) : KeepsOut s0 (execBankFillComplete p1 s) := by
  unfold execBankFillComplete
  refine KeepsOut.onUnit ?_
  refine KeepsOut.next ?_
  refine State.mdBank_keeps ?_
  exact h

theorem takeAuthority_keeps {s0 s : State} {p1 : _} (h : Keeps s0 s) : Keeps s0 (takeAuthority p1 s) := by
  unfold takeAuthority
  refine engRaise_keeps ?_
  exact Keeps.same h rfl rfl rfl

theorem adoptPlan_keeps {s0 s : State} {p1 : _} {p2 : _} (h : Keeps s0 s) : Keeps s0 (adoptPlan p1 p2 s) := by
  unfold adoptPlan
  extract_lets +onlyGivenNames y1
  extract_lets +onlyGivenNames y2
  have h2 : Keeps s0 y2 := by
    unfold y2
    refine State.mdSc_keeps ?_
    exact h
  clear_value y2
  extract_lets +onlyGivenNames y3
  have h3 : Keeps s0 y3 := by
    unfold y3
    refine State.mdPlr_keeps ?_
    exact h2
  clear_value y3
  split
  · refine mirSend_keeps ?_
    exact Keeps.same h3 rfl rfl rfl
  · exact h3

theorem execSidebandMask_keeps {s0 s : State} {p1 : _} {p2 : _} (h : Keeps s0 s) : KeepsOut s0 (execSidebandMask p1 p2 s) := by
  unfold execSidebandMask
  refine KeepsOut.onUnit ?_
  refine KeepsOut.next ?_
  extract_lets +onlyGivenNames y1
  split
  · exact h
  · split
    · refine State.mdReq_keeps ?_
      exact h
    · extract_lets +onlyGivenNames y2
      have h2 : Keeps s0 y2 := by
        unfold y2
        refine State.mdReq_keeps ?_
        exact h
      clear_value y2
      refine breakLocks_keeps ?_
      exact Keeps.same h2 rfl rfl rfl

theorem publishSnapshot_keeps {s0 s : State} (h : Keeps s0 s) : Keeps s0 (publishSnapshot s) := by
  unfold publishSnapshot
  extract_lets +onlyGivenNames y1
  extract_lets +onlyGivenNames y2
  extract_lets +onlyGivenNames y3
  have h3 : Keeps s0 y3 := by
    unfold y3
    refine Keeps.foldl ?_ ?_
    · exact h
    · intro x4 a5 h6
      refine State.ldgWrite_keeps ?_
      exact h6
  clear_value y3
  exact Keeps.same h3 rfl rfl rfl

theorem raiseBound_keeps {s0 s : State} {p1 : _} {p2 : _} (h : Keeps s0 s) : Keeps s0 (raiseBound p1 p2 s) := by
  unfold raiseBound
  refine raiseEv_keeps ?_
  exact h

theorem execMirrorAck_keeps {s0 s : State} {p1 : _} {p2 : _} (h : Keeps s0 s) : KeepsOut s0 (execMirrorAck p1 p2 s) := by
  unfold execMirrorAck
  refine KeepsOut.next ?_
  split
  · exact h
  · split
    · exact Keeps.same h rfl rfl rfl
    · refine resend_keeps ?_
      exact h

theorem takeCommitted_keeps {s0 s : State} (h : Keeps s0 s) : Keeps s0 (takeCommitted s) := by
  unfold takeCommitted
  extract_lets +onlyGivenNames y1
  extract_lets +onlyGivenNames y2
  extract_lets +onlyGivenNames y3
  split
  · extract_lets +onlyGivenNames y4
    exact Keeps.same h rfl rfl rfl
  · exact h

theorem execPlyTableWrite_keeps {s0 s : State} {p1 : _} {p2 : _} (h : Keeps s0 s) : KeepsOut s0 (execPlyTableWrite p1 p2 s) := by
  unfold execPlyTableWrite
  refine KeepsOut.next ?_
  split
  · split
    · exact Keeps.same h rfl rfl rfl
    · exact h
  · split
    · exact Keeps.same h rfl rfl rfl
    · exact h

theorem storeSample_keeps {s0 s : State} {p1 : _} {p2 : _} (h : Keeps s0 s) : Keeps s0 (storeSample p1 p2 s) := by
  unfold storeSample
  split
  · exact h
  · split
    · exact h
    · extract_lets +onlyGivenNames y1
      split
      · unfold y1
        exact Keeps.same h rfl rfl rfl
      · extract_lets +onlyGivenNames y2
        extract_lets +onlyGivenNames y3
        extract_lets +onlyGivenNames y4
        have h4 : Keeps s0 y4 := by
          unfold y4
          refine State.ldgWrite_keeps ?_
          exact h
        clear_value y4
        unfold y1
        exact Keeps.same h4 rfl rfl rfl

theorem tileDisabled_keeps {s0 s : State} {p1 : _} (h : Keeps s0 s) : Keeps s0 (tileDisabled p1 s) := by
  unfold tileDisabled
  extract_lets +onlyGivenNames y1
  extract_lets +onlyGivenNames y2
  split
  · refine raiseArm_keeps ?_
    refine State.mdPlr_keeps ?_
    exact h
  · exact h

theorem limitsEffect_keeps {s0 s : State} {p1 : _} {p2 : _} {p3 : _} {p4 : _} {p5 : _} {p6 : _} {p7 : _} (h : Keeps s0 s) : Keeps s0 (limitsEffect p1 p2 p3 p4 p5 p6 p7 s) := by
  unfold limitsEffect
  extract_lets +onlyGivenNames y1
  extract_lets +onlyGivenNames y2
  extract_lets +onlyGivenNames y3
  refine State.mdAx_keeps ?_
  exact h

theorem execPairTExpiry_keeps {s0 s : State} (h : Keeps s0 s) : KeepsOut s0 (execPairTExpiry s) := by
  unfold execPairTExpiry
  refine KeepsOut.next ?_
  split
  · exact h
  · extract_lets +onlyGivenNames y1
    have h1 : Keeps s0 y1 := by
      unfold y1
      refine State.upTo_keeps ?_
      exact h
    clear_value y1
    exact Keeps.same h1 rfl rfl rfl

theorem takeSecure_keeps {s0 s : State} {p1 : _} {p2 : _} (h : Keeps s0 s) : Keeps s0 (takeSecure p1 p2 s) := by
  unfold takeSecure
  extract_lets +onlyGivenNames y1
  extract_lets +onlyGivenNames y2
  have h2 : Keeps s0 y2 := by
    unfold y2
    split
    · refine secTouch_keeps ?_
      exact Keeps.same h rfl rfl rfl
    · exact h
  clear_value y2
  extract_lets +onlyGivenNames y3
  extract_lets +onlyGivenNames y4
  have h4 : Keeps s0 y4 := by
    unfold y4
    split
    · refine secTouch_keeps ?_
      exact Keeps.same h2 rfl rfl rfl
    · exact h2
  clear_value y4
  split
  · refine secTouch_keeps ?_
    exact Keeps.same h4 rfl rfl rfl
  · exact h4

theorem execLockAcquire_keeps {s0 s : State} {p1 : _} {p2 : _} {p3 : _} (h : Keeps s0 s) : KeepsOut s0 (execLockAcquire p1 p2 p3 s) := by
  unfold execLockAcquire
  refine KeepsOut.onUnit ?_
  refine KeepsOut.onUnit ?_
  refine KeepsOut.next ?_
  split
  · refine State.upTo_keeps ?_
    exact h
  · extract_lets +onlyGivenNames y1
    extract_lets +onlyGivenNames y2
    have h2 : Keeps s0 y2 := by
      unfold y2
      refine State.putLock_keeps ?_
      refine State.upTo_keeps ?_
      exact h
    clear_value y2
    exact Keeps.same h2 rfl rfl rfl

theorem execPlyTableAdopt_keeps {s0 s : State} {p1 : _} (h : Keeps s0 s) : KeepsOut s0 (execPlyTableAdopt p1 s) := by
  unfold execPlyTableAdopt
  refine KeepsOut.onUnit ?_
  refine KeepsOut.next ?_
  split
  · exact h
  · split
    · exact h
    · extract_lets +onlyGivenNames y1
      have h1 : Keeps s0 y1 := by
        unfold y1
        refine State.mdBank_keeps ?_
        exact h
      clear_value y1
      split
      · exact h1
      · exact Keeps.same h1 rfl rfl rfl

theorem execSingleAuthority_keeps {s0 s : State} (h : Keeps s0 s) : KeepsOut s0 (execSingleAuthority s) := by
  unfold execSingleAuthority
  refine KeepsOut.next ?_
  split
  · exact h
  · refine takeAuthority_keeps ?_
    exact h

theorem execMirrorLaneInService_keeps {s0 s : State} {p1 : _} (h : Keeps s0 s) : KeepsOut s0 (execMirrorLaneInService p1 s) := by
  unfold execMirrorLaneInService
  refine KeepsOut.onUnit ?_
  refine KeepsOut.next ?_
  extract_lets +onlyGivenNames y1
  split
  · exact h
  · extract_lets +onlyGivenNames y2
    extract_lets +onlyGivenNames y3
    have h3 : Keeps s0 y3 := by
      unfold y3
      exact Keeps.same h rfl rfl rfl
    clear_value y3
    refine raiseEv_keeps ?_
    exact h3

theorem takeDelta_keeps {s0 s : State} {p1 : _} {p2 : _} (h : Keeps s0 s) : Keeps s0 (takeDelta p1 p2 s) := by
  unfold takeDelta
  extract_lets +onlyGivenNames y1
  have h1 : Keeps s0 y1 := by
    unfold y1
    refine Keeps.foldl ?_ ?_
    · exact h
    · intro x2 a3 h4
      split
      · refine takeSession_keeps ?_
        exact h4
      · exact h4
  clear_value y1
  extract_lets +onlyGivenNames y5
  have h5 : Keeps s0 y5 := by
    unfold y5
    refine Keeps.foldl ?_ ?_
    · exact h1
    · intro x6 a7 h8
      split
      · refine takeTicket_keeps ?_
        exact h8
      · exact h8
  clear_value y5
  extract_lets +onlyGivenNames y9
  have h9 : Keeps s0 y9 := by
    unfold y9
    refine Keeps.foldl ?_ ?_
    · exact h5
    · intro x10 a11 h12
      split
      · refine takeStored_keeps ?_
        exact h12
      · exact h12
  clear_value y9
  extract_lets +onlyGivenNames y13
  have h13 : Keeps s0 y13 := by
    unfold y13
    split
    · refine takeCommitted_keeps ?_
      exact h9
    · exact h9
  clear_value y13
  extract_lets +onlyGivenNames y14
  have h14 : Keeps s0 y14 := by
    unfold y14
    refine Keeps.foldl ?_ ?_
    · exact h13
    · intro x15 a16 h17
      split
      · refine takeWarm_keeps ?_
        exact h17
      · exact h17
  clear_value y14
  extract_lets +onlyGivenNames y18
  have h18 : Keeps s0 y18 := by
    unfold y18
    refine Keeps.foldl ?_ ?_
    · exact h14
    · intro x19 a20 h21
      split
      · refine takeTxVal_keeps ?_
        exact h21
      · exact h21
  clear_value y18
  extract_lets +onlyGivenNames y22
  have h22 : Keeps s0 y22 := by
    unfold y22
    split
    · refine takeDelays_keeps ?_
      exact h18
    · exact h18
  clear_value y22
  split
  · refine takeSecure_keeps ?_
    exact h22
  · exact h22

theorem raiseAuthority_keeps {s0 s : State} {p1 : _} (h : Keeps s0 s) : Keeps s0 (raiseAuthority p1 s) := by
  unfold raiseAuthority
  refine raiseEv_keeps ?_
  exact h

theorem execCastlePrep_keeps {s0 s : State} {p1 : _} (h : Keeps s0 s) : KeepsOut s0 (execCastlePrep p1 s) := by
  unfold execCastlePrep
  refine KeepsOut.next ?_
  split
  · exact h
  · refine mirSend_keeps ?_
    exact Keeps.same h rfl rfl rfl

theorem execTakeoverRecord_keeps {s0 s : State} {p1 : _} (h : Keeps s0 s) : KeepsOut s0 (execTakeoverRecord p1 s) := by
  unfold execTakeoverRecord
  refine KeepsOut.next ?_
  extract_lets +onlyGivenNames y1
  have h1 : Keeps s0 y1 := by
    unfold y1
    refine State.upTo_keeps ?_
    exact h
  clear_value y1
  split
  · exact Keeps.same h1 rfl rfl rfl
  · exact h1

theorem sysApply_keeps {s0 s : State} (h : Keeps s0 s) : Keeps s0 (sysApply s) := by
  unfold sysApply
  split
  · exact h
  · refine Keeps.foldl ?_ ?_
    · exact h
    · intro x1 a2 h3
      split
      · exact h3
      · refine State.mdBk_keeps ?_
        refine cutPair_keeps ?_
        exact h3

theorem adoptArm_keeps {s0 s : State} {p1 : _} {p2 : _} (h : Keeps s0 s) : Keeps s0 (adoptArm p1 p2 s) := by
  unfold adoptArm
  extract_lets +onlyGivenNames y1
  extract_lets +onlyGivenNames y2
  extract_lets +onlyGivenNames y3
  extract_lets +onlyGivenNames y4
  have h4 : Keeps s0 y4 := by
    unfold y4
    refine State.mdSc_keeps ?_
    exact h
  clear_value y4
  refine State.mdAxes_keeps ?_
  exact h4

theorem execSystemRecord_keeps {s0 s : State} {p1 : _} {p2 : _} {p3 : _} {p4 : _} {p5 : _} {p6 : _} {p7 : _} (h : Keeps s0 s) :
    KeepsOut s0 (execSystemRecord p1 p2 p3 p4 p5 p6 p7 s) := by
  unfold execSystemRecord
  refine KeepsOut.next ?_
  extract_lets +onlyGivenNames y1
  have h1 : Keeps s0 y1 := by
    unfold y1
    refine State.upTo_keeps ?_
    exact h
  split
  · exact h1
  · extract_lets +onlyGivenNames y2
    extract_lets +onlyGivenNames y3
    extract_lets +onlyGivenNames y4
    extract_lets +onlyGivenNames y5
    extract_lets +onlyGivenNames y6
    extract_lets +onlyGivenNames y7
    extract_lets +onlyGivenNames y8
    have h8 : Keeps s0 y8 := by
      unfold y8
      exact Keeps.same h1 rfl rfl rfl
    extract_lets +onlyGivenNames y9
    have h9 : Keeps s0 y9 := by
      unfold y9
      split
      · refine Keeps.foldl ?_ ?_
        · exact h8
        · intro x10 a11 h12
          refine adoptPlan_keeps ?_
          refine adoptArm_keeps ?_
          exact h12
      · exact h8
    clear_value y9
    refine sysRelease_keeps ?_
    exact h9

theorem execCopyDeadline_keeps {s0 s : State} (h : Keeps s0 s) : KeepsOut s0 (execCopyDeadline s) := by
  unfold execCopyDeadline
  refine KeepsOut.next ?_
  split
  · exact h
  · extract_lets +onlyGivenNames y1
    extract_lets +onlyGivenNames y2
    have h2 : Keeps s0 y2 := by
      unfold y2
      refine State.upTo_keeps ?_
      exact h
    clear_value y2
    extract_lets +onlyGivenNames y3
    extract_lets +onlyGivenNames y4
    have h4 : Keeps s0 y4 := by
      unfold y4
      exact Keeps.same h2 rfl rfl rfl
    clear_value y4
    split
    · exact Keeps.same h4 rfl rfl rfl
    · extract_lets +onlyGivenNames y5
      extract_lets +onlyGivenNames y6
      extract_lets +onlyGivenNames y7
      extract_lets +onlyGivenNames y8
      split
      · exact Keeps.same h4 rfl rfl rfl
      · extract_lets +onlyGivenNames y9
        extract_lets +onlyGivenNames y10
        have h10 : Keeps s0 y10 := by
          unfold y10
          exact Keeps.same h4 rfl rfl rfl
        clear_value y10
        extract_lets +onlyGivenNames y11
        have h11 : Keeps s0 y11 := by
          unfold y11
          split
          · refine raiseStale_keeps ?_
            exact h10
          · exact h10
        clear_value y11
        extract_lets +onlyGivenNames y12
        have h12 : Keeps s0 y12 := by
          unfold y12
          split
          · refine engRaise_keeps ?_
            exact h11
          · exact h11
        clear_value y12
        exact Keeps.same h12 rfl rfl rfl

theorem execWarmReq_keeps {s0 s : State} {p1 : _} (h : Keeps s0 s) : KeepsOut s0 (execWarmReq p1 s) := by
  unfold execWarmReq
  refine KeepsOut.onUnit ?_
  refine KeepsOut.next ?_
  split
  · exact h
  · extract_lets +onlyGivenNames y1
    refine mirDelta_keeps ?_
    refine mirDelta_keeps ?_
    exact h

theorem execEpochAckCheck_keeps {s0 s : State} (h : Keeps s0 s) : KeepsOut s0 (execEpochAckCheck s) := by
  unfold execEpochAckCheck
  refine KeepsOut.next ?_
  split
  · extract_lets +onlyGivenNames y1
    have h1 : Keeps s0 y1 := by
      unfold y1
      refine State.upTo_keeps ?_
      exact h
    clear_value y1
    exact Keeps.same h1 rfl rfl rfl
  · exact h

theorem yieldAuthority_keeps {s0 s : State} (h : Keeps s0 s) : Keeps s0 (yieldAuthority s) := by
  unfold yieldAuthority
  refine ttcDrop_keeps ?_
  exact Keeps.same h rfl rfl rfl

theorem autoCastle_keeps {s0 s : State} (h : Keeps s0 s) : Keeps s0 (autoCastle s) := by
  unfold autoCastle
  extract_lets +onlyGivenNames y1
  split
  · refine castleStart_keeps ?_
    exact h
  · exact h

theorem execLockLeaseExpiry_keeps {s0 s : State} {p1 : _} (h : Keeps s0 s) : KeepsOut s0 (execLockLeaseExpiry p1 s) := by
  unfold execLockLeaseExpiry
  refine KeepsOut.onUnit ?_
  refine KeepsOut.next ?_
  extract_lets +onlyGivenNames y1
  split
  · refine State.putLock_keeps ?_
    refine State.upTo_keeps ?_
    exact h
  · exact h

theorem execPlanRecord_keeps {s0 s : State} {p1 : _} {p2 : _} (h : Keeps s0 s) : KeepsOut s0 (execPlanRecord p1 p2 s) := by
  unfold execPlanRecord
  refine KeepsOut.onUnit ?_
  refine KeepsOut.next ?_
  split
  · exact h
  · extract_lets +onlyGivenNames y1
    extract_lets +onlyGivenNames y2
    extract_lets +onlyGivenNames y3
    extract_lets +onlyGivenNames y4
    extract_lets +onlyGivenNames y5
    have h5 : Keeps s0 y5 := by
      unfold y5
      refine State.ldgWrite_keeps ?_
      exact h
    clear_value y5
    extract_lets +onlyGivenNames y6
    have h6 : Keeps s0 y6 := by
      unfold y6
      refine State.mdPlr_keeps ?_
      exact h5
    clear_value y6
    exact Keeps.same h6 rfl rfl rfl

theorem execCastleDue_keeps {s0 s : State} (h : Keeps s0 s) : KeepsOut s0 (execCastleDue s) := by
  unfold execCastleDue
  refine KeepsOut.next ?_
  split
  · exact h
  · extract_lets +onlyGivenNames y1
    extract_lets +onlyGivenNames y2
    have h2 : Keeps s0 y2 := by
      unfold y2
      refine raiseCastle_keeps ?_
      exact Keeps.same h rfl rfl rfl
    clear_value y2
    refine autoCastle_keeps ?_
    exact h2

theorem execMirrorAckTimeout_keeps {s0 s : State} {p1 : _} (h : Keeps s0 s) : KeepsOut s0 (execMirrorAckTimeout p1 s) := by
  unfold execMirrorAckTimeout
  refine KeepsOut.next ?_
  split
  · exact h
  · extract_lets +onlyGivenNames y1
    have h1 : Keeps s0 y1 := by
      unfold y1
      refine State.upTo_keeps ?_
      exact h
    clear_value y1
    refine resend_keeps ?_
    exact h1

theorem execLockRelease_keeps {s0 s : State} {p1 : _} {p2 : _} {p3 : _} (h : Keeps s0 s) : KeepsOut s0 (execLockRelease p1 p2 p3 s) := by
  unfold execLockRelease
  refine KeepsOut.onUnit ?_
  refine KeepsOut.onUnit ?_
  refine KeepsOut.next ?_
  split
  · refine State.upTo_keeps ?_
    exact h
  · refine State.putLock_keeps ?_
    refine State.upTo_keeps ?_
    exact h

theorem mirrorSend_keeps {s0 s : State} {p1 : _} (h : Keeps s0 s) : Keeps s0 (mirrorSend p1 s) := by
  unfold mirrorSend
  split
  · exact h
  · extract_lets +onlyGivenNames y1
    extract_lets +onlyGivenNames y2
    have h2 : Keeps s0 y2 := by
      unfold y2
      exact Keeps.same h rfl rfl rfl
    clear_value y2
    extract_lets +onlyGivenNames y3
    extract_lets +onlyGivenNames y4
    have h4 : Keeps s0 y4 := by
      unfold y4
      split
      · refine sendHello_keeps ?_
        exact h2
      · exact h2
    clear_value y4
    extract_lets +onlyGivenNames y5
    split
    · split
      · exact h4
      · exact Keeps.same h4 rfl rfl rfl
    · extract_lets +onlyGivenNames y6
      extract_lets +onlyGivenNames y7
      extract_lets +onlyGivenNames y8
      extract_lets +onlyGivenNames y9
      have h9 : Keeps s0 y9 := by
        unfold y9
        exact Keeps.same h4 rfl rfl rfl
      clear_value y9
      extract_lets +onlyGivenNames y10
      have h10 : Keeps s0 y10 := by
        unfold y10
        refine mirSend_keeps ?_
        exact h9
      clear_value y10
      refine Keeps.foldl ?_ ?_
      · exact h10
      · intro x11 a12 h13
        refine mirSend_keeps ?_
        exact h13

theorem takeTest_keeps {s0 s : State} {p1 : _} (h : Keeps s0 s) : Keeps s0 (takeTest p1 s) := by
  unfold takeTest
  split
  · exact h
  · extract_lets +onlyGivenNames y1
    extract_lets +onlyGivenNames y2
    extract_lets +onlyGivenNames y3
    have h3 : Keeps s0 y3 := by
      unfold y3
      refine raiseEv_keeps ?_
      refine endTicket_keeps ?_
      exact h
    clear_value y3
    extract_lets +onlyGivenNames y4
    have h4 : Keeps s0 y4 := by
      unfold y4
      refine State.mdBk_keeps ?_
      exact h3
    clear_value y4
    split
    · exact h4
    · refine closePair_keeps ?_
      exact h4

theorem execDelta_keeps {s0 s : State} {p1 : _} {p2 : _} (h : Keeps s0 s) : KeepsOut s0 (execDelta p1 p2 s) := by
  unfold execDelta
  refine KeepsOut.next ?_
  split
  · exact h
  · refine takeDelta_keeps ?_
    refine State.ldgWrite_keeps ?_
    exact h

theorem execCastleAutoRetry_keeps {s0 s : State} (h : Keeps s0 s) : KeepsOut s0 (execCastleAutoRetry s) := by
  unfold execCastleAutoRetry
  refine KeepsOut.next ?_
  split
  · exact h
  · extract_lets +onlyGivenNames y1
    have h1 : Keeps s0 y1 := by
      unfold y1
      refine State.upTo_keeps ?_
      exact h
    clear_value y1
    refine autoCastle_keeps ?_
    exact Keeps.same h1 rfl rfl rfl

theorem takeCancels_keeps {s0 s : State} {p1 : _} (h : Keeps s0 s) : Keeps s0 (takeCancels p1 s) := by
  unfold takeCancels
  refine Keeps.foldl ?_ ?_
  · exact h
  · intro x1 a2 h3
    split
    · exact h3
    · split
      · refine Keeps.foldl ?_ ?_
        · exact h3
        · intro x4 a5 h6
          split
          · split
            · refine endInjection_keeps ?_
              refine endTicket_keeps ?_
              exact h6
            · exact h6
          · exact h6
      · extract_lets +onlyGivenNames y7
        exact Keeps.same h3 rfl rfl rfl

theorem castleDone_keeps {s0 s : State} {p1 : _} (h : Keeps s0 s) : Keeps s0 (castleDone p1 s) := by
  unfold castleDone
  extract_lets +onlyGivenNames y1
  extract_lets +onlyGivenNames y2
  have h2 : Keeps s0 y2 := by
    unfold y2
    refine secTouch_keeps ?_
    exact Keeps.same h rfl rfl rfl
  clear_value y2
  extract_lets +onlyGivenNames y3
  have h3 : Keeps s0 y3 := by
    unfold y3
    refine raiseCastle_keeps ?_
    exact h2
  clear_value y3
  split
  · exact h3
  · refine finishTicket_keeps ?_
    exact h3

theorem clearWay_keeps {s0 s : State} {p1 : _} (h : Keeps s0 s) : Keeps s0 (clearWay p1 s) := by
  unfold clearWay
  extract_lets +onlyGivenNames y1
  extract_lets +onlyGivenNames y2
  have h2 : Keeps s0 y2 := by
    unfold y2
    split
    · split
      · refine endInjection_keeps ?_
        exact h
      · exact h
    · split
      · refine endInjection_keeps ?_
        exact h
      · exact h
  clear_value y2
  split
  · refine State.mdAx_keeps ?_
    refine endTicket_keeps ?_
    exact h2
  · exact h2

theorem execPairSecret_keeps {s0 s : State} {p1 : _} (h : Keeps s0 s) : KeepsOut s0 (execPairSecret p1 s) := by
  unfold execPairSecret
  refine KeepsOut.next ?_
  split
  · exact h
  · split
    split
    · extract_lets +onlyGivenNames y1
      extract_lets +onlyGivenNames y2
      have h2 : Keeps s0 y2 := by
        unfold y2
        refine setInForce_keeps ?_
        exact h
      clear_value y2
      extract_lets +onlyGivenNames y3
      extract_lets +onlyGivenNames y4
      extract_lets +onlyGivenNames y5
      have h5 : Keeps s0 y5 := by
        unfold y5
        exact Keeps.same h2 rfl rfl rfl
      clear_value y5
      extract_lets +onlyGivenNames y6
      have h6 : Keeps s0 y6 := by
        unfold y6
        split
        · refine setMode_keeps ?_
          exact h5
        · exact h5
      clear_value y6
      extract_lets +onlyGivenNames y7
      refine addAudit_keeps ?_
      exact h6
    · exact h

theorem execPairWaitEnd_keeps {s0 s : State} (h : Keeps s0 s) : KeepsOut s0 (execPairWaitEnd s) := by
  unfold execPairWaitEnd
  refine KeepsOut.next ?_
  split
  · exact h
  · extract_lets +onlyGivenNames y1
    have h1 : Keeps s0 y1 := by
      unfold y1
      refine State.upTo_keeps ?_
      exact h
    clear_value y1
    extract_lets +onlyGivenNames y2
    extract_lets +onlyGivenNames y3
    have h3 : Keeps s0 y3 := by
      unfold y3
      exact Keeps.same h1 rfl rfl rfl
    clear_value y3
    extract_lets +onlyGivenNames y4
    split
    · refine raiseAuthority_keeps ?_
      exact h3
    · split
      · exact h3
      · extract_lets +onlyGivenNames y5
        extract_lets +onlyGivenNames y6
        have h6 : Keeps s0 y6 := by
          unfold y6
          refine tbWriteSrc_keeps ?_
          exact Keeps.same h3 rfl rfl rfl
        clear_value y6
        refine raiseAuthority_keeps ?_
        refine takeAuthority_keeps ?_
        exact h6

theorem planSamples_keeps {s0 s : State} {p1 : Time} (h : Keeps s0 s) : Keeps s0 (planSamples p1 s).2 := by
  unfold planSamples
  refine Keeps.foldl_snd h ?_
  intro x a k
  exact planStep_keeps (planTs_keeps k)

theorem takeTickets_keeps {s0 s : State} (h : Keeps s0 s) : Keeps s0 (takeTickets s) := by
  unfold takeTickets
  extract_lets +onlyGivenNames y1
  have h1 : Keeps s0 y1 := by
    unfold y1
    refine Keeps.foldl ?_ ?_
    · exact h
    · intro x2 a3 h4
      refine takeTest_keeps ?_
      exact h4
  clear_value y1
  refine Keeps.foldl ?_ ?_
  · exact h1
  · intro x5 a6 h7
    split
    · refine endTicket_keeps ?_
      exact h7
    · exact h7

theorem transferDone_keeps {s0 s : State} {p1 : _} (h : Keeps s0 s) : Keeps s0 (transferDone p1 s) := by
  unfold transferDone
  split
  · exact h
  · split
    · exact h
    · extract_lets +onlyGivenNames y1
      extract_lets +onlyGivenNames y2
      have h2 : Keeps s0 y2 := by
        unfold y2
        exact Keeps.same h rfl rfl rfl
      clear_value y2
      refine finishTicket_keeps ?_
      refine raiseEv_keeps ?_
      exact h2

theorem homeEffect_keeps {s0 s : State} {p1 : _} {p2 : _} {p3 : _} {p4 : _} {p5 : _} {p6 : _} {p7 : _} {p8 : _} (h : Keeps s0 s) : Keeps s0 (homeEffect p1 p2 p3 p4 p5 p6 p7 p8 s) := by
  unfold homeEffect
  extract_lets +onlyGivenNames y1
  split
  · refine finishTicket_keeps ?_
    exact h
  · extract_lets +onlyGivenNames y2
    refine State.mdAx_keeps ?_
    refine clearWay_keeps ?_
    exact h

theorem gearEffect_keeps {s0 s : State} {p1 : _} {p2 : _} {p3 : _} {p4 : _} {p5 : _} {p6 : _} {p7 : _} {p8 : _} {p9 : _} (h : Keeps s0 s) : Keeps s0 (gearEffect p1 p2 p3 p4 p5 p6 p7 p8 p9 s) := by
  unfold gearEffect
  extract_lets +onlyGivenNames y1
  refine State.mdAx_keeps ?_
  refine clearWay_keeps ?_
  exact h

theorem takeSet_keeps {s0 s : State} {p1 : _} {p2 : _} (h : Keeps s0 s) : Keeps s0 (takeSet p1 p2 s) := by
  unfold takeSet
  extract_lets +onlyGivenNames y1
  extract_lets +onlyGivenNames y2
  extract_lets +onlyGivenNames y3
  have h3 : Keeps s0 y3 := by
    unfold y3
    refine setInForce_keeps ?_
    exact h
  clear_value y3
  extract_lets +onlyGivenNames y4
  extract_lets +onlyGivenNames y5
  have h5 : Keeps s0 y5 := by
    unfold y5
    split
    · exact h3
    · split
      · refine secTouch_keeps ?_
        exact Keeps.same h3 rfl rfl rfl
      · refine secTouch_keeps ?_
        exact h3
  clear_value y5
  extract_lets +onlyGivenNames y6
  have h6 : Keeps s0 y6 := by
    unfold y6
    split
    · exact h5
    · refine setMode_keeps ?_
      exact h5
  clear_value y6
  extract_lets +onlyGivenNames y7
  have h7 : Keeps s0 y7 := by
    unfold y7
    refine raiseEv_keeps ?_
    exact h6
  clear_value y7
  extract_lets +onlyGivenNames y8
  have h8 : Keeps s0 y8 := by
    unfold y8
    split
    · refine raiseEv_keeps ?_
      exact h7
    · exact h7
  clear_value y8
  extract_lets +onlyGivenNames y9
  extract_lets +onlyGivenNames y10
  extract_lets +onlyGivenNames y11
  have h11 : Keeps s0 y11 := by
    unfold y11
    exact Keeps.same h8 rfl rfl rfl
  clear_value y11
  split
  · exact h11
  · refine answer_keeps ?_
    exact h11

theorem execCastleOverdue_keeps {s0 s : State} (h : Keeps s0 s) : KeepsOut s0 (execCastleOverdue s) := by
  unfold execCastleOverdue
  refine KeepsOut.next ?_
  split
  · exact h
  · extract_lets +onlyGivenNames y1
    extract_lets +onlyGivenNames y2
    have h2 : Keeps s0 y2 := by
      unfold y2
      exact Keeps.same h rfl rfl rfl
    split
    · refine shadowTo_keeps ?_
      exact h2
    · exact h2

theorem unpaired_keeps {s0 s : State} (h : Keeps s0 s) : Keeps s0 (unpaired s) := by
  unfold unpaired
  extract_lets +onlyGivenNames y1
  extract_lets +onlyGivenNames y2
  split
  · split
    · unfold y1
      refine raiseEv_keeps ?_
      refine secTouch_keeps ?_
      refine Keeps.same (t := shadowTo ShState.absent 1 s) ?_ rfl rfl rfl
      refine shadowTo_keeps ?_
      exact h
    · exact h
  · split
    · split
      · extract_lets +onlyGivenNames y3
        have h3 : Keeps s0 y3 := by
          unfold y3
          refine Keeps.foldl ?_ ?_
          · exact h
          · intro x4 a5 h6
            refine State.mdBk_keeps ?_
            refine cutPair_keeps ?_
            exact h6
        clear_value y3
        extract_lets +onlyGivenNames y7
        extract_lets +onlyGivenNames y8
        have h8 : Keeps s0 y8 := by
          unfold y8
          split
          · refine raiseEv_keeps ?_
            exact Keeps.same h3 rfl rfl rfl
          · exact h3
        clear_value y8
        unfold y1
        refine raiseEv_keeps ?_
        refine secTouch_keeps ?_
        refine Keeps.same (t := shadowTo ShState.absent 1 y8) ?_ rfl rfl rfl
        refine shadowTo_keeps ?_
        exact h8
      · exact h
    · split
      · extract_lets +onlyGivenNames y9
        have h9 : Keeps s0 y9 := by
          unfold y9
          refine Keeps.foldl ?_ ?_
          · exact h
          · intro x10 a11 h12
            refine State.mdBk_keeps ?_
            refine cutPair_keeps ?_
            exact h12
        clear_value y9
        extract_lets +onlyGivenNames y13
        extract_lets +onlyGivenNames y14
        have h14 : Keeps s0 y14 := by
          unfold y14
          split
          · refine raiseEv_keeps ?_
            exact Keeps.same h9 rfl rfl rfl
          · exact h9
        clear_value y14
        unfold y1
        refine raiseEv_keeps ?_
        refine secTouch_keeps ?_
        refine Keeps.same (t := shadowTo ShState.absent 1 y14) ?_ rfl rfl rfl
        refine shadowTo_keeps ?_
        exact h14
      · exact h

theorem latchHome_keeps {s0 s : State} {p1 : _} {p2 : _} (h : Keeps s0 s) : Keeps s0 (latchHome p1 p2 s) := by
  unfold latchHome
  split
  · exact h
  · split
    · exact h
    · split
      extract_lets +onlyGivenNames y1
      have h1 : Keeps s0 y1 := by
        unfold y1
        refine State.mdAx_keeps ?_
        exact h
      clear_value y1
      split
      · split
        · refine endTicket_keeps ?_
          exact h1
        · refine finishTicket_keeps ?_
          exact h1
      · exact h1

theorem castleIn_keeps {s0 s : State} {p1 : _} (h : Keeps s0 s) : Keeps s0 (castleIn p1 s) := by
  unfold castleIn
  extract_lets +onlyGivenNames y1
  extract_lets +onlyGivenNames y2
  extract_lets +onlyGivenNames y3
  have h3 : Keeps s0 y3 := by
    unfold y3
    exact Keeps.same h rfl rfl rfl
  clear_value y3
  extract_lets +onlyGivenNames y4
  have h4 : Keeps s0 y4 := by
    unfold y4
    refine raiseAuthority_keeps ?_
    refine takeAuthority_keeps ?_
    exact h3
  clear_value y4
  refine shadowTo_keeps ?_
  refine tbTakeover_keeps ?_
  exact h4

theorem enableEffect.enableNow_keeps {s0 s : State} {p1 : _} {p2 : _} (h : Keeps s0 s) : Keeps s0 (enableEffect.enableNow p1 p2 s) := by
  unfold enableEffect.enableNow
  extract_lets +onlyGivenNames y1
  extract_lets +onlyGivenNames y2
  have h2 : Keeps s0 y2 := by
    unfold y2
    refine State.mdSc_keeps ?_
    refine beginEnable_keeps ?_
    exact h
  clear_value y2
  refine Staged.answer_keeps ?_
  exact h2

theorem hbOfShadow_keeps {s0 s : State} {p1 : _} (h : Keeps s0 s) : Keeps s0 (hbOfShadow p1 s) := by
  unfold hbOfShadow
  extract_lets +onlyGivenNames y1
  extract_lets +onlyGivenNames y2
  have h2 : Keeps s0 y2 := by
    unfold y2
    exact Keeps.same h rfl rfl rfl
  split
  · refine shadowTo_keeps ?_
    split
    · split
      · refine castleFail_keeps ?_
        exact h2
      · exact h2
    · split
      · refine castleFail_keeps ?_
        exact h2
      · exact h2
  · exact h2

theorem enableEffect_keeps {s0 s : State} {p1 : _} {p2 : _} (h : Keeps s0 s) : Keeps s0 (enableEffect p1 p2 s) := by
  unfold enableEffect
  extract_lets +onlyGivenNames y1
  extract_lets +onlyGivenNames y2
  split
  · refine Staged.answer_keeps ?_
    exact h
  · split
    · refine Staged.answer_keeps ?_
      exact h
    · split
      · refine Staged.answer_keeps ?_
        exact h
      · split
        · split
          · refine Staged.answer_keeps ?_
            exact h
          · refine enableEffect.enableNow_keeps ?_
            exact h
        · refine enableEffect.enableNow_keeps ?_
          exact h

theorem execTakeoverDecision_keeps {s0 s : State} (h : Keeps s0 s) : KeepsOut s0 (execTakeoverDecision s) := by
  unfold execTakeoverDecision
  refine KeepsOut.next ?_
  split
  · exact h
  · extract_lets +onlyGivenNames y1
    extract_lets +onlyGivenNames y2
    have h2 : Keeps s0 y2 := by
      unfold y2
      exact Keeps.same h rfl rfl rfl
    clear_value y2
    split
    · exact h2
    · extract_lets +onlyGivenNames y3
      extract_lets +onlyGivenNames y4
      extract_lets +onlyGivenNames y5
      extract_lets +onlyGivenNames y6
      have h6 : Keeps s0 y6 := by
        unfold y6
        exact Keeps.same h2 rfl rfl rfl
      clear_value y6
      extract_lets +onlyGivenNames y7
      have h7 : Keeps s0 y7 := by
        unfold y7
        refine takeAuthority_keeps ?_
        exact h6
      clear_value y7
      extract_lets +onlyGivenNames y8
      have h8 : Keeps s0 y8 := by
        unfold y8
        refine tbTakeover_keeps ?_
        exact h7
      clear_value y8
      extract_lets +onlyGivenNames y9
      have h9 : Keeps s0 y9 := by
        unfold y9
        refine raiseAuthority_keeps ?_
        exact h8
      clear_value y9
      refine takeTickets_keeps ?_
      refine shadowTo_keeps ?_
      exact h9

theorem stepEffect_keeps {s0 s : State} {p1 : _} {p2 : _} {p3 : _} {p4 : _} (h : Keeps s0 s) : Keeps s0 (stepEffect p1 p2 p3 p4 s) := by
  unfold stepEffect
  extract_lets +onlyGivenNames y1
  have h1 : Keeps s0 y1 := by
    unfold y1
    refine State.mdAx_keeps ?_
    refine clearWay_keeps ?_
    exact h
  clear_value y1
  exact Keeps.same h1 rfl rfl rfl

theorem execHello_keeps {s0 s : State} {p1 : _} {p2 : _} {p3 : _} {p4 : _} {p5 : _} {p6 : _} {p7 : _} (h : Keeps s0 s) : KeepsOut s0 (execHello p1 p2 p3 p4 p5 p6 p7 s) := by
  unfold execHello
  refine KeepsOut.next ?_
  split
  · exact h
  · extract_lets +onlyGivenNames y1
    have h1 : Keeps s0 y1 := by
      unfold y1
      refine State.upTo_keeps ?_
      exact h
    extract_lets +onlyGivenNames y2
    extract_lets +onlyGivenNames y3
    extract_lets +onlyGivenNames y4
    extract_lets +onlyGivenNames y5
    have h5 : Keeps s0 y5 := by
      unfold y5
      exact Keeps.same h1 rfl rfl rfl
    extract_lets +onlyGivenNames y6
    have h6 : Keeps s0 y6 := by
      unfold y6
      split
      · refine transferDone_keeps ?_
        exact h5
      · exact h5
    clear_value y6
    split
    · exact h6
    · extract_lets +onlyGivenNames y7
      split
      · refine shadowTo_keeps ?_
        refine raiseEv_keeps ?_
        exact h6
      · exact Keeps.same h6 rfl rfl rfl

theorem motionEffect_keeps {s0 s : State} {p1 : _} {p2 : _} {p3 : _} (h : Keeps s0 s) : Keeps s0 (motionEffect p1 p2 p3 s) := by
  unfold motionEffect
  extract_lets +onlyGivenNames y1
  refine State.mdAx_keeps ?_
  refine clearWay_keeps ?_
  exact h

theorem linkLost_keeps {s0 s : State} (h : Keeps s0 s) : Keeps s0 (linkLost s) := by
  unfold linkLost
  extract_lets +onlyGivenNames y1
  extract_lets +onlyGivenNames y2
  have h2 : Keeps s0 y2 := by
    unfold y2
    refine Keeps.foldl ?_ ?_
    · exact Keeps.same h rfl rfl rfl
    · intro x3 a4 h5
      refine laneOut_keeps ?_
      exact h5
  clear_value y2
  split
  · exact Keeps.same h2 rfl rfl rfl
  · split
    · exact h2
    · refine shadowTo_keeps ?_
      exact h2

theorem execShadowReady_keeps {s0 s : State} (h : Keeps s0 s) : KeepsOut s0 (execShadowReady s) := by
  unfold execShadowReady
  refine KeepsOut.next ?_
  extract_lets +onlyGivenNames y1
  split
  · refine shadowTo_keeps ?_
    exact Keeps.same h rfl rfl rfl
  · exact h

theorem execShadowJoining_keeps {s0 s : State} (h : Keeps s0 s) : KeepsOut s0 (execShadowJoining s) := by
  unfold execShadowJoining
  refine KeepsOut.next ?_
  extract_lets +onlyGivenNames y1
  extract_lets +onlyGivenNames y2
  split
  · extract_lets +onlyGivenNames y3
    split
    · refine shadowTo_keeps ?_
      exact h
    · exact h
  · exact h

theorem castleOut_keeps {s0 s : State} (h : Keeps s0 s) : Keeps s0 (castleOut s) := by
  unfold castleOut
  extract_lets +onlyGivenNames y1
  extract_lets +onlyGivenNames y2
  have h2 : Keeps s0 y2 := by
    unfold y2
    refine yieldAuthority_keeps ?_
    exact Keeps.same h rfl rfl rfl
  clear_value y2
  refine shadowTo_keeps ?_
  refine tbMirror_keeps ?_
  exact h2

theorem takeSets_keeps {s0 s : State} {p1 : _} {p2 : _} (h : Keeps s0 s) : Keeps s0 (takeSets p1 p2 s) := by
  unfold takeSets
  extract_lets +onlyGivenNames y1
  extract_lets +onlyGivenNames y2
  extract_lets +onlyGivenNames y3
  have h3 : Keeps s0 y3 := by
    unfold y3
    exact Keeps.same h rfl rfl rfl
  clear_value y3
  split
  · refine Keeps.foldl ?_ ?_
    · exact h3
    · intro x4 a5 h6
      refine takeSet_keeps ?_
      exact h6
  · exact Keeps.same h3 rfl rfl rfl

theorem hbOfActive_keeps {s0 s : State} {p1 : _} (h : Keeps s0 s) : Keeps s0 (hbOfActive p1 s) := by
  unfold hbOfActive
  extract_lets +onlyGivenNames y1
  extract_lets +onlyGivenNames y2
  have h2 : Keeps s0 y2 := by
    unfold y2
    exact Keeps.same h rfl rfl rfl
  extract_lets +onlyGivenNames y3
  extract_lets +onlyGivenNames y4
  have h4 : Keeps s0 y4 := by
    unfold y4
    split
    · refine tbMirror_keeps ?_
      exact Keeps.same h2 rfl rfl rfl
    · exact h2
  clear_value y4
  split
  · refine shadowTo_keeps ?_
    exact h4
  · exact h4

theorem execCastleEpochCheck_keeps {s0 s : State} (h : Keeps s0 s) : KeepsOut s0 (execCastleEpochCheck s) := by
  unfold execCastleEpochCheck
  refine KeepsOut.next ?_
  split
  · exact h
  · split
    · exact h
    · extract_lets +onlyGivenNames y1
      have h1 : Keeps s0 y1 := by
        unfold y1
        refine State.upTo_keeps ?_
        exact h
      clear_value y1
      split
      · refine castleDone_keeps ?_
        exact h1
      · extract_lets +onlyGivenNames y2
        have h2 : Keeps s0 y2 := by
          unfold y2
          refine castleFail_keeps ?_
          exact h1
        clear_value y2
        split
        · extract_lets +onlyGivenNames y3
          extract_lets +onlyGivenNames y4
          extract_lets +onlyGivenNames y5
          have h5 : Keeps s0 y5 := by
            unfold y5
            exact Keeps.same h2 rfl rfl rfl
          clear_value y5
          extract_lets +onlyGivenNames y6
          have h6 : Keeps s0 y6 := by
            unfold y6
            refine raiseAuthority_keeps ?_
            refine takeAuthority_keeps ?_
            exact h5
          clear_value y6
          refine shadowTo_keeps ?_
          refine tbTakeover_keeps ?_
          exact h6
        · extract_lets +onlyGivenNames y7
          extract_lets +onlyGivenNames y8
          have h8 : Keeps s0 y8 := by
            unfold y8
            refine yieldAuthority_keeps ?_
            exact Keeps.same h2 rfl rfl rfl
          clear_value y8
          refine shadowTo_keeps ?_
          refine tbMirror_keeps ?_
          exact h8

theorem execPairCommitEffect_keeps {s0 s : State} {p1 : _} (h : Keeps s0 s) : KeepsOut s0 (execPairCommitEffect p1 s) := by
  unfold execPairCommitEffect
  refine KeepsOut.next ?_
  split
  · exact h
  · extract_lets +onlyGivenNames y1
    extract_lets +onlyGivenNames y2
    have h2 : Keeps s0 y2 := by
      unfold y2
      exact Keeps.same h rfl rfl rfl
    split
    · exact Keeps.same h2 rfl rfl rfl
    · extract_lets +onlyGivenNames y3
      have h3 : Keeps s0 y3 := by
        unfold y3
        refine State.upTo_keeps ?_
        exact h2
      split
      · refine shadowTo_keeps ?_
        exact h3
      · exact Keeps.same h3 rfl rfl rfl

theorem judgeShadow_keeps {s0 s : State} (h : Keeps s0 s) : Keeps s0 (judgeShadow s) := by
  unfold judgeShadow
  extract_lets +onlyGivenNames y1
  extract_lets +onlyGivenNames y2
  split
  · exact Keeps.same h rfl rfl rfl
  · split
    · refine shadowTo_keeps ?_
      exact h
    · split
      · refine shadowTo_keeps ?_
        exact h
      · exact h
  · exact h

theorem generators_keeps {s0 s : State} {p1 : _} (h : Keeps s0 s) : Keeps s0 (generators p1 s) := by
  unfold generators
  split
  rename_i x1 e2
  have h3 : Keeps s0 x1 := by
    refine Keeps.of_pair e2 ?_
    refine planSamples_keeps ?_
    exact h
  extract_lets +onlyGivenNames y4
  extract_lets +onlyGivenNames y5
  extract_lets +onlyGivenNames y6
  extract_lets +onlyGivenNames y7
  have h7 : Keeps s0 y7 := by
    unfold y7
    exact Keeps.same h3 rfl rfl rfl
  clear_value y7
  refine Keeps.foldl ?_ ?_
  · exact h7
  · intro x8 a9 h10
    extract_lets +onlyGivenNames y11
    extract_lets +onlyGivenNames y12
    extract_lets +onlyGivenNames y13
    extract_lets +onlyGivenNames y14
    have h14 : Keeps s0 y14 := by
      unfold y14
      clear_value y11
      split
      · refine faultF1_keeps ?_
        refine raiseAxis_keeps ?_
        exact h10
      · exact h10
    clear_value y14
    split
    · refine faultF1_keeps ?_
      refine raiseAxis_keeps ?_
      exact h14
    · exact h14

theorem execTamperN_keeps {s0 s : State} {p1 : _} (h : Keeps s0 s) : KeepsOut s0 (execTamperN p1 s) := by
  unfold execTamperN
  refine KeepsOut.next ?_
  split
  · exact h
  · split
    · exact Keeps.same h rfl rfl rfl
    · refine wipe_keeps ?_
      exact h

theorem execHeartbeatWindowClose_keeps {s0 s : State} (h : Keeps s0 s) : KeepsOut s0 (execHeartbeatWindowClose s) := by
  unfold execHeartbeatWindowClose
  refine KeepsOut.next ?_
  split
  · exact h
  · extract_lets +onlyGivenNames y1
    have h1 : Keeps s0 y1 := by
      unfold y1
      refine State.upTo_keeps ?_
      exact h
    extract_lets +onlyGivenNames y2
    extract_lets +onlyGivenNames y3
    extract_lets +onlyGivenNames y4
    extract_lets +onlyGivenNames y5
    have h5 : Keeps s0 y5 := by
      unfold y5
      exact Keeps.same h1 rfl rfl rfl
    split
    · split
      · refine judgeShadow_keeps ?_
        exact h5
      · exact h5
    · split
      · exact h5
      · extract_lets +onlyGivenNames y6
        extract_lets +onlyGivenNames y7
        extract_lets +onlyGivenNames y8
        have h8 : Keeps s0 y8 := by
          unfold y8
          exact Keeps.same h5 rfl rfl rfl
        clear_value y8
        extract_lets +onlyGivenNames y9
        have h9 : Keeps s0 y9 := by
          unfold y9
          refine raiseEv_keeps ?_
          exact h8
        clear_value y9
        split
        · refine linkLost_keeps ?_
          exact h9
        · exact h9

theorem execCastleBoundary_keeps {s0 s : State} (h : Keeps s0 s) : KeepsOut s0 (execCastleBoundary s) := by
  unfold execCastleBoundary
  refine KeepsOut.next ?_
  split
  · exact h
  · split
    · exact h
    · extract_lets +onlyGivenNames y1
      have h1 : Keeps s0 y1 := by
        unfold y1
        refine State.upTo_keeps ?_
        exact h
      clear_value y1
      split
      · split
        · refine castleFail_keeps ?_
          exact h1
        · split
          · refine castleFail_keeps ?_
            exact h1
          · refine castleOut_keeps ?_
            exact h1
      · split
        · exact Keeps.same h1 rfl rfl rfl
        · refine castleIn_keeps ?_
          exact h1

theorem execLatch_keeps {s0 s : State} {p1 : _} (h : Keeps s0 s) : KeepsOut s0 (execLatch p1 s) := by
  unfold execLatch
  refine KeepsOut.next ?_
  split
  · exact h
  · extract_lets +onlyGivenNames y1
    extract_lets +onlyGivenNames y2
    have h2 : Keeps s0 y2 := by
      unfold y2
      refine State.upTo_keeps ?_
      exact h
    clear_value y2
    extract_lets +onlyGivenNames y3
    extract_lets +onlyGivenNames y4
    extract_lets +onlyGivenNames y5
    extract_lets +onlyGivenNames y6
    have h6 : Keeps s0 y6 := by
      unfold y6
      exact Keeps.same h2 rfl rfl rfl
    clear_value y6
    extract_lets +onlyGivenNames y7
    have h7 : Keeps s0 y7 := by
      unfold y7
      refine Keeps.foldl ?_ ?_
      · exact h6
      · intro x8 a9 h10
        refine State.serve_keeps ?_
        exact h10
    clear_value y7
    extract_lets +onlyGivenNames y11
    have h11 : Keeps s0 y11 := by
      unfold y11
      refine Keeps.foldl ?_ ?_
      · exact h7
      · intro x12 a13 h14
        refine latchHome_keeps ?_
        exact h14
    clear_value y11
    extract_lets +onlyGivenNames y15
    have h15 : Keeps s0 y15 := by
      unfold y15
      exact Keeps.same h11 rfl rfl rfl
    clear_value y15
    extract_lets +onlyGivenNames y16
    have h16 : Keeps s0 y16 := by
      unfold y16
      refine recordInjection_keeps ?_
      refine Keeps.foldl ?_ ?_
      · exact h15
      · intro x17 a18 h19
        refine storeSample_keeps ?_
        exact h19
    clear_value y16
    extract_lets +onlyGivenNames y20
    have h20 : Keeps s0 y20 := by
      unfold y20
      refine Keeps.foldl ?_ ?_
      · exact h16
      · intro x21 a22 h23
        refine raiseAxis_keeps ?_
        exact h23
    clear_value y20
    extract_lets +onlyGivenNames y24
    have h24 : Keeps s0 y24 := by
      unfold y24
      refine Keeps.foldl ?_ ?_
      · exact h20
      · intro x25 a26 h27
        refine faultF2_keeps ?_
        refine raiseAxis_keeps ?_
        exact h27
    clear_value y24
    extract_lets +onlyGivenNames y28
    have h28 : Keeps s0 y28 := by
      unfold y28
      refine publishSnapshot_keeps ?_
      exact h24
    clear_value y28
    refine mirrorSend_keeps ?_
    refine Keeps.foldl ?_ ?_
    · exact h28
    · intro x29 a30 h31
      refine latchSolve_keeps ?_
      exact h31

theorem releaseDisabled_keeps {s0 s : State} {p1 : _} (h : Keeps s0 s) : Keeps s0 (releaseDisabled p1 s) := by
  unfold releaseDisabled
  split
  · refine releaseStop_keeps ?_
    exact h
  · exact h

theorem scopeDisabled_keeps {s0 s : State} {p1 : _} (h : Keeps s0 s) : Keeps s0 (scopeDisabled p1 s) := by
  unfold scopeDisabled
  extract_lets +onlyGivenNames y1
  extract_lets +onlyGivenNames y2
  have h2 : Keeps s0 y2 := by
    unfold y2
    refine State.mdAxes_keeps ?_
    exact h
  clear_value y2
  extract_lets +onlyGivenNames y3
  have h3 : Keeps s0 y3 := by
    unfold y3
    refine State.mdSc_keeps ?_
    exact h2
  clear_value y3
  extract_lets +onlyGivenNames y4
  have h4 : Keeps s0 y4 := by
    unfold y4
    split
    · refine stoSettle_keeps ?_
      exact h3
    · exact h3
  clear_value y4
  extract_lets +onlyGivenNames y5
  have h5 : Keeps s0 y5 := by
    unfold y5
    refine Keeps.foldl ?_ ?_
    · exact h4
    · intro x6 a7 h8
      refine raiseAxis_keeps ?_
      exact h8
  clear_value y5
  split
  · extract_lets +onlyGivenNames y9
    have h9 : Keeps s0 y9 := by
      unfold y9
      refine raiseArm_keeps ?_
      refine publishStatic_keeps ?_
      exact h5
    clear_value y9
    refine releaseDisabled_keeps ?_
    refine homeTile_keeps ?_
    exact h9
  · exact h5

theorem execShutdownEnd_keeps {s0 s : State} {p1 : _} {p2 : _} (h : Keeps s0 s) : KeepsOut s0 (execShutdownEnd p1 p2 s) := by
  unfold execShutdownEnd
  split
  · refine KeepsOut.onUnit ?_
    refine KeepsOut.next ?_
    split
    · refine scopeDisabled_keeps ?_
      exact h
    · exact h
  · refine KeepsOut.onUnit ?_
    refine KeepsOut.next ?_
    refine tileDisabled_keeps ?_
    exact h
  · refine KeepsOut.onUnit ?_
    refine KeepsOut.next ?_
    refine channelOff_keeps ?_
    exact h
  · refine KeepsOut.next ?_
    refine unpaired_keeps ?_
    exact h
  · refine KeepsOut.next ?_
    exact h

theorem cycleWork_keeps {s0 s : State} (h : Keeps s0 s) : Keeps s0 (cycleWork s) := by
  unfold cycleWork
  extract_lets +onlyGivenNames y1
  extract_lets +onlyGivenNames y2
  extract_lets +onlyGivenNames y3
  have h3 : Keeps s0 y3 := by
    unfold y3
    refine Keeps.foldl ?_ ?_
    · exact Keeps.same h rfl rfl rfl
    · intro x4 a5 h6
      refine planWork_keeps ?_
      exact h6
  clear_value y3
  refine generators_keeps ?_
  refine takeInjection_keeps ?_
  refine takeRecovery_keeps ?_
  refine beginStops_keeps ?_
  exact h3

theorem execHeartbeatReceived_keeps {s0 s : State} {p1 : _} {p2 : _} {p3 : _} (h : Keeps s0 s) : KeepsOut s0 (execHeartbeatReceived p1 p2 p3 s) := by
  unfold execHeartbeatReceived
  refine KeepsOut.next ?_
  split
  · exact h
  · extract_lets +onlyGivenNames y1
    have h1 : Keeps s0 y1 := by
      unfold y1
      refine State.upTo_keeps ?_
      exact h
    clear_value y1
    extract_lets +onlyGivenNames y2
    extract_lets +onlyGivenNames y3
    extract_lets +onlyGivenNames y4
    extract_lets +onlyGivenNames y5
    extract_lets +onlyGivenNames y6
    extract_lets +onlyGivenNames y7
    extract_lets +onlyGivenNames y8
    extract_lets +onlyGivenNames y9
    extract_lets +onlyGivenNames y10
    extract_lets +onlyGivenNames y11
    have h11 : Keeps s0 y11 := by
      unfold y11
      exact Keeps.same h1 rfl rfl rfl
    clear_value y11
    extract_lets +onlyGivenNames y12
    extract_lets +onlyGivenNames y13
    have h13 : Keeps s0 y13 := by
      unfold y13
      split
      · exact Keeps.same h11 rfl rfl rfl
      · exact h11
    clear_value y13
    split
    · exact h13
    · split
      · split
        · exact h13
        · refine hbOfShadow_keeps ?_
          exact h13
      · split
        · refine hbOfActive_keeps ?_
          exact h13
        · exact h13

theorem stagedEffect_keeps {s0 s : State} {p1 : _} {p2 : _} (h : Keeps s0 s) : Keeps s0 (stagedEffect p1 p2 s) := by
  unfold stagedEffect
  extract_lets +onlyGivenNames y1
  extract_lets +onlyGivenNames y2
  extract_lets +onlyGivenNames y3
  extract_lets +onlyGivenNames y4
  split
  · unfold y4
    extract_lets +onlyGivenNames y5
    split
    · dsimp -zeta only
      extract_lets +onlyGivenNames y6
      extract_lets +onlyGivenNames y7
      have h7 : Keeps s0 y7 := by
        unfold y7
        refine motionEffect_keeps ?_
        exact h
      clear_value y7
      refine Staged.answer_keeps ?_
      exact h7
    · refine Staged.answer_keeps ?_
      exact h
  · unfold y4
    extract_lets +onlyGivenNames y8
    split
    · dsimp -zeta only
      unfold y1
      refine Staged.answer_keeps ?_
      refine motionEffect_keeps ?_
      exact h
    · refine Staged.answer_keeps ?_
      exact h
  · unfold y4
    extract_lets +onlyGivenNames y9
    split
    · dsimp -zeta only
      unfold y1
      refine Staged.answer_keeps ?_
      refine motionEffect_keeps ?_
      exact h
    · refine Staged.answer_keeps ?_
      exact h
  · unfold y1
    refine Staged.answer_keeps ?_
    refine limitsEffect_keeps ?_
    exact h
  · unfold y4
    extract_lets +onlyGivenNames y10
    split
    · dsimp -zeta only
      unfold y1
      refine Staged.answer_keeps ?_
      refine gearEffect_keeps ?_
      exact h
    · refine Staged.answer_keeps ?_
      exact h
  · unfold y4
    extract_lets +onlyGivenNames y11
    split
    · dsimp -zeta only
      unfold y1
      refine Staged.answer_keeps ?_
      refine stepEffect_keeps ?_
      exact h
    · refine Staged.answer_keeps ?_
      exact h
  · refine homeEffect_keeps ?_
    exact h
  · refine enableEffect_keeps ?_
    exact h
  · unfold y1
    refine Staged.answer_keeps ?_
    refine beginDisable_keeps ?_
    exact h
  · unfold y1
    refine Staged.answer_keeps ?_
    refine enterEffect_keeps ?_
    exact h
  · unfold y1
    refine Staged.answer_keeps ?_
    split
    · refine beginAlong_keeps ?_
      exact h
    · exact h
  · split
    · refine protStop_keeps ?_
      refine State.mdSsmArm_keeps ?_
      exact h
    · refine finishTicket_keeps ?_
      exact h
  · refine resumeEffect_keeps ?_
    refine Staged.answer_keeps ?_
    exact h
  · split
    · refine beginBrakeTest_keeps ?_
      exact h
    · refine endTicket_keeps ?_
      exact h
  · split
    · exact Keeps.same h rfl rfl rfl
    · refine endInjection_keeps ?_
      exact h
  · unfold y1
    refine Staged.answer_keeps ?_
    refine raiseCb_keeps ?_
    refine State.mdCb_keeps ?_
    exact h
  · unfold y1
    refine Staged.answer_keeps ?_
    refine State.mdCb_keeps ?_
    exact h

theorem execFeedbackCutoff_keeps {s0 s : State} (h : Keeps s0 s) : KeepsOut s0 (execFeedbackCutoff s) := by
  unfold execFeedbackCutoff
  refine KeepsOut.next ?_
  split
  · exact h
  · extract_lets +onlyGivenNames y1
    have h1 : Keeps s0 y1 := by
      unfold y1
      refine cutFeedback_keeps ?_
      exact h
    clear_value y1
    split
    · refine cycleWork_keeps ?_
      exact h1
    · exact h1

theorem takeStaged_keeps {s0 s : State} {p1 : _} {p2 : _} (h : Keeps s0 s) : Keeps s0 (takeStaged p1 p2 s) := by
  unfold takeStaged
  extract_lets +onlyGivenNames y1
  extract_lets +onlyGivenNames y2
  extract_lets +onlyGivenNames y3
  extract_lets +onlyGivenNames y4
  extract_lets +onlyGivenNames y5
  have h5 : Keeps s0 y5 := by
    unfold y5
    exact Keeps.same h rfl rfl rfl
  clear_value y5
  refine Keeps.foldl ?_ ?_
  · exact h5
  · intro x6 a7 h8
    refine stagedEffect_keeps ?_
    exact h8

theorem unitError_keeps {s0 s : State} {p1 : _} {p2 : _} (h : Keeps s0 s) : Keeps s0 (unitError p1 p2 s) := by
  unfold unitError
  split
  · refine suspect_keeps ?_
    exact h
  · split
    · exact Keeps.same h rfl rfl rfl
    · split
      · refine suspect_keeps ?_
        exact h
      · refine faultF3_keeps ?_
        exact h
      · exact Keeps.same h rfl rfl rfl
      · exact Keeps.same h rfl rfl rfl
      · exact Keeps.same h rfl rfl rfl
      · exact Keeps.same h rfl rfl rfl
      · exact h

theorem execHoldCut_keeps {s0 s : State} {p1 : _} {p2 : _} (h : Keeps s0 s) : KeepsOut s0 (execHoldCut p1 p2 s) := by
  unfold execHoldCut
  refine KeepsOut.onUnit ?_
  refine KeepsOut.onUnit ?_
  refine KeepsOut.next ?_
  extract_lets +onlyGivenNames y1
  extract_lets +onlyGivenNames y2
  split
  · extract_lets +onlyGivenNames y3
    have h3 : Keeps s0 y3 := by
      unfold y3
      refine State.mdBank_keeps ?_
      exact h
    clear_value y3
    refine unitError_keeps ?_
    refine State.mdReq_keeps ?_
    exact h3
  · exact h

theorem execMirrorCopyComplete_keeps {s0 s : State} {p1 : _} {p2 : _} {p3 : _} (h : Keeps s0 s) : KeepsOut s0 (execMirrorCopyComplete p1 p2 p3 s) := by
  unfold execMirrorCopyComplete
  refine KeepsOut.next ?_
  extract_lets +onlyGivenNames y1
  have h1 : Keeps s0 y1 := by
    unfold y1
    refine State.upTo_keeps ?_
    exact h
  clear_value y1
  split
  · exact h1
  · extract_lets +onlyGivenNames y2
    extract_lets +onlyGivenNames y3
    have h3 : Keeps s0 y3 := by
      unfold y3
      exact Keeps.same h1 rfl rfl rfl
    clear_value y3
    split
    · exact h3
    · extract_lets +onlyGivenNames y4
      extract_lets +onlyGivenNames y5
      extract_lets +onlyGivenNames y6
      have h6 : Keeps s0 y6 := by
        unfold y6
        exact Keeps.same h3 rfl rfl rfl
      clear_value y6
      extract_lets +onlyGivenNames y7
      have h7 : Keeps s0 y7 := by
        unfold y7
        refine Keeps.foldl ?_ ?_
        · exact h6
        · intro x8 a9 h10
          extract_lets +onlyGivenNames y11
          have h11 : Keeps s0 y11 := by
            unfold y11
            refine raiseEv_keeps ?_
            exact h10
          clear_value y11
          split
          · refine suspect_keeps ?_
            exact h11
          · exact h11
      clear_value y7
      refine Keeps.foldl ?_ ?_
      · exact h7
      · intro x12 a13 h14
        extract_lets +onlyGivenNames y15
        have h15 : Keeps s0 y15 := by
          unfold y15
          refine raiseEv_keeps ?_
          exact h14
        clear_value y15
        split
        · refine suspect_keeps ?_
          exact h15
        · exact h15

theorem uncorrectable_keeps {s0 s : State} {p1 : _} {p2 : _} (h : Keeps s0 s) : Keeps s0 (uncorrectable p1 p2 s) := by
  unfold uncorrectable
  extract_lets +onlyGivenNames y1
  have h1 : Keeps s0 y1 := by
    unfold y1
    refine unitError_keeps ?_
    exact h
  clear_value y1
  split
  · refine faultF3_keeps ?_
    refine faultF2s_keeps ?_
    exact h1
  · refine faultF3_keeps ?_
    exact h1

theorem protViol_keeps {s0 s : State} {p1 : _} {p2 : _} (h : Keeps s0 s) : Keeps s0 (protViol p1 p2 s) := by
  unfold protViol
  extract_lets +onlyGivenNames y1
  have h1 : Keeps s0 y1 := by
    unfold y1
    refine State.mdReq_keeps ?_
    exact h
  clear_value y1
  extract_lets +onlyGivenNames y2
  extract_lets +onlyGivenNames y3
  have h3 : Keeps s0 y3 := by
    unfold y3
    exact Keeps.same h1 rfl rfl rfl
  clear_value y3
  split
  · refine faultF3_keeps ?_
    exact h3
  · split
    · refine faultF3_keeps ?_
      exact h3
    · refine unitError_keeps ?_
      exact h3

theorem perform_keeps {s0 s : State} {p1 : _} {p2 : _} {p3 : _} (h : Keeps s0 s) : Keeps s0 (perform p1 p2 p3 s) := by
  unfold perform
  extract_lets +onlyGivenNames y1
  extract_lets +onlyGivenNames y2
  extract_lets +onlyGivenNames y3
  split
  · extract_lets +onlyGivenNames y4
    have h4 : Keeps s0 y4 := by
      unfold y4
      refine State.mdBank_keeps ?_
      exact h
    clear_value y4
    extract_lets +onlyGivenNames y5
    have h5 : Keeps s0 y5 := by
      unfold y5
      refine suspect_keeps ?_
      exact h4
    clear_value y5
    refine uncorrectable_keeps ?_
    exact Keeps.same h5 rfl rfl rfl
  · extract_lets +onlyGivenNames y6
    have h6 : Keeps s0 y6 := by
      unfold y6
      split
      · refine State.mdBank_keeps ?_
        exact h
      · exact h
    clear_value y6
    split
    · exact Keeps.wrote h6 rfl (memWrite_wf _ _) rfl
    · exact Keeps.same h6 rfl rfl rfl

theorem plyOf_keeps {s0 s : State} {p1 : _} {p2 : _} {p3 : _} {p4 : _} (h : Keeps s0 s) : Keeps s0 (plyOf p1 p2 p3 p4 s) := by
  unfold plyOf
  extract_lets +onlyGivenNames y1
  extract_lets +onlyGivenNames y2
  extract_lets +onlyGivenNames y3
  extract_lets +onlyGivenNames y4
  extract_lets +onlyGivenNames y5
  extract_lets +onlyGivenNames y6
  extract_lets +onlyGivenNames y7
  split
  · extract_lets +onlyGivenNames y8
    extract_lets +onlyGivenNames y9
    have h9 : Keeps s0 y9 := by
      unfold y9
      refine Keeps.foldl ?_ ?_
      · exact h
      · intro x10 a11 h12
        refine State.mdReq_keeps ?_
        exact h12
    clear_value y9
    refine State.mdBank_keeps ?_
    exact h9
  · extract_lets +onlyGivenNames y13
    extract_lets +onlyGivenNames y14
    have h14 : Keeps s0 y14 := by
      unfold y14
      refine Keeps.foldl ?_ ?_
      · exact h
      · intro x15 a16 h17
        refine State.mdReq_keeps ?_
        exact h17
    clear_value y14
    extract_lets +onlyGivenNames y18
    extract_lets +onlyGivenNames y19
    have h19 : Keeps s0 y19 := by
      unfold y19
      refine State.mdBank_keeps ?_
      exact h14
    clear_value y19
    split
    · exact h19
    · refine perform_keeps ?_
      exact h19

theorem execLedgerBackoffExpiry_keeps {s0 s : State} {p1 : _} {p2 : _} (h : Keeps s0 s) : KeepsOut s0 (execLedgerBackoffExpiry p1 p2 s) := by
  unfold execLedgerBackoffExpiry
  refine KeepsOut.onUnit ?_
  refine KeepsOut.onUnit ?_
  refine KeepsOut.next ?_
  split
  · exact h
  · split
    · exact h
    · refine plyOf_keeps ?_
      refine State.mdBank_keeps ?_
      exact h

theorem execScrub_keeps {s0 s : State} {p1 : _} (h : Keeps s0 s) : KeepsOut s0 (execScrub p1 s) := by
  unfold execScrub
  refine KeepsOut.next ?_
  extract_lets +onlyGivenNames y1
  extract_lets +onlyGivenNames y2
  extract_lets +onlyGivenNames y3
  extract_lets +onlyGivenNames y4
  have h4 : Keeps s0 y4 := by
    unfold y4
    exact Keeps.same h rfl rfl rfl
  clear_value y4
  extract_lets +onlyGivenNames y5
  have h5 : Keeps s0 y5 := by
    unfold y5
    refine State.mdBank_keeps ?_
    exact h4
  clear_value y5
  split
  · extract_lets +onlyGivenNames y6
    extract_lets +onlyGivenNames y7
    have h7 : Keeps s0 y7 := by
      unfold y7
      refine State.mdBank_keeps ?_
      exact h5
    clear_value y7
    extract_lets +onlyGivenNames y8
    extract_lets +onlyGivenNames y9
    have h9 : Keeps s0 y9 := by
      unfold y9
      exact Keeps.same h7 rfl rfl rfl
    clear_value y9
    split
    · refine suspect_keeps ?_
      exact h9
    · exact h9
  · split
    · extract_lets +onlyGivenNames y10
      have h10 : Keeps s0 y10 := by
        unfold y10
        refine State.mdBank_keeps ?_
        exact h5
      clear_value y10
      refine uncorrectable_keeps ?_
      refine suspect_keeps ?_
      exact h10
    · exact h5

theorem execLedgerRequest_keeps {s0 s : State} {p1 : _} {p2 : _} {p3 : _} {p4 : _} {p5 : _} {p6 : _} (h : Keeps s0 s) : KeepsOut s0 (execLedgerRequest p1 p2 p3 p4 p5 p6 s) := by
  unfold execLedgerRequest
  refine KeepsOut.onUnit ?_
  refine KeepsOut.onUnit ?_
  refine KeepsOut.next ?_
  extract_lets +onlyGivenNames y1
  split
  · exact h
  · split
    · refine protViol_keeps ?_
      exact h
    · refine plyOf_keeps ?_
      exact h

theorem takeBound_keeps {s0 s : State} {p1 : _} (h : Keeps s0 s) : Keeps s0 (takeBound p1 s) := by
  unfold takeBound
  split
  · exact h
  · extract_lets +onlyGivenNames y1
    extract_lets +onlyGivenNames y2
    have h2 : Keeps s0 y2 := by
      unfold y2
      split
      · exact h
      · split
        rename_i x3 e4
        have h5 : Keeps s0 x3 := by
          refine Keeps.of_pair e4 ?_
          split
          · refine fwSetPath_keeps ?_
            exact h
          · split
            · refine runReq_keeps ?_
              exact h
            · dsimp only
              exact h
        split
        · split
          · exact h5
          · refine raiseBound_keeps ?_
            exact h5
        · exact h5
    clear_value y2
    split
    · refine faultF1_keeps ?_
      refine raiseBound_keeps ?_
      exact h2
    · exact h2

theorem execStageRecord_keeps {s0 s : State} {p1 : _} {p2 : _} {p3 : _} {p4 : _} (h : Keeps s0 s) : KeepsOut s0 (execStageRecord p1 p2 p3 p4 s) := by
  unfold execStageRecord
  refine KeepsOut.next ?_
  split
  · exact h
  · extract_lets +onlyGivenNames y1
    extract_lets +onlyGivenNames y2
    extract_lets +onlyGivenNames y3
    have h3 : Keeps s0 y3 := by
      unfold y3
      refine runReq_keeps ?_
      exact h
    clear_value y3
    exact Keeps.same h3 rfl rfl rfl

theorem execControlCycleEvent_keeps {s0 s : State} {p1 : _} (h : Keeps s0 s) : KeepsOut s0 (execControlCycleEvent p1 s) := by
  unfold execControlCycleEvent
  refine KeepsOut.next ?_
  split
  · exact h
  · extract_lets +onlyGivenNames y1
    extract_lets +onlyGivenNames y2
    have h2 : Keeps s0 y2 := by
      unfold y2
      refine State.upTo_keeps ?_
      exact h
    clear_value y2
    extract_lets +onlyGivenNames y3
    extract_lets +onlyGivenNames y4
    extract_lets +onlyGivenNames y5
    have h5 : Keeps s0 y5 := by
      unfold y5
      exact Keeps.same h2 rfl rfl rfl
    clear_value y5
    extract_lets +onlyGivenNames y6
    have h6 : Keeps s0 y6 := by
      unfold y6
      refine takeLinks_keeps ?_
      refine sysApply_keeps ?_
      refine takeLanes_keeps ?_
      exact h5
    clear_value y6
    extract_lets +onlyGivenNames y7
    have h7 : Keeps s0 y7 := by
      unfold y7
      refine takeCancels_keeps ?_
      refine takeStaged_keeps ?_
      refine takeSets_keeps ?_
      exact h6
    clear_value y7
    extract_lets +onlyGivenNames y8
    have h8 : Keeps s0 y8 := by
      unfold y8
      refine Keeps.foldl ?_ ?_
      · refine handValues_keeps ?_
        exact h7
      · intro x9 a10 h11
        refine takeBound_keeps ?_
        exact h11
    clear_value y8
    refine siEvaluate_keeps ?_
    exact Keeps.same h8 rfl rfl rfl

end Sys2Proof.Machine
end

