-- ==== Sys2Proof/Tests/Slice0.lean ====
section
/-!
SUPPORT. Small tests against the spec's own numbers, and a state that meets the hypotheses of each statement.
-/
namespace Sys2Proof.Machine

set_option Elab.async false

/-! ### States for the witnesses -/

/-- A running controller in FIELD, COMMISSIONED, with motion authority, and a session open on channels 0 and 1. -/
def ready : State :=
  { State.reset with
    hif := { State.reset.hif with
      fwReady := true
      ch := vmd (vmd State.reset.hif.ch 0 fun c => { c with open_ := true, token := 5, tokens := [5], leaseMs := 1000, expect_ := 1 })
        1 fun c => { c with open_ := true, token := 6, tokens := [6], leaseMs := 1000, expect_ := 1 } }
    ssv := { State.reset.ssv with mode := .commissioned }
    dl := { State.reset.dl with authority := true }
    mlc := { State.reset.mlc with role := .single } }

theorem ready_serves : Serves 0 ready := by unfold Serves; decide +kernel
theorem ready_admits (f a c life : Bool) : Admits f a c life ready := by
  refine ⟨?_, Or.inr ?_, fun _ => ?_, fun _ => ?_⟩ <;> decide +kernel +revert

theorem wit_StepRunsFront : State.reset.pending = [] := by decide

theorem wit_EveryCommandCompletes : (Instr.currentPeriodEvent).wf = true ∧ (Instr.shutdownEnd 0 71).wf = true
    ∧ (Instr.targetedSelfTestDone 8 63 true).wf = true ∧ (Instr.unitError 9 7 0).wf = true := by decide +kernel

theorem wit_StepTakesOne : ∃ t, exec (.pmbusRetry true 0) State.reset = .next t := ⟨_, rfl⟩

theorem wit_LedgerFormKept : memWf State.reset.ldg.mem = true ∧ ∃ t, step State.reset = .next t := ⟨rfl, _, rfl⟩

theorem wit_LedgerReadsBack : memWf [(3, 7)] = true ∧ memByte (memWrite [(3, 7)] 3 [0, 9]) 3 = 0
    ∧ memByte (memWrite [(3, 7)] 3 [0, 9]) 4 = 9 ∧ memByte (memWrite [(3, 7)] 3 [0, 9]) 5 = 0 := by decide

theorem wit_FusesNeverUnburn : ∃ t, step State.reset = .next t := ⟨_, rfl⟩

theorem wit_OpenSession : (2 < 4 ∧ ready.hif.fwReady = true ∧ (ready.chan 2).open_ = false ∧ leaseOk 0 = true
      ∧ leaseOk 100 = true ∧ leaseOk 60000 = true ∧ (ready.chan 2).tokens.length ≤ 16)
    ∧ Serves 0 ready ∧ (ready.chan 0).nonce ≠ 1 := ⟨by decide +kernel, ready_serves, by decide +kernel⟩

theorem wit_CloseSessionEnds : Serves 0 ready := ready_serves

/-- `ready` with a running HOME ticket of channel 0. -/
def withTicket : State :=
  { ready with hif := { ready.hif with tickets := [{ num := 1, ch := 0, token := 5, opcode := 0x0407 }], ticketNext := 2 } }

theorem wit_SessionCommands : Serves 0 withTicket ∧ leaseOk 100 = true
    ∧ ticketOf 1 withTicket = some { num := 1, ch := 0, token := 5, opcode := 0x0407 } ∧ (withTicket.chan 0).token = 5
    ∧ hasCancelPoint 0x0407 = true := ⟨by unfold Serves; decide +kernel, by decide +kernel⟩

theorem wit_IdentityCommands : Serves 0 ready ∧ (blockBytes (begun 0 ready) 0 0).isSome = true
    ∧ (blockBytes (begun 0 ready) 5 0).isSome = true := ⟨ready_serves, by decide +kernel⟩

theorem wit_SetSerialisationReads :
    let r : ParamRec := { pid := Pid.TYPE, inst := 0, sub := 0, val := [0] }
    let q : ParamRec := { pid := Pid.TYPE, inst := 255, sub := 255, val := [] }
    [r, q].Pairwise (fun a b => recKey a < recKey b) ∧ (findDef Pid.TYPE).map (·.width) = some 1
      ∧ parseSet (leBytes 4 0x53464C46 ++ leBytes 2 1 ++ leBytes 2 2 ++ [r, q].flatMap ParamRec.bytes) = .good [r, q] := by
  decide +kernel

/-- `ready` with a transaction on channel 0. -/
def withTrans (k : TransSt) : State := ready.mdChan 0 fun c => { c with trans := some k }

theorem wit_SetTransaction : (Serves 0 ready ∧ ready.trans 0 = none ∧ safetyHeld 0 ready = false)
    ∧ (Serves 0 (withTrans {}) ∧ (withTrans {}).trans 0 = some {}) ∧ Admits false false false false (withTrans {}) :=
  ⟨⟨ready_serves, by decide +kernel⟩, by unfold Serves; decide +kernel, by unfold Admits; decide +kernel⟩

theorem wit_SetTransaction_close : closeCheck false [] (partOf ready.comNext true) [] = .good [] := by decide +kernel

theorem wit_SetTransaction_flashWriteEnds : ∃ w : FlashWr, { ready with sets := { ready.sets with flash := [w] } }.sets.flash = [w] ∧ w.slot = 2 :=
  ⟨{ slot := 2 }, rfl, rfl⟩

theorem wit_ConfirmAndCommit :
    let k : TransSt := { part := 1, closed := true }
    Serves 0 (withTrans k) ∧ Admits false true false false (withTrans k) ∧ (withTrans k).trans 0 = some k
      ∧ k.baseGen = (withTrans k).setGen ∧ k.changesSafety (withTrans k) = false
      ∧ (withTrans k).hif.running 0 5 < 8 := by
  unfold Serves Admits; decide +kernel

theorem wit_ConfirmAndCommit_lock :
    let k : TransSt := { part := 1, closed := true }
    changeLocks (withTrans k) (withTrans k).comNext (k.whole (withTrans k)) = Sts.OK := by decide +kernel

/-- An engineer whose passcode is 123456. -/
def anEngineer : Engineer := { id := 9, salt := [], hash := sha256 [0x31, 0x32, 0x33, 0x34, 0x35, 0x36] }

theorem wit_ConfirmAndCommit_engineer : anEngineer.lockedTo = none ∧ anEngineer.opens [0x31, 0x32, 0x33, 0x34, 0x35, 0x36] = true := by
  decide +kernel

theorem wit_ParameterAccess : (findDef Pid.TYPE).map (fun d => decide (0 < d.inst.count) && decide (0 < d.subs) && d.safety) = some true
    ∧ (findDef Pid.HOME_V).map (·.safety) = some false ∧ sourceSet 0 0 (begun 0 ready) = some ready.ps
    ∧ valueStatus { pid := Pid.HOME_V, inst := 0, sub := 0, val := leBytes 4 1 } = Sts.OK
    ∧ changeLock ready Pid.HOME_V 0 = Sts.OK := by decide +kernel

/-- `ready` with servo axis 3 in PTP mode at rest, its step increment set. -/
def withAxis : State :=
  { ready.mdAx 3 fun a => { a with mode := .ptp } with
    sets := { ready.sets with com := [{ pid := Pid.TYPE, inst := 3, sub := 0, val := leBytes 1 0 },
                                      { pid := Pid.STEP_INC, inst := 3, sub := 0, val := leBytes 8 1 }] } }

theorem withAxis_mayMove (c : Bool) : MayMove 0 3 c withAxis := by
  unfold MayMove Serves Admits Owns Free
  decide +kernel +revert

theorem wit_MotionCommandsStage : takesMotion (withAxis.ax 3).mode = true ∧ (withAxis.ax 3).mode = .ptp
    ∧ (withAxis.ax 3).atRest = true ∧ targetBad withAxis.ps 3 (withAxis.ax 3) 0 = false ∧ 3 ∉ masters withAxis 64 63
    ∧ chainLinks withAxis 3 63 ≤ 4 ∧ pairHeld 0 3 7 withAxis = false := by decide +kernel

theorem wit_MotionCommandsStage_step : (prm withAxis.ps Pid.STEP_INC 3 0).isSome = true ∧ axType withAxis.ps 3 ≠ .virtual := by
  decide +kernel

theorem wit_AxisReadsAndLinks : (ready.port 35).ctl = none
    ∧ ∀ p ∈ portsOf (2 ^ 36 - 1), ∀ e ∈ portAxes ready.ps p, (ready.ax e.2.2).fn = .disabled := by decide +kernel

/-- `ready` with arm 2 in a function state. -/
def withScope (f : ScopeSt → ScopeSt) : State := ready.mdSc 2 f

theorem wit_EnableWhileShuttingDown :
    let s := withScope fun c => { c with fn := .shuttingDown, owner := some 0 }
    Serves 0 s ∧ Admits false true true false s ∧ scopeField s.ps 2 = some 2 ∧ Owns 0 2 s ∧ (s.sc 2).fn = .shuttingDown := by
  unfold Serves Admits Owns; decide +kernel

theorem wit_EnableAndDisable : scopeField ready.ps 7 = some 7 ∧ MayEnable 7 ready ∧ Owns 0 7 ready
    ∧ scopeField ready.ps 0x7F = some 71 ∧ MayEnable 71 ready := by
  unfold MayEnable Owns; decide +kernel

theorem wit_EnableAndDisable_on :
    let s := withScope fun c => { c with fn := .enabled, owner := some 0 }
    Serves 0 s ∧ Admits false true true false s ∧ Owns 0 2 s ∧ (s.sc 2).fn = .enabled := by
  unfold Serves Admits Owns; decide +kernel

/-- `ready` with servo axis 3 as the only joint of arm 2, HOMED and at rest. -/
def withArm : State :=
  { ready.mdAx 3 fun a => { a with mode := .ptp, pos := .homed } with
    sets := { ready.sets with com := [{ pid := Pid.TYPE, inst := 3, sub := 0, val := leBytes 1 0 },
                                      { pid := Pid.ARM, inst := 3, sub := 0, val := leBytes 1 2 }] } }

theorem wit_PlannedMotionCommands : Serves 0 withArm ∧ Admits false true true false withArm ∧ scopeField withArm.ps 2 = some 2
    ∧ Owns 0 2 withArm ∧ Free 2 withArm ∧ (withArm.plr 2).planned = false ∧ withArm.scAxes 2 = [3]
    ∧ (∀ n ∈ withArm.scAxes 2, axType withArm.ps n ≠ .virtual ∧ (withArm.ax n).mode = .ptp ∧ (withArm.ax n).atRest = true
      ∧ (withArm.ax n).pos = .homed)
    ∧ (let b : Bytes := leBytes 8 62500 ++ [2, 1] ++ leBytes 6 0 ++ leBytes 32 0
       16 ≤ b.length ∧ uAt b 10 6 = 0 ∧ b.length = 16 + 16 * (uAt b 8 1 * uAt b 9 1) ∧ uAt b 0 8 % 62500 = 0 ∧ uAt b 8 1 = 2
       ∧ uAt b 9 1 = (withArm.scAxes 2).length) := by
  unfold Serves Admits Owns Free; decide +kernel

theorem wit_FaultAcknowledged :
    let s := withScope fun c => { c with ackDue := true, status := Sts.SET_ALTERED }
    Serves 0 s ∧ Admits false true false false s ∧ (s.sc 2).ackDue = true ∧ (s.sc 2).fn = .disabled ∧ causeStands s 2 = false
      ∧ (ready.sc 2).ackDue = false
      ∧ causeStands { s with ssv := { s.ssv with copyOk := false } } 2 = true := by
  unfold Serves Admits; decide +kernel

theorem wit_OwnershipMoves :
    let s := withScope fun c => { c with owner := some 0 }
    let o := withScope fun c => { c with owner := some 1, offer := some 0 }
    let b := withScope fun c => { c with bound := some 511 }
    Serves 0 s ∧ Admits false true false false s ∧ scopeField s.ps 2 = some 2 ∧ (s.sc 2).owner = some 0 ∧ (s.sc 2).bound = none
      ∧ Serves 0 o ∧ Admits false true false false o ∧ (o.sc 2).offer = some 0 ∧ (o.sc 2).owner = some 1
      ∧ Serves 0 b ∧ Admits false true false false b ∧ (b.sc 2).bound.isSome = true := by
  unfold Serves Admits; decide +kernel

theorem wit_PlannerAndSeparationReads : Serves 0 ready ∧ scopeField ready.ps 0 = some 0 ∧ scopeField ready.ps 0x40 = some 8 :=
  ⟨ready_serves, by decide +kernel⟩

theorem wit_HomingTestsAndResume_a : axType withAxis.ps 3 ≠ .virtual ∧ withAxis.hif.running 0 (withAxis.chan 0).token < 8
    ∧ targetBad withAxis.ps 3 { withAxis.ax 3 with pos := .homed } 0 = false := by decide +kernel

theorem wit_HomingTestsAndResume_testsAndResumeAccepted :
    let s := withArm.mdSc 2 fun c => { c with fn := .enabled, seq := .running, owner := some 0 }
    Serves 0 s ∧ Admits false true true false s ∧ Owns 0 2 s ∧ (s.sc 2).stop = .none ∧ s.testing 2 = false
      ∧ (s.plr 2).planned = false ∧ (∀ n ∈ s.scAxes 2, (s.ax n).mode = .ptp ∧ (s.ax n).atRest = true)
      ∧ s.hif.running 0 (s.chan 0).token < 8 := by
  unfold Serves Admits Owns; decide +kernel

theorem wit_HomingTestsAndResume_testsAndResumeAccepted_moving :
    let a := withArm.mdAx 3 fun a => { a with gen := { a.gen with v2 := 7 } }
    let s := { a with sets := { a.sets with com := a.sets.com ++ [{ pid := Pid.SSM_EN, inst := 2, sub := 0, val := [1] }] } }
    monitored s.ps 2 = true ∧ armMoves s 2 = true := by
  decide +kernel

/-- `ready` with engineer 9, passcode 123456, and an ENABLE input. -/
def withEng : State :=
  { ready with
    ssv := { ready.ssv with eng := [anEngineer] }
    sets := { ready.sets with com := [{ pid := Pid.SI_FUNC, inst := 15, sub := 0, val := [3] }] } }

theorem wit_ServiceAndSafetyStatus : enableInput withEng.ps = true
    ∧ (passTest 9 [0x31, 0x32, 0x33, 0x34, 0x35, 0x36] (begun 0 withEng)).1 = Sts.OK ∧ withEng.ssv.mode ≠ .service
    ∧ Serves 0 withEng ∧ { ready with ssv := { ready.ssv with mode := .service } }.anyBusy = false := by
  unfold Serves; decide +kernel

theorem wit_EngineersAndAudit :
    (authTest 9 [0x31, 0x32, 0x33, 0x34, 0x35, 0x36] (begun 0 withEng)).1 = Sts.OK
    ∧ (authTest 0 [] (begun 0 { ready with ssv := { ready.ssv with mode := .uncommissioned } })).1 = Sts.OK := by decide +kernel

/-- `ready` with the cell bus configured and a valid mode 1. -/
def withBus : State :=
  { ready with sets := { ready.sets with com := [{ pid := Pid.CB_EN, inst := 0, sub := 0, val := [1] }] } }

theorem wit_TimeInUse : prmN withBus.ps Pid.CB_EN 0 = 1 ∧ Serves 0 withBus
    ∧ ({ withBus with ssv := ((withScope fun c => { c with fn := .shuttingDown }).ssv) }.sc 2).fn = .shuttingDown := by
  unfold Serves; decide +kernel

theorem wit_EnableWhileShuttingDown_bus :
    let s := { withBus with ttc := { withBus.ttc with ch := vmd withBus.ttc.ch 1 fun c => { c with fn := .shuttingDown } } }
    Serves 0 s ∧ Admits false true false false s ∧ prmN s.ps Pid.CB_EN 0 = 1 ∧ (vrd s.ttc.ch 1).fn = .shuttingDown := by
  unfold Serves Admits; decide +kernel

theorem wit_CellBusCommands : Serves 0 withBus ∧ Admits false true false false withBus ∧ withBus.anyBusy = false
    ∧ prmN withBus.ps Pid.CB_EN 0 = 1 ∧ (∀ cb ≤ 1, (vrd withBus.ttc.ch cb).fn = .disabled) ∧ txSlotLen withBus 511 = none
    ∧ withBus.ttc.mc.want = none ∧ withBus.hif.running 0 5 < 8 := by
  unfold Serves Admits; decide +kernel

theorem wit_CellBusCommands_mode :
    cbValid [{ pid := Pid.MODE, inst := 15, sub := 0, val := leBytes 8 8 }] 15 = true ∧ withBus.ttc.mode ≠ 15 := by decide +kernel

/-- `withEng` as the active unit with a joining Shadow that awaits its confirmation. -/
def withJoining : State :=
  { withEng with
    ssv := { withEng.ssv with conf := some { check := 7 } }
    mlc := { withEng.mlc with role := .active, shadow := .joining, cause := 1, pairBy := some sec, peerCheck := 7 } }

theorem wit_RedundancyCommands : Serves 0 withJoining ∧ Admits false true false false withJoining
    ∧ withJoining.fw.unpairAt = none ∧ withJoining.mlc.unpairing = none ∧ withJoining.mlc.transfer = none
    ∧ withJoining.cyc.now < sec ∧ (passTest 9 [0x31, 0x32, 0x33, 0x34, 0x35, 0x36] (begun 0 withJoining)).1 = Sts.OK
    ∧ withJoining.hif.running 0 5 < 8 := by
  unfold Serves Admits; decide +kernel

theorem wit_EnableWhileShuttingDown_pair :
    let s := { withJoining with mlc := { withJoining.mlc with unpairing := some 0 } }
    Serves 0 s ∧ Admits false true false false s ∧ s.mlc.role = .active ∧ s.mlc.shadow = .joining ∧ s.mlc.cause = 1
      ∧ s.mlc.unpairing.isSome = true := by
  unfold Serves Admits; decide +kernel

theorem wit_CaptureAndInjection_a :
    (ready.place (CapSt.bytes { axis := 63, count := 1, sel := selCodes 0x0F })).isSome = true ∧ selCodes 0x0F = [15]
    ∧ (let s := { ready with fw := { ready.fw with caps := vwr ready.fw.caps 15 (some { axis := 63, count := 1, sel := [15], by_ := (0, 5) }) } }
       s.cap 15 = some { axis := 63, count := 1, sel := [15], by_ := (0, 5) } ∧ Serves 0 s) := by
  unfold Serves; decide +kernel

/-- `withAxis` with axis 3 ENABLED and an injection limit of 100. -/
def withInj : State :=
  let s := withAxis.mdAx 3 fun a => { a with fn := .enabled }
  { s with sets := { s.sets with com := s.sets.com ++ [{ pid := Pid.INJ_MAX, inst := 3, sub := 0, val := leBytes 2 100 }] } }

theorem wit_CaptureAndInjection_injectionCommands :
    let r := injOf 3 0 0 0 100 1 0 256 1 1 15 [1]
    injBad withInj.ps r 1 256 = false ∧ injMode 3 withInj = true ∧ vrd withInj.fw.inj (withInj.axSc 3) = none
      ∧ (withInj.place (CapSt.bytes { axis := 3, count := r.total, sel := [1, 15], by_ := (0, 5), extra := 40 })).isSome = true
      ∧ withInj.hif.running 0 5 < 8 ∧ Serves 0 withInj ∧ Owns 0 (withInj.axSc 3) withInj ∧ withInj.axSc 3 < 72 := by
  unfold Serves Owns; decide +kernel

theorem wit_LifeCycleCommands : isUnit 1 0 = true ∧ (ready.unit 1 0).st ≠ .retired ∧ (ready.unit 1 0).st ≠ .suspect
    ∧ ((ready.unit 1 0).st = .inService → hasPool 1 = true → (ready.spareFor 1 0).isSome = true) ∧ ready.anyBusy = false := by
  decide +kernel

/-- `ready` with a relabel due at 8 ms for an offset of 6 ms. -/
def withRelabel : State := { ready with tb := { ready.tb with relabel := some (8 * ms, ((6 * ms : Nat) : Int), sec) } }

theorem wit_RelabelMovesCellTime : withRelabel.tb.relabel = some (8 * ms, ((6 * ms : Nat) : Int), sec) ∧ withRelabel.cyc.now ≤ 8 * ms
    ∧ mayRelabel withRelabel (8 * ms) = true ∧ withRelabel.tb.relabelEn = true
    ∧ mayRelabel { withRelabel with ssv := (withScope fun c => { c with fn := .enabled }).ssv } (8 * ms) = false := by
  decide +kernel

theorem wit_TimeBaseEvents :
    (∃ s : State, s.tb.todShift = some (4 * ms, 3) ∧ mayRelabel s (4 * ms) = true)
    ∧ (∃ s : State, s.tb.state = .locked ∧ s.tb.src = 3 ∧ 4 ≤ s.tb.missRun)
    ∧ (∃ s : State, s.tb.state = .holdover ∧ s.tb.holdExceeded = false ∧ 0 < s.tb.holdDrift)
    ∧ (∃ s : State, s.tb.ppsInSeen = true ∧ s.tb.lastPps = some 0)
    ∧ (∃ s : State, s.tb.ppsOut = false ∧ s.tb.state = .locked ∧ 0 ≤ s.tb.ppsOutComp ∧ s.tb.ppsOutComp < ((sec : Nat) : Int))
    ∧ (vrd ready.tb.rovers 3).part = 0 ∧ ready.tb.src = 0
    ∧ (let t := ((ready.upTo (sec / 4)).stampOf 42 (sec / 4)).at_; ms < t % sec ∧ t % sec < sec - ms ∧ 2 * (t % sec) ≠ sec)
    ∧ ((ready.upTo sec).stampOf 42 sec).at_ % sec ≤ ms :=
  ⟨⟨{ ready with tb := { ready.tb with todShift := some (4 * ms, 3) } }, by decide +kernel⟩,
   ⟨{ ready with tb := { ready.tb with state := .locked, src := 3, missRun := 4 } }, by decide +kernel⟩,
   ⟨{ ready with tb := { ready.tb with state := .holdover } }, by decide +kernel⟩,
   ⟨{ ready with tb := { ready.tb with ppsInSeen := true, lastPps := some 0 } }, by decide +kernel⟩,
   ⟨{ ready with tb := { ready.tb with state := .locked } }, by decide +kernel⟩, by decide +kernel⟩

theorem wit_CyclicEvents : State.reset.cyc.running = true ∧ State.reset.cyc.cutDone = false ∧ State.reset.cyc.launchDone = false
    ∧ State.reset.cyc.latchDone = false
    ∧ { State.reset with cyc := { State.reset.cyc with cutDone := true } }.cyc.cutDone = true := by decide +kernel

theorem wit_StagedCommandsTakeEffect : takesMotion (withAxis.ax 3).mode = true ∧ (0 : Time) % ns = 0 ∧ vrd withAxis.fw.inj (withAxis.axSc 3) = none
    ∧ canMove (withAxis.mdSc (withAxis.axSc 3) fun c => { c with fn := .enabled }) (withAxis.axSc 3) = true := by decide +kernel

theorem wit_SpeedClassIsCeiling :
    let ps : ParamSet := [{ pid := Pid.V_HARD, inst := 3, sub := 0, val := leBytes 4 65536 }]
    (∀ n ∈ [3], 0 < prmN ps Pid.V_HARD n) ∧ speedClass ps [3] [2 ^ 40 / 32000] = 1 ∧ speedClass ps [3] [2 ^ 40 / 32000 + 1] = 2
      ∧ speedClass ps [3] [2 ^ 40] = 8 := by decide +kernel

theorem wit_VerdictRisesAtOnce :
    let s := ready.mdSsmArm 7 fun m => { m with clearRun := 100000, v := { m.v with pub := 1 } }
    (s.ssmArm 7).v.pub = 1 ∧ 4 * prmN s.ps Pid.PEN_HOLD 7 ≤ (s.ssmArm 7).clearRun
      ∧ prmN [{ pid := Pid.PROT_STOP, inst := 7, sub := 0, val := [2] }] Pid.PROT_STOP 7 ≠ 1 := by
  decide +kernel

theorem wit_SeparationEvents : ready.cyc.running = true ∧ (∃ s : State, s.ssm.published = false) ∧ ready.ldg.spoiled.testBit 14 = false
    ∧ (∃ s : State, s.ssm.published = true) ∧ (∃ s : State, (List.range (s.ssmArm 7).xchk.length).find? (fun j =>
        decide (lget (s.ssmArm 7).xchk j = 2)) = some 1) :=
  ⟨by decide +kernel, ⟨{ ready with ssm := { ready.ssm with published := false } }, by decide +kernel⟩, by decide +kernel,
   ⟨ready, by decide +kernel⟩,
   ⟨ready.mdSsmArm 7 fun m => { m with xchk := [0, 2] }, by decide +kernel⟩⟩

theorem wit_SeparationEvents_stale :
    let s := { ready with
      sets := { ready.sets with com := [{ pid := Pid.OBJ_QUOTA, inst := 15, sub := 0, val := [4] }] }
      ssm := { ready.ssm with sensors := vmd ready.ssm.sensors 15 fun x => { x with stale := false, age := 10 ^ 9 } } }
    (vrd s.ssm.sensors 15).stale = false ∧ sensorOn s.ps 15 = true
      ∧ ageReaches (vrd s.ssm.sensors 15).age (prmN s.ps Pid.AGE_LIMIT 0 * 1000) = true := by
  decide +kernel

theorem wit_SeparationEvents_release :
    let s := (ready.mdSsmArm 7 fun m => { m with stopReq := true }).mdSsmArm 7 fun m => { m with resumeRun := 100000, v := { m.v with raw := 0 } }
    let u := { s with sets := { s.sets with com := [{ pid := Pid.PROT_STOP, inst := 7, sub := 0, val := [2] },
                                                     { pid := Pid.RESTART, inst := 7, sub := 0, val := [0] }] } }
    (u.ssmArm 7).stopReq = true ∧ prmN u.ps Pid.PROT_STOP 7 = 2 ∧ prmN u.ps Pid.RESTART 7 = 0 ∧ mayRelease2 u 7 = true := by
  decide +kernel

theorem wit_SolverEvents : withArm.cyc.running = true ∧ armAxes withArm.ps 2 = [3]
    ∧ ((withArm.mdPlr 7 fun r => { r with solve := some { p0 := 0, tile := 7, x0 := [(0, 0)] } }).plr 7).solve = some { p0 := 0, tile := 7, x0 := [(0, 0)] }
    ∧ (vrd ready.tiles 8).arm = none ∧ (vrd ready.tiles 7).arm = some 7 := by decide +kernel

/-- `ready` in a state of the cell bus, with one slot of its own. -/
def withTtc (st : TtcState) : State :=
  { ready with ttc := { ready.ttc with
      state := st
      ps := [{ pid := Pid.COLDSTART_EN, inst := 0, sub := 0, val := [1] },
             { pid := Pid.MODE, inst := 0, sub := 0, val := leBytes 8 8 }] } }

theorem wit_CellBusEvents : (withTtc .active).ttc.state = .active ∧ (withTtc .active).ttc.sent = []
    ∧ (withTtc .active).ttc.mc.sending = none ∧ (withTtc .active).ttc.mc.answer = none
    ∧ (withTtc .active).ttc.mc.busyLast = false ∧ prmN (withTtc .listen).ttc.ps Pid.COLDSTART_EN 0 = 1 ∧ ready.dl.authority = true
    ∧ (let s := (withTtc .active).mdCb 1 fun c => { c with fn := .shuttingDown, offAt := 0 }
       let u := { s with ttc := { s.ttc with t0 := 1 } }
       (vrd u.ttc.ch 1).fn = .shuttingDown ∧ (vrd u.ttc.ch 1).offAt < u.ttc.t0) := by decide +kernel

/-- `ready` with axis 3 STEPPED on pair 7. -/
def withStep : State :=
  { ready.mdAx 3 fun a => { a with mode := .stepped, step := { a.step with prev := some (0, 1), finalDone := false } } with
    fw := { ready.fw with pairs := vwr ready.fw.pairs 7 { axis := some 3 } } }

theorem wit_AxisEvents : (vrd withStep.fw.pairs 7).axis = some 3 ∧ (withStep.ax 3).mode = .stepped
    ∧ (withStep.ax 3).step.finalDone = false
    ∧ ((List.range 68).find? fun i => (vrd ready.lanes i).axis == some 63) = some 66
    ∧ (let s := { ready with fw := { ready.fw with inj := vwr ready.fw.inj 71 (some { axis := 63, analyse := true }) } }
       vrd s.fw.inj 71 = some { axis := 63, analyse := true })
    ∧ (let s := { ready with fw := { ready.fw with caps := vwr ready.fw.caps 15 (some { axis := 63, stopped := true }) } }
       vrd s.fw.caps 15 = some { axis := 63, stopped := true }) := by decide +kernel

theorem wit_AxisFaults :
    let s := ready.mdAx 63 fun a => { a with
      fn := .enabled, sto := false, cur := { a.cur with stallRun := 10 ^ 9, still := 10 ^ 9, sumRun := 4, uvRun := 4, lostRun := 2 }
      loop := { a.loop with feCount := 10 ^ 9 } }
    let u := { s with sets := { s.sets with com := [{ pid := Pid.TYPE, inst := 63, sub := 0, val := [1] }] } }
    (u.ax 63).powered = true ∧ (u.ax 63).flags.stall = false ∧ prmN u.ps Pid.STALL_N 63 ≤ (u.ax 63).cur.stallRun
      ∧ axType u.ps 63 = .stepper ∧ prmN u.ps Pid.HOLD_DELAY 63 ≤ (u.ax 63).cur.still
      ∧ prmN u.ps Pid.FE_TIME 63 ≤ (u.ax 63).loop.feCount ∧ (u.ax 63).loop.feFault = false := by decide +kernel

/-- Bytes with their CRC behind them. -/
def crcFrame (b : Bytes) : Bytes := b ++ leBytes 4 (crc32c b)

/-- `ready` with port 35 in a state. -/
def withPort (f : PortSt → PortSt) : State := ready.mdPort 35 f

theorem wit_DriveLinkEvents :
    (let s := withPort fun p => { p with state := .ready, badRun := 3 }
     (s.port 35).state = .ready ∧ 3 ≤ (s.port 35).badRun ∧ (s.port 35).state.counts = true ∧ (s.port 35).retired = false)
    ∧ (let s := withPort fun p => { p with state := .faulted, goodRun := 16, ctl := some (0, 1, 0, 9), retired := true }
       (s.port 35).state = .faulted ∧ 16 ≤ (s.port 35).goodRun ∧ ∀ e ∈ portAxes s.ps 35, (s.ax e.2.2).fn = .disabled)
    ∧ (ready.port 0).state = .down
    ∧ (let b := crcFrame (0x12 :: List.replicate 63 0)
       b.length = inHdrLen + 36 ∧ inType b = 0x12 ∧ crcGood b = true)
    ∧ (let b := crcFrame (0x11 :: List.replicate 31 0)
       let s := withPort fun p => { p with state := .ready, seqFree := true }
       let u := judgeEpoch 35 b (s.upTo 100000)
       crcGood b = true ∧ inType b = 0x11 ∧ (s.port 35).got = false
         ∧ inboundCause u 35 (u.stampOf 35 100000) 150000 false b = 0) := by decide +kernel

theorem wit_PortFaultsItsScopes :
    let s := withPort fun p => { p with state := .ready, badRun := 3 }
    (s.port 35).state = .ready ∧ 3 ≤ (s.port 35).badRun
      ∧ ∀ n : Fin 64, (s.ax n).fn = .enabled → (s.sc (s.axSc n)).fn = .enabled ∧ (s.sc (s.axSc n)).level < 2 := by decide +kernel

theorem wit_BrakeAndTorqueEvents :
    (let s := withScope fun c => { c with seq := .building 5 }
     (s.sc 2).seq = .building 5 ∧ s.drives = true ∧ (s.bk 2).appliedAt ≠ some s.cyc.tk)
    ∧ (let s := withScope fun c => { c with seq := .releasing 5 6 }
       (s.sc 2).seq = .releasing 5 6)
    ∧ (let s := (withScope fun c => { c with seq := .engaging 5 }).mdBk 2 fun b => { b with test := some { step := 0 } }
       (s.sc 2).seq = .engaging 5 ∧ (s.bk 2).test = some { step := 0 })
    ∧ (let s := ready.mdBk 7 fun b => { b with diffAt := some 3, changedAt := 3, hs := true }
       (s.bk 7).diffAt = some 3 ∧ (s.bk 7).switchBad = false)
    ∧ (let s := withScope fun c => { c with still := 40 }
       atRest s 2 = true)
    ∧ (let s := ready.mdBk 7 fun b => { b with test := some { step := 4 }, hs := true, ls := true, timer := 10 ^ 18, countedAt := 0 }
       (s.bk 7).test = some { step := 4 }
         ∧ (prmN s.ps Pid.BK_INTERVAL 0 + prmN s.ps Pid.BK_GRACE 0) * sec ≤ ((s.bk 7).count s.cyc.now).timer)
    ∧ (ready.mdBk 7 fun b => { b with noConfirm := true }).bk 7 ≠ ready.bk 7 := by decide +kernel

theorem wit_BrakeAndTorqueEvents_sto :
    let s := withScope fun c => { c with confirmAt := some 0, fn := .disabled }
    ((s.bk 2).noConfirm = false ∧ 2 ∈ stoServes s.ps 2 ∧ (s.sc 2).confirmAt.isSome = true ∧ (s.sc 2).fn ≠ .enabled) := by
  decide +kernel

theorem wit_SafeInputsAndModes :
    ready.cyc.running = true
    ∧ (let s := (ready.mdSin 15 fun x => { x with level := false, demand := false, fault := true, edgeAt := 7 }).upTo (2 * sec)
       (s.sin 15).level = false ∧ (s.sin 15).demand = false ∧ (s.sin 15).fault = true ∧ (s.sin 15).passAt + sec ≤ s.cyc.now)
    ∧ (let s := { ready with
         sets := { ready.sets with com := [14, 15].map fun i => { pid := Pid.SI_MODE, inst := i, sub := 0, val := [1] } }
         ssv := { ready.ssv with pairs := vmd ready.ssv.pairs 7 fun x => { x with diffAt := some 5 } } }
       (vrd s.ssv.pairs 7).diffAt = some 5 ∧ (vrd s.ssv.pairs 7).disc = false ∧ dualPair s.ps 7 = true)
    ∧ (let s := { ready with ssv := { ready.ssv with mode := .service, eng := [{ id := 3, lockedTo := some 9 }] } }
       s.ssv.mode = .service ∧ ∃ e, s.ssv.eng.find? (fun e => e.id == 3) = some e ∧ e.lockedTo = some 9)
    ∧ (let s := ready.mdPlr 7 fun r => { r with tileFn := .shuttingDown, solve := none }
       (s.plr 7).tileFn = .shuttingDown ∧ (s.plr 7).solve = none)
    ∧ (let s := { ready with mlc := { ready.mlc with role := .active, shadow := .absent, unpairing := some 0 } }
       s.mlc.role = .active ∧ s.mlc.unpairing.isSome = true ∧ s.mlc.unacked = []) := by decide +kernel

theorem wit_HostAccesses : ready.hif.d3 = false ∧ ready.hif.fwReady = true ∧ 0 < ringDiff 16 (ready.chan 3).reqProd
    ∧ ringDiff 16 (ready.chan 3).reqCons ≤ 16 ∧ ¬ ringDiff 17 (ready.chan 3).reqCons ≤ 16
    ∧ (let s := ready.mdChan 3 fun x => { x with rspProd := 1 }
       0 < ringDiff 1 (s.chan 3).rspAck ∧ ringDiff 1 (s.chan 3).rspAck ≤ ringDiff (s.chan 3).rspProd (s.chan 3).rspAck)
    ∧ ready.hif.evstat < 2 ^ 128 ∧ ready.hif.evmask < 2 ^ 128 := by decide +kernel

theorem wit_HostLinkAndRequests :
    (let s := { ready with hif := { ready.hif with linkUp := true } }
     s.hif.linkUp = true ∧ s.pwr.held = false ∧ s.ssv.f3 = false)
    ∧ { ready.ssv with f3 := true } ≠ ready.ssv
    ∧ (let s := ready.mdChan 3 fun x => { x with reqProd := 1, posts := [(1, 640)] }
       s.fwIdle = true ∧ s.nextChan = some 3 ∧ (s.chan 3).posts.find? (fun p =>
         decide (0 < ringDiff p.1 (s.chan 3).reqCons) && decide (ringDiff p.1 (s.chan 3).reqCons ≤ 16)) = some (1, 640))
    ∧ (ready.chan 1).open_ = true ∧ (ready.chan 1).mirrored = false
    ∧ ((ready.chan 1).posts.any fun p => !atOrAfter p.2 ns (ready.chan 1).leaseEnd) = false := by decide +kernel

/-- `ready` with a Ledger changed. -/
def withLdg (f : LdgSt → LdgSt) : State := { ready with ldg := f ready.ldg }

theorem wit_LedgerCommands :
    (vrd ready.ldg.reqs 20).masked = false ∧ ready.mayAccess 0 0 true = true ∧ ready.mayAccess 18 0 true = false
    ∧ (vrd ready.ldg.banks 31).span = false ∧ (vrd ready.ldg.banks 31).waiting = [] ∧ memWf ready.ldg.mem = true
    ∧ ready.ldg.bad.contains 0 = false
    ∧ (let s := withLdg fun l => { l with banks := vmd l.banks 31 fun k => { k with
         waiting := [{ req := 20, again := 4 }], span := true, owner := 20, due := true, filling := true }, staged := some [] }
       (vrd s.ldg.banks 31).waiting.find? (fun r => r.req == 20) = some { req := 20, again := 4 }
         ∧ (vrd s.ldg.reqs 20).ghEn = true ∧ (vrd s.ldg.banks 31).span = true ∧ (vrd s.ldg.banks 31).owner = 20
         ∧ s.ldg.staged = some [] ∧ (vrd s.ldg.banks 31).due = true ∧ (vrd s.ldg.banks 31).filling = true)
    ∧ (vrd ready.ldg.reqs 20).sbEn = true := by decide +kernel

theorem wit_LedgerHousekeeping :
    (vrd ready.ldg.reqs 20).masked = false
    ∧ (let s := withLdg fun l => { l with banks := vmd l.banks 31 fun k => { k with filling := true } }
       (vrd s.ldg.banks 31).filling = true ∧ s.ldg.scrubHist = [])
    ∧ (let s := withLdg fun l => { l with locks := vmd l.locks 63 fun k => { k with state := 1, owner := 3, lease := 2 }, journalDue := true }
       (vrd s.ldg.locks 63).state = 1 ∧ 5 < (vrd s.ldg.locks 63).at_ + (vrd s.ldg.locks 63).lease * us
         ∧ (vrd s.ldg.locks 63).at_ + (vrd s.ldg.locks 63).lease * us ≤ 2 * us
         ∧ s.ldg.erasing = false ∧ s.hlt.sealEx = false ∧ s.ldg.journalDue = true)
    ∧ ready.pwr.boot = .fuseLoad
    ∧ (let s := { ready with pwr := { ready.pwr with boot := .ready } }
       s.pwr.held = false ∧ s.pwr.boot ≠ .fuseLoad) := by decide +kernel

theorem wit_VoltageLoopSteps :
    let s := { ready with hlt := { ready.hlt with marginMin := 0, vdd := 850, highRun := 999 } }
    s.hif.fwReady = true ∧ s.hlt.pmbusFail = false ∧ s.hlt.voutWait = none ∧ s.hlt.vdd < prmN s.ps Pid.VDD_MAX 0
      ∧ s.hlt.marginMin < (prmN s.ps Pid.M_LOW 0 : Int) * 128 ∧ prmN s.ps Pid.M_LOW 0 ≤ prmN s.ps Pid.M_HIGH 0
      ∧ prmN s.ps Pid.VDD_MAX 0 % 5 = 0 ∧ (prmN s.ps Pid.M_HIGH 0 : Int) * 128 ≤ 32767 ∧ s.hlt.highRun + 1 = 1000 := by decide +kernel

/-- `ready` with health data changed. -/
def withHlt (f : HltSt → HltSt) : State := { ready with hlt := f ready.hlt }

theorem wit_HealthEvents :
    (let s := withHlt fun h => { h with warnRun := 1000, voutWait := some 0, pmbusBad := 2 }
     s.hlt.tempoWarn = false ∧ 1000 ≤ s.hlt.warnRun ∧ s.hlt.voutWait = some 0 ∧ s.hlt.pmbusFail = false ∧ s.hlt.pmbusBad = 2)
    ∧ (let s := withHlt fun h => { h with tempoWarn := true, vdd := 0, pmbusFail := true }
       s.hlt.tempoWarn = true ∧ s.hlt.vdd < prmN s.ps Pid.VDD_MAX 0 ∧ s.hlt.pmbusFail = true)
    ∧ (ready.unit 0 67).st = .spare ∧ (ready.unit 9 7).st = .inService ∧ 7 < unitCounts.getD 9 0
    ∧ (let s := ready.mdUnit 9 7 fun u => { u with st := .suspect }
       (s.unit 9 7).st = .suspect ∧ (s.unit 9 7).cmdTest = none)
    ∧ ready.hlt.fuses.state = 1
    ∧ (withHlt fun h => { h with fuses := { h.fuses with fieldGrp := 0 } }).hlt.fuses.state = 0 := by decide +kernel

/-- `ready` with its pads and start-up changed. -/
def withPwr (f : PwrSt → PwrSt) : State := { ready with pwr := f ready.pwr }

theorem wit_PowerEvents :
    (let s := withPwr fun p => { p with held := true, pwrGood := true, resetN := true, presentN := false }
     s.pwr.held = true ∧ (∀ i : Fin 5, vrd s.pwr.supply i = true) ∧ s.pwr.tempOut = false ∧ s.pwr.pwrGood = true
       ∧ s.pwr.resetN = true ∧ s.pwr.presentN = false ∧ s.pwr.test0 = false ∧ s.pwr.test1 = false)
    ∧ ready.pwr.held = false ∧ ready.pwr.removed = false ∧ mayRelease ready.pwr 2000 10000 = false := by decide +kernel

theorem wit_StartUpEvents : ready.pwr.held = false ∧ ready.pwr.boot = .fuseLoad
    ∧ (withPwr fun p => { p with boot := .cores, tamper := 1 }).pwr.boot = .cores
    ∧ (∀ c : Fin 4, (withPwr fun p => { p with boot := .rom }).dpWorking c ≠ 0)
    ∧ (let s := withPwr fun p => { p with boot := .replay }
       s.ldg.replay = none ∧ (setInForce s.ps s).confirmed = false ∧ prmN (setInForce s.ps s).ps Pid.PAIR_EN 0 = 0)
    ∧ ready.pwr.test0 = false := by decide +kernel

/-- `ready` with redundancy data changed. -/
def withMlc (f : MlcSt → MlcSt) : State := { ready with mlc := f ready.mlc }

theorem wit_MirrorLinkEvents :
    (let s := withMlc fun m => { m with
       role := .shadow, shadow := .tracking, nonce := 1, delay := 10 * us, eng := true, unacked := [{ seq := 4 }]
       lanes := vmd m.lanes 4 fun l => { l with lock := true, good := 64 } }
     s.mlc.nonce ≠ 0 ∧ (vrd s.mlc.lanes 4).lock = true ∧ (vrd s.mlc.lanes 4).inService = false ∧ 64 ≤ (vrd s.mlc.lanes 4).good
       ∧ (s.unit 5 4).st ≠ .suspect ∧ (s.unit 5 4).st ≠ .retired
       ∧ s.mlc.hbGot = false ∧ hbExpected s = true ∧ s.mlc.hbT0 ≤ s.cyc.t0 ∧ s.mlc.missRun = 0 ∧ s.cyc.running = true
       ∧ s.mlc.unacked.find? (fun f => f.seq == 4) = some { seq := 4 }
       ∧ (let a := hbExpect s
          let st := (s.upTo a).stampOf 40 a
          inWindow st.at_ (stampUnit st.coarse) (hbExpect s - hbWin s) (hbExpect s + hbWin s) = true))
    ∧ (let s := withMlc fun m => { m with role := .shadow, shadow := .joining, pairBy := some 3, commitWait := some (4, false), paramRx := [0] }
       s.mlc.pairBy = some 3 ∧ s.mlc.commitWait = some (4, false) ∧ s.mlc.paramRx ≠ [])
    ∧ (let s := withMlc fun m => { m with
         role := .active, shadow := .absent, helloSince := some 0, helloAt := 2 * sec
         lanes := vmapI m.lanes fun _ l => { l with inService := true } }
       3 ≤ ((List.range 5).filter fun i => (vrd s.mlc.lanes i).inService).length ∧ s.mlc.peerF3 = false
         ∧ 0 + prmN s.ps Pid.DET_DEBOUNCE 0 * ms ≤ max s.cyc.now s.mlc.helloAt ∧ s.cyc.now ≤ s.mlc.helloAt + 2 * ms) := by
  decide +kernel

theorem wit_MirrorLinkEvents_pair :
    let b := leBytes 4 8 ++ leBytes 4 8 ++ leBytes 4 0 ++ leBytes 4 0x53464C46 ++ leBytes 4 1 ++ leBytes 4 0x53464C46 ++ leBytes 4 1
    parseSet (pairParts b).1 = .good [] ∧ parseSet (pairParts b).2.1 = .good [] := by decide +kernel

theorem wit_MirrorCopyEvents :
    (let s := withMlc fun m => { m with role := .shadow, shadow := .tracking, eng := true }
     s.drives = false ∧ s.tracks = true ∧ s.mlc.got.1 = false ∧ s.mlc.eng = true ∧ s.cyc.running = true ∧ s.cyc.copyDone = false
       ∧ s.mlc.armBad = 0 ∧ s.mlc.planLack = 0 ∧ s.mlc.warmLack = 0 ∧ (s.ax 0).snap ≠ lget [((1 : Int), (1 : Int))] 0
       ∧ copyInTime (s.cyc.t0 / tCtl) s.cyc.now (s.upTo s.cyc.now) = true)
    ∧ (let s := withMlc fun m => { m with role := .shadow, shadow := .joining }
       s.drives = false ∧ s.tracks = false)
    ∧ ready.drives = true ∧ ready.cyc.running = true ∧ ready.cyc.copyDone = false := by decide +kernel

theorem wit_RolesAndCastling :
    (let s := { ready with dl := { ready.dl with authority := false } }
     s.hif.fwReady = true ∧ s.mlc.role = .single ∧ s.hlt.fuses.state = 1 ∧ s.dl.authority = false)
    ∧ (let s := withMlc fun m =>
         let c : CastleSt := { b := 9, outgoing := false }
         { m with role := .shadow, shadow := .ready, waitEnd := some 5, tkDue := some 6, ackDue := true, tk := some 7, castle := some c }
       s.mlc.otherAuth = false ∧ s.mlc.peerAuth = false ∧ s.mlc.helloSince = none ∧ castleReady s = true
         ∧ (∃ c, s.mlc.castle = some c ∧ c.done = false ∧ c.outgoing = false))
    ∧ (let s := withMlc fun m =>
         let c : CastleSt := { b := 9, outgoing := true, acked := true, done := true }
         { m with role := .active, shadow := .tracking, clean := 10 ^ 6, castled := true, castle := some c }
       ackMissing s 0 = none ∧ prmN s.ps Pid.READY_MIN 0 ≤ s.mlc.clean ∧ ∃ c, s.mlc.castle = some c ∧ c.ticket = 0 ∧ c.epoch = 0)
    ∧ (let s := { withMlc fun m => { m with role := .active, shadow := .ready, castleAge := (10 ^ 12, 0) } with
         sets := { ready.sets with com := [{ pid := Pid.CASTLE_AUTO, inst := 0, sub := 0, val := [0] }] } }
       s.mlc.castleDue = false ∧ s.mlc.overdue = false ∧ wipeCastle s.ps ≤ s.castleMs ∧ prmN s.ps Pid.CASTLE_AUTO 0 = 0
         ∧ prmN s.ps Pid.CASTLE_INTERVAL 0 * 3600000 ≤ s.castleMs) := by decide +kernel

/-! ### Ill-formed commands, one for each condition a command can fail -/

/-- One command out of range for each bound that `Instr.checks` asks of a number. -/
def illNumbers : List Instr :=
  [.planPeriodEvent 8, .solveComplete 8 0 0 0 0, .tileError 9 0,
   .laneSpareTakeover 64, .shutdownEnd 5 0, .roverParallelEnd 4 0, .portReady 36, .gpioEdge 16 0 true, .frfAnalysisDone 72,
   .captureEnd 16, .listStale 16, .brakeSwitch 8, .lockoutEnd (2 ^ 32), .slotWindowClose 512, .channelDisabled 2]

def illHost : List Instr :=
  [.linkUp 3 1, .linkUp 1 4, .conventionalReset 2, .bar2Write (2 ^ 24), .doorbell 4 0 0, .rspAck 0 (2 ^ 16), .evstatClear 4 0 0,
   .evmaskWrite 0 (2 ^ 32), .msixUnmask 3 0, .msixUnmask 0 32, .registerWrite 4 0 0, .keepalive 4, .readBlock 0 256 0,
   .setTimeOfDay 0 (2 ^ 64), .setLease 0 (2 ^ 16)]

def illUnits : List Instr :=
  [.heartbeatReceived 32 0 [], .mirrorLaneUp 5, .ledgerRequest 21 0 8 false [] 0, .ledgerRequest 0 (2 ^ 23) 8 false [] 0,
   .ledgerRequest 0 0 9 false [] 0, .ledgerRequest 0 0 8 false [] 3, .holdCut 0 32, .lockAcquire 0 64 0, .plyTableWrite 2 [],
   .scrub 3, .unitError 10 0 0, .supplyRise 5, .trip 6, .resetN 2 true 0, .jtagInstruction 256]

def illStrings : List Instr :=
  [.interpolatorCalDone 0 (List.replicate 65 0), .heartbeatReceived 0 0 (List.replicate 25 0), .delta 0 (List.replicate 4097 0),
   .confirm 0 0 0 (List.replicate 33 0), .ledgerRequest 0 0 8 true (List.replicate 9 0) 0, .pairSecret (List.replicate 33 0),
   .tempoMonitor (List.replicate 23 0) 0, .plyTableWrite 0 (List.replicate 65 0)]

theorem test_ill_numbers_refused : illNumbers.all (fun i => !i.wf) = true := by decide +kernel
theorem test_ill_host_refused : illHost.all (fun i => !i.wf) = true := by decide +kernel
theorem test_ill_units_refused : illUnits.all (fun i => !i.wf) = true := by decide +kernel
theorem test_ill_strings_refused : illStrings.all (fun i => !i.wf) = true := by decide +kernel
theorem test_ill_signed_refused : (Instr.move 0 0 0 (2 ^ 63)).wf = false ∧ (Instr.move 0 0 0 (-2 ^ 63 - 1)).wf = false
    ∧ (Instr.move 0 0 0 (-2 ^ 63)).wf = true ∧ (Instr.tempoMonitor [] 32768).wf = false := by decide +kernel
theorem test_well_formed_at_bounds : ([.planPeriodEvent 7, .linkUp 2 3, .doorbell 3 65535 0, .slotWindowClose 511,
    .ledgerRequest 20 (2 ^ 23 - 1) 8 true (List.replicate 8 0) 2, .trip 5] : List Instr).all Instr.wf = true := by decide +kernel

/-! ### The spec's worked examples and tables -/

/-- 12 R366 names CRC-32C; its check word for the bytes "123456789" is the code's published one. -/
theorem test_crc32c : crc32c [0x31, 0x32, 0x33, 0x34, 0x35, 0x36, 0x37, 0x38, 0x39] = 0xE3069283 := by decide +kernel

/-- 01 Table 01-3, a stamp near a window's close. -/
theorem test_window_close : windowOf 1000 1998 1 = 1 ∧ windowOf 1000 1999 1 = 2 ∧ windowOf 1000 2000 1 = 2
    ∧ boundaryAt 1998 1 2000 = false ∧ boundaryAt 1999 1 2000 = true ∧ boundaryAt 2000 1 2000 = true
    ∧ boundaryAt 2001 1 2000 = false := by decide +kernel

/-- 03, the worked example of a move to 0.25 rev. -/
def quarterTurn : PlanEnv :=
  { lim := rlim { v := 65536, a := 10 * 4096, d := 10 * 4096, j := 500 * 256 }, aHard := aUnit (20 * 4096)
    dHard := aUnit (20 * 4096), jHard := jUnit (500 * 256), soft := none }

theorem test_move_phases : (planMove 0 {} (2 ^ 38) quarterTurn).1.n = [320, 1280, 320, 2080, 320, 1280, 320]
    ∧ (planMove 0 {} (2 ^ 38) quarterTurn).1.js.head? = some 2251799813 := by decide +kernel
theorem test_move_first_cycle : (planCycle (planMove 0 {} (2 ^ 38) quarterTurn).1 {}).2.p6 = 2251799813
    ∧ (planCycle (planMove 0 {} (2 ^ 38) quarterTurn).1 {}).2.t = 237058
    ∧ (planCycle (planMove 0 {} (2 ^ 38) quarterTurn).1 {}).2.ref = 22 := by decide +kernel

/-- 03, the worked example of a track geared to a conveyor: its first cycle. -/
theorem test_gear_first_cycle : (GearSt.cycle { num := 5, den := 2, g := 1600 } (2 ^ 24)).2 = 26214 := by decide +kernel

/-- 04, the worked example of the gripper stepper A40: its electrical angle and current references. -/
theorem test_stepper_angle : angleOf 17592186044 200 1 1 = 13107 := by decide +kernel
theorem test_stepper_references : asr (19662 * sin14 (13107 + 4096)) 15 = 6074 ∧ asr (19662 * sin14 13107) 15 = -18700 := by
  decide +kernel

/-- 04, the worked example of a servo's duties: legs a, b and c with u_alpha 0 and u_beta 20 000. -/
theorem test_servo_legs : (kSvm (0, 20000) {}).2.map (fun d => legEdges d 0) =
    [[(0, 4), (15625, 5), (46875, 4)], [(0, 4), (6089, 5), (56411, 4)], [(0, 4), (25162, 5), (37338, 4)]] := by decide +kernel

/-- 07 and 16, the worked examples of a solve's size. -/
theorem test_solve_size : solveMacs 7 24 24 = 1632852 ∧ solveMacs 12 32 60 = 9641608 := by decide +kernel

/-- 16, the worked example of a tile's margin: 0.3556 at 620 M/s and 0.2317 at 520 M/s, to four places. -/
theorem test_tile_margin : (deadlineMargin (9641608 * 9) (620000 * 500) 434375 * 10000 + 16384) / 32768 = 3556
    ∧ (deadlineMargin (9641608 * 9) (520000 * 500) 434375 * 10000 + 16384) / 32768 = 2317 := by decide +kernel

/-- 13, the worked example of a MOVE of A21: its header and payload bytes. -/
theorem test_move_request :
    let m := reqMsg ([0x0C, 0, 0x01, 0x04, 0x17, 0x2A, 0, 0, 0x3A, 0, 0, 0, 0, 0, 0, 0, 0x15, 0, 0, 0, 0, 0, 0, 0, 0x40, 0, 0, 0]
      ++ List.replicate 228 0)
    m.op = 0x0401 ∧ m.token = 0x2A17 ∧ m.seq = 58 ∧ m.payload.length = 12 ∧ uAt m.payload 0 1 = 21
      ∧ sAt m.payload 4 8 = 2 ^ 38 ∧ m.lengthBad = false := by decide +kernel

/-- 16 R450: 0.25 is M_LOW; a margin below it raises 870 mV by 5 mV, at VDD_MAX it holds. -/
theorem test_voltage_step : voltStep [] { marginMin := 8191, vdd := 870, highRun := 3 } = (875, 0)
    ∧ voltStep [] { marginMin := 8192, vdd := 870, highRun := 3 } = (870, 0) := by decide +kernel

/-- 15 Table 15-7, the acquire results. -/
theorem test_lock_codes : (LockSt.acquire {} 3 7).1 = 0 ∧ (LockSt.acquire { state := 1, owner := 4 } 3 7).1 = 1
    ∧ (LockSt.acquire { state := 2 } 3 7).1 = 2 ∧ (LockSt.acquire { state := 1, owner := 3 } 3 7).1 = 3 := by decide +kernel

/-- 12 R354: BAR0 offsets that Table 12-2 does not define read 0; the identity word is Table 12-3's. -/
theorem test_bar0_undefined : bar0Word State.reset 0x00C = 0 ∧ bar0Word State.reset 0x0A0 = 0 ∧ bar0Word State.reset 0xB00 = 0 := by
  decide +kernel

/-- 02 R39, 17 Table 17-4: the first current-period event after the release is at cell time 0. -/
theorem test_first_current_period : (match exec .currentPeriodEvent State.reset with | .next t => t.cyc.now | _ => 1) = 0 := by
  decide +kernel

/-- 00 Table 00-1 counts 36 drive-link ports: a unit the hardware does not have is no unit. -/
theorem test_no_such_unit : (match exec (.portReady 36) State.reset with | .fault _ => true | _ => false) = true := by decide +kernel

/-- 16 Table 16-3: the unit counts that the operands are held to are those of the unit table. -/
theorem test_unit_counts : (List.range 10).map classUnits = unitCounts := by decide

end Sys2Proof.Machine
end

section
/-!
SUPPORT. Every well-formed command answers a next state. A row of the table either acts in every state or first asks whether
the unit that it names exists, and the conditions of a well-formed command say that it does.
-/
namespace Sys2Proof.Machine

/-- A meaning answers a next state. -/
def Completes (o : Out) : Prop := ∃ t, o = .next t

/-- A number that a well-formed command holds below a bound. -/
theorem lt_of_wf {c : Instr} {v b : Nat} (h : c.wf = true) (m : Check.below v b ∈ c.checks) : v < b :=
  of_decide_eq_true (List.all_eq_true.1 h _ m)

theorem onUnit_completes {what : String} {i n : Nat} {r : Out} (h : i < n) (hr : Completes r) :
    Completes (onUnit what i n r) := by
  rw [onUnit_in h]
  exact hr

/-- The row of a host command asks for nothing but its channel: what the session or the command's own checks refuse is
answered to the host. -/
theorem hostRow_completes {ch op : Nat} {f : State → FwRes} {s : State} (h : ch < 4) : Completes (hostRow ch op f s) :=
  onUnit_completes h ⟨_, rfl⟩

/-- A shutdown ends on a unit of its kind (01 Table 01-6). -/
theorem execShutdownEnd_completes {kind idx : Nat} (s : State) (h : idx < shutUnits kind) :
    Completes (execShutdownEnd kind idx s) := by
  unfold execShutdownEnd
  split
  case h_1 | h_2 | h_3 => exact onUnit_completes h ⟨_, rfl⟩
  case h_4 | h_5 => exact ⟨_, rfl⟩

section
variable {c : Instr} {s t : State} {what what' : String} {i n j m : Nat}

/-- A row on one unit. -/
theorem completes_of_unit (h : c.wf = true) (hi : Check.below i n ∈ c.checks)
    (e : exec c s = onUnit what i n (.next t)) : Completes (exec c s) := by
  rw [e]
  exact onUnit_completes (lt_of_wf h hi) ⟨t, rfl⟩

/-- A row on two units. -/
theorem completes_of_units (h : c.wf = true) (hi : Check.below i n ∈ c.checks) (hj : Check.below j m ∈ c.checks)
    (e : exec c s = onUnit what i n (onUnit what' j m (.next t))) : Completes (exec c s) := by
  rw [e]
  exact onUnit_completes (lt_of_wf h hi) (onUnit_completes (lt_of_wf h hj) ⟨t, rfl⟩)

/-- A row of a host command. -/
theorem completes_of_hostRow {ch op : Nat} {f : State → FwRes} (h : c.wf = true) (hc : Check.below ch 4 ∈ c.checks)
    (e : exec c s = hostRow ch op f s) : Completes (exec c s) := by
  rw [e]
  exact hostRow_completes (lt_of_wf h hc)

end

/-- The rows by what they ask for: nothing, one unit, a host channel, two units, a unit of a kind. -/
theorem exec_completes {c : Instr} (s : State) (h : c.wf = true) : Completes (exec c s) := by
  cases c with
  | currentPeriodEvent | controlCycleEvent | separationCycleEvent | cellCycleClose | feedbackCutoff | outboundLaunch
  | latch | copyDeadline | ssmPublish | relabel | timeOfDayShift | holdoverEntry | holdExceeded | ppsInEdge
  | ppsOutRise | ppsOutFall | authorityLost | safetyWatchdog | brakeTimerSave | checkValueRecompute | lockoutEnd
  | serviceExpired | coldstartEntry | coldstartWaitEnd | coldstartWatchEnd | modeChangeRequest | linkDown | linkUp
  | conventionalReset | bar2Read | bar2ReadAbort | bar2Write | powerStateWrite | mailboxRamWrite | msixUnmask
  | tbNowFracRead | readClearAccess | registerWrite | flashWriteDone | heartbeatReceived | heartbeatWindowClose
  | takeoverDecision | epochAckCheck | mirrorAck | mirrorAckTimeout | systemRecord | mirrorCopyComplete | stageRecord
  | delta | paramRecord | hello | takeoverRecord | castlePrep | castleAck | pairSecret | pairWaitEnd | singleAuthority
  | shadowJoining | shadowReady | castleBoundary | castleEpochCheck | castleDue | castleAutoRetry | castleOverdue
  | pairTExpiry | pairCommitEffect | mirPeerEngChange | plyTableWrite | scrub | journalAppend | journalCompaction
  | tamperN | tempoMonitor | voltageLoop | tempoWarning | pmbusAlert | pmbusVoutTimeout | pmbusRetry
  | manufactureFinalTest | temperatureRecovery | resetN | testPin | presentNRemoval | presentNInsertion
  | internalResetRelease | fuseLoadEnd | coreSelfTestEnd | romSelfTestEnd | fwReady | ppsinSeenExpiry | aerError
  | linkWidthRateChange | perstNRelease | journalEraseEnd | uartCtsN | jtagInstruction =>
    exact ⟨_, rfl⟩
  | planPeriodEvent | solveDeadline | solveComplete | tileError | laneSpareTakeover | roverParallelEnd
  | interpolatorCalDone | inboundCycleFrame | discoveryFrame | dlSymbolLock | dlSymbolLockLost | portReady
  | portRecovered | linkFault | stageNoResponse | sparePortMove | stepEdge | stepFinalSegment | gpioEdge
  | stallImminent | holdDelayExpiry | coilFault | phaseSum | busUndervolt | sampleLost | followingError
  | laneOverrunRepeat | hardStopDetected | injectionRunEnd | frfAnalysisDone | captureEnd | traceOverflow
  | captureAreaFree | listStale | ssmXchk | verdictFallClear | stopRequestRelease | standstill | torqueBuildEnd
  | bkSettleCheck | brakeSwitch | bkReleaseEnd | bkEngageEnd | brakeTestStepEnd | brakeTestDue | brakeTestOverdue
  | testPulse | safeInputEdge | siDemand | discrepancy | siFaultClear | stoConfirmCheck | cbFrameReceived
  | slotWindowClose | valueLatch | ttcFrameTransmit | coldstartFrame | channelDisabled | doorbell | rspAck
  | requestTaken | evstatClear | evmaskWrite | leaseExpiry | openSession | planRecord | warmReq | mirrorLaneInService
  | sidebandMask | plyTableAdopt | lockLeaseExpiry | correctedWriteback | bankFillComplete | supplyRise
  | supplyRangeFault | trip | mirrorLaneUp =>
    exact completes_of_unit h List.mem_cons_self rfl
  | closeSession | keepalive | ticketStatus | cancelTicket | setLease | getIdentity | getHealth | readBlock
  | clearBlock | getFault | openSet | writeSeg | closeSet | confirm | commit | abortSet | readParam | getSetInfo
  | readSet | writeParam | move | jog | stop | setLimits | gear | stepFollow | home | getAxis | getMovePlan
  | clearAxisFlags | stageRead | dlReset | enable | disable | faultAck | enterPlanned | leavePlanned | setPath
  | handover | acceptHandover | reclaim | getArm | getResult | getPlan | getSizing | getVerdict | getSsmStat | resume
  | stopTest | getStopTest | getObjects | clearSsmFlags | brakeTest | enterService | leaveService | getSafety
  | clearSafetyFlags | setEngineer | removeEngineer | readAudit | setTimeOfDay | modeChange | channelEnable
  | channelDisable | applyCalibration | writeValue | readValue | getTtc | clearTtc | getCalibration | getPair | castle
  | pairBegin | pairConfirm | unpair | startCapture | stopCapture | startInjection | stopInjection | getFrf
  | getLifecycle | retire | selfTest =>
    exact completes_of_hostRow h List.mem_cons_self rfl
  | ledgerRequest | ledgerBackoffExpiry | holdCut | lockAcquire | lockRelease | unitError | targetedSelfTestDone
  | backgroundSelfTest =>
    exact completes_of_units h List.mem_cons_self (List.mem_cons_of_mem _ List.mem_cons_self) rfl
  | shutdownEnd kind idx =>
    exact execShutdownEnd_completes s (lt_of_wf h (List.mem_cons_of_mem _ List.mem_cons_self))

/-- Settles O2: each row acts in every state on units that exist. -/
theorem everyCommandCompletes : Obligations.EveryCommandCompletes := fun _ s h => exec_completes s h

end Sys2Proof.Machine
end

section
/-!
SUPPORT. The identity and health class (13 Table 13-2, R382): served in every state, and what clearing a block leaves of the
host interface.
-/
namespace Sys2Proof.Machine

/-- The class has no States letter that a state could fail (13 R377). -/
theorem openLetters_admits (s : State) : Admits openLetters.f openLetters.a openLetters.c openLetters.life s :=
  ⟨fun _ => rfl, .inl rfl, nofun, nofun⟩

@[simp] theorem latchNow_hif (block : Nat) (s : State) : (latchNow block s).hif = s.hif := by
  unfold latchNow
  split <;> rfl

@[simp] theorem clearRc_hif (block index : Nat) (s : State) : (clearRc block index s).hif = s.hif := by
  unfold clearRc
  split
  case h_4 => split <;> rfl
  all_goals rfl

@[simp] theorem clearW1c_hif (block index : Nat) (s : State) : (clearW1c block index s).hif = s.hif := by
  unfold clearW1c
  split
  case h_4 => split <;> rfl
  all_goals rfl

/-- There are blocks 0 to 5 (13 R382). -/
theorem blockBytes_above {block : Nat} (s : State) (index : Nat) (h : 5 < block) : blockBytes s block index = none := by
  unfold blockBytes
  split
  case h_7 => rfl
  all_goals omega

section
variable {ch op block index : Nat} {s : State} {w : Bytes} {r : State → Rsp}

/-- A row of the class that only reads. -/
theorem hostRow_reads (h : Serves ch s) :
    hostRow ch op (fwRead ch false openLetters [] r) s = .next (reports ch op r s) :=
  hostRow_reports h (fwRun_free rfl (openLetters_admits _) rfl)

theorem fwReadBlock_some (h : blockBytes s block index = some w) :
    fwReadBlock ch false block index s = (some (okRsp [] w), clearRc block index (latchNow block s)) := by
  unfold fwReadBlock
  rw [fwRun_free rfl (openLetters_admits s) (by simp [firstFail, h]), h]
  rfl

theorem fwReadBlock_none (h : blockBytes s block index = none) :
    fwReadBlock ch false block index s = (some (rspOf Sts.OUT_OF_RANGE), s) :=
  fwRun_free_refused rfl (openLetters_admits s) (by simp [firstFail, h])

theorem fwClearBlock_some (h : blockBytes s block index = some w) :
    fwClearBlock ch false block index s = (some okRsp, clearW1c block index (clearRc block index s)) :=
  fwRun_free rfl (openLetters_admits s) (by simp [firstFail, h])

theorem fwClearBlock_none (h : blockBytes s block index = none) :
    fwClearBlock ch false block index s = (some (rspOf Sts.OUT_OF_RANGE), s) :=
  fwRun_free_refused rfl (openLetters_admits s) (by simp [firstFail, h])

/-- A row that takes its effect at once and leaves the host interface as it was. -/
theorem hostRow_does_of_hif {f : State → FwRes} {g : State → State} (h : Serves ch s)
    (hf : f (begun ch s) = (some (r (begun ch s)), g (begun ch s))) (hg : (g (begun ch s)).hif = (begun ch s).hif) :
    hostRow ch op f s = .next (does ch op r g s) :=
  hostRow_does h hf (by rw [chan_of_hif hg]) (by rw [chan_of_hif hg])

theorem execReadBlock_some (h : Serves ch s) (hw : blockBytes (begun ch s) block index = some w) :
    execReadBlock ch block index s =
      .next (does ch 0x0203 (fun _ => okRsp [] w) (fun b => clearRc block index (latchNow block b)) s) :=
  hostRow_does_of_hif h (fwReadBlock_some hw) (by simp)

theorem execClearBlock_some (h : Serves ch s) (hw : blockBytes (begun ch s) block index = some w) :
    execClearBlock ch block index s =
      .next (does ch 0x0204 (fun _ => okRsp) (fun b => clearW1c block index (clearRc block index b)) s) :=
  hostRow_does_of_hif h (fwClearBlock_some hw) (by simp)

theorem execReadBlock_above (h : Serves ch s) (hb : 5 < block) :
    execReadBlock ch block index s = .next (reports ch 0x0203 (fun _ => rspOf Sts.OUT_OF_RANGE) s) :=
  hostRow_reports h (fwReadBlock_none (blockBytes_above _ _ hb))

theorem execClearBlock_above (h : Serves ch s) (hb : 5 < block) :
    execClearBlock ch block index s = .next (reports ch 0x0204 (fun _ => rspOf Sts.OUT_OF_RANGE) s) :=
  hostRow_reports h (fwClearBlock_none (blockBytes_above _ _ hb))

end

/-- Settles O12: three reports, then READ_BLOCK and CLEAR_BLOCK of a block that exists and of one above 5. -/
theorem identityCommands : Obligations.IdentityCommands := by
  refine ⟨fun _ _ h => hostRow_reads h, fun _ _ h => hostRow_reads h, fun _ _ h => hostRow_reads h, ?_, ?_⟩
  · exact fun _ _ _ _ _ h hw => ⟨execReadBlock_some h hw, execClearBlock_some h hw⟩
  · exact fun _ _ _ _ h hb => ⟨execReadBlock_above h hb, execClearBlock_above h hb⟩

end Sys2Proof.Machine
end

section
/-!
SUPPORT. The state at the release of reset (02 R39, 17 R474).
-/
namespace Sys2Proof.Machine

/-- Settles O8: each field has its reset value, and every entry of a table the value the table is filled with. -/
theorem stateAfterReset : Obligations.StateAfterReset :=
  ⟨rfl, rfl, rfl, rfl, rfl, rfl, by decide, by decide, by decide, rfl⟩

end Sys2Proof.Machine
end

section
/-!
SUPPORT. The time base: what a shift of cell time, the terms of RATE and the rounding of a relabel do (chapter 02), and the
movement of cell time by whole multiples of 4 ms.
-/
namespace Sys2Proof.Machine

/-! ### Tables changed entry by entry -/

theorem mapFrom_getElem? {α β : Type} (f : Nat → α → β) (k : Nat) (l : List α) (i : Nat) :
    (mapFrom f k l)[i]? = l[i]?.map (f (k + i)) := by
  induction l generalizing k i with
  | nil => rfl
  | cons x xs ih =>
    cases i with
    | zero => rfl
    | succ i => simp only [mapFrom, List.getElem?_cons_succ, ih, Nat.add_assoc, Nat.add_comm 1]

@[simp] theorem vrd_vmapI {α : Type} {n : Nat} [Inhabited α] {v : Vector α n} {i : Nat} {f : Nat → α → α} (h : i < n) :
    vrd (vmapI v f) i = f i (vrd v i) := by
  simp [vrd, vmapI, List.getD, mapFrom_getElem?, h]

/-! ### The multiple nearest to an offset -/

/-- The multiple of d nearest to m ≥ 0, of two equally near the lower one. -/
theorem roundHZ_nonneg_bounds {m d : Int} (h : 0 < d) (hm : 0 ≤ m) :
    0 ≤ roundHZ m d * d ∧ 2 * (roundHZ m d * d) < 2 * m + d ∧ 2 * m ≤ 2 * (roundHZ m d * d) + d := by
  unfold roundHZ
  rw [if_pos hm]
  have lo := Int.ediv_mul_le (2 * m + d - 1) (b := 2 * d) (by omega)
  have hi := Int.lt_ediv_add_one_mul_self (2 * m + d - 1) (b := 2 * d) (by omega)
  have q0 : 0 ≤ (2 * m + d - 1) / (2 * d) := Int.ediv_nonneg (by omega) (by omega)
  have double : (2 * m + d - 1) / (2 * d) * (2 * d) = 2 * ((2 * m + d - 1) / (2 * d) * d) := Int.mul_left_comm _ 2 d
  rw [Int.add_mul, double] at hi
  rw [double] at lo
  exact ⟨Int.mul_nonneg q0 (Int.le_of_lt h), by omega, by omega⟩

theorem roundHZ_neg {m d : Int} (hm : m < 0) : roundHZ m d = -roundHZ (-m) d := by
  unfold roundHZ
  rw [if_neg (by omega), if_pos (by omega)]

/-- The multiple of d nearest to n, of two equally near the one nearer to 0 (02 R47). -/
theorem roundHZ_nearest (n : Int) {d : Int} (h : 0 < d) :
    2 * ((n - roundHZ n d * d).natAbs : Int) ≤ d
      ∧ (2 * ((n - roundHZ n d * d).natAbs : Int) = d → (roundHZ n d * d).natAbs ≤ n.natAbs) := by
  rcases Int.lt_or_le n 0 with hn | hn
  · obtain ⟨p0, lo, hi⟩ := roundHZ_nonneg_bounds (m := -n) h (by omega)
    rw [roundHZ_neg hn, Int.neg_mul]
    omega
  · obtain ⟨p0, lo, hi⟩ := roundHZ_nonneg_bounds h hn
    omega

/-! ### The terms of RATE -/

@[simp] theorem tbSetFreq_cyc (f : Int) (s : State) : (tbSetFreq f s).cyc = s.cyc := rfl

@[simp] theorem tbSetSlew_cyc (v : Int) (s : State) : (tbSetSlew v s).cyc = s.cyc := rfl
@[simp] theorem tbSetSlew_hif (v : Int) (s : State) : (tbSetSlew v s).hif = s.hif := rfl
@[simp] theorem tbSetSlew_slew (v : Int) (s : State) : (tbSetSlew v s).tb.slew = clampI (-slewLim s) (slewLim s) v := rfl
@[simp] theorem tbSetSlew_relabel (v : Int) (s : State) : (tbSetSlew v s).tb.relabel = s.tb.relabel := rfl

/-- All that RATE following its terms can change: the frequency term, its history and RATE itself. -/
theorem tbFollow_eq (s : State) : ∃ f h r, tbFollow s = { s with tb := { s.tb with freq := f, freqHist := h, rate := r } } := by
  unfold tbFollow tbRate tbFreeFreq
  split
  · exact ⟨_, _, _, rfl⟩
  · split <;> exact ⟨_, _, _, rfl⟩

@[simp] theorem tbFollow_cyc (s : State) : (tbFollow s).cyc = s.cyc := by
  obtain ⟨_, _, _, e⟩ := tbFollow_eq s
  rw [e]
@[simp] theorem tbFollow_hif (s : State) : (tbFollow s).hif = s.hif := by
  obtain ⟨_, _, _, e⟩ := tbFollow_eq s
  rw [e]
@[simp] theorem tbFollow_slew (s : State) : (tbFollow s).tb.slew = s.tb.slew := by
  obtain ⟨_, _, _, e⟩ := tbFollow_eq s
  rw [e]
@[simp] theorem tbFollow_state (s : State) : (tbFollow s).tb.state = s.tb.state := by
  obtain ⟨_, _, _, e⟩ := tbFollow_eq s
  rw [e]
@[simp] theorem tbFollow_relabel (s : State) : (tbFollow s).tb.relabel = s.tb.relabel := by
  obtain ⟨_, _, _, e⟩ := tbFollow_eq s
  rw [e]

/-! ### A shift of cell time -/

theorem anyBusy_iff (s : State) : s.anyBusy = true ↔ ∃ k, k < 72 ∧ (s.sc k).fn ≠ .disabled := by
  simp [State.anyBusy, allScopes, State.busy]

section
variable (d : Int) (s : State)

@[simp] theorem shiftTime_now : (shiftTime d s).cyc.now = shiftT d s.cyc.now := rfl
@[simp] theorem shiftTime_relabel : (shiftTime d s).tb.relabel = s.tb.relabel := rfl
@[simp] theorem shiftTime_logNext : (shiftTime d s).hif.logNext = s.hif.logNext := rfl

/-- A shift leaves the scopes in the states they were in. -/
theorem shiftTime_fn {k : Nat} (h : k < 72) : ((shiftTime d s).sc k).fn = (s.sc k).fn := by
  unfold State.sc shiftTime
  rw [vrd_vmapI h]

@[simp] theorem shiftTime_anyBusy : (shiftTime d s).anyBusy = s.anyBusy := by
  rw [Bool.eq_iff_iff, anyBusy_iff, anyBusy_iff]
  exact exists_congr fun k => and_congr_right fun h => by rw [shiftTime_fn d s h]

@[simp] theorem shiftTime_slewLim : slewLim (shiftTime d s) = slewLim s := by
  unfold slewLim
  rw [shiftTime_anyBusy]
  rfl

end

/-! ### A relabel that is due -/

/-- When a relabel acts: motion allows it, RELABEL_EN is 1 and the multiple is not 0. -/
theorem relabel_guard {s : State} {due : Time} {k : Int} : (mayRelabel s due = true ∧ s.tb.relabelEn = true ∧ k ≠ 0)
    ↔ ¬(!(mayRelabel (s.upTo due) due && (s.upTo due).tb.relabelEn) || decide (k = 0)) = true := by
  rw [show mayRelabel (s.upTo due) due = mayRelabel s due from rfl, State.upTo_tb]
  simp [and_assoc]

section
variable {s : State} {due tau : Time} {theta : Int} (h : s.tb.relabel = some (due, theta, tau))
include h

/-- A relabel of no multiple, or one that is forbidden at its instant, only falls due (02 R47, R48). -/
theorem execRelabel_stays
    (ha : ¬(mayRelabel s due = true ∧ s.tb.relabelEn = true ∧ roundHZ theta (4 * ms : Nat) ≠ 0)) :
    execRelabel s = .next { s.upTo due with tb := { s.tb with relabel := none } } := by
  rw [relabel_guard] at ha
  unfold execRelabel
  rw [h]
  exact congrArg Host.Outcome.next (if_pos (Classical.not_not.1 ha))

/-- A relabel that acts takes its multiple out of cell time and leaves the rest of the offset to the slew term (02 R47). -/
theorem execRelabel_acts (hm : mayRelabel s due = true) (he : s.tb.relabelEn = true)
    (hk : roundHZ theta (4 * ms : Nat) ≠ 0) :
    execRelabel s = .next (raiseEv 127 Sts.OK 0 (ofSigned 32 (roundHZ theta (4 * ms : Nat))) 1
      (tbFollow (tbSetSlew (-overTau (theta - roundHZ theta (4 * ms : Nat) * (4 * ms : Nat)) tau 1)
        (shiftTime (-(roundHZ theta (4 * ms : Nat) * (4 * ms : Nat)))
          { s.upTo due with tb := { s.tb with relabel := none } })))) := by
  unfold execRelabel
  rw [h]
  exact congrArg Host.Outcome.next (if_neg (relabel_guard.1 ⟨hm, he, hk⟩))

end

/-- Settles O33: the multiple is the rounded one, and the relabel either acts or only falls due. -/
theorem relabelMovesCellTime : Obligations.RelabelMovesCellTime := by
  intro s due tau theta h hnow
  obtain ⟨near, tie⟩ := roundHZ_nearest theta (d := (4 * ms : Nat)) (by decide)
  have near' := Int.ofNat_le.1 near
  have tie' := fun e => tie (congrArg Nat.cast e)
  by_cases ha : mayRelabel s due = true ∧ s.tb.relabelEn = true ∧ roundHZ theta (4 * ms : Nat) ≠ 0
  · obtain ⟨hm, he, hk⟩ := ha
    have lim (d : Int) : slewLim (shiftTime d { s.upTo due with tb := { s.tb with relabel := none } }) = slewLim s :=
      shiftTime_slewLim d _
    refine ⟨_, _, execRelabel_acts h hm he hk, ?_, near', tie', fun _ _ _ => ⟨fun hd => ?_, ?_, ?_⟩, ?_⟩
    · simp only [raiseEv_tb, tbFollow_relabel, tbSetSlew_relabel, shiftTime_relabel]
    · have now : max s.cyc.now due = due := Nat.max_eq_right hnow
      simp only [raiseEv_cyc, tbFollow_cyc, tbSetSlew_cyc, shiftTime_now, State.upTo_cyc_now, now, shiftT]
      omega
    · simp only [raiseEv_logNext, tbFollow_hif, tbSetSlew_hif, shiftTime_logNext, State.upTo_hif]
    · rw [raiseEv_tb, tbFollow_slew, tbSetSlew_slew, lim]
    · rintro (e | e | e)
      · exact absurd e hk
      · exact absurd (hm.symm.trans e) (by decide)
      · exact absurd (he.symm.trans e) (by decide)
  · exact ⟨_, _, execRelabel_stays h ha, rfl, near', tie', fun hm he hk => absurd ⟨hm, he, hk⟩ ha, fun _ => rfl⟩

end Sys2Proof.Machine
end

section
/-!
SUPPORT. The cell-bus class (13 Tables 13-12, 13-13): the checks that its commands pass or fail, and its rows on a channel that
serves.
-/
namespace Sys2Proof.Machine

/-! ### What the class leaves of the host interface -/

@[simp] theorem mirDelta_hif (addr len : Nat) (s : State) : (mirDelta addr len s).hif = s.hif := by
  unfold mirDelta
  split
  · rfl
  · exact List.foldlRecOn (motive := fun t : State => t.hif = s.hif) _ _ rfl fun _ ht _ _ => ht

@[simp] theorem writeTx_hif (num : Nat) (data : Bytes) (t : Time) (by_ : Nat) (s : State) :
    (writeTx num data t by_ s).hif = s.hif := mirDelta_hif _ _ _

theorem newTicket_chan (ch op c : Nat) (s : State) : (newTicket ch op s).2.chan c = s.chan c := by
  unfold newTicket State.chan
  rw [mirDelta_hif]

/-- A channel's command starts its ticket on the channel. -/
theorem ticketFor_channel {ch : Nat} (h : ch < 4) (op : Nat) (s : State) : ticketFor ch op s = newTicket ch op s := if_pos h

/-! ### What the renewed session leaves -/

section
variable (ch : Nat) (s : State)

@[simp] theorem begun_ps : (begun ch s).ps = s.ps := rfl
@[simp] theorem begun_ttc : (begun ch s).ttc = s.ttc := rfl
@[simp] theorem begun_anyBusy : (begun ch s).anyBusy = s.anyBusy := rfl
@[simp] theorem begun_running (c token : Nat) : (begun ch s).hif.running c token = s.hif.running c token := rfl
@[simp] theorem begun_txSlotLen (v : Nat) : txSlotLen (begun ch s) v = txSlotLen s v := rfl

/-- With the cell bus configured its check passes on the renewed session (13, after Table 13-18). -/
theorem noCellBus_begun (hb : prmN s.ps Pid.CB_EN 0 = 1) : noCellBus (begun ch s) = (false, Sts.CB_NOT_CONFIGURED) := by
  unfold noCellBus
  rw [begun_ps, hb]
  rfl

end

/-- A number in range passes the check of its bound. -/
theorem firstFail_bound {v b st : Nat} {r : List (Bool × Nat)} (h : v ≤ b) :
    firstFail ((decide (b < v), st) :: r) = firstFail r := by
  rw [decide_eq_false (Nat.not_lt.2 h)]
  rfl

/-! ### Rows of the class -/

section
variable {ch : Nat} {s : State} (h : Serves ch s)
include h

/-- With nothing ENABLED the command sets the shift for the next multiple of 4 ms (02 R50). -/
theorem execSetTimeOfDay_free {seconds : Nat} (ha : Admits false true false false s) (hb : prmN s.ps Pid.CB_EN 0 = 1)
    (hs : seconds ≤ maxSeconds) (hf : s.anyBusy = false) :
    execSetTimeOfDay ch seconds s = .next (does ch 0x0901 (fun _ => okRsp) (fun b =>
      let due := nextAfter (4 * ms) b.cyc.now
      { b with tb := { b.tb with todShift := some (due, (seconds : Int) - (due / sec : Nat)) } }) s) :=
  hostRow_does_of_hif h (fwRun_free rfl ha (by rw [firstFail_bound hs, noCellBus_begun _ _ hb, begun_anyBusy, hf]; rfl)) rfl

/-- While anything is ENABLED or SHUTTING_DOWN the check after the range and the cell bus refuses it (02 R51). -/
theorem execSetTimeOfDay_busy {seconds : Nat} (ha : Admits false true false false s) (hb : prmN s.ps Pid.CB_EN 0 = 1)
    (hs : seconds ≤ maxSeconds) (hf : s.anyBusy = true) :
    execSetTimeOfDay ch seconds s = .next (reports ch 0x0901 (fun _ => rspOf Sts.TIME_IN_USE) s) :=
  hostRow_reports h (fwRun_free_refused rfl ha (by rw [firstFail_bound hs, noCellBus_begun _ _ hb, begun_anyBusy, hf]; rfl))

theorem execModeChange_waits {m : Nat} (ha : Admits false true false false s) (hb : prmN s.ps Pid.CB_EN 0 = 1)
    (hm : m ≤ 15) (hv : cbValid s.ttc.ps m = true) (hn : m ≠ s.ttc.mode) (hw : s.ttc.mc.want = none)
    (ht : s.hif.running ch (s.chan ch).token < 8) :
    let k := newTicket ch 0x0902 (begun ch s)
    execModeChange ch m s = .next (replies ch 0x0902 (acceptedRsp k.1) s
      { k.2 with ttc := { k.2.ttc with mc := { k.2.ttc.mc with want := some (m, k.1) } } }) := by
  have hc := newTicket_chan ch 0x0902 ch (begun ch s)
  refine hostRow_replies h ?_ ((congrArg ChanSt.open_ hc).trans (begun_chan_open h))
    ((congrArg ChanSt.token hc).trans (begun_chan_token h))
  unfold fwModeChange
  rw [fwRun_free rfl ha, ticketFor_channel h.1]
  simp [firstFail, noCellBus_begun _ _ hb, ticketsFull, begun_chan_token h, Nat.not_lt.2 hm, Nat.not_le.2 ht, hv, hn, hw]

theorem execChannelEnable_disabled {cb : Nat} (ha : Admits false true false false s) (hb : prmN s.ps Pid.CB_EN 0 = 1)
    (hc : cb ≤ 1) (hf : (vrd s.ttc.ch cb).fn = .disabled) :
    execChannelEnable ch cb s = .next (stages ch 0x0903 72 64 (.chanEnable cb) s) := by
  refine hostRow_stages h ?_
  unfold fwChannelEnable
  rw [fwRun_free rfl ha (by rw [firstFail_bound hc, noCellBus_begun _ _ hb, begun_ttc, hf]; rfl), begun_ttc, hf]
  rfl

theorem execChannelEnable_enabled {cb : Nat} (ha : Admits false true false false s) (hb : prmN s.ps Pid.CB_EN 0 = 1)
    (hc : cb ≤ 1) (hf : (vrd s.ttc.ch cb).fn = .enabled) :
    execChannelEnable ch cb s = .next (reports ch 0x0903 (fun b => effectRsp b.cyc.t0) s) := by
  refine hostRow_reports h ?_
  unfold fwChannelEnable
  rw [fwRun_free rfl ha (by rw [firstFail_bound hc, noCellBus_begun _ _ hb, begun_ttc, hf]; rfl), begun_ttc, hf]
  rfl

theorem execChannelDisable_stages {cb : Nat} (ha : Admits false true false false s) (hb : prmN s.ps Pid.CB_EN 0 = 1)
    (hc : cb ≤ 1) : execChannelDisable ch cb s = .next (stages ch 0x0904 72 64 (.chanDisable cb) s) :=
  hostRow_stages h (fwRun_free rfl ha (by rw [firstFail_bound hc, noCellBus_begun _ _ hb]; rfl))

theorem execApplyCalibration_does (ha : Admits false false false false s) (hb : prmN s.ps Pid.CB_EN 0 = 1) :
    execApplyCalibration ch s = .next (does ch 0x0905 (fun _ => okRsp)
      (fun b => raiseEv 93 Sts.OK b.node 0 0 { b with ttc := { b.ttc with applying := true } }) s) :=
  hostRow_does h (fwRun_free rfl ha (by rw [noCellBus_begun _ _ hb]; rfl))
    (congrArg ChanSt.open_ (raiseEv_chan ..)) (congrArg ChanSt.token (raiseEv_chan ..))

theorem execClearTtc_does (ha : Admits false false false false s) (hb : prmN s.ps Pid.CB_EN 0 = 1) :
    execClearTtc ch s = .next (does ch 0x0909 (fun _ => okRsp) cbErrClear s) :=
  hostRow_does_of_hif h (fwRun_free rfl ha (by rw [noCellBus_begun _ _ hb]; rfl)) rfl

theorem execWriteValue_does {v : Nat} {data : Bytes} (ha : Admits false true false false s)
    (hb : prmN s.ps Pid.CB_EN 0 = 1) (hv : v ≤ 511) (hl : ∀ l, txSlotLen s v = some l → data.length = l) :
    execWriteValue ch v data s = .next (does ch 0x0906 (fun b => okRsp (leBytes 8 (b.cyc.now / ns)))
      (fun b => writeTx v data b.cyc.now ch b) s) := by
  refine hostRow_does_of_hif h (fwRun_free rfl ha ?_) (writeTx_hif ..)
  cases e : txSlotLen s v with
  | none =>
    rw [firstFail_bound hv, noCellBus_begun _ _ hb, begun_txSlotLen, e]
    rfl
  | some l =>
    rw [firstFail_bound hv, noCellBus_begun _ _ hb, begun_txSlotLen, e, hl l e]
    simp only [firstFail, bne_self_eq_false, Bool.false_eq_true, if_false]

theorem execReadValue_reports {v : Nat} (ha : Admits true false false false s) (hv : v ≤ 511) :
    execReadValue ch v s = .next (reports ch 0x0907 (fun b =>
      let slotless := decide (0 < b.ttc.t0) && b.cbNow.all fun x => !(x.rx && x.value == v)
      let r := (rxOf b.ttc.rxOut v).getD { num := v, noSlot := slotless }
      okRsp [] (leBytes 8 (rxWord r) ++ r.stamp.bytes ++ r.data)) s) := by
  refine hostRow_reports h ?_
  unfold fwReadValue fwRead
  rw [fwRun_free rfl ha (firstFail_bound hv)]

theorem execGetTtc_does (ha : Admits true false false false s) :
    execGetTtc ch s = .next (does ch 0x0908
      (fun b => okRsp (leBytes 4 (ttcStat b.ttc) ++ leBytes 4 b.tb.status ++ leBytes 8 (cbErrWord (vrd b.ttc.ch 0).err)
        ++ leBytes 8 (cbErrWord (vrd b.ttc.ch 1).err))) (fun b => cbErrClear { b with tb := { b.tb with ppsInRej := 0 } }) s) :=
  hostRow_does_of_hif h (fwRun_free rfl ha rfl) rfl

theorem execGetCalibration_reports {cb : Nat} (ha : Admits true false false false s) (hc : cb ≤ 1) :
    execGetCalibration ch cb s = .next (reports ch 0x090A (fun b => okRsp [] ((List.range 32).flatMap fun j =>
      leBytes 2 ((vrd b.ttc.cal (32 * cb + j)).measured.getD 0) ++ leBytes 2 (cbDelay b j cb))) s) :=
  hostRow_reports h (fwRun_free rfl ha (firstFail_bound hc))

end

/-- Settles O28: an arm or axis ENABLED or SHUTTING_DOWN is one that is not DISABLED, for which the command is refused. -/
theorem timeInUse : Obligations.TimeInUse := by
  intro ch seconds k s h ha hb hs hk hf
  have busy : s.anyBusy = true := (anyBusy_iff s).2 ⟨k, hk, by rcases hf with e | e <;> rw [e] <;> decide⟩
  exact execSetTimeOfDay_busy h ha hb hs busy

/-- Settles O29: each command of the class passes its checks and takes its effect. -/
theorem cellBusCommands : Obligations.CellBusCommands := by
  refine ⟨?_, ?_, ?_, ?_, ?_, ?_, ?_, ?_⟩
  · exact fun _ _ _ h ha hb hs hf => execSetTimeOfDay_free h ha hb hs hf
  · exact fun _ _ _ h ha hb hm hv hn hw ht => execModeChange_waits h ha hb hm hv hn hw ht
  · exact fun _ _ _ h ha hb hc => ⟨execChannelEnable_disabled h ha hb hc, execChannelEnable_enabled h ha hb hc,
      execChannelDisable_stages h ha hb hc⟩
  · exact fun _ _ h ha hb => ⟨execApplyCalibration_does h ha hb, execClearTtc_does h ha hb⟩
  · exact fun _ _ _ _ h ha hb hv hl => execWriteValue_does h ha hb hv hl
  · exact fun _ _ _ h ha hv => execReadValue_reports h ha hv
  · exact fun _ _ h ha => execGetTtc_does h ha
  · exact fun _ _ _ h ha hc => execGetCalibration_reports h ha hc

end Sys2Proof.Machine
end

section
/-!
SUPPORT. The events of the time base: the time of day, holdover, the pulses in and out, and the calibration of the interpolators
(chapter 02).
-/
namespace Sys2Proof.Machine

/-! ### The time of day -/

/-- The shift acts where nothing is enabled at its instant; in either case it is no longer due (02 R50, R51). -/
theorem execTimeOfDayShift_due {s : State} {due : Time} {n : Int} (h : s.tb.todShift = some (due, n)) :
    execTimeOfDayShift s = .next (if mayRelabel s due = true then
      raiseEv 127 Sts.OK 0 (ofSigned 32 (clampI (-(2 ^ 31 - 1)) (2 ^ 31 - 1) n)) 4
        (shiftTime (n * (sec : Nat)) { s.upTo due with tb := { s.tb with todShift := none } })
    else { s.upTo due with tb := { s.tb with todShift := none } }) := by
  have same : mayRelabel (s.upTo due) due = mayRelabel s due := rfl
  unfold execTimeOfDayShift
  rw [h]
  cases e : mayRelabel s due with
  | true => exact congrArg Host.Outcome.next (if_neg (by rw [same, e]; decide))
  | false => exact congrArg Host.Outcome.next (if_pos (by rw [same, e]; decide))

/-! ### Holdover -/

@[simp] theorem raiseTb_cyc (s : State) : (raiseTb s).cyc = s.cyc := rfl
@[simp] theorem raiseTb_tb (s : State) : (raiseTb s).tb = s.tb := rfl

/-- Entering HOLDOVER takes no time and sets the slew term to 0 (02 Table 02-3). -/
theorem tbHold_holds (f : Int) (s : State) :
    (tbHold f s).tb.state = .holdover ∧ (tbHold f s).tb.slew = 0 ∧ (tbHold f s).cyc = s.cyc := by
  unfold tbHold
  dsimp only
  split <;> simp

/-- The time base holds once its source has been missed long enough: at once, or, with a source that lives on pulses, 1.5 s
after the last one (02 R53, Table 02-3). -/
theorem execHoldoverEntry_holds {s : State} (hs : s.tb.state = .acquiring ∨ s.tb.state = .locked)
    (hm : s.tb.src ≠ 2 → 4 ≤ s.tb.missRun) (h1 : 1 ≤ s.tb.src) (h4 : s.tb.src ≤ 4) :
    ∃ f u, execHoldoverEntry s = .next (tbHold f u)
      ∧ u.cyc.now = if s.tb.src = 2 ∨ s.tb.src = 3 then max s.cyc.now (s.tb.lastValid + 3 * sec / 2) else s.cyc.now := by
  have src : s.tb.src = 1 ∨ s.tb.src = 2 ∨ s.tb.src = 3 ∨ s.tb.src = 4 := by omega
  unfold execHoldoverEntry
  rw [if_pos hs]
  rcases src with e | e | e | e <;> rw [e] at hm ⊢
  case inr.inl => exact ⟨_, _, rfl, rfl⟩
  all_goals exact ⟨_, _, congrArg Host.Outcome.next (if_pos (hm (by decide))), rfl⟩

/-- A quotient rounded up reaches its dividend. -/
theorem le_ceil_mul (x : Nat) {d : Nat} (h : 0 < d) : x ≤ (x + d - 1) / d * d := by
  have parts := Nat.div_add_mod' (x + d - 1) d
  have rest := Nat.mod_lt (x + d - 1) h
  omega

/-- The bound of holdover is reached where the drift over the time since the last measurement comes to HOLD_LIMIT (02 R54). -/
theorem execHoldExceeded_raises {s : State} (hs : s.tb.state = .holdover) (he : s.tb.holdExceeded = false)
    (hd : 0 < s.tb.holdDrift) :
    ∃ t, execHoldExceeded s = .next t ∧ t.tb.holdExceeded = true ∧ t.hif.evstat.testBit 127 = true
      ∧ s.tb.lastValid * s.tb.holdDrift + 100 * s.tb.holdLimit * sec ≤ t.cyc.now * s.tb.holdDrift := by
  have guard : ¬(s.tb.state ≠ .holdover ∨ s.tb.holdExceeded = true ∨ s.tb.holdDrift = 0) := by
    rintro (c | c | c)
    · exact c hs
    · rw [he] at c
      exact absurd c (by decide)
    · exact Nat.ne_of_gt hd c
  unfold execHoldExceeded
  rw [if_neg guard]
  refine ⟨_, rfl, rfl, raiseEv_own_bit .., ?_⟩
  rw [raiseEv_cyc]
  calc s.tb.lastValid * s.tb.holdDrift + 100 * s.tb.holdLimit * sec
      ≤ (s.tb.lastValid + (100 * s.tb.holdLimit * sec + s.tb.holdDrift - 1) / s.tb.holdDrift) * s.tb.holdDrift := by
        rw [Nat.add_mul]
        exact Nat.add_le_add_left (le_ceil_mul _ hd) _
    _ ≤ _ := Nat.mul_le_mul_right _ (Nat.le_max_right _ _)

/-! ### Pulses in -/

/-- What a pulse that counts does, from its offset and its stamp (02 R52, R55). -/
def ppsTaken (theta : Int) (t : Time) (s : State) : State :=
  if s.tb.state = .locked ∧ theta.natAbs > ms then
    { s with tb := { s.tb with ppsInRej := incSat 255 s.tb.ppsInRej } }
  else
    let s := { s with tb := { s.tb with ppsInSeen := true, lastPps := some t } }
    if s.tb.src = 2 ∨ (s.tb.src = 3 ∧ s.ttc.theta = none) then tbFollow (tbMeasure theta sec t s) else s

theorem ppsTaken_rejected {theta : Int} {s : State} (t : Time) (hs : s.tb.state = .locked) (h : ms < theta.natAbs) :
    ppsTaken theta t s = { s with tb := { s.tb with ppsInRej := incSat 255 s.tb.ppsInRej } } := if_pos ⟨hs, h⟩

/-- A pulse near a whole second is noted where no source takes it for a measurement. -/
theorem ppsTaken_noted {theta : Int} {s : State} (t : Time) (h : theta.natAbs ≤ ms)
    (src : ¬(s.tb.src = 2 ∨ (s.tb.src = 3 ∧ s.ttc.theta = none))) :
    ppsTaken theta t s = { s with tb := { s.tb with ppsInSeen := true, lastPps := some t } } :=
  (if_neg fun c => Nat.not_lt.2 h c.2).trans (if_neg src)

/-- A pulse near a whole second is a measurement for the source that lives on the pulses. -/
theorem ppsTaken_measured {theta : Int} {s : State} (t : Time) (h : theta.natAbs ≤ ms) (src : s.tb.src = 2) :
    ppsTaken theta t s
      = tbFollow (tbMeasure theta sec t { s with tb := { s.tb with ppsInSeen := true, lastPps := some t } }) :=
  (if_neg fun c => Nat.not_lt.2 h c.2).trans (if_pos (.inl src))

/-- More than m from the multiple of p before and from the one after is more than m from the nearest. -/
theorem lt_offset {m p r : Nat} (lo : m < r) (hi : r < p - m) :
    m < (if 2 * r > p then (r : Int) - (p : Int) else (r : Int)).natAbs := by
  split <;> omega

section
variable {s : State} {at_ : Time} {width : Nat} {rising : Bool}

/-- A pulse that is too short, or at the edge that PPSIN_POL does not select, only brings its instant (02 R55). -/
theorem execPpsInEdge_ignored (h : width < us ∨ rising = s.tb.ppsInPol) :
    execPpsInEdge ⟨at_, rising⟩ width s = .next (s.upTo at_) := congrArg Host.Outcome.next (if_pos h)

/-- A pulse that counts and does not lie half-way between two whole seconds is measured from the nearest one (02 R50, R55). -/
theorem execPpsInEdge_taken (hw : us ≤ width) (hr : rising = !s.tb.ppsInPol)
    (half : 2 * (((s.upTo at_).stampOf 42 at_).at_ % sec) ≠ sec) :
    execPpsInEdge ⟨at_, rising⟩ width s = .next (ppsTaken
      (if 2 * (((s.upTo at_).stampOf 42 at_).at_ % sec) > sec then
          ((((s.upTo at_).stampOf 42 at_).at_ % sec : Nat) : Int) - (sec : Int)
        else ((((s.upTo at_).stampOf 42 at_).at_ % sec : Nat) : Int))
      ((s.upTo at_).stampOf 42 at_).at_ (s.upTo at_)) := by
  have guard : ¬(width < us ∨ rising = (s.upTo at_).tb.ppsInPol) := by
    rw [hr]
    simp [hw]
  unfold execPpsInEdge ppsTaken
  simp only [if_neg guard, if_neg half, decide_eq_true_eq]

/-- A pulse at most 1 ms after a whole second is one of that offset. -/
theorem execPpsInEdge_after (hw : us ≤ width) (hr : rising = !s.tb.ppsInPol)
    (h : ((s.upTo at_).stampOf 42 at_).at_ % sec ≤ ms) :
    execPpsInEdge ⟨at_, rising⟩ width s = .next (ppsTaken ((((s.upTo at_).stampOf 42 at_).at_ % sec : Nat) : Int)
      ((s.upTo at_).stampOf 42 at_).at_ (s.upTo at_)) := by
  have lo : 2 * (((s.upTo at_).stampOf 42 at_).at_ % sec) < sec := 
    Nat.lt_of_le_of_lt (Nat.mul_le_mul_left 2 h) (by decide)
  rw [execPpsInEdge_taken hw hr (Nat.ne_of_lt lo), if_neg (Nat.lt_asymm lo)]

end

/-- PPSIN_SEEN goes down 1.5 s after the last pulse (02 R55). -/
theorem execPpsinSeenExpiry_clears {s : State} {t : Time} (h : s.tb.lastPps = some t) (seen : s.tb.ppsInSeen = true) :
    execPpsinSeenExpiry s = .next { s.upTo (t + 3 * sec / 2) with tb := { s.tb with ppsInSeen := false } } := by
  unfold execPpsinSeenExpiry
  rw [h]
  exact congrArg Host.Outcome.next (if_pos seen)

/-! ### Pulses out -/

/-- A quotient rounded up is the least multiple that reaches its dividend. -/
theorem cdiv_mul_bounds (a : Int) {b : Int} (h : 0 < b) : a ≤ cdiv a b * b ∧ cdiv a b * b < a + b := by
  have lo := Int.ediv_mul_le (-a) (Int.ne_of_gt h)
  have hi := Int.lt_ediv_add_one_mul_self (-a) h
  rw [Int.add_mul] at hi
  unfold cdiv
  rw [Int.neg_mul]
  omega

/-- The first instant from `now` on that `comp` takes to a multiple of `p`. -/
def nextPulse (p now : Nat) (comp : Int) : Nat := (cdiv ((now : Int) + comp) p * p - comp).toNat

theorem nextPulse_spec {p : Nat} (hp : 0 < p) (now : Nat) (comp : Int) :
    now ≤ nextPulse p now comp ∧ ((nextPulse p now comp : Int) + comp) % p = 0 ∧ nextPulse p now comp < now + p := by
  obtain ⟨lo, hi⟩ := cdiv_mul_bounds ((now : Int) + comp) (b := p) (by omega)
  have e : (nextPulse p now comp : Int) = cdiv ((now : Int) + comp) p * p - comp := Int.toNat_of_nonneg (by omega)
  refine ⟨by omega, ?_, by omega⟩
  rw [e, Int.sub_add_cancel, Int.mul_emod_left]

/-- PPS_OUT rises at the first instant that its compensation takes to a whole second (02 R56). -/
theorem execPpsOutRise_rises {s : State} (h0 : s.tb.ppsOut = false)
    (hs : s.tb.state = .locked ∨ s.tb.state = .holdover ∨ s.tb.ppsOutAlways = true) :
    execPpsOutRise s =
      let at_ := nextPulse sec s.cyc.now s.tb.ppsOutComp
      .next { s.upTo at_ with tb := { s.tb with
        ppsOut := true, ppsFallAt := at_ + s.tb.ppsOutWidth * 2 * ms, ppsOutStamp := some ((s.upTo at_).stampOf 43 at_) } } := by
  have on : (decide (s.tb.state = .locked) || decide (s.tb.state = .holdover) || s.tb.ppsOutAlways) = true := by
    rcases hs with e | e | e <;> simp [e]
  unfold execPpsOutRise
  simp only [on, h0, Bool.not_true, Bool.or_self, Bool.false_eq_true, if_false]
  rfl

/-! ### Interpolators -/

@[simp] theorem poolEvents_tb (cls idx : Nat) (s : State) : (poolEvents cls idx s).tb = s.tb := by
  unfold poolEvents
  dsimp only
  split
  · rfl
  · split <;> rfl

@[simp] theorem poolEvents_cyc (cls idx : Nat) (s : State) : (poolEvents cls idx s).cyc = s.cyc := by
  unfold poolEvents
  dsimp only
  split
  · rfl
  · split <;> rfl

/-- `t` differs from `s`, as far as time goes, in its interpolators and rovers only. -/
def SameTime (s t : State) : Prop :=
  t.cyc = s.cyc ∧ t.tb = { s.tb with interp := t.tb.interp, rovers := t.tb.rovers }

theorem SameTime.of_eq {s t : State} (hc : t.cyc = s.cyc) (ht : t.tb = s.tb) : SameTime s t := ⟨hc, by rw [ht]⟩

theorem SameTime.trans {s t u : State} (a : SameTime s t) (b : SameTime t u) : SameTime s u :=
  ⟨b.1.trans a.1, by rw [b.2, a.2]⟩

theorem SameTime.poolEvents {s t : State} (h : SameTime s t) (cls idx : Nat) : SameTime s (poolEvents cls idx t) :=
  h.trans (.of_eq (poolEvents_cyc ..) (poolEvents_tb ..))

theorem SameTime.raiseEv {s t : State} (h : SameTime s t) (ev st sub hi lo : Nat) : SameTime s (raiseEv ev st sub hi lo t) :=
  h.trans (.of_eq rfl rfl)

/-- The work of an interpolator goes to a rover, which serves its channel for good (16 Table 16-3). -/
theorem SameTime.takeover {s t : State} (h : SameTime s t) (idx rover : Nat) : SameTime s (takeover 8 idx rover t) :=
  h.trans ⟨rfl, rfl⟩

/-- Without a rover left a channel is stamped COARSE (16 Table 16-3). -/
theorem SameTime.poolEmpty {s t : State} (h : SameTime s t) (idx st : Nat) : SameTime s (poolEmpty 8 idx st t) :=
  h.trans ⟨rfl, rfl⟩

/-- An interpolator or a rover that is struck leaves the time base as it is, but for what serves its channel (16 R453). -/
theorem suspect_interp_time (idx st : Nat) (cmd : Option Nat) (s : State) : SameTime s (suspect 8 idx st cmd s) := by
  have class8 : suspect 8 idx st cmd s = suspectUnit 8 idx st cmd s := if_neg fun c => absurd c.1 (by decide)
  rw [class8]
  unfold suspectUnit
  dsimp only
  split
  case h_1 | h_2 => exact .of_eq rfl rfl
  case h_3 => exact SameTime.poolEvents (.of_eq rfl rfl) 8 idx
  case h_4 =>
    refine SameTime.raiseEv ?_ 114 Sts.OK 8 idx _
    split
    · refine SameTime.poolEvents (SameTime.takeover ?_ idx _) 8 idx
      exact .of_eq rfl rfl
    · rw [if_pos (show (hasPool 8 || 8 == 9) = true from rfl)]
      exact SameTime.poolEmpty (.of_eq (State.mdUnit_cyc ..) (State.mdUnit_tb ..)) idx st

/-- A rover in one of its two parallel periods (02 R43). -/
theorem not_parallel_off {p : Nat} (h : p = 0 ∨ p = 2) : ¬(p ≠ 0 ∧ p ≠ 2) := by omega

section
variable {s : State} {r : Nat} {diff : Int} (hr : r < 4) (hp : (vrd s.tb.rovers r).part = 0 ∨ (vrd s.tb.rovers r).part = 2)
include hr hp

/-- Two stamps that agree hand the channel over, to the rover or back (02 R43). -/
theorem execRoverParallelEnd_agrees (hd : diff.natAbs ≤ 2) :
    execRoverParallelEnd r diff s = .next { s.upTo ((vrd s.tb.rovers r).from_ + tCur) with tb := { s.tb with
      rovers := vmd s.tb.rovers r fun x => { x with part := (vrd s.tb.rovers r).part + 1 } } } := by
  unfold execRoverParallelEnd
  rw [onUnit_in hr]
  dsimp only
  rw [if_neg (not_parallel_off hp), decide_eq_true hd]
  rfl

/-- Two stamps that differ name the channel in CAL_FAULT (02 R44). -/
theorem execRoverParallelEnd_faults (hd : 2 < diff.natAbs) :
    ∃ t, execRoverParallelEnd r diff s = .next t ∧ t.cyc.now = max s.cyc.now ((vrd s.tb.rovers r).from_ + tCur)
      ∧ t.tb.calFault = true ∧ t.tb.calChan = (vrd s.tb.rovers r).chan := by
  unfold execRoverParallelEnd
  rw [onUnit_in hr]
  dsimp only
  rw [if_neg (not_parallel_off hp), decide_eq_false (Nat.not_le.2 hd)]
  obtain ⟨hc, ht⟩ := (suspect_interp_time (60 + r) Sts.OK none _).trans
    (suspect_interp_time (vrd s.tb.rovers r).chan Sts.OK none _)
  refine ⟨_, rfl, ?_, ?_, ?_⟩
  · exact congrArg CycSt.now hc
  · exact congrArg TbSt.calFault ht
  · exact congrArg TbSt.calChan ht

end

/-- All that the end of a calibration changes: the step counts and what the rovers serve (02 R43). -/
theorem execInterpolatorCalDone_eq {c : Nat} (counts : List Nat) (s : State) (hc : c < 64) :
    ∃ rovers turn, execInterpolatorCalDone c counts s = .next { s with tb := { s.tb with
      interp := vmd s.tb.interp c fun i => { i with widths := counts, calAt := s.cyc.now }
      rovers := rovers, turn := turn } } := by
  unfold execInterpolatorCalDone
  rw [onUnit_in hc]
  dsimp only
  split
  · exact ⟨_, _, rfl⟩
  · split <;> exact ⟨_, _, rfl⟩

/-- Settles O34: each event by what it does, with the bounds of its instant and of the table entry it changes. -/
theorem timeBaseEvents : Obligations.TimeBaseEvents := by
  refine ⟨fun _ _ _ h => execTimeOfDayShift_due h, ?_, fun _ hs he hd => execHoldExceeded_raises hs he hd,
    fun _ _ _ _ h => execPpsInEdge_ignored h, ?_, ?_, ?_, ?_, ?_, ?_, fun _ => rfl⟩
  · intro s hs hm h1 h4
    obtain ⟨f, u, e, now⟩ := execHoldoverEntry_holds hs hm h1 h4
    obtain ⟨state, slew, cyc⟩ := tbHold_holds f u
    exact ⟨_, e, state, slew, (congrArg CycSt.now cyc).trans now⟩
  · intro s at_ width rising hw hr
    refine ⟨fun hs lo hi half => ?_, fun h src => ?_, fun h src => ?_⟩
    · exact (execPpsInEdge_taken hw hr half).trans (congrArg Host.Outcome.next (ppsTaken_rejected _ hs (lt_offset lo hi)))
    · refine (execPpsInEdge_after hw hr h).trans (congrArg Host.Outcome.next (ppsTaken_noted _ h ?_))
      rw [State.upTo_tb]
      omega
    · exact (execPpsInEdge_after hw hr h).trans (congrArg Host.Outcome.next (ppsTaken_measured _ h src))
  · exact fun _ _ h seen => execPpsinSeenExpiry_clears h seen
  · intro s h0 hs _ _
    obtain ⟨reached, whole, within⟩ := nextPulse_spec (p := sec) (by decide) s.cyc.now s.tb.ppsOutComp
    have now : ((s.upTo (nextPulse sec s.cyc.now s.tb.ppsOutComp)).cyc.now) = nextPulse sec s.cyc.now s.tb.ppsOutComp :=
      Nat.max_eq_right reached
    refine ⟨_, execPpsOutRise_rises h0 hs, rfl, ?_⟩
    dsimp only
    rw [now]
    exact ⟨reached, whole, within, rfl, rfl⟩
  · exact fun _ h => congrArg Host.Outcome.next (if_pos h)
  · intro s r diff hr hp
    by_cases hd : diff.natAbs ≤ 2
    · refine ⟨_, execRoverParallelEnd_agrees hr hp hd, rfl, fun _ => ⟨?_, rfl, fun q hq => vrd_vmd_off hq.symm⟩,
        fun c => absurd hd (Nat.not_le.2 c)⟩
      exact congrArg Rover.part (vrd_vmd_same hr)
    · obtain ⟨t, e, now, fault⟩ := execRoverParallelEnd_faults hr hp (Nat.not_le.1 hd)
      exact ⟨t, e, now, fun c => absurd c hd, fun _ => fault⟩
  · intro s c counts hc
    obtain ⟨_, _, e⟩ := execInterpolatorCalDone_eq counts s hc
    exact ⟨_, e, vrd_vmd_same hc, fun d hd => vrd_vmd_off hd.symm, rfl⟩

end Sys2Proof.Machine
end

section
/-!
SUPPORT. The lanes at the release of reset (03 R62).
-/
namespace Sys2Proof.Machine

/-- Settles O7: each lane has its reset value. -/
theorem lanesAfterReset : Obligations.LanesAfterReset := by
  unfold Obligations.LanesAfterReset
  decide

end Sys2Proof.Machine
end

section
/-!
SUPPORT. Motion of arms and axes under the checks of 03 R73: planned motion and paths (13 Table 13-7, R388), homing (R387), the
resume and stop test of the separation class (R390) and the brake test (09 R257). Checks first, then a command staged under a
ticket, then the rows on a channel that serves.
-/
namespace Sys2Proof.Machine

/-! ### What the renewed session leaves -/

section
variable (ch : Nat) (s : State)

@[simp] theorem begun_sc (k : Nat) : (begun ch s).sc k = s.sc k := rfl
@[simp] theorem begun_ax (n : Nat) : (begun ch s).ax n = s.ax n := rfl
@[simp] theorem begun_plr (k : Nat) : (begun ch s).plr k = s.plr k := rfl
@[simp] theorem begun_axes : (begun ch s).axes = s.axes := rfl
@[simp] theorem begun_axSc (n : Nat) : (begun ch s).axSc n = s.axSc n := rfl
@[simp] theorem begun_scAxes (k : Nat) : (begun ch s).scAxes k = s.scAxes k := rfl
@[simp] theorem begun_testing (k : Nat) : (begun ch s).testing k = s.testing k := rfl
@[simp] theorem begun_armMoves (k : Nat) : armMoves (begun ch s) k = armMoves s k := rfl
@[simp] theorem begun_scopeChecks (k : Nat) : scopeChecks k (begun ch s) = scopeChecks k s := rfl
@[simp] theorem begun_motionChecks (n : Nat) : motionChecks n (begun ch s) = motionChecks n s := rfl
@[simp] theorem begun_scopeBad (x : Nat) : scopeBad (begun ch s) x = scopeBad s x := rfl
@[simp] theorem begun_scopeOf (x : Nat) : scopeOf (begun ch s) x = scopeOf s x := rfl

end

/-! ### Checks that pass -/

section
variable {k n : Nat} {s : State}

@[simp] theorem firstFail_pass (st : Nat) (r : List (Bool × Nat)) : firstFail ((false, st) :: r) = firstFail r := rfl

/-- Checks pass where none of them refuses. -/
theorem firstFail_none {l : List (Bool × Nat)} (h : ∀ x ∈ l, x.1 = false) : firstFail l = none := by
  induction l with
  | nil => rfl
  | cons x l ih =>
    obtain ⟨hx, hl⟩ := List.forall_mem_cons.1 h
    exact (if_neg (by rw [hx]; decide)).trans (ih hl)

/-- A SCOPE field that names a scope passes its check. -/
theorem scopeBad_some {scope : Nat} (h : scopeField s.ps scope = some k) : scopeBad s scope = (false, Sts.OUT_OF_RANGE) := by
  rw [scopeBad, h]
  rfl

theorem scopeOf_some {scope : Nat} (h : scopeField s.ps scope = some k) : scopeOf s scope = k := by
  rw [scopeOf, h]
  rfl

theorem armBad_arm (h : k < 8) : armBad k = (false, Sts.OUT_OF_RANGE) := by
  rw [armBad, decide_eq_false (Nat.not_le.2 h)]

/-- A free scope passes the checks of a motion command (03 R73). -/
theorem scopeChecks_pass (h : Free k s) : firstFail (scopeChecks k s) = none := by
  obtain ⟨shut, stop, on⟩ := h
  by_cases e : (s.sc k).fn = .enabled
  · obtain ⟨seq, test, failed, overdue⟩ := on e
    simp [scopeChecks, firstFail, shut, stop, seq, test, failed, overdue]
  · simp [scopeChecks, firstFail, shut, stop, e]

/-- So does an axis of it outside planned motion (13, axis class). -/
theorem motionChecks_pass (h : Free (s.axSc n) s) (hp : s.axSc n < 8 → (s.plr (s.axSc n)).planned = false) :
    firstFail (motionChecks n s) = none := by
  refine (firstFail_append (scopeChecks_pass h)).trans ?_
  by_cases e : s.axSc n < 8
  · simp [firstFail, hp e]
  · simp [firstFail, e]

/-- A session with fewer than eight running tickets takes one more (12 R370). -/
theorem ticketsFull_begun {ch : Nat} (h : Serves ch s) (ht : s.hif.running ch (s.chan ch).token < 8) :
    ticketsFull ch (begun ch s) = (false, Sts.TICKETS_FULL) := by
  simp [ticketsFull, begun_chan_token h, Nat.not_le.2 ht]

end

/-! ### What the mirror's records leave -/

section
variable (addr len c seq crc op : Nat) (r : Rsp) (s t : State)

/-- The records that cross to the Shadow change the mirror link only (14 R403). -/
theorem mirDelta_eq : ∃ m, mirDelta addr len s = { s with mlc := m } := by
  unfold mirDelta
  split
  · exact ⟨s.mlc, rfl⟩
  · refine List.foldlRecOn (motive := fun t : State => ∃ m, t = { s with mlc := m }) _ _ ⟨s.mlc, rfl⟩ ?_
    rintro t ⟨m, rfl⟩ i -
    exact ⟨_, rfl⟩

@[simp] theorem mirDelta_planners : (mirDelta addr len s).planners = s.planners := by
  obtain ⟨_, e⟩ := mirDelta_eq addr len s
  rw [e]
@[simp] theorem mirDelta_axes : (mirDelta addr len s).axes = s.axes := by
  obtain ⟨_, e⟩ := mirDelta_eq addr len s
  rw [e]
@[simp] theorem mirDelta_sets : (mirDelta addr len s).sets = s.sets := by
  obtain ⟨_, e⟩ := mirDelta_eq addr len s
  rw [e]

@[simp] theorem replies_planners : (replies c op r s t).planners = t.planners := by
  unfold replies storeRsp
  simp only [mirDelta_planners, State.mdChan_planners]

@[simp] theorem replies_axes : (replies c op r s t).axes = t.axes := by
  unfold replies storeRsp
  simp only [mirDelta_axes, State.mdChan_axes]

/-- The answer of a command is what its channel holds after it (13 R378). -/
theorem replies_rsp (h : c < 4) : ((replies c op r s t).chan c).rsp = r := by
  unfold replies storeRsp
  rw [chan_of_hif (mirDelta_hif ..), chan_of_hif (mirDelta_hif ..), mdChan_chan h]

/-- A ticket leaves the parameter sets, and the scopes of the axes with them. -/
@[simp] theorem newTicket_axSc (n : Nat) : (newTicket c op s).2.axSc n = s.axSc n := by
  unfold newTicket State.axSc State.ps
  rw [mirDelta_sets]

end

/-! ### An accepted path -/

/-- What an accepted path does: it goes to the buffer that governs the next solve, with the next generation, and a record of it
to the Shadow that is copied (07 R185, 13 R388). -/
def acceptPath (k start : Nat) (entries : List (List (Int × Int))) (s : State) : State :=
  let gen := ((s.plr k).pathGen + 1) % 2 ^ 32
  let s := if s.copied then mirSend 0x06 (s.cyc.t0 / tCtl % 2 ^ 32) 0 64 none s else s
  s.mdPlr k fun r => { r with pathNext := some entries, pathTNext := start, pathGen := gen }

section
variable {k : Nat} (start : Nat) (entries : List (List (Int × Int))) (s : State)

@[simp] theorem acceptPath_hif : (acceptPath k start entries s).hif = s.hif := by
  unfold acceptPath
  dsimp only
  split <;> rfl

@[simp] theorem acceptPath_axes : (acceptPath k start entries s).axes = s.axes := by
  unfold acceptPath
  dsimp only
  split <;> rfl

theorem acceptPath_plr (h : k < 8) : (acceptPath k start entries s).plr k
    = { s.plr k with pathNext := some entries, pathTNext := start, pathGen := ((s.plr k).pathGen + 1) % 2 ^ 32 } := by
  unfold acceptPath
  dsimp only
  rw [State.mdPlr_plr _ _ h]
  split <;> rfl

end

/-! ### Rows of scopes and arms -/

section
variable {ch k scope : Nat} {s : State} (h : Serves ch s)
include h

omit h in
/-- A command for a scope that the channel may command takes its effect on the renewed session once its checks pass. -/
theorem fwRun_begun {l : Letters} {checks : List (Bool × Nat)} {go : State → FwRes} {r : FwRes} (hl : l.o = some k)
    (ha : Admits l.f l.a l.c l.life s) (ho : Owns ch k s) (hc : firstFail checks = none) (hg : go (begun ch s) = r) :
    fwRun ch false l checks go (begun ch s) = r :=
  (fwRun_owned (s := begun ch s) hl ha ho hc).trans hg

/-- A row whose command starts a ticket, answers ACCEPTED with it and is staged under it (12 R370, 13 R375). -/
theorem hostRow_stages_ticket {op axis : Nat} {cmd : Nat → StagedCmd} {f : State → FwRes}
    (hf : f (begun ch s) = (some (acceptedRsp (newTicket ch op (begun ch s)).1),
      stageFor ch k axis false (cmd (newTicket ch op (begun ch s)).1) (newTicket ch op (begun ch s)).2)) :
    let t := newTicket ch op (begun ch s)
    hostRow ch op f s = .next (replies ch op (acceptedRsp t.1) s (stageFor ch k axis false (cmd t.1) t.2)) := by
  have hc : (stageFor ch k axis false (cmd (newTicket ch op (begun ch s)).1) (newTicket ch op (begun ch s)).2).chan ch
      = (begun ch s).chan ch := (chan_of_hif stageFor_hif).trans (newTicket_chan ..)
  exact hostRow_replies h hf ((congrArg ChanSt.open_ hc).trans (begun_chan_open h))
    ((congrArg ChanSt.token hc).trans (begun_chan_token h))

/-! ### Planned motion -/

/-- ENTER_PLANNED of an arm whose joints stand HOMED in PTP mode (03 R71, R96). -/
theorem execEnterPlanned_stages (ha : Admits false true true false s) (hs : scopeField s.ps scope = some k) (hk : k < 8)
    (ho : Owns ch k s) (free : Free k s) (planned : (s.plr k).planned = false) (nonempty : s.scAxes k ≠ [])
    (joints : ∀ n ∈ s.scAxes k, axType s.ps n ≠ .virtual ∧ (s.ax n).mode = .ptp ∧ (s.ax n).atRest = true
      ∧ (s.ax n).pos = .homed) :
    execEnterPlanned ch scope s = .next (stages ch 0x0504 k 64 .enterPlanned s) := by
  refine hostRow_stages h (fwRun_begun hs ha ho ?_ (by rw [begun_scopeOf, scopeOf_some hs]))
  rw [begun_scopeBad, begun_scopeOf, scopeBad_some hs, scopeOf_some hs, begun_scopeChecks, List.cons_append, firstFail_pass,
    firstFail_append (scopeChecks_pass free)]
  refine firstFail_none ?_
  simp +contextual [joints, hk, planned, nonempty]

/-- LEAVE_PLANNED of an arm in planned motion (07 R205). -/
theorem execLeavePlanned_stages (ha : Admits false true false false s) (hs : scopeField s.ps scope = some k) (hk : k < 8)
    (ho : Owns ch k s) (free : Free k s) (planned : (s.plr k).planned = true) :
    execLeavePlanned ch scope s = .next (stages ch 0x0505 k 64 .leavePlanned s) := by
  refine hostRow_stages h (fwRun_begun hs ha ho ?_ (by rw [begun_scopeOf, scopeOf_some hs]))
  simp [firstFail, scopeBad_some hs, scopeOf_some hs, firstFail_append (scopeChecks_pass free), hk, planned]

/-- SET_PATH with a whole-period start and 2 to 36 entries of all joints is accepted (13 R388). -/
theorem execSetPath_accepts {bulk : Bytes} (ha : Admits false true false false s) (hs : scopeField s.ps scope = some k)
    (hk : k < 8) (ho : Owns ch k s) (head : 16 ≤ bulk.length) (zero : uAt bulk 10 6 = 0)
    (len : bulk.length = 16 + 16 * (uAt bulk 8 1 * uAt bulk 9 1)) (start : uAt bulk 0 8 % 62500 = 0)
    (two : 2 ≤ uAt bulk 8 1) (most : uAt bulk 8 1 ≤ 36) (joints : uAt bulk 9 1 = (s.scAxes k).length) :
    execSetPath ch scope bulk s = .next (does ch 0x0506 (fun b => okRsp (leBytes 4 (((b.plr k).pathGen + 1) % 2 ^ 32)))
      (acceptPath k (uAt bulk 0 8) (pathEntries (uAt bulk 9 1) bulk 16 (uAt bulk 8 1))) s) := by
  have form : (false || (decide (bulk.length < 16) || uAt bulk 10 6 != 0
      || bulk.length != 16 + 16 * (uAt bulk 8 1 * uAt bulk 9 1))) = false := by
    simp [Nat.not_lt.2 head, zero, ← len]
  refine hostRow_does_of_hif h ?_ (acceptPath_hif ..)
  unfold fwSetPath
  dsimp only
  rw [form]
  refine fwRun_begun hs ha ho ?_ (by rw [begun_scopeOf, scopeOf_some hs]; rfl)
  simp [firstFail, scopeBad_some hs, scopeOf_some hs, start, joints, hk, Nat.not_lt.2 two, Nat.not_lt.2 most]

/-! ### Homing, tests and resume -/

/-- HOME of an axis that may move, stands still in PTP mode and has its mark inside the limits (03 R97, 13 R387). -/
theorem execHome_stages {n method dir gpio hasPos : Nat} {setPos homePos : Int} (hm : MayMove ch n false s)
    (mode : (s.ax n).mode = .ptp) (rest : (s.ax n).atRest = true) (ty : axType s.ps n ≠ .virtual)
    (hmethod : method ≤ 3) (hdir : dir ≤ 1) (hgpio : gpio ≤ 15) (hhas : hasPos ≤ 3)
    (mark : method ≠ 0 → hasPos.testBit 1 = true → targetBad s.ps n { s.ax n with pos := .homed } homePos = false)
    (ht : s.hif.running ch (s.chan ch).token < 8) :
    let t := newTicket ch 0x0407 (begun ch s)
    execHome ch n method dir gpio hasPos setPos homePos s = .next (replies ch 0x0407 (acceptedRsp t.1) s
      (stageFor ch (s.axSc n) n false (.home method (if dir = 0 then 1 else -1) gpio
        (if method = 0 ∨ hasPos.testBit 0 = true then some setPos else none)
        (if method ≠ 0 ∧ hasPos.testBit 1 = true then some homePos else none) t.1) t.2)) := by
  obtain ⟨-, ha, hn, ho, free, planned⟩ := hm
  have range : (decide (64 ≤ n) || (decide (3 < method) || decide (1 < dir) || decide (15 < gpio) || decide (3 < hasPos)))
      = false := by simp [Nat.not_le.2 hn, Nat.not_lt.2, hmethod, hdir, hgpio, hhas]
  have inside : (method != 0 && hasPos.testBit 1 && targetBad s.ps n { s.ax n with pos := .homed } homePos) = false := by
    cases e : method != 0 && hasPos.testBit 1
    · rfl
    · rw [Bool.and_eq_true, bne_iff_ne] at e
      exact mark e.1 e.2
  refine hostRow_stages_ticket h ?_
  unfold fwHome
  dsimp only
  refine fwRun_begun (if_pos hn) ha ho ?_ ?_
  · rw [range, List.cons_append, firstFail_pass, begun_motionChecks, firstFail_append (motionChecks_pass free planned),
      ticketsFull_begun h ht]
    refine firstFail_none ?_
    simp only [List.forall_mem_cons]
    exact ⟨by simp [ty, mode], by simp [rest], inside, trivial, nofun⟩
  · simp [ticketFor_channel h.1]

/-- RESUME of an arm is judged at its effect (08 R233). -/
theorem execResume_stages (ha : Admits false true false false s) (hk : k < 8) (ho : Owns ch k s) :
    execResume ch k s = .next (stages ch 0x0703 k 64 .resume s) :=
  hostRow_stages h (fwRun_owned (if_pos hk) ha ho (by rw [armBad_arm hk]; rfl))

/-- STOP_TEST of a monitored arm that moves without a stop request (13 R390). -/
theorem execStopTest_stages (ha : Admits false true true false s) (hk : k < 8) (ho : Owns ch k s)
    (mon : monitored s.ps k = true) (on : (s.sc k).fn = .enabled) (moves : armMoves s k = true) (prot : (s.sc k).prot = [])
    (stop : (s.sc k).stop = .none) (sls : (s.sc k).sls = []) (ht : s.hif.running ch (s.chan ch).token < 8) :
    let t := newTicket ch 0x0704 (begun ch s)
    execStopTest ch k s = .next (replies ch 0x0704 (acceptedRsp t.1) s (stageFor ch k 64 false (.stopTest t.1) t.2)) := by
  refine hostRow_stages_ticket h ?_
  unfold fwStopTest
  dsimp only
  refine fwRun_begun (if_pos hk) ha ho ?_ (by rw [ticketFor_channel h.1])
  simp [firstFail, armBad_arm hk, mon, on, moves, prot, stop, sls, ticketsFull_begun h ht]

/-- BRAKE_TEST of an ENABLED arm whose joints stand still in PTP mode (09 R257). -/
theorem execBrakeTest_stages (ha : Admits false true false false s) (hk : k < 8) (ho : Owns ch k s)
    (on : (s.sc k).fn = .enabled) (seq : (s.sc k).seq = .running) (stop : (s.sc k).stop = .none) (test : s.testing k = false)
    (planned : (s.plr k).planned = false) (still : ∀ n ∈ s.scAxes k, (s.ax n).mode = .ptp ∧ (s.ax n).atRest = true)
    (ht : s.hif.running ch (s.chan ch).token < 8) :
    let t := newTicket ch 0x0801 (begun ch s)
    execBrakeTest ch k s = .next (replies ch 0x0801 (acceptedRsp t.1) s (stageFor ch k 64 false (.brakeTest t.1) t.2)) := by
  refine hostRow_stages_ticket h ?_
  unfold fwBrakeTest
  dsimp only
  refine fwRun_begun (if_pos hk) ha ho ?_ (by rw [ticketFor_channel h.1])
  simp +contextual [firstFail, armBad_arm hk, on, seq, stop, test, planned, still, ticketsFull_begun h ht]

end

/-- Settles O21: three commands that pass their checks; an accepted path reaches the planner of its arm, and the axes stay. -/
theorem plannedMotionCommands : Obligations.PlannedMotionCommands := by
  refine ⟨?_, ?_, ?_⟩
  · exact fun _ _ _ _ h ha hs hk ho free planned joints still => execEnterPlanned_stages h ha hs hk ho free planned joints still
  · exact fun _ _ _ _ h ha hs hk ho free planned => execLeavePlanned_stages h ha hs hk ho free planned
  · intro ch scope k bulk s h ha hs hk ho count joints head zero len start two most all
    have plr : (does ch 0x0506 (fun b => okRsp (leBytes 4 (((b.plr k).pathGen + 1) % 2 ^ 32)))
        (acceptPath k (uAt bulk 0 8) (pathEntries joints bulk 16 count)) s).plr k
          = { s.plr k with pathNext := some (pathEntries joints bulk 16 count), pathTNext := uAt bulk 0 8
                           pathGen := ((s.plr k).pathGen + 1) % 2 ^ 32 } := by
      rw [does, State.plr, replies_planners]
      exact acceptPath_plr _ _ _ hk
    refine ⟨_, execSetPath_accepts h ha hs hk ho head zero len start two most all, ?_⟩
    rw [plr]
    refine ⟨rfl, rfl, rfl, replies_rsp _ _ _ _ _ h.1, rfl, ?_⟩
    rw [does, replies_axes, acceptPath_axes, begun_axes]

/-- Settles O25: HOME, RESUME and the two tests pass their checks and are staged. -/
theorem homingTestsAndResume : Obligations.HomingTestsAndResume := by
  refine ⟨?_, ?_, ?_, ?_⟩
  · exact fun _ _ _ _ _ _ _ _ _ hm mode rest ty h1 h2 h3 h4 mark ht =>
      execHome_stages hm.1 hm mode rest ty h1 h2 h3 h4 mark ht
  · exact fun _ _ _ h ha hk ho => execResume_stages h ha hk ho
  · exact fun _ _ _ h ha hk ho mon on moves prot stop sls ht => execStopTest_stages h ha hk ho mon on moves prot stop sls ht
  · exact fun _ _ _ h ha hk ho on seq stop test planned still ht =>
      execBrakeTest_stages h ha hk ho on seq stop test planned still ht

end Sys2Proof.Machine
end

section
/-!
SUPPORT. The warnings and faults that a lane detects (04 R110 to R125, 05 R144). Each row acts once its run has reached its
count, and leaves the state below it.
-/
namespace Sys2Proof.Machine

/-! ### Rows with a condition -/

section
variable {what : String} {i m : Nat} {c : Prop} [Decidable c] {t u : State} (hi : i < m)
include hi

theorem onUnit_acts (hc : c) : onUnit what i m (.next (if c then t else u)) = .next t := by
  rw [onUnit_in hi, if_pos hc]

theorem onUnit_rests (hc : ¬c) : onUnit what i m (.next (if c then t else u)) = .next u := by
  rw [onUnit_in hi, if_neg hc]

end

/-- A lane that is powered is driven (04 R491). -/
theorem driven_of_powered {s : State} {n : Nat} (h : (s.ax n).powered = true) : s.driven n = true := by
  unfold State.driven
  rw [h]
  rfl

/-! ### Runs that have reached their count -/

section
variable {s : State} {n : Nat} (hn : n < 64)
include hn

/-- A stall run warns once (04 R112). -/
theorem execStallImminent_warns (on : (s.ax n).powered = true) (first : (s.ax n).flags.stall = false)
    (run : prmN s.ps Pid.STALL_N n ≤ (s.ax n).cur.stallRun) :
    execStallImminent n s
      = .next (raiseAxis n Sts.OK (s.mdAx n fun a => { a with flags := { a.flags with stall := true } })) :=
  onUnit_acts hn (by rw [first, decide_eq_true run, on]; rfl)

/-- A stepper that stands still goes to its hold current (04 R110). -/
theorem execHoldDelayExpiry_holds (on : (s.ax n).powered = true) (stepper : axType s.ps n = .stepper)
    (run : prmN s.ps Pid.HOLD_DELAY n ≤ (s.ax n).cur.still) :
    execHoldDelayExpiry n s = .next (s.mdAx n fun a => { a with cur := { a.cur with hold := true } }) :=
  onUnit_acts hn (by rw [on, stepper, decide_eq_true run]; rfl)

/-- A following error that stood for FE_TIME faults its scope, again where the fault has been acknowledged (05 R144). -/
theorem execFollowingError_faults (run : prmN s.ps Pid.FE_TIME n ≤ (s.ax n).loop.feCount)
    (fresh : (s.ax n).loop.feFault = false ∨ (s.sc (s.axSc n)).level = 0) :
    execFollowingError n s = .next (faultF1 (s.axSc n) Sts.FOLLOWING_ERROR 7 (raiseAxis n Sts.FOLLOWING_ERROR
      (s.mdAx n fun a => { a with loop := { a.loop with feFault := true } }))) := by
  refine onUnit_rests hn ?_
  rintro (short | ⟨flagged, level⟩)
  · exact Nat.not_lt.2 run short
  · rcases fresh with clear | free
    · exact absurd (flagged.symm.trans clear) (by decide)
    · exact level free

section
variable (on : s.driven n = true)
include on

/-- A coil fault of either phase (04 R117). -/
theorem execCoilFault_faults (run : 16 ≤ (s.ax n).cur.phA.coil ∨ 16 ≤ (s.ax n).cur.phB.coil) :
    execCoilFault n s = .next (currentFault n Sts.COIL_FAULT 5 (s.mdAx n fun a => { a with cur := { a.cur with
      coilFault := true, phA := { a.cur.phA with coil := 0 }, phB := { a.cur.phB with coil := 0 } } })) :=
  onUnit_acts hn (by simpa [on] using run)

theorem execPhaseSum_faults (run : 4 ≤ (s.ax n).cur.sumRun) :
    execPhaseSum n s
      = .next (currentFault n Sts.PHASE_SUM 3 (s.mdAx n fun a => { a with cur := { a.cur with sumRun := 0 } })) :=
  onUnit_acts hn (by rw [on, decide_eq_true run]; rfl)

theorem execBusUndervolt_faults (run : 4 ≤ (s.ax n).cur.uvRun) :
    execBusUndervolt n s = .next (currentFault n Sts.BUS_UNDERVOLT 4
      (s.mdAx n fun a => { a with cur := { a.cur with busUnder := true, uvRun := 0 } })) :=
  onUnit_acts hn (by rw [on, decide_eq_true run]; rfl)

theorem execSampleLost_faults (run : 2 ≤ (s.ax n).cur.lostRun) :
    execSampleLost n s
      = .next (currentFault n Sts.SAMPLE_LOST 2 (s.mdAx n fun a => { a with cur := { a.cur with lostRun := 0 } })) :=
  onUnit_acts hn (by rw [on, decide_eq_true run]; rfl)

end

/-! ### Runs below their count -/

theorem execStallImminent_below (run : (s.ax n).cur.stallRun < prmN s.ps Pid.STALL_N n) :
    execStallImminent n s = .next s :=
  onUnit_rests hn (by simp [Nat.not_le.2 run])

theorem execHoldDelayExpiry_below (run : (s.ax n).cur.still < prmN s.ps Pid.HOLD_DELAY n) :
    execHoldDelayExpiry n s = .next s :=
  onUnit_rests hn (by simp [Nat.not_le.2 run])

theorem execCoilFault_below (runA : (s.ax n).cur.phA.coil < 16) (runB : (s.ax n).cur.phB.coil < 16) :
    execCoilFault n s = .next s :=
  onUnit_rests hn (by simp [Nat.not_le.2 runA, Nat.not_le.2 runB])

theorem execPhaseSum_below (run : (s.ax n).cur.sumRun < 4) : execPhaseSum n s = .next s :=
  onUnit_rests hn (by simp [Nat.not_le.2 run])

theorem execBusUndervolt_below (run : (s.ax n).cur.uvRun < 4) : execBusUndervolt n s = .next s :=
  onUnit_rests hn (by simp [Nat.not_le.2 run])

theorem execSampleLost_below (run : (s.ax n).cur.lostRun < 2) : execSampleLost n s = .next s :=
  onUnit_rests hn (by simp [Nat.not_le.2 run])

theorem execFollowingError_below (run : (s.ax n).loop.feCount < prmN s.ps Pid.FE_TIME n) :
    execFollowingError n s = .next s :=
  onUnit_acts hn (.inl run)

end

/-- Settles O44: each event at its count, on a lane that is powered or driven, and below its count. -/
theorem axisFaults : Obligations.AxisFaults := by
  refine ⟨?_, ?_, fun _ _ => driven_of_powered, fun _ _ hn => execFollowingError_faults hn, ?_⟩
  · exact fun _ _ hn on => ⟨execStallImminent_warns hn on, execHoldDelayExpiry_holds hn on⟩
  · exact fun _ _ hn on => ⟨execCoilFault_faults hn on, execPhaseSum_faults hn on, execBusUndervolt_faults hn on,
      execSampleLost_faults hn on⟩
  · exact fun _ _ hn => ⟨execStallImminent_below hn, execHoldDelayExpiry_below hn, execCoilFault_below hn,
      execPhaseSum_below hn, execBusUndervolt_below hn, execSampleLost_below hn, execFollowingError_below hn⟩

end Sys2Proof.Machine
end

section
/-!
SUPPORT. The trace and injection class (13 Table 13-15, 05 R149 to R156): what its effects leave of the state, the checks that
its commands pass, and its rows on a channel that serves.
-/
namespace Sys2Proof.Machine

/-! ### What the renewed session and a ticket leave -/

section
variable (ch : Nat) (s : State)

@[simp] theorem begun_fw : (begun ch s).fw = s.fw := rfl
@[simp] theorem begun_ssv : (begun ch s).ssv = s.ssv := rfl
@[simp] theorem begun_effectAt : (begun ch s).effectAt = s.effectAt := rfl
@[simp] theorem begun_cap (i : Nat) : (begun ch s).cap i = s.cap i := rfl
@[simp] theorem begun_place (size : Nat) : (begun ch s).place size = s.place size := rfl
@[simp] theorem begun_injMode (n : Nat) : injMode n (begun ch s) = injMode n s := rfl

end

section
variable {ch : Nat} {s : State}

/-- A command of a channel starts things under the session that is open on it. -/
theorem sessionOf_begun (h : Serves ch s) : sessionOf ch (begun ch s) = (ch, (s.chan ch).token) := by
  rw [sessionOf, if_pos h.1, begun_chan_token h]

theorem sessionOf_of_chan {t : State} (e : t.chan ch = s.chan ch) : sessionOf ch t = sessionOf ch s := by
  rw [sessionOf, e, sessionOf]

/-- What the channel's own session started is not held by another (13 R380). -/
theorem heldByOther_own {by_ : Nat × Nat} (s : State) (own : by_.1 = ch) : heldByOther ch by_ s = false := by
  simp [heldByOther, own]

end

section
variable (c op : Nat) (s : State)

/-- A ticket changes the host interface and the mirror link only (12 R370). -/
theorem newTicket_eq : ∃ h m, (newTicket c op s).2 = { s with hif := h, mlc := m } := by
  obtain ⟨m, e⟩ := mirDelta_eq (ledTicket s.hif.ticketNext) 32 { s with hif := { s.hif with
    ticketNext := s.hif.ticketNext + 1
    tickets := trimTickets
      ({ num := s.hif.ticketNext, ch := c, token := (s.chan c).token, opcode := op } :: s.hif.tickets) } }
  exact ⟨_, m, e⟩

@[simp] theorem newTicket_fw : (newTicket c op s).2.fw = s.fw := by
  obtain ⟨_, _, e⟩ := newTicket_eq c op s
  rw [e]
@[simp] theorem newTicket_axes : (newTicket c op s).2.axes = s.axes := by
  obtain ⟨_, _, e⟩ := newTicket_eq c op s
  rw [e]
@[simp] theorem newTicket_effectAt : (newTicket c op s).2.effectAt = s.effectAt := by
  obtain ⟨_, _, e⟩ := newTicket_eq c op s
  rw [e]
  rfl

end

/-! ### What an answer leaves -/

section
variable (addr len c op : Nat) (r : Rsp) (s t : State)

@[simp] theorem mirDelta_fw : (mirDelta addr len s).fw = s.fw := by
  obtain ⟨_, e⟩ := mirDelta_eq addr len s
  rw [e]
@[simp] theorem mirDelta_ssv : (mirDelta addr len s).ssv = s.ssv := by
  obtain ⟨_, e⟩ := mirDelta_eq addr len s
  rw [e]

@[simp] theorem replies_fw : (replies c op r s t).fw = t.fw := by
  unfold replies storeRsp
  simp only [mirDelta_fw, State.mdChan_fw]

@[simp] theorem replies_ssv : (replies c op r s t).ssv = t.ssv := by
  unfold replies storeRsp
  simp only [mirDelta_ssv, State.mdChan_ssv]

end

/-! ### Staging -/

section
variable (who scope axis : Nat) (wait : Bool) (cmd : StagedCmd) (s : State)

/-- Staging puts one command behind those that wait, for the control-cycle start that is assigned now (01 R20). -/
theorem stageFor_fw : ∃ g : Staged, (stageFor who scope axis wait cmd s).fw = { s.fw with staged := s.fw.staged ++ [g] }
    ∧ g.cmd = cmd ∧ g.scope = scope ∧ g.axis = axis ∧ g.at_ = s.effectAt := by
  unfold stageFor stagePut
  split <;> exact ⟨_, rfl, rfl, rfl, rfl, rfl⟩

@[simp] theorem stageFor_axes : (stageFor who scope axis wait cmd s).axes = s.axes := by
  unfold stageFor stagePut
  split <;> rfl

end

/-! ### Captures -/

/-- A new capture changes the captures only (13 R392). -/
theorem putCap_eq (c : CapSt) (p : Nat × Nat × List Nat) (s : State) :
    ∃ caps, putCap c p s = { s with fw := { s.fw with caps := caps } } := by
  have freed : ∃ caps, p.2.2.foldl (fun s i => { s with fw := { s.fw with caps := vwr s.fw.caps i none } }) s
      = { s with fw := { s.fw with caps := caps } } := by
    refine List.foldlRecOn (motive := fun t : State => ∃ caps, t = { s with fw := { s.fw with caps := caps } }) _ _
      ⟨s.fw.caps, rfl⟩ ?_
    rintro t ⟨caps, rfl⟩ i -
    exact ⟨_, rfl⟩
  obtain ⟨caps, e⟩ := freed
  unfold putCap
  rw [e]
  exact ⟨_, rfl⟩

@[simp] theorem putCap_hif (c : CapSt) (p : Nat × Nat × List Nat) (s : State) : (putCap c p s).hif = s.hif := by
  obtain ⟨_, e⟩ := putCap_eq c p s
  rw [e]

@[simp] theorem stopCap_hif (i status : Nat) (s : State) : (stopCap i status s).hif = s.hif := by
  unfold stopCap
  split
  · rfl
  · split
    · rfl
    · dsimp only
      split <;> rfl

/-! ### Injection runs -/

/-- What an accepted START_INJECTION does before it is staged: its capture takes its place and the run waits at its scope
(05 R149, R153). -/
def admitRun (k : Nat) (r : InjSt) (c : CapSt) (p : Nat × Nat × List Nat) (s : State) : State :=
  let s := putCap c p s
  { s with fw := { s.fw with inj := vwr s.fw.inj k (some r) } }

section
variable (k : Nat) (r : InjSt) (c : CapSt) (p : Nat × Nat × List Nat) (s : State)

/-- It changes the captures and the run of its scope only. -/
theorem admitRun_eq : ∃ caps, admitRun k r c p s = { s with fw := { s.fw with caps := caps, inj := vwr s.fw.inj k (some r) } } := by
  obtain ⟨caps, e⟩ := putCap_eq c p s
  exact ⟨caps, by rw [admitRun, e]⟩

@[simp] theorem admitRun_hif : (admitRun k r c p s).hif = s.hif := by
  obtain ⟨_, e⟩ := admitRun_eq k r c p s
  rw [e]
@[simp] theorem admitRun_axes : (admitRun k r c p s).axes = s.axes := by
  obtain ⟨_, e⟩ := admitRun_eq k r c p s
  rw [e]
@[simp] theorem admitRun_staged : (admitRun k r c p s).fw.staged = s.fw.staged := by
  obtain ⟨_, e⟩ := admitRun_eq k r c p s
  rw [e]
@[simp] theorem admitRun_effectAt : (admitRun k r c p s).effectAt = s.effectAt := by
  obtain ⟨_, e⟩ := admitRun_eq k r c p s
  rw [e]
  rfl

theorem admitRun_inj (hk : k < 72) : vrd (admitRun k r c p s).fw.inj k = some r := by
  obtain ⟨_, e⟩ := admitRun_eq k r c p s
  rw [e]
  exact vrd_vwr_same hk

end

/-- GET_FRF marks the stopped capture of its run as read (13 R392). -/
def markFrfRead (n : Nat) (r : FrfRes) (s : State) : State :=
  { s with fw := { s.fw with caps := vmapI s.fw.caps fun _ c => c.map fun x =>
    if x.axis == n && x.stopped && x.first.map (·.at_) == some r.at_.at_ then { x with read := true } else x } }

/-! ### Rows of the class -/

section
variable {ch : Nat} {s : State} (h : Serves ch s)
include h

/-- START_CAPTURE with its fields in their ranges and room for its area (05 R153, 13 R392). -/
theorem execStartCapture_does {n kind div count sel : Nat} {p : Nat × Nat × List Nat} {c : CapSt}
    (ha : Admits false true false false s) (axis : n ≤ 63) (hkind : kind ≤ 1) (div1 : 1 ≤ div) (divMax : div ≤ 256)
    (count1 : 1 ≤ count) (countMax : count < 2 ^ 32) (nonempty : selCodes sel ≠ []) (codes : ∀ x ∈ selCodes sel, x ≤ 15)
    (cap : c = { axis := n, ring := kind == 1, div := div, count := count, sel := selCodes sel
                 by_ := (ch, (s.chan ch).token) })
    (place : s.place c.bytes = some p) :
    execStartCapture ch n kind div count sel s = .next (does ch 0x0B01
      (fun _ => okRsp (leBytes 1 p.1 ++ leBytes 3 0 ++ leBytes 4 p.2.1 ++ leBytes 4 c.bytes)) (putCap c p) s) := by
  have range : (decide (63 < n) || decide (1 < kind) || decide (div = 0) || decide (256 < div) || decide (count = 0)
      || decide (2 ^ 32 ≤ count) || (selCodes sel).isEmpty || (selCodes sel).any (fun x => decide (15 < x))) = false := by
    simpa [Nat.not_lt.2 axis, Nat.not_lt.2 hkind, Nat.ne_of_gt div1, Nat.not_lt.2 divMax, Nat.ne_of_gt count1, nonempty]
      using ⟨countMax, codes⟩
  refine hostRow_does_of_hif h ?_ (putCap_hif ..)
  unfold fwStartCapture
  dsimp only
  rw [sessionOf_begun h, ← cap, begun_place, place]
  exact fwRun_free rfl ha (by rw [range]; rfl)

/-- STOP_CAPTURE of a running capture by its own session (05 R153). -/
theorem execStopCapture_does {i : Nat} {c : CapSt} (ha : Admits false false false false s) (cap : s.cap i = some c)
    (own : c.by_.1 = ch) (runs : c.stopped = false) :
    execStopCapture ch i s = .next (does ch 0x0B02 (fun _ => okRsp (leBytes 4 c.n))
      (fun b => if c.ring then { b with fw := { b.fw with caps := vwr b.fw.caps i (some { c with post := some (c.post.getD c.count) }) } }
        else stopCap i Sts.OK b) s) := by
  refine hostRow_does_of_hif h ?_ ?_
  · unfold fwStopCapture
    dsimp only
    rw [begun_cap, cap, Option.getD_some, heldByOther_own _ own, runs]
    exact fwRun_free rfl ha rfl
  · split
    · rfl
    · exact stopCap_hif ..

/-- START_INJECTION that passes its checks starts a ticket, admits the run under it and is staged (05 R149 to R153). -/
theorem execStartInjection_stages {n point signal prbsN amp clkDiv sc len m x y : Nat} {bins : List Nat}
    {p : Nat × Nat × List Nat} {r : InjSt} {c : CapSt} (ha : Admits false true false false s) (hn : n < 64)
    (ho : Owns ch (s.axSc n) s) (run : r = injOf n point signal prbsN amp clkDiv sc len m x y bins)
    (cap : c = { axis := n, count := r.total, sel := [x, y], by_ := (ch, (s.chan ch).token), extra := 32 + 8 * bins.length })
    (fields : injBad s.ps r clkDiv len = false) (mode : injMode n s = true) (idle : vrd s.fw.inj (s.axSc n) = none)
    (place : s.place c.bytes = some p) (ht : s.hif.running ch (s.chan ch).token < 8) :
    let t := newTicket ch 0x0B03 (begun ch s)
    execStartInjection ch n point signal prbsN amp clkDiv sc len m x y bins s
      = .next (replies ch 0x0B03 (acceptedRsp t.1 (leBytes 1 p.1 ++ leBytes 3 0)) s (stageFor ch (s.axSc n) n false .inject
        (admitRun (s.axSc n) { r with ticket := t.1, cap := p.1, by_ := (ch, (s.chan ch).token) } c p t.2))) := by
  intro t
  have chan : (stageFor ch (s.axSc n) n false .inject
      (admitRun (s.axSc n) { r with ticket := t.1, cap := p.1, by_ := (ch, (s.chan ch).token) } c p t.2)).chan ch
        = (begun ch s).chan ch :=
    (chan_of_hif (stageFor_hif.trans (admitRun_hif ..))).trans (newTicket_chan ..)
  refine hostRow_replies h ?_ ((congrArg ChanSt.open_ chan).trans (begun_chan_open h))
    ((congrArg ChanSt.token chan).trans (begun_chan_token h))
  unfold fwStartInjection
  dsimp only
  rw [← run, sessionOf_begun h, begun_axSc, ← cap, begun_place, place]
  refine fwRun_begun (if_pos hn) ha ho ?_ ?_
  · rw [begun_ps, fields, begun_injMode, mode, begun_fw, idle, ticketsFull_begun h ht]
    rfl
  · have session : sessionOf ch (putCap c p t.2) = (ch, (s.chan ch).token) :=
      (sessionOf_of_chan ((chan_of_hif (putCap_hif ..)).trans (newTicket_chan ..))).trans (sessionOf_begun h)
    rw [ticketFor_channel h.1, Option.getD_some, session]
    rfl

/-- STOP_INJECTION of a run of the channel's own session (05 R151). -/
theorem execStopInjection_does {k : Nat} {r : InjSt} (ha : Admits false false false false s) (hk : k < 8)
    (run : vrd s.fw.inj k = some r) (own : r.by_.1 = ch) :
    execStopInjection ch k s = .next (does ch 0x0B04 (fun _ => okRsp) (endInjection k Sts.OK) s) := by
  refine hostRow_does_of_hif h ?_ rfl
  unfold fwStopInjection
  simp only [begun_fw, run, heldByOther_own _ own, Bool.and_false, decide_eq_false (Nat.not_le.2 hk)]
  exact fwRun_free rfl ha rfl

/-- GET_FRF of entries that the result of its axis has (05 R156, 13 R392). -/
theorem execGetFrf_does {n first count : Nat} {r : FrfRes} (ha : Admits true false false false s) (hn : n < 64)
    (res : vrd s.fw.frf n = some r) (hc : count ≤ 892) (range : first + count ≤ r.bins.length) :
    execGetFrf ch n first count s = .next (does ch 0x0B05
      (fun _ => okRsp [] (r.head ++ ((r.bins.drop first).take count).flatMap (·.bytes))) (markFrfRead n r) s) := by
  refine hostRow_does_of_hif h ?_ rfl
  unfold fwGetFrf
  dsimp only
  rw [begun_fw, if_pos hn, res, Option.getD_some, decide_eq_false (Nat.not_lt.2 hc), decide_eq_false (Nat.not_lt.2 range)]
  exact fwRun_free rfl ha rfl

end

/-- Settles O31: the captures start and stop, an admitted run is staged for its axis, a run of the session ends, and a result is
read; the new run stands at its scope under its ticket. -/
theorem captureAndInjection : Obligations.CaptureAndInjection := by
  refine ⟨?_, ?_, ?_, ?_, ?_⟩
  · intro ch n kind div count sel s p h ha axis hkind div1 divMax count1 countMax nonempty codes c place
    exact execStartCapture_does h ha axis hkind div1 divMax count1 countMax nonempty codes rfl place
  · exact fun _ _ _ _ h ha cap own runs => execStopCapture_does h ha cap own runs
  · intro ch n point signal prbsN amp clkDiv sc len m x y bins s p h ha hn ho r c fields mode idle place ht hk
    let t := newTicket ch 0x0B03 (begun ch s)
    let run : InjSt := { r with ticket := t.1, cap := p.1, by_ := (ch, (s.chan ch).token) }
    obtain ⟨g, fw, cmd, scope, axis, at_⟩ := stageFor_fw ch (s.axSc n) n false .inject (admitRun (s.axSc n) run c p t.2)
    refine ⟨_, g, execStartInjection_stages h ha hn ho rfl rfl fields mode idle place ht, replies_rsp _ _ _ _ _ h.1, ?_, cmd,
      scope, axis, ?_, ?_, ?_⟩
    · rw [replies_fw, fw, admitRun_staged, newTicket_fw, begun_fw]
    · rw [at_, admitRun_effectAt, newTicket_effectAt, begun_effectAt]
    · rw [replies_fw, fw]
      exact admitRun_inj _ _ _ _ _ hk
    · rw [replies_axes, stageFor_axes, admitRun_axes, newTicket_axes, begun_axes]
  · exact fun _ _ _ _ h ha hk run own => execStopInjection_does h ha hk run own
  · intro ch n first count r s h ha hn res hc range
    refine ⟨_, execGetFrf_does h ha hn res hc range, replies_rsp _ _ _ _ _ h.1, ?_, ?_, ?_⟩
    · rw [does, replies_fw]
      rfl
    · rw [does, replies_axes]
      rfl
    · rw [does, replies_ssv]
      rfl

end Sys2Proof.Machine
end

section
/-!
SUPPORT. The store of a datapath (06 R162, R163): the word that it gives, and the flags that it leaves.
-/
namespace Sys2Proof.Machine

/-- sat() keeps exactly the words from 0x8001 to 0x7FFF (06 R162). -/
theorem sat_eq_self_iff {v : Int} : sat v = v ↔ -32767 ≤ v ∧ v ≤ 32767 := by
  unfold sat clampI
  omega

/-- A saturated word is never the NaN code, which lies below the lower bound (06 R162). -/
theorem sat_ne_nan16 (v : Int) : sat v ≠ nan16 := by
  have bounded : -32767 ≤ sat v := Int.le_max_left ..
  unfold nan16
  omega

theorem dpSt1_tagged (d : DpSt) (acc : Int) (n : Nat) : dpSt1 d true acc n = (d.hitNan, nan16) := rfl

/-- The word of an untagged store, the same whether the bound acts or not. -/
theorem dpSt1_untagged_word (d : DpSt) (acc : Int) (n : Nat) : (dpSt1 d false acc n).2 = sat (asr acc n) := by
  by_cases fits : sat (asr acc n) = asr acc n
  · simp [dpSt1, fits]
  · simp [dpSt1, fits]

/-- The datapath after an untagged store: a saturation is counted just where the shifted accumulator leaves the bounds. -/
theorem dpSt1_untagged_state (d : DpSt) (acc : Int) (n : Nat) :
    (dpSt1 d false acc n).1 = if -32767 ≤ asr acc n ∧ asr acc n ≤ 32767 then d else d.hitSat := by
  simp only [dpSt1, Bool.false_eq_true, if_false, sat_eq_self_iff]
  split
  · rfl
  · rfl

theorem dpSt1_untagged_sat_iff (d : DpSt) (acc : Int) (n : Nat) :
    (dpSt1 d false acc n).1.sat = true ↔ d.sat = true ∨ asr acc n < -32767 ∨ 32767 < asr acc n := by
  rw [dpSt1_untagged_state]
  split
  case isTrue fits => exact ⟨.inl, fun h => h.resolve_right (by omega)⟩
  case isFalse out => exact iff_of_true rfl (.inr (by omega))

theorem dpSt1_untagged_nan (d : DpSt) (acc : Int) (n : Nat) : (dpSt1 d false acc n).1.nan = d.nan := by
  rw [dpSt1_untagged_state]
  split
  · rfl
  · rfl

/-- Settles O41: an untagged store gives the saturated floor and raises DP_SAT where the bound acts; a tagged one gives the NaN
code and raises DP_NAN. -/
theorem datapathStoreFloors : Obligations.DatapathStoreFloors := fun d acc n =>
  ⟨dpSt1_untagged_word d acc n, dpSt1_untagged_word d acc n ▸ sat_ne_nan16 _, congrArg Prod.snd (dpSt1_tagged d acc n),
    congrArg (·.1.nan) (dpSt1_tagged d acc n), dpSt1_untagged_sat_iff d acc n, dpSt1_untagged_nan d acc n⟩

end Sys2Proof.Machine
end

section
/-!
SUPPORT. The reads of the arm, planner and separation classes and the clearing of SSM_STAT (13 Tables 13-7 to 13-9): reads that
F3 admits, and their rows on a channel that serves.
-/
namespace Sys2Proof.Machine

section
variable {ch k scope slot op : Nat} {checks : List (Bool × Nat)} {r : State → Rsp} {s : State}

/-- A read that F3 admits reports once its checks pass (13 R377). -/
theorem hostRow_read (h : Serves ch s) (ha : Admits true false false false s) (hc : firstFail checks = none) :
    hostRow ch op (fwRead ch false { f := true } checks r) s = .next (reports ch op r s) :=
  hostRow_reports h (fwRun_free rfl ha hc)

/-- A read of an arm has the ARM field as its only check. -/
theorem hostRow_armRead (h : Serves ch s) (ha : Admits true false false false s) (hk : k < 8) :
    hostRow ch op (fwRead ch false { f := true } [armBad k] r) s = .next (reports ch op r s) :=
  hostRow_read h ha (by rw [armBad_arm hk, firstFail_pass]; rfl)

/-- GET_ARM reports the scope that its field names; one that is no arm has the reset values of an arm's words (13 Table 13-7). -/
theorem execGetArm_reports (h : Serves ch s) (ha : Admits true false false false s) (hs : scopeField s.ps scope = some k) :
    execGetArm ch scope s = .next (reports ch 0x050A (fun b => okRsp (leBytes 1 (b.sc k).fn.code
      ++ leBytes 1 (ownerCode (b.sc k)) ++ leBytes 2 0 ++ (if k < 8
        then leBytes 16 (ssmVerdict (b.ssmArm k)) ++ leBytes 16 (b.plr k).res.word ++ leBytes 8 (ssvArm b k)
        else leBytes 16 (ssmVerdict {}) ++ leBytes 16 (QtResult.word {}) ++ leBytes 8 0))) s) := by
  have passes : firstFail [scopeBad (begun ch s) scope] = none := by rw [begun_scopeBad, scopeBad_some hs, firstFail_pass]; rfl
  have names : scopeOf (begun ch s) scope = k := (begun_scopeOf ..).trans (scopeOf_some hs)
  refine hostRow_reports h ?_
  unfold fwGetArm fwRead
  rw [fwRun_free rfl ha passes]
  simp only [names]

/-- GET_PLAN reports the published plan slot of an arm, or the other one (07 R213). -/
theorem execGetPlan_reports (h : Serves ch s) (ha : Admits true false false false s) (hk : k < 8) (hs : slot ≤ 1) :
    execGetPlan ch k slot s = .next (reports ch 0x0602 (fun b => okRsp [] (memRead b.ldg.mem
      (slotAddr k (if slot = 0 then (b.plr k).shownSlot else 1 - (b.plr k).shownSlot)) 0x8000)) s) :=
  hostRow_read h ha (by rw [armBad_arm hk, firstFail_pass, firstFail_bound hs]; rfl)

/-- GET_SSM_STAT clears the counters of the sensors that it reports (08 R243). -/
theorem execGetSsmStat_does (h : Serves ch s) (ha : Admits true false false false s) :
    execGetSsmStat ch s = .next (does ch 0x0702
      (fun b => okRsp (leBytes 4 (ssmStat b.ssm) ++ leBytes 4 0 ++ (vlist b.ssm.sensors).flatMap fun x => leBytes 8 (safeCnt x)))
      (fun b => { b with ssm := { b.ssm with sensors := vmapI b.ssm.sensors fun _ x =>
        { x with cResync := 0, cTime := 0, cSeq := 0, cId := 0, cScrc := 0 } } }) s) :=
  hostRow_does_of_hif h (fwRun_free rfl ha rfl) rfl

/-- CLEAR_SSM_FLAGS clears the W1C fields of SSM_STAT (08 R243). -/
theorem execClearSsmFlags_does (h : Serves ch s) (ha : Admits false false false false s) :
    execClearSsmFlags ch s = .next (does ch 0x0707 (fun _ => okRsp)
      (fun b => { b with ssm := { b.ssm with
        coded := false, xchkFail := false, quotaRej := false, stampRej := false, stopExc := false } }) s) :=
  hostRow_does_of_hif h (fwRun_free rfl ha rfl) rfl

end

/-- Settles O24: the reads pass the check of their scope or arm and report, and the two commands that clear leave the host
interface as it was. -/
theorem plannerAndSeparationReads : Obligations.PlannerAndSeparationReads := by
  refine ⟨?_, ?_, ?_, ?_⟩
  · exact fun _ _ _ _ h ha hs => execGetArm_reports h ha hs
  · intro ch k s h ha hk
    exact ⟨hostRow_armRead h ha hk, hostRow_armRead h ha hk, hostRow_armRead h ha hk, hostRow_armRead h ha hk,
      fun _ hs => execGetPlan_reports h ha hk hs⟩
  · exact fun _ _ h ha => ⟨hostRow_read h ha rfl, execGetSsmStat_does h ha⟩
  · exact fun _ _ h ha => execClearSsmFlags_does h ha

end Sys2Proof.Machine
end

section
/-!
SUPPORT. The speed class of an arm (08 R227): a quotient rounded up against a bound, the largest of a list, and the class by its
axes.
-/
namespace Sys2Proof.Machine

/-- A quotient rounded up lies within a bound just where its dividend does. -/
theorem cdivN_le_iff {a b c : Nat} (h : 0 < b) : cdivN a b ≤ c ↔ a ≤ c * b := by
  rw [cdivN, ← Nat.lt_succ_iff, Nat.div_lt_iff_lt_mul h, Nat.succ_mul]
  omega

/-- The largest of a start and a list lies within a bound just where all of them do. -/
theorem foldl_max_le_iff {l : List Nat} {a c : Nat} : l.foldl max a ≤ c ↔ a ≤ c ∧ ∀ x ∈ l, x ≤ c := by
  induction l generalizing a with
  | nil => exact ⟨fun h => ⟨h, nofun⟩, And.left⟩
  | cons x l ih => rw [List.foldl_cons, ih, Nat.max_le, List.forall_mem_cons, and_assoc]

/-- An entry of a list is what reading it at its place gives. -/
theorem lget_mem {α : Type} [Inhabited α] {l : List α} {i : Nat} (h : i < l.length) : lget l i ∈ l := by
  unfold lget
  rw [List.getD_eq_getElem?_getD, List.getElem?_eq_getElem h, Option.getD_some]
  exact List.getElem_mem h

/-- The class lies within a bound from 1 to 7 just where the rounded-up ratio of every axis does (08 R227). -/
theorem speedClass_le_iff {ps : ParamSet} {axes speeds : List Nat} {c : Nat} (hv : ∀ n ∈ axes, 0 < prmN ps Pid.V_HARD n)
    (h1 : 1 ≤ c) (h8 : c < 8) : speedClass ps axes speeds ≤ c ↔
      ∀ i < axes.length, 8 * lget speeds i * 4000 ≤ c * (prmN ps Pid.V_HARD (lget axes i) * 2 ^ 24) := by
  have ratio : ∀ i < axes.length,
      (cdivN (8 * lget speeds i * 4000) (max 1 (prmN ps Pid.V_HARD (lget axes i) * 2 ^ 24)) ≤ c
        ↔ 8 * lget speeds i * 4000 ≤ c * (prmN ps Pid.V_HARD (lget axes i) * 2 ^ 24)) := by
    intro i hi
    have pos : 0 < prmN ps Pid.V_HARD (lget axes i) * 2 ^ 24 := Nat.mul_pos (hv _ (lget_mem hi)) (by decide)
    rw [Nat.max_eq_right pos, cdivN_le_iff pos]
  have uncapped (m : Nat) : min 8 m ≤ c ↔ m ≤ c := by omega
  rw [speedClass, uncapped, Nat.max_le, and_iff_right h1, foldl_max_le_iff, and_iff_right (Nat.zero_le c), List.forall_mem_map]
  simp only [List.mem_range]
  exact forall₂_congr ratio

/-- Settles O37: the bounds 1 and 8 cut the largest ratio off, and between them the class is within a bound where each ratio is. -/
theorem speedClassIsCeiling : Obligations.SpeedClassIsCeiling := fun _ _ _ hv =>
  ⟨Nat.le_min.2 ⟨by decide, Nat.le_max_left _ _⟩, Nat.min_le_left _ _, fun _ h1 h8 => speedClass_le_iff hv h1 h8⟩

end Sys2Proof.Machine
end

section
/-!
SUPPORT. The published verdict of an arm (08 R231 to R233): the protective stop and the speed limit that follow from a verdict
leave the verdicts of the separation monitor and the parameter set in force as they are, so what a publication sets stands.
-/
namespace Sys2Proof.Machine

/-- `t` has the parameter sets of `s` and, for every arm, its verdict. -/
def SameVerdicts (s t : State) : Prop := t.sets = s.sets ∧ ∀ k < 8, (t.ssmArm k).v = (s.ssmArm k).v

section
variable {s t : State}

theorem SameVerdicts.refl (s : State) : SameVerdicts s s := ⟨rfl, fun _ _ => rfl⟩

theorem SameVerdicts.trans {u : State} (a : SameVerdicts s t) (b : SameVerdicts t u) : SameVerdicts s u :=
  ⟨b.1.trans a.1, fun k hk => (b.2 k hk).trans (a.2 k hk)⟩

theorem SameVerdicts.of_eq (hs : t.sets = s.sets) (hm : t.ssm = s.ssm) : SameVerdicts s t :=
  ⟨hs, fun k _ => by rw [State.ssmArm, State.ssmArm, hm]⟩

theorem SameVerdicts.ps (h : SameVerdicts s t) : t.ps = s.ps := by rw [State.ps, State.ps, h.1]

/-- A change of the separation monitor's arm that leaves its verdict. -/
theorem mdSsmArm_sameVerdicts (k : Nat) (f : SsmArm → SsmArm) (s : State) (hf : ∀ m, (f m).v = m.v := by exact fun _ => rfl) :
    SameVerdicts s (s.mdSsmArm k f) := by
  refine ⟨rfl, fun j hj => ?_⟩
  by_cases e : k = j
  · subst e
    rw [State.mdSsmArm_ssmArm s f hj, hf]
  · rw [State.mdSsmArm_ssmArm_off s f e]

theorem endTicket_sameVerdicts (num state final : Nat) (s : State) : SameVerdicts s (endTicket num state final s) := by
  unfold endTicket
  split
  · exact .refl s
  · obtain ⟨_, e⟩ := mirDelta_eq (ledTicket num) 32 { s with hif := { s.hif with
      tickets := s.hif.tickets.map fun x => if x.num == num then { x with state := state, final := final, progress := 255 } else x } }
    rw [e]
    exact .of_eq rfl rfl

theorem endInjection_sameVerdicts (k cause : Nat) (s : State) : SameVerdicts s (endInjection k cause s) := .of_eq rfl rfl

theorem failHoming_sameVerdicts (k status : Nat) (s : State) : SameVerdicts s (failHoming k status s) := by
  refine List.foldlRecOn (motive := SameVerdicts s) _ _ (.refl s) fun t h n _ => ?_
  split
  · exact h
  · exact h.trans ((SameVerdicts.of_eq rfl rfl).trans (endTicket_sameVerdicts ..))

theorem withdraw_sameVerdicts (k : Nat) (s : State) : SameVerdicts s (withdraw k s) := by
  unfold withdraw
  dsimp only
  split
  · exact .refl s
  · exact .of_eq rfl rfl

theorem tileShut_sameVerdicts (k : Nat) (s : State) : SameVerdicts s (tileShut k s) := by
  unfold tileShut
  split
  · exact .refl s
  · exact (withdraw_sameVerdicts k s).trans (.of_eq rfl rfl)

theorem beginMeas_sameVerdicts (k : Nat) (t : Time) (ticket : Option Nat) (s : State) : SameVerdicts s (beginMeas k t ticket s) := by
  unfold beginMeas
  split
  · exact .refl s
  · exact mdSsmArm_sameVerdicts k _ s

/-- The start of a stop's measurement, with the injection run and the homing of the scope at their end. -/
theorem stopSides_sameVerdicts (k status : Nat) (t : Time) (ticket : Option Nat) (s : State) :
    SameVerdicts s (failHoming k status (endInjection k status (beginMeas k t ticket s))) :=
  ((beginMeas_sameVerdicts ..).trans (endInjection_sameVerdicts ..)).trans (failHoming_sameVerdicts ..)

/-- A protective stop by the state it finds: none, one that joins a shutdown, category 1, one that ranks lower, category 2. -/
theorem beginProt_sameVerdicts (k cat status : Nat) (t : Time) (ticket : Option Nat) (s : State) :
    SameVerdicts s (beginProt k cat status t ticket s) := by
  unfold beginProt
  dsimp only
  split
  · exact .refl s
  split
  · split
    · exact .refl s
    · exact (beginMeas_sameVerdicts ..).trans (.of_eq rfl rfl)
  split
  · exact ((stopSides_sameVerdicts ..).trans (tileShut_sameVerdicts ..)).trans (.of_eq rfl rfl)
  split
  · exact .refl s
  · exact (stopSides_sameVerdicts ..).trans (.of_eq rfl rfl)

theorem protStop_sameVerdicts (k src cat : Nat) (t : Time) (ticket : Option Nat) (s : State) :
    SameVerdicts s (protStop k src cat t ticket s) := by
  unfold protStop
  split
  · exact .refl s
  · exact (SameVerdicts.of_eq rfl rfl).trans (beginProt_sameVerdicts ..)

/-- A limit ends the injection run of its scope and settles the lanes; one already in force changes nothing. -/
theorem slsOrder_sameVerdicts (k src : Nat) (ratio : Option Nat) (t : Time) (s : State) :
    SameVerdicts s (slsOrder k src ratio t s) := by
  unfold slsOrder
  extract_lets old new_ s1
  split
  · exact .refl s
  · have run : SameVerdicts s s1 := by
      unfold s1
      split
      · exact endInjection_sameVerdicts ..
      · exact .refl s
    exact run.trans (.of_eq rfl rfl)

/-- The requests that follow from a verdict leave it: the stop request, the mark of the speed limit, the limit itself. -/
theorem requests_sameVerdicts (k : Nat) (t : Time) (s : State) : SameVerdicts s (requests k t s) := by
  unfold requests
  extract_lets m s1 pen s2
  have stop : SameVerdicts s s1 := by
    unfold s1
    split
    · exact (mdSsmArm_sameVerdicts k _ s).trans (protStop_sameVerdicts ..)
    · exact .refl s
  have mark : SameVerdicts s1 s2 := by
    unfold s2
    split
    · exact mdSsmArm_sameVerdicts k _ s1
    split
    · exact mdSsmArm_sameVerdicts k _ s1
    · exact .refl s1
  split
  · exact stop.trans mark
  · exact (stop.trans mark).trans (slsOrder_sameVerdicts ..)

end

section
variable {k : Nat} (hk : k < 8) (v : Nat) (t : Time) (s : State)
include hk

/-- The published verdict is the one it is set to (08 R244). -/
theorem setVerdict_pub : ((setVerdict k v s).ssmArm k).v.pub = v := by
  unfold setVerdict
  dsimp only
  split
  case isTrue same => exact same
  case isFalse =>
    rw [State.ssmArm, raiseEv_ssm]
    exact congrArg (·.v.pub) (State.mdSsmArm_ssmArm s _ hk)

theorem requests_pub : ((requests k t s).ssmArm k).v.pub = (s.ssmArm k).v.pub :=
  congrArg Verdict.pub ((requests_sameVerdicts k t s).2 k hk)

end

@[simp] theorem setVerdict_ps (k v : Nat) (s : State) : (setVerdict k v s).ps = s.ps := by
  unfold setVerdict
  dsimp only
  split <;> rfl

/-- A publication counts the runs, lets the verdict rise to the raw one and makes the requests, which leave it; only with
PROT_STOP = 1 does it go on to release a stop (08 R231 to R233). -/
theorem publishArm_pub {k : Nat} {s : State} (t : Time) (hk : k < 8) (h : prmN s.ps Pid.PROT_STOP k ≠ 1) :
    ((publishArm k t s).ssmArm k).v.pub =
      if (s.ssmArm k).v.pub = 3 ∨ (s.ssmArm k).v.pub < (s.ssmArm k).v.raw then (s.ssmArm k).v.raw else (s.ssmArm k).v.pub := by
  unfold publishArm
  extract_lets counted m risen requested
  have runs : SameVerdicts s counted := mdSsmArm_sameVerdicts k _ s
  have reqs : SameVerdicts risen requested := requests_sameVerdicts k t risen
  have ps : risen.ps = s.ps := by
    unfold risen
    split
    · rw [setVerdict_ps, runs.ps]
    · exact runs.ps
  have noRelease : prmN requested.ps Pid.PROT_STOP k ≠ 1 := by rwa [reqs.ps, ps]
  rw [if_neg (by simp [noRelease]), reqs.2 k hk, ← runs.2 k hk]
  unfold risen
  split
  · exact setVerdict_pub hk m.v.raw counted
  · rfl

section
variable {k : Nat} {s : State} (hk : k < 8)
include hk

/-- After PEN_HOLD of raw CLEAR evaluations the verdict falls to CLEAR, and the requests follow (08 R231). -/
theorem execVerdictFallClear_falls (hp : (s.ssmArm k).v.pub = 1) (hr : max 1 (4 * prmN s.ps Pid.PEN_HOLD k) ≤ (s.ssmArm k).clearRun) :
    execVerdictFallClear k s = .next (requests k s.cyc.now (setVerdict k 0 s)) := onUnit_acts hk ⟨hp, hr⟩

theorem execVerdictFallClear_stays (hr : (s.ssmArm k).clearRun < max 1 (4 * prmN s.ps Pid.PEN_HOLD k)) :
    execVerdictFallClear k s = .next s := onUnit_rests hk fun c => Nat.not_le.2 hr c.2

end

/-- Settles O38: the verdict that a publication sets stands through its requests, and the fall to CLEAR waits for its run. -/
theorem verdictRisesAtOnce : Obligations.VerdictRisesAtOnce := by
  refine ⟨fun k t s hk h => publishArm_pub t hk h, fun k s hk hp => ⟨fun hr => ?_, execVerdictFallClear_stays hk⟩⟩
  refine ⟨_, execVerdictFallClear_falls hk hp hr, ?_⟩
  rw [requests_pub hk, setVerdict_pub hk]

end Sys2Proof.Machine
end

section
/-!
SUPPORT. Reading a serialised set back (09 R272, R4): a field read where its little-endian bytes stand, one record read off the
front of a serialisation, and the records in their order.
-/
namespace Sys2Proof

@[simp] theorem leBytes_length (n v : Nat) : (leBytes n v).length = n := by
  induction n generalizing v with
  | zero => rfl
  | succ n ih => exact congrArg Nat.succ (ih _)

/-- A number comes back from its bytes as far as they hold it (R4). -/
theorem ofLe_leBytes (n v : Nat) : ofLe (leBytes n v) = v % 256 ^ n := by
  induction n generalizing v with
  | zero => exact (Nat.mod_one v).symm
  | succ n ih =>
    rw [leBytes, ofLe, ih, BitVec.toNat_ofNat, Nat.pow_succ' (m := 256), Nat.mod_mul]

/-- A field behind another one is read as if the other were not there. -/
theorem slice_leBytes_append {k o : Nat} (h : k ≤ o) (v n : Nat) (t : Bytes) :
    slice (leBytes k v ++ t) o n = slice t (o - k) n := by
  rw [slice, List.drop_append, List.drop_of_length_le (by simpa using h), leBytes_length]
  rfl

theorem uAt_leBytes_append {k o : Nat} (h : k ≤ o) (v n : Nat) (t : Bytes) : uAt (leBytes k v ++ t) o n = uAt t (o - k) n :=
  congrArg ofLe (slice_leBytes_append h v n t)

/-- The bytes at the front are read. -/
theorem slice_append (a t : Bytes) : slice (a ++ t) 0 a.length = a := List.take_left

theorem uAt_leBytes {n v : Nat} (h : v < 256 ^ n) (t : Bytes) : uAt (leBytes n v ++ t) 0 n = v := by
  have front := slice_append (leBytes n v) t
  rw [leBytes_length] at front
  rw [uAt, front, ofLe_leBytes, Nat.mod_eq_of_lt h]

end Sys2Proof

namespace Sys2Proof.Machine

/-- The fields of a record fit their widths, and its value is empty or as long as its parameter (09 R272, 13 R383). -/
def ParamRec.Fits (r : ParamRec) : Prop :=
  r.pid < 65536 ∧ r.inst < 256 ∧ r.sub < 256 ∧ r.val.length ≤ 4096
    ∧ ∀ d, findDef r.pid = some d → r.val = [] ∨ r.val.length = d.width

section
variable {r : ParamRec} (h : r.Fits) (t : Bytes)

theorem ParamRec.bytes_length (r : ParamRec) : r.bytes.length = 6 + r.val.length := by
  simp [ParamRec.bytes]
  omega

include h

/-- Each field of a record at the front is read where R272 puts it. -/
theorem ParamRec.Fits.reads : uAt (r.bytes ++ t) 0 2 = r.pid ∧ uAt (r.bytes ++ t) 2 1 = r.inst ∧ uAt (r.bytes ++ t) 3 1 = r.sub
    ∧ uAt (r.bytes ++ t) 4 2 = r.val.length ∧ slice (r.bytes ++ t) 6 r.val.length = r.val := by
  obtain ⟨pid, inst, sub, len, -⟩ := h
  have len16 : r.val.length < 65536 := by omega
  simp [ParamRec.bytes, uAt_leBytes_append, slice_leBytes_append, uAt_leBytes, slice_append, pid, inst, sub, len16]

/-- A record in its place of the order is taken off the front of a serialisation. -/
theorem parseRecs_record {next : Nat} (n : Nat) (acc : List ParamRec) (order : next ≤ recKey r) :
    parseRecs (n + 1) next (r.bytes ++ t) acc = parseRecs n (recKey r + 1) t (r :: acc) := by
  obtain ⟨pid, inst, sub, len, val⟩ := h.reads t
  obtain ⟨-, -, -, short, width⟩ := h
  have whole : 6 + r.val.length ≤ (r.bytes ++ t).length := by
    rw [List.length_append, r.bytes_length]
    exact Nat.le_add_right ..
  have rest : (r.bytes ++ t).drop (6 + r.val.length) = t := List.drop_left' r.bytes_length
  rw [parseRecs, pid, inst, sub, len, val, rest]
  refine if_neg ?_
  rw [decide_eq_false (p := _ < 6) (by omega), decide_eq_false (p := _ < 6 + _) (by omega),
    decide_eq_false (p := recKey _ < next) (Nat.not_lt.2 order)]
  cases e : findDef r.pid with
  | none => simp [short]
  | some d => rcases width d e with w | w <;> simp [w]

end

/-- Records in ascending order that fit their fields are read one after the other (09 R272). -/
theorem parseRecs_records {rs : List ParamRec} {next : Nat} (acc : List ParamRec) (sorted : rs.Pairwise fun a b => recKey a < recKey b)
    (above : ∀ r ∈ rs, next ≤ recKey r) (fits : ∀ r ∈ rs, r.Fits) :
    parseRecs rs.length next (rs.flatMap ParamRec.bytes) acc = .good (acc.reverse ++ rs) := by
  induction rs generalizing next acc with
  | nil => rw [List.append_nil]; rfl
  | cons r rs ih =>
    obtain ⟨first, sorted⟩ := List.pairwise_cons.1 sorted
    obtain ⟨fit, fits⟩ := List.forall_mem_cons.1 fits
    rw [List.length_cons, List.flatMap_cons, parseRecs_record fit _ _ _ (above r List.mem_cons_self), ih _ sorted first fits,
      List.reverse_cons, List.append_assoc]
    rfl

/-- The header of R272 gives way to its records. -/
theorem parseSet_header {n : Nat} (h : n < 65536) (b : Bytes) :
    parseSet (leBytes 4 0x53464C46 ++ leBytes 2 1 ++ leBytes 2 n ++ b) = parseRecs n 0 b [] := by
  have head : 8 ≤ (leBytes 4 0x53464C46 ++ leBytes 2 1 ++ leBytes 2 n ++ b).length := by simp; omega
  have rest : (leBytes 4 0x53464C46 ++ leBytes 2 1 ++ leBytes 2 n ++ b).drop 8 = b := List.drop_left' (by simp)
  have count : uAt (leBytes 4 0x53464C46 ++ leBytes 2 1 ++ leBytes 2 n ++ b) 6 2 = n := by
    simp [uAt_leBytes_append, uAt_leBytes, h]
  have magic : uAt (leBytes 4 0x53464C46 ++ leBytes 2 1 ++ leBytes 2 n ++ b) 0 4 = 0x53464C46 := by simp [uAt_leBytes]
  have version : uAt (leBytes 4 0x53464C46 ++ leBytes 2 1 ++ leBytes 2 n ++ b) 4 2 = 1 := by
    simp [uAt_leBytes_append, uAt_leBytes]
  unfold parseSet
  rw [rest, count, magic, version, decide_eq_false (Nat.not_lt.2 head)]
  rfl

/-- Settles O13: behind its header a serialisation is read record by record, each one above the key of the one before. -/
theorem setSerialisationReads : Obligations.SetSerialisationReads := fun _ count sorted fits =>
  (parseSet_header count _).trans (parseRecs_records [] sorted (fun _ _ => Nat.zero_le _) fits)

end Sys2Proof.Machine
end

section
/-!
SUPPORT. Reads of parameters and sets, and the write of one operational parameter (13 R383 to R386, 09 R272, R273): the checks
of the source and of the value, and the rows on a channel that serves.
-/
namespace Sys2Proof.Machine

/-- A source that holds a set passes its checks (13 Table 13-3). -/
theorem sourceChecks_pass {who src : Nat} {s : State} {ps : ParamSet} (held : src = 1 → (s.trans who).isSome = true)
    (source : sourceSet who src s = some ps) : firstFail (sourceChecks who src s) = none := by
  have open_ : (src == 1 && (s.trans who).isNone) = false := by
    by_cases e : src = 1
    · simp [Option.isNone_eq_false_iff.2 (held e)]
    · simp [e]
  rw [sourceChecks, open_, source]
  rfl

@[simp] theorem begun_changeLock (ch : Nat) (s : State) (pid inst : Nat) :
    changeLock (begun ch s) pid inst = changeLock s pid inst := rfl
@[simp] theorem begun_comNext (ch : Nat) (s : State) : (begun ch s).comNext = s.comNext := rfl

/-- The value that READ_PARAM returns: the stored or computed gain of a look-ahead, else the bytes of the set with their default
(13 R383, R386). -/
def readValueOf (s : State) (ps : ParamSet) (pid inst sub : Nat) : Bytes :=
  if pid = Pid.LA_GV ∨ pid = Pid.LA_GT then
    match laGainOf s ps pid inst with | some g => leBytes 2 g.1 ++ leBytes 2 g.2 | none => []
  else (prmB ps pid inst sub).getD []

/-- The response of READ_PARAM to a value: inline up to 232 bytes, in the bulk extent above (13 R386). -/
def valueRsp (v : Bytes) : Rsp :=
  if v.length ≤ 232 then okRsp (leBytes 2 v.length ++ leBytes 2 0 ++ v) else okRsp (leBytes 2 v.length ++ leBytes 2 0) v

/-- Staging one parameter leaves the host interface as it was. -/
theorem stageParam_hif (who : Nat) (ps : ParamSet) (s : State) : (stageParam who ps s).hif = s.hif := by
  unfold stageParam
  dsimp only
  split <;> rfl

section
variable {ch : Nat} {s : State} (h : Serves ch s)
include h

/-- The source of a read is the same on the renewed session. -/
theorem begun_trans_isSome {src : Nat} (held : src = 1 → (s.trans ch).isSome = true) :
    src = 1 → ((begun ch s).trans ch).isSome = true := by rwa [begun_trans h.1]

/-- READ_PARAM of a parameter that exists, from a source that holds a set (13 R383, R386). -/
theorem execReadParam_reports {src pid inst sub : Nat} {d : PDef} {ps : ParamSet} (ha : Admits true false false false s)
    (hsrc : src ≤ 3) (def_ : findDef pid = some d) (hinst : inst < d.inst.count) (hsub : sub < d.subs)
    (held : src = 1 → (s.trans ch).isSome = true) (source : sourceSet ch src (begun ch s) = some ps) :
    execReadParam ch src pid inst sub s
      = .next (reports ch 0x0307 (fun _ => valueRsp (readValueOf (begun ch s) ps pid inst sub)) s) := by
  refine hostRow_reports h ?_
  unfold fwReadParam fwRead
  rw [fwRun_free rfl ha]
  · simp only [source, Option.getD_some]
    rfl
  · rw [List.cons_append, firstFail_bound hsrc, def_]
    simp only [Option.isNone_some, decide_eq_false (Nat.not_le.2 hinst), decide_eq_false (Nat.not_le.2 hsub), Bool.or_false,
      List.cons_append, List.nil_append, firstFail_pass]
    exact sourceChecks_pass (begun_trans_isSome h held) source

/-- READ_SET from an offset within the serialisation (09 R272). -/
theorem execReadSet_reports {src part off : Nat} {ps : ParamSet} (ha : Admits true false false false s) (hsrc : src ≤ 3)
    (hpart : part ≤ 1) (held : src = 1 → (s.trans ch).isSome = true) (source : sourceSet ch src (begun ch s) = some ps)
    (hoff : off ≤ (serialise ps (part == 0)).length) :
    execReadSet ch src part off s = .next (reports ch 0x0309
      (fun _ => okRsp (leBytes 4 (serialise ps (part == 0)).length) ((serialise ps (part == 0)).drop off)) s) := by
  refine hostRow_reports h ?_
  unfold fwReadSet fwRead
  dsimp only
  rw [fwRun_free rfl ha]
  · simp only [source, Option.getD_some]
  · rw [decide_eq_false (Nat.not_lt.2 hsrc), decide_eq_false (Nat.not_lt.2 hpart), List.cons_append, List.cons_append,
      Bool.or_false, firstFail_pass, List.nil_append, firstFail_append (sourceChecks_pass (begun_trans_isSome h held) source)]
    simp only [source, Option.getD_some]
    exact firstFail_bound hoff

/-- WRITE_PARAM of an operational parameter whose value and set pass the checks (13 R385). -/
theorem execWriteParam_stages {inst sub : Nat} {val : Bytes} {d : PDef} (ha : Admits false true false false s)
    (def_ : findDef d.pid = some d) (operational : d.safety = false) (nonempty : val ≠ []) (len : val.length ≤ 4096)
    (value : valueStatus { pid := d.pid, inst := inst, sub := sub, val := val } = Sts.OK) :
    let ps := normalSet (putRec { pid := d.pid, inst := inst, sub := sub, val := val } s.comNext)
    crossStatus ps = Sts.OK → changeLock s d.pid inst = Sts.OK →
    execWriteParam ch d.pid inst sub val s = .next (awaits ch 0x030A s (stageParam ch ps (begun ch s))) := by
  intro ps cross lock
  have form : (false || val.isEmpty || decide (4096 < val.length)) = false := by simp [nonempty, len]
  refine hostRow_waits h ?_ (congrArg ChanSt.open_ (chan_of_hif (stageParam_hif ..)))
    (congrArg ChanSt.token (chan_of_hif (stageParam_hif ..)))
  unfold fwWriteParam
  dsimp only
  rw [form, value, begun_comNext]
  refine fwRun_free rfl ha ?_
  rw [def_, begun_changeLock, cross, lock]
  simp only [Option.isNone_some, operational]
  rfl

/-- WRITE_PARAM of a safety parameter is refused before its value is judged (13 R385). -/
theorem execWriteParam_safety {inst sub : Nat} {val : Bytes} {d : PDef} (ha : Admits false true false false s)
    (def_ : findDef d.pid = some d) (safety : d.safety = true) (nonempty : val ≠ []) (len : val.length ≤ 4096) :
    execWriteParam ch d.pid inst sub val s = .next (reports ch 0x030A (fun _ => rspOf Sts.SAFETY_PARAM) s) := by
  have form : (false || val.isEmpty || decide (4096 < val.length)) = false := by simp [nonempty, len]
  refine hostRow_reports h ?_
  unfold fwWriteParam
  dsimp only
  rw [form]
  refine fwRun_free_refused rfl ha ?_
  rw [def_, Option.isNone_some, firstFail_pass]
  simp only [safety]
  rfl

end

/-- Settles O16: the reads pass the checks of their source, and a write is staged, or refused for a safety parameter. -/
theorem parameterAccess : Obligations.ParameterAccess := by
  refine ⟨?_, ?_, ?_, ?_, ?_⟩
  · intro ch src pid inst sub s d ps h ha hsrc def_ hinst hsub held source
    exact execReadParam_reports h ha hsrc def_ hinst hsub held source
  · exact fun _ _ h ha => hostRow_read h ha rfl
  · exact fun _ _ _ _ _ _ h ha hsrc hpart held source hoff => execReadSet_reports h ha hsrc hpart held source hoff
  · intro ch inst sub val s d h ha def_ operational nonempty len value
    exact execWriteParam_stages h ha def_ operational nonempty len value
  · exact fun _ _ _ _ _ _ h ha def_ safety nonempty len => execWriteParam_safety h ha def_ safety nonempty len

end Sys2Proof.Machine
end

section
/-!
SUPPORT. Engineers and the secure region (09 R275, 13 R391): what a test of a passcode, an audit record and a change of the
operating mode leave of the state, and the safety class (13 Tables 13-10, 13-11) on a channel that serves.
-/
namespace Sys2Proof.Machine

/-! ### What the shared operations change -/

section
variable (s : State)

/-- A change of the secure region is noted in the Ledger and crosses to the Shadow (15 R447, 14 Table 14-4). -/
theorem secTouch_eq : ∃ m, secTouch s = { s with ldg := { s.ldg with journalDue := true }, mlc := m } := mirDelta_eq ..

@[simp] theorem secTouch_ssv : (secTouch s).ssv = s.ssv := mirDelta_ssv ..
@[simp] theorem secTouch_hif : (secTouch s).hif = s.hif := mirDelta_hif ..
@[simp] theorem secTouch_sets : (secTouch s).sets = s.sets := mirDelta_sets ..

section
variable (eng check op st target : Nat)

@[simp] theorem addAudit_hif : (addAudit eng check op st target s).hif = s.hif := secTouch_hif _
@[simp] theorem addAudit_sets : (addAudit eng check op st target s).sets = s.sets := secTouch_sets _

/-- An audit record changes the log and its next number only (13 R391). -/
theorem addAudit_ssv : ∃ l, (addAudit eng check op st target s).ssv
    = { s.ssv with audit := l, auditNext := s.ssv.auditNext + 1 } := ⟨_, secTouch_ssv _⟩

@[simp] theorem addAudit_eng : (addAudit eng check op st target s).ssv.eng = s.ssv.eng := by
  obtain ⟨_, e⟩ := addAudit_ssv s eng check op st target
  rw [e]
@[simp] theorem addAudit_conf : (addAudit eng check op st target s).ssv.conf = s.ssv.conf := by
  obtain ⟨_, e⟩ := addAudit_ssv s eng check op st target
  rw [e]
@[simp] theorem addAudit_auditNext : (addAudit eng check op st target s).ssv.auditNext = s.ssv.auditNext + 1 := by
  obtain ⟨_, e⟩ := addAudit_ssv s eng check op st target
  rw [e]

end

variable (m : OpMode)

/-- A change of the operating mode changes no other field of the supervisor (09 Table 09-11). -/
@[simp] theorem setMode_ssv : (setMode m s).ssv = { s.ssv with mode := m } := by
  unfold setMode
  dsimp only
  split <;> rfl
@[simp] theorem setMode_axes : (setMode m s).axes = s.axes := by
  unfold setMode
  dsimp only
  split <;> rfl
@[simp] theorem setMode_chan (c : Nat) : (setMode m s).chan c = s.chan c := by
  unfold setMode
  dsimp only
  split
  · rfl
  · exact raiseEv_chan ..
@[simp] theorem leaveServiceMode_chan (c : Nat) : (leaveServiceMode s).chan c = s.chan c :=
  (raiseEv_chan ..).trans (setMode_chan ..)

end

/-- `u` differs from `s` in the engineers' table at most, and in what a change of it leaves in the Ledger and on the Mirror link. -/
def EngineersMoved (s u : State) : Prop :=
  ∃ eng ldg mlc, u = { s with ssv := { s.ssv with eng := eng }, ldg := ldg, mlc := mlc }

namespace EngineersMoved

variable {s u : State} (h : EngineersMoved s u)
include h

theorem ssv : u.ssv = { s.ssv with eng := u.ssv.eng } := by
  obtain ⟨_, _, _, rfl⟩ := h
  rfl
theorem hif : u.hif = s.hif := by
  obtain ⟨_, _, _, rfl⟩ := h
  rfl
theorem sets : u.sets = s.sets := by
  obtain ⟨_, _, _, rfl⟩ := h
  rfl
theorem axes : u.axes = s.axes := by
  obtain ⟨_, _, _, rfl⟩ := h
  rfl
theorem cyc : u.cyc = s.cyc := by
  obtain ⟨_, _, _, rfl⟩ := h
  rfl
theorem chan (c : Nat) : u.chan c = s.chan c := chan_of_hif h.hif
theorem ps : u.ps = s.ps := congrArg SetsSt.com h.sets

end EngineersMoved

section
variable {s u : State} {id : Nat} {pass : Bytes}

theorem secTouch_engineersMoved (eng : List Engineer) : EngineersMoved s (secTouch { s with ssv := { s.ssv with eng := eng } }) := by
  obtain ⟨m, e⟩ := secTouch_eq { s with ssv := { s.ssv with eng := eng } }
  exact ⟨eng, _, m, e⟩

/-- A test of a passcode that answers OK changes the engineers' table alone (09 R275). -/
theorem passTest_ok (h : passTest id pass s = (Sts.OK, u)) : EngineersMoved s u := by
  unfold passTest at h
  split at h
  case h_1 => exact absurd (Prod.mk.inj h).1 (by decide)
  case h_2 e _ =>
    dsimp only at h
    split at h
    · exact absurd (Prod.mk.inj h).1 (by decide)
    · split at h
      · exact (Prod.mk.inj h).2 ▸ secTouch_engineersMoved _
      · split at h <;> exact absurd (Prod.mk.inj h).1 (by decide)

theorem Engineer.unlocked {e : Engineer} (free : e.lockedTo = none) (now : Time) : e.locked now = false := by
  rw [Engineer.locked, free]

/-- The test of a passcode that opens answers OK for an engineer who is not locked out (09 R275). -/
theorem passTest_opens {e : Engineer} (named : (s.ssv.eng.find? fun x => x.id == id) = some e) (free : e.lockedTo = none)
    (opens : e.opens pass = true) : ∃ u, passTest id pass s = (Sts.OK, u) := by
  have fresh : e.fresh s.cyc.now = e := by rw [Engineer.fresh, free]
  unfold passTest
  rw [named]
  dsimp only
  rw [fresh, e.unlocked free, opens]
  exact ⟨_, rfl⟩

/-- The engineer test of R391 leaves what the test of a passcode does, and with no engineer everything. -/
theorem authTest_ok (h : authTest id pass s = (Sts.OK, u)) : EngineersMoved s u := by
  unfold authTest at h
  split at h
  · exact passTest_ok h
  · split at h
    · exact absurd (Prod.mk.inj h).1 (by decide)
    · split at h
      · exact (Prod.mk.inj h).2 ▸ ⟨s.ssv.eng, s.ldg, s.mlc, rfl⟩
      · exact absurd (Prod.mk.inj h).1 (by decide)

end

@[simp] theorem replies_ps (c op : Nat) (r : Rsp) (s t : State) : (replies c op r s t).ps = t.ps := by
  unfold replies storeRsp State.ps
  simp only [mirDelta_sets, State.mdChan_sets]

/-! ### The table of engineers -/

section
variable {id : Nat} {pass salt : Bytes} {l : List Engineer}

/-- An engineer created or replaced stands in the table with the hash of the passcode and no failures (13 R391). -/
theorem withEngineer_new : { id := id, salt := salt, hash := sha256 (salt ++ pass) } ∈ withEngineer id pass salt l := by
  unfold withEngineer
  dsimp only
  split
  case isTrue known =>
    obtain ⟨x, hx, e⟩ := List.any_eq_true.1 known
    exact List.mem_map.2 ⟨x, hx, if_pos e⟩
  case isFalse => exact List.mem_append_right _ (List.mem_singleton_self _)

/-- Every other engineer stays. -/
theorem withEngineer_other {e : Engineer} (he : e ∈ l) (other : e.id ≠ id) : e ∈ withEngineer id pass salt l := by
  unfold withEngineer
  dsimp only
  split
  case isTrue => exact List.mem_map.2 ⟨e, he, if_neg (by simpa using other)⟩
  case isFalse => exact List.mem_append_left _ he

theorem any_id_of_mem (h : ∃ e ∈ l, e.id = id) : (l.any fun e => e.id == id) = true := by simpa using h

end

/-! ### SERVICE and the safety status -/

/-- What the entry of an engineer into SERVICE up to an instant does once the passcode opens (09 R277). -/
def inService (eng : Nat) (last : Time) (s : State) : State :=
  raiseEv 86 Sts.OK 0xFF eng 2 (setMode .service { s with ssv := { s.ssv with serviceTo := last } })

/-- Instant at which SERVICE entered now runs out (09 R277). -/
def serviceEnd (s : State) : Time := s.cyc.now + prmN s.ps Pid.SERVICE_T 0 * 3600 * sec

section
variable (eng : Nat) (last : Time) (s : State)

theorem inService_ssv : (inService eng last s).ssv = { s.ssv with mode := .service, serviceTo := last } := by
  rw [inService, raiseEv_ssv, setMode_ssv]

theorem inService_axes : (inService eng last s).axes = s.axes := by rw [inService, raiseEv_axes, setMode_axes]

theorem inService_chan (c : Nat) : (inService eng last s).chan c = s.chan c := by
  rw [inService, raiseEv_chan, setMode_chan]
  rfl

end

theorem fwEnterService_enters {ch eng : Nat} {pass : Bytes} {s u : State} (ha : Admits false true false false s)
    (input : enableInput s.ps = true) (outside : s.ssv.mode ≠ .service) (test : passTest eng pass s = (Sts.OK, u)) :
    fwEnterService ch false eng pass s = (some okRsp, inService eng (serviceEnd u) u) := by
  have mode : u.ssv.mode ≠ .service := by rwa [(passTest_ok test).ssv]
  unfold fwEnterService
  rw [fwRun_free rfl ha (by rw [input]; rfl)]
  dsimp only
  rw [test]
  exact congrArg (Prod.mk _) (if_neg (by simp [mode]))

section
variable {ch : Nat} {s : State} (h : Serves ch s)
include h

/-- A row that answers at once and leaves its channel as the command found it. -/
theorem hostRow_replies_of_chan {op : Nat} {f : State → FwRes} {t : State} {r : Rsp} (hf : f (begun ch s) = (some r, t))
    (hc : t.chan ch = (begun ch s).chan ch) : hostRow ch op f s = .next (replies ch op r s t) :=
  hostRow_replies h hf (hc ▸ begun_chan_open h) (hc ▸ begun_chan_token h)

/-- ENTER_SERVICE with a passcode that opens, where an ENABLE input is configured (09 R277). -/
theorem execEnterService_enters {eng : Nat} {pass : Bytes} {u : State} (ha : Admits false true false false s)
    (input : enableInput s.ps = true) (outside : s.ssv.mode ≠ .service) (test : passTest eng pass (begun ch s) = (Sts.OK, u)) :
    execEnterService ch eng pass s = .next (replies ch 0x0802 okRsp s (inService eng (serviceEnd u) u)) :=
  hostRow_replies_of_chan h (fwEnterService_enters ha input outside test) ((inService_chan ..).trans ((passTest_ok test).chan ch))

/-- LEAVE_SERVICE with nothing ENABLED or SHUTTING_DOWN (09 R277). -/
theorem execLeaveService_leaves (ha : Admits false true false false s) (idle : s.anyBusy = false) (inside : s.ssv.mode = .service) :
    execLeaveService ch s = .next (does ch 0x0803 (fun _ => okRsp) leaveServiceMode s) := by
  refine hostRow_does h ?_ (congrArg ChanSt.open_ (leaveServiceMode_chan ..)) (congrArg ChanSt.token (leaveServiceMode_chan ..))
  unfold fwLeaveService
  rw [fwRun_free rfl ha (by rw [begun_anyBusy, idle]; rfl), begun_ssv, if_pos inside]

end

/-- Settles O26: the mode enters and leaves SERVICE, the status is read, and its flags are cleared. -/
theorem serviceAndSafetyStatus : Obligations.ServiceAndSafetyStatus := by
  refine ⟨?_, ?_, fun _ _ h ha => hostRow_read h ha rfl, fun _ _ h ha => hostRow_does_of_hif h (fwRun_free rfl ha rfl) rfl⟩
  · intro ch eng pass s u h ha input outside test
    have moved := passTest_ok test
    refine ⟨_, execEnterService_enters h ha input outside test, ?_, replies_rsp _ _ _ _ _ h.1, ?_, ?_, ?_⟩
    · rw [replies_ssv, inService_ssv]
    · rw [replies_ssv, inService_ssv, serviceEnd, moved.cyc, moved.ps, begun_ps]
      rfl
    · rw [replies_ssv, inService_ssv, moved.ssv, begun_ssv]
    · rw [replies_axes, inService_axes, moved.axes, begun_axes]
  · exact fun _ _ h ha idle inside => execLeaveService_leaves h ha idle inside

/-! ### Engineers and the audit log -/

section
variable {ch : Nat} {s : State} (h : Serves ch s)
include h

/-- SET_ENGINEER with an engineer test that passes and room in the table (13 R391). -/
theorem execSetEngineer_stores {auth target : Nat} {authPass newPass : Bytes} {u : State} (ha : Admits false false false false s)
    (pos : 0 < target) (bound : target < 2 ^ 32) (short : 6 ≤ newPass.length) (long : newPass.length ≤ 32)
    (test : authTest auth authPass (begun ch s) = (Sts.OK, u))
    (room : (∃ e ∈ u.ssv.eng, e.id = target) ∨ u.ssv.eng.length < 32) :
    execSetEngineer ch auth target authPass newPass s = .next (replies ch 0x0806 okRsp s
      (addAudit auth 0 0x0806 Sts.OK target (secTouch { u.drawn with ssv := { u.ssv with
        eng := withEngineer target newPass (newSalt u) u.ssv.eng } }))) := by
  have range : (decide (target = 0) || decide (2 ^ 32 ≤ target) || decide (newPass.length < 6) || decide (32 < newPass.length))
      = false := by simpa [Nat.ne_of_gt pos, Nat.not_lt.2 short, Nat.not_lt.2 long] using bound
  have fits : (!(u.ssv.eng.any fun e => e.id == target) && decide (32 ≤ u.ssv.eng.length)) = false := by
    rcases room with known | few
    · rw [any_id_of_mem known]; rfl
    · rw [decide_eq_false (Nat.not_le.2 few), Bool.and_false]
  refine hostRow_replies_of_chan h ?_ ?_
  · unfold fwSetEngineer
    dsimp only
    rw [range, fwRun_free rfl ha rfl]
    simp only [Bool.false_eq_true, if_false, test, fits]
    rfl
  · exact chan_of_hif (by rw [addAudit_hif, secTouch_hif]; exact (authTest_ok test).hif)

/-- REMOVE_ENGINEER of one of at least two engineers (13 R391). -/
theorem execRemoveEngineer_removes {auth target : Nat} {authPass : Bytes} {u : State} (ha : Admits false false false false s)
    (pos : 0 < target) (bound : target < 2 ^ 32) (test : authTest auth authPass (begun ch s) = (Sts.OK, u))
    (known : ∃ e ∈ u.ssv.eng, e.id = target) (two : 2 ≤ u.ssv.eng.length) :
    execRemoveEngineer ch auth target authPass s = .next (replies ch 0x0807 okRsp s
      (addAudit auth 0 0x0807 Sts.OK target (secTouch { u with ssv := { u.ssv with
        eng := u.ssv.eng.filter fun e => e.id != target } }))) := by
  have range : (decide (target = 0) || decide (2 ^ 32 ≤ target)) = false := by
    simpa [Nat.ne_of_gt pos] using bound
  have right : (!(u.ssv.eng.any fun e => e.id == target) || decide (u.ssv.eng.length ≤ 1)) = false := by
    rw [any_id_of_mem known, decide_eq_false (Nat.not_le.2 two)]
    rfl
  refine hostRow_replies_of_chan h ?_ ?_
  · unfold fwRemoveEngineer
    dsimp only
    rw [range, fwRun_free rfl ha rfl]
    simp only [Bool.false_eq_true, if_false, test, right]
    rfl
  · exact chan_of_hif (by rw [addAudit_hif, secTouch_hif]; exact (authTest_ok test).hif)

end

/-- Settles O27: the two commands change the table under an audit record, whose number moves on, and the log is read. -/
theorem engineersAndAudit : Obligations.EngineersAndAudit := by
  refine ⟨?_, ?_, fun _ _ _ h ha => hostRow_read h ha rfl⟩
  · intro ch auth target authPass newPass s u h ha pos bound short long test room
    have moved := authTest_ok test
    refine ⟨_, execSetEngineer_stores h ha pos bound short long test room, replies_rsp _ _ _ _ _ h.1, ?_, ?_, ?_, ?_⟩
    · rw [replies_ssv, addAudit_eng, secTouch_ssv]
      exact ⟨_, withEngineer_new, rfl, rfl, rfl, rfl⟩
    · rw [replies_ssv, addAudit_eng, secTouch_ssv]
      exact fun e he other => withEngineer_other he other
    · rw [replies_ssv, addAudit_auditNext, secTouch_ssv, moved.ssv, begun_ssv]
      exact Nat.succ_ne_self _
    · rw [replies_ps, State.ps, addAudit_sets, secTouch_sets]
      exact moved.ps
  · intro ch auth target authPass s u h ha pos bound test known two
    have moved := authTest_ok test
    refine ⟨_, execRemoveEngineer_removes h ha pos bound test known two, replies_rsp _ _ _ _ _ h.1, ?_, ?_, ?_⟩
    · rw [replies_ssv, addAudit_eng, secTouch_ssv]
    · rw [replies_ssv, addAudit_auditNext, secTouch_ssv, moved.ssv, begun_ssv]
      exact Nat.succ_ne_self _
    · rw [replies_ps, State.ps, addAudit_sets, secTouch_sets]
      exact moved.ps

end Sys2Proof.Machine
end

section
/-!
SUPPORT. CONFIRM and COMMIT of a closed transaction (09 R275, R276, 12 R373, R374, 14 R424): the engineer that is noted, the set
that is staged, and the two rows on a channel that serves.
-/
namespace Sys2Proof.Machine

/-! ### What an answer leaves of a transaction -/

section
variable {c : Nat} (op : Nat) (r : Rsp) (s t : State) (h : c < 4)
include h

theorem replies_trans : (replies c op r s t).trans c = t.trans c := by
  unfold replies storeRsp State.trans
  rw [chan_of_hif (mirDelta_hif ..), chan_of_hif (mirDelta_hif ..), mdChan_chan h, mdChan_chan h]

theorem awaits_trans : (awaits c op s t).trans c = t.trans c := by
  unfold awaits State.trans
  rw [mdChan_chan h, mdChan_chan h]

end

section
variable (c op : Nat) (s t : State)

@[simp] theorem awaits_fw : (awaits c op s t).fw = t.fw := rfl
@[simp] theorem awaits_sets : (awaits c op s t).sets = t.sets := rfl
@[simp] theorem awaits_ps : (awaits c op s t).ps = t.ps := rfl

end

/-! ### CONFIRM -/

/-- What a CONFIRM that passes does to the state of its passcode test: the transaction notes the engineer, E86 is raised and an
audit record added (09 R275). -/
def noteEngineer (ch eng check : Nat) (s : State) : State :=
  addAudit eng check 0x0304 Sts.OK 0 (raiseEv 86 Sts.OK 0xFF eng 0
    (s.mdChan ch fun x => { x with trans := x.trans.map fun t => { t with confirmedBy := some eng } }))

section
variable {ch : Nat} (eng check : Nat) (s : State)

theorem noteEngineer_chan (h : ch < 4) : (noteEngineer ch eng check s).chan ch
    = { s.chan ch with trans := (s.trans ch).map fun t => { t with confirmedBy := some eng } } := by
  rw [noteEngineer, chan_of_hif (addAudit_hif ..), raiseEv_chan, mdChan_chan h]
  rfl

theorem noteEngineer_conf : (noteEngineer ch eng check s).ssv.conf = s.ssv.conf := by
  rw [noteEngineer, addAudit_conf, raiseEv_ssv, State.mdChan_ssv]

theorem noteEngineer_ps : (noteEngineer ch eng check s).ps = s.ps := by
  rw [State.ps, noteEngineer, addAudit_sets, raiseEv_sets, State.mdChan_sets]
  rfl

end

/-- A CONFIRM of the closed transaction comes to the test of the passcode, and notes the engineer where it opens (09 R275). -/
theorem fwConfirm_notes {ch : Nat} {pass : Bytes} {s u : State} {k : TransSt} {e : Engineer} (ha : Admits false false false false s)
    (trans : s.trans ch = some k) (closed : k.closed = true) (named : (s.ssv.eng.find? fun x => x.id == e.id) = some e)
    (free : e.lockedTo = none) (test : passTest e.id pass s = (Sts.OK, u)) :
    fwConfirm ch false k.check e.id pass s = (some okRsp, noteEngineer ch e.id k.check u) := by
  have unlocked : lockedOut e.id s = false := by
    rw [lockedOut, named]
    exact e.unlocked free _
  unfold fwConfirm
  rw [fwRun_free rfl ha rfl]
  simp only [trans, closed, unlocked, test, bne_self_eq_false, Bool.not_true, Bool.false_and, Bool.false_eq_true, if_false, if_true]
  rfl

/-- CONFIRM of a closed transaction by an engineer who is not locked out and whose passcode opens (09 R275). -/
theorem execConfirm_notes {ch : Nat} {pass : Bytes} {s : State} {k : TransSt} {e : Engineer} (h : Serves ch s)
    (ha : Admits false false false false s) (trans : s.trans ch = some k) (closed : k.closed = true)
    (named : (s.ssv.eng.find? fun x => x.id == e.id) = some e) (free : e.lockedTo = none) (opens : e.opens pass = true) :
    ∃ u, EngineersMoved (begun ch s) u
      ∧ execConfirm ch k.check e.id pass s = .next (replies ch 0x0304 okRsp s (noteEngineer ch e.id k.check u)) := by
  obtain ⟨u, test⟩ := passTest_opens (s := begun ch s) named free opens
  have moved := passTest_ok test
  refine ⟨u, moved, hostRow_replies h (fwConfirm_notes ha ((begun_trans h.1 ch).trans trans) closed named free test) ?_ ?_⟩
  · rw [noteEngineer_chan _ _ _ h.1, moved.chan]
    exact begun_chan_open h
  · rw [noteEngineer_chan _ _ _ h.1, moved.chan]
    exact begun_chan_token h

/-! ### Staging a set -/

/-- The set that COMMIT stages (12 R373): with a Shadow that is copied it waits for the Shadow's acknowledgement, at most 100 ms
(14 R424). -/
def stagedSet (who : Nat) (ps : ParamSet) (conf : Option ConfirmRec) (part : Nat) (ticket : Option Nat) (s : State) : StagedSet :=
  { at_ := if s.copied then effectStart (s.cyc.now + 100 * ms) else s.effectAt
    recs := ps, conf := conf, part := part, ticket := ticket
    rsp := if who < 4 then some (who, (s.chan who).expect_) else none }

section
variable (who : Nat) (ps : ParamSet) (conf : Option ConfirmRec) (part : Nat) (ticket : Option Nat) (s : State)

theorem stageSet_setNext : (stageSet who ps conf part ticket s).fw.setNext
    = s.fw.setNext ++ [stagedSet who ps conf part ticket s] := by
  unfold stageSet
  dsimp only
  split
  case isTrue copied => rw [mirDelta_fw, mirDelta_fw, stagedSet, if_pos copied]
  case isFalse alone => rw [stagedSet, if_neg alone]

theorem stageSet_hif : (stageSet who ps conf part ticket s).hif = s.hif := by
  unfold stageSet
  dsimp only
  split
  · rw [mirDelta_hif, mirDelta_hif]
  · rfl

theorem stageSet_sets : (stageSet who ps conf part ticket s).sets = s.sets := by
  unfold stageSet
  dsimp only
  split
  · rw [mirDelta_sets, mirDelta_sets]
  · rfl

end

section
variable (c op : Nat) (s : State)

/-- Records that cross leave the pair's role and state (14 R403). -/
theorem mirDelta_copied (addr len : Nat) : (mirDelta addr len s).copied = s.copied := by
  unfold mirDelta
  split
  · rfl
  · exact List.foldlRecOn (motive := fun t : State => t.copied = s.copied) _ _ rfl fun _ ht _ _ => ht

theorem newTicket_copied : (newTicket c op s).2.copied = s.copied := mirDelta_copied ..

theorem newTicket_sets : (newTicket c op s).2.sets = s.sets := by
  obtain ⟨_, _, e⟩ := newTicket_eq c op s
  rw [e]

theorem newTicket_cyc : (newTicket c op s).2.cyc = s.cyc := by
  obtain ⟨_, _, e⟩ := newTicket_eq c op s
  rw [e]

end

/-! ### COMMIT -/

/-- The confirmation record that a COMMIT stages: of a safety part that an engineer confirmed (09 R276). -/
def commitRecord (k : TransSt) (slot : Nat) (s : State) : Option ConfirmRec :=
  if k.part = 0 then k.confirmedBy.map fun e => { check := k.check, time := s.cyc.now / ns, eng := e, slot := slot } else none

/-- What a COMMIT does before it stages its set: the transaction ends, and where a slot is named a ticket starts and a flash
write waits under it (12 R374). -/
def endTrans (ch slot : Nat) (k : TransSt) (s : State) : Option Nat × State :=
  let ended := s.mdChan ch fun x => { x with trans := none }
  if slot = 0 then (none, ended)
  else
    let (n, t) := newTicket ch 0x0305 ended
    (some n, { t with sets := { t.sets with flash := t.sets.flash ++
      [{ slot := slot, set := k.whole s, check := checkValue (k.whole s), part := k.part, ticket := n }] } })

section
variable {ch : Nat} (slot : Nat) (k : TransSt) (s : State)

theorem endTrans_chan (h : ch < 4) : (endTrans ch slot k s).2.chan ch = { s.chan ch with trans := none } := by
  unfold endTrans
  split
  · exact mdChan_chan h
  · exact (newTicket_chan ..).trans (mdChan_chan h)

theorem endTrans_fw : (endTrans ch slot k s).2.fw = s.fw := by
  unfold endTrans
  split
  · rfl
  · exact newTicket_fw ..

theorem endTrans_cyc : (endTrans ch slot k s).2.cyc = s.cyc := by
  unfold endTrans
  split
  · rfl
  · exact newTicket_cyc ..

theorem endTrans_copied : (endTrans ch slot k s).2.copied = s.copied := by
  unfold endTrans
  split
  · rfl
  · exact newTicket_copied ..

theorem endTrans_ps : (endTrans ch slot k s).2.ps = s.ps := by
  unfold endTrans
  split
  · rfl
  · dsimp only [State.ps]
    rw [newTicket_sets]
    rfl

theorem endTrans_flash : (endTrans ch slot k s).2.sets.flash.length = s.sets.flash.length + (if slot = 0 then 0 else 1) := by
  unfold endTrans
  split
  · rfl
  · dsimp only
    rw [newTicket_sets, List.length_append]
    rfl

end

/-- The set that COMMIT of a transaction stages. -/
def commitSet (ch slot : Nat) (k : TransSt) (s : State) : StagedSet :=
  stagedSet ch (k.whole s) (commitRecord k slot s) k.part (endTrans ch slot k s).1 (endTrans ch slot k s).2

/-- What COMMIT of a transaction that no rule refuses does (12 R373, R374). -/
def commitTrans (ch slot : Nat) (k : TransSt) (s : State) : State :=
  stageSet ch (k.whole s) (commitRecord k slot s) k.part (endTrans ch slot k s).1 (endTrans ch slot k s).2

section
variable {ch : Nat} (slot : Nat) (k : TransSt) (s : State)

theorem commitTrans_chan (h : ch < 4) : (commitTrans ch slot k s).chan ch = { s.chan ch with trans := none } := by
  rw [commitTrans, chan_of_hif (stageSet_hif ..), endTrans_chan _ _ _ h]

theorem commitTrans_ps : (commitTrans ch slot k s).ps = s.ps := by
  rw [State.ps, commitTrans, stageSet_sets]
  exact endTrans_ps ..

theorem commitTrans_setNext : (commitTrans ch slot k s).fw.setNext = s.fw.setNext ++ [commitSet ch slot k s] := by
  rw [commitTrans, stageSet_setNext, endTrans_fw, commitSet]

theorem commitTrans_flash :
    (commitTrans ch slot k s).sets.flash.length = s.sets.flash.length + (if slot = 0 then 0 else 1) := by
  rw [commitTrans, stageSet_sets, endTrans_flash]

theorem commitSet_rsp (h : ch < 4) : (commitSet ch slot k s).rsp = some (ch, (s.chan ch).expect_) := by
  rw [commitSet, stagedSet, if_pos h, endTrans_chan _ _ _ h]

theorem commitSet_at : (commitSet ch slot k s).at_ = if s.copied then effectStart (s.cyc.now + 100 * ms) else s.effectAt := by
  rw [commitSet, stagedSet, State.effectAt, endTrans_copied, endTrans_cyc]
  rfl

end

/-- No rule refuses a COMMIT of the transaction into a slot (12 Table 12-17, 09 R276). -/
structure MayCommit (ch slot : Nat) (k : TransSt) (s : State) : Prop where
  closed : k.closed = true
  names : slot ≤ 2
  base : k.base = 0 → k.baseGen = s.setGen
  safety : k.changesSafety s = true → s.anyBusy = false ∧ (s.ssv.mode = .service ∨ k.confirmedBy.isSome = true)
  locks : changeLocks s s.comNext (k.whole s) = Sts.OK
  tickets : slot ≠ 0 → (ticketsFull ch s).1 = false

/-- COMMIT of such a transaction ends it and stages its set (12 R373, R374). -/
theorem fwCommit_stages {ch slot : Nat} {s : State} {k : TransSt} (hch : ch < 4) (ha : Admits false true false false s)
    (trans : s.trans ch = some k) (may : MayCommit ch slot k s) :
    fwCommit ch false slot s = (none, commitTrans ch slot k s) := by
  obtain ⟨closed, hslot, base, safety, locks, tickets⟩ := may
  have based : (k.base == 0 && k.baseGen != s.setGen) = false := by simpa using base
  have idle : (k.changesSafety s && s.anyBusy) = false := by
    rw [Bool.and_eq_false_imp]
    exact fun c => (safety c).1
  have confirmed : (k.changesSafety s && decide (s.ssv.mode ≠ .service) && k.confirmedBy.isNone) = false := by
    rw [Bool.and_assoc, Bool.and_eq_false_imp]
    intro c
    rcases (safety c).2 with m | e
    · simp [m]
    · simp [Option.isNone_eq_false_iff.2 e]
  have room : (slot != 0 && (ticketsFull ch s).1) = false := by
    rw [Bool.and_eq_false_imp]
    exact fun c => tickets (bne_iff_ne.1 c)
  unfold fwCommit
  dsimp only
  rw [trans, Option.getD_some, fwRun_free rfl ha]
  · unfold commitTrans endTrans
    split
    · rfl
    · rw [ticketFor_channel hch]
      rfl
  · rw [firstFail_bound hslot, closed, based, idle, confirmed, locks, room]
    rfl

/-- COMMIT on a channel that serves (12 R373, R374). -/
theorem execCommit_stages {ch slot : Nat} {s : State} {k : TransSt} (h : Serves ch s) (ha : Admits false true false false s)
    (trans : s.trans ch = some k) (may : MayCommit ch slot k (begun ch s)) :
    execCommit ch slot s = .next (awaits ch 0x0305 s (commitTrans ch slot k (begun ch s))) := by
  refine hostRow_waits h (fwCommit_stages h.1 ha ((begun_trans h.1 ch).trans trans) may) ?_ ?_
  · rw [commitTrans_chan _ _ _ h.1]
  · rw [commitTrans_chan _ _ _ h.1]

/-- Settles O15: CONFIRM notes the engineer whose passcode opens; the set that COMMIT stages is the last of those that wait. -/
theorem confirmAndCommit : Obligations.ConfirmAndCommit := by
  refine ⟨?_, ?_⟩
  · intro ch pass s k e h ha trans closed named free opens
    obtain ⟨u, moved, row⟩ := execConfirm_notes h ha trans closed named free opens
    refine ⟨_, row, replies_rsp _ _ _ _ _ h.1, ?_, ?_, ?_⟩
    · rw [replies_trans _ _ _ _ h.1, State.trans, noteEngineer_chan _ _ _ h.1, State.trans, moved.chan]
      exact congrArg (Option.map _) ((begun_trans h.1 ch).trans trans)
    · rw [replies_ssv, noteEngineer_conf, moved.ssv, begun_ssv]
    · rw [replies_ps, noteEngineer_ps, moved.ps, begun_ps]
  · intro ch slot s k h ha trans closed hslot base safety locks tickets
    have may : MayCommit ch slot k (begun ch s) :=
      ⟨closed, hslot, base, safety, locks, fun c => congrArg Prod.fst (ticketsFull_begun h (tickets c))⟩
    refine ⟨_, commitSet ch slot k (begun ch s), execCommit_stages h ha trans may, ?_, ?_, ?_, rfl, rfl, ?_, commitSet_at .., rfl, ?_⟩
    · rw [awaits_trans _ _ _ h.1, State.trans, commitTrans_chan _ _ _ h.1]
    · rw [awaits_ps, commitTrans_ps, begun_ps]
    · rw [awaits_fw, commitTrans_setNext, begun_fw]
    · rw [commitSet_rsp _ _ _ h.1, begun_chan_expect h]
    · rw [awaits_sets, commitTrans_flash]
      rfl

end Sys2Proof.Machine
end

section
/-!
SUPPORT. The drive links: the rows of a port by the state that it is in (10 Table 10-6), and the loss of authority (14 R395).
-/
namespace Sys2Proof.Machine

/-! ### What giving up authority leaves of the drive links -/

@[simp] theorem ttcTo_dl (st : TtcState) (s : State) : (ttcTo st s).dl = s.dl := by
  unfold ttcTo
  split <;> rfl

@[simp] theorem ttcDrop_dl (s : State) : (ttcDrop s).dl = s.dl := by
  unfold ttcDrop
  dsimp only
  split
  · exact ttcTo_dl ..
  · split
    · exact ttcTo_dl ..
    · rfl

/-- Only the active unit of a pair has a Castling to end (14 R420). -/
theorem shadowTo_dl {s : State} (st : ShState) (cause : Nat) (h : s.mlc.role ≠ .active) :
    (shadowTo st cause s).dl = s.dl := by
  unfold shadowTo
  simp only [h, decide_false, Bool.false_and, Bool.false_eq_true, if_false]
  split <;> rfl

@[simp] theorem depose_dl (s : State) : (depose s).dl = s.dl := shadowTo_dl _ _ nofun

/-- A table has an entry with a property where one of its places has. -/
theorem any_vlist {α : Type} {n : Nat} [Inhabited α] {v : Vector α n} {f : α → Bool} {i : Nat} (hi : i < n)
    (h : f (vrd v i) = true) : (vlist v).any f = true := by
  have len : i < (vlist v).length := Nat.lt_of_lt_of_eq hi v.size_toArray.symm
  have entry : vrd v i = (vlist v)[i] := congrArg (Option.getD · default) (List.getElem?_eq_getElem len)
  exact List.any_eq_true.2 ⟨vrd v i, entry ▸ List.getElem_mem len, h⟩

/-- A unit of a pair whose frames were refused in two periods sends LISTEN frames from the next period on (10 R306, 14 R395). -/
theorem execAuthorityLost_deposes {s : State} {p : Nat} (commands : s.commands = true) (pair : s.mlc.role ≠ .single)
    (hp : p < 36) (refused : 2 ≤ (s.port p).staleRun) :
    ∃ t, execAuthorityLost s = .next t ∧ t.dl.lostNext = true ∧ t.hif.evstat.testBit 104 = true := by
  have any_port : ((vlist s.dl.ports).any fun p => decide (2 ≤ p.staleRun)) = true :=
    any_vlist hp (decide_eq_true refused)
  have guard : (s.commands && decide (s.mlc.role ≠ .single) &&
      (vlist s.dl.ports).any fun p => decide (2 ≤ p.staleRun)) = true := by
    rw [commands, decide_eq_true pair, any_port]
    rfl
  refine ⟨_, congrArg Host.Outcome.next (if_pos guard), ?_, raiseEv_own_bit ..⟩
  rw [raiseEv_dl, depose_dl, ttcDrop_dl]

/-! ### Inbound frames -/

/-- The stamp of an inbound frame, with BOUNDARY where it lies at the start of the period or at its cut-off (01 R24, 10 R289). -/
def inboundStamp (p : Nat) (at_ : Time) (s : State) : Stamp :=
  let st := s.stampOf p at_
  { st with boundary := boundaryAt at_ (stampUnit st.coarse) s.cyc.tk || boundaryAt at_ (stampUnit st.coarse) (s.cyc.tk + tCut) }

section
variable {s : State} {p at_ tEnd : Nat} {bytes : Bytes} (hp : p < 36)
include hp

/-- A good DISCOVERY frame of the right length (10 R299). -/
theorem execDiscoveryFrame_discovers (len : bytes.length = inHdrLen + 36) (disc : inType bytes = 0x12)
    (crc : crcGood bytes = true) (up : (s.port p).state ≠ .down) :
    execDiscoveryFrame p at_ bytes s = .next (discoverFrame p bytes (s.upTo at_)) :=
  onUnit_acts hp ⟨len, disc, crc, up⟩

section
variable (counts : (s.port p).state.counts = true) (up : (s.port p).state ≠ .down) (kept : (s.port p).retired = false)
  (crc : crcGood bytes = true) (cycle : inType bytes = 0x11)
include counts up kept crc cycle

/-- A CYCLE frame with a good CRC on a port that counts is judged, and then turned away outside its window, counted EXTRA
after another one, or taken (10 R289, R310). -/
theorem execInboundCycleFrame_judged :
    let u := judgeEpoch p bytes (s.upTo at_)
    let c := inboundCause u p (u.stampOf p at_) tEnd false bytes
    let v := u.mdPort p fun x => { x with got := true, cause := c }
    execInboundCycleFrame p at_ tEnd false bytes s = .next (
      if c = 3 then u.mdPort p fun x => { x with
        err := { x.err with window := incSat 255 x.err.window }, cause := if x.cause = 0 then 3 else x.cause }
      else if (s.port p).got = true then u.mdPort p fun x => { x with err := { x.err with extra := incSat 255 x.err.extra } }
      else if c = 0 then goodFrame p (inboundStamp p at_ u) bytes v else v) := by
  have serves : ¬((s.port p).state = .down ∨ (s.port p).retired = true ∧ (s.port p).spare = none) := by
    simp [up, kept]
  have notDiscovery : ¬((!false && crcGood bytes && inType bytes == 0x12 && bytes.length == inHdrLen + 36) = true) := by
    simp [cycle]
  have judged : (!false && crcGood bytes && inType bytes == 0x11) = true := by simp [crc, cycle]
  have counted : ¬((!(s.port p).state.counts) = true) := by simp [counts]
  refine (onUnit_rests hp serves).trans (congrArg Host.Outcome.next ?_)
  exact (if_neg notDiscovery).trans (by rw [if_pos judged]; exact if_neg counted)

/-- The first good frame in the window is taken (10 R289). -/
theorem execInboundCycleFrame_taken (first : (s.port p).got = false) :
    let u := judgeEpoch p bytes (s.upTo at_)
    inboundCause u p (u.stampOf p at_) tEnd false bytes = 0 → execInboundCycleFrame p at_ tEnd false bytes s
      = .next (goodFrame p (inboundStamp p at_ u) bytes (u.mdPort p fun x => { x with got := true, cause := 0 })) := by
  intro u good
  refine (execInboundCycleFrame_judged hp counts up kept crc cycle).trans ?_
  dsimp only
  rw [good, first]
  rfl

/-- A second frame in the window is counted EXTRA (10 R289). -/
theorem execInboundCycleFrame_extra (second : (s.port p).got = true) :
    let u := judgeEpoch p bytes (s.upTo at_)
    inboundCause u p (u.stampOf p at_) tEnd false bytes ≠ 3 → execInboundCycleFrame p at_ tEnd false bytes s
      = .next (u.mdPort p fun x => { x with err := { x.err with extra := incSat 255 x.err.extra } }) := by
  intro u inside
  refine (execInboundCycleFrame_judged hp counts up kept crc cycle).trans ?_
  rw [if_neg inside, if_pos second]

end

/-! ### States of a port -/

/-- Symbol lock takes a port that is DOWN to LINKING (10 Table 10-6). -/
theorem execDlSymbolLock_links (down : (s.port p).state = .down) :
    execDlSymbolLock p s = .next (setPort p .linking ((s.mdPort p fun x => { x with lock := true }).mdPort p fun x =>
      { x with ackDue := true, listen := false, dHist := [], delay := 0 })) := by
  refine onUnit_acts hp ?_
  rw [State.mdPort_port _ _ hp]
  exact down

/-- 128 good frames take a SYNCING port to READY (10 Table 10-6). -/
theorem execPortReady_ready (syncing : (s.port p).state = .syncing) (run : 128 ≤ (s.port p).goodRun) :
    execPortReady p s = .next (setPort p .ready (portAvail p (!(s.port p).listen) s)) :=
  onUnit_acts hp ⟨syncing, run⟩

/-- 16 good frames take a FAULTED port whose axes are all DISABLED to READY (10 Table 10-6). -/
theorem execPortRecovered_ready (faulted : (s.port p).state = .faulted) (run : 16 ≤ (s.port p).goodRun)
    (off : ∀ e ∈ portAxes s.ps p, (s.ax e.2.2).fn = .disabled) :
    execPortRecovered p s = .next (setPort p .ready (portAvail p (!(s.port p).listen) s)) :=
  onUnit_acts hp ⟨faulted, run, List.all_eq_true.2 fun e m => decide_eq_true (off e m)⟩

/-- A READ that waits for its ninth period is answered STAGE_NO_RESPONSE (10 R314). -/
theorem execStageNoResponse_answers {c : Nat × Nat × Nat × Nat} (read : (s.port p).ctl = some c) (waited : 9 ≤ c.2.2.2) :
    execStageNoResponse p s = .next (answerRead p Sts.STAGE_NO_RESPONSE 0 s) := by
  unfold execStageNoResponse
  rw [onUnit_in hp, read]
  exact congrArg Host.Outcome.next (if_pos waited)

/-- A port with a retired transceiver, its axes DISABLED, restarts in LINKING on the first free spare of its list (10 R313). -/
theorem execSparePortMove_moves {e sp j : Nat} (retired : (s.port p).retired = true) (unmoved : (s.port p).spare = none)
    (off : ∀ e ∈ portAxes s.ps p, (s.ax e.2.2).fn = .disabled)
    (free : ((List.range 4).find? fun e => match spareEntry s.ps e p with
      | some (sp, _) => lget s.dl.spareSel e == 0 && !(s.port sp).retired | none => false) = some e)
    (entry : spareEntry s.ps e p = some (sp, j)) :
    ∃ t, execSparePortMove p s = .next t ∧ (t.port p).spare = some sp ∧ (t.port p).state = .linking
      ∧ t.dl.spareSel = s.dl.spareSel.set e (j + 1) ∧ t.axes = s.axes := by
  have disabled : ((portAxes s.ps p).all fun e => decide ((s.ax e.2.2).fn = .disabled)) = true :=
    List.all_eq_true.2 fun e m => decide_eq_true (off e m)
  have guard : ¬((!(s.port p).retired || (s.port p).spare.isSome ||
      !(portAxes s.ps p).all fun e => decide ((s.ax e.2.2).fn = .disabled)) = true) := by
    simp only [retired, unmoved, disabled]
    decide
  unfold execSparePortMove
  rw [onUnit_in hp]
  dsimp only
  rw [if_neg guard]
  split
  case h_1 none => exact absurd (none.symm.trans free) (by simp)
  case h_2 e' found =>
    obtain rfl : e' = e := Option.some.inj (found.symm.trans free)
    rw [entry]
    refine ⟨_, rfl, ?_, ?_, rfl, rfl⟩
    · exact congrArg PortSt.spare (vrd_vmd_same hp)
    · exact congrArg PortSt.state (vrd_vmd_same hp)

end

/-- Settles O45: the frames by the cause that they are judged by, the states of a port by their runs, the spare that is found
free, and the port whose frames were refused. -/
theorem driveLinkEvents : Obligations.DriveLinkEvents := by
  refine ⟨?_, fun _ _ _ _ hp => execDiscoveryFrame_discovers hp, fun _ _ hp => execDlSymbolLock_links hp,
    fun _ _ hp => onUnit_in hp, fun _ _ hp => execPortReady_ready hp, fun _ _ hp => execPortRecovered_ready hp,
    fun _ _ hp ready run => onUnit_acts hp ⟨ready, run⟩, fun _ _ _ hp => execStageNoResponse_answers hp,
    fun _ _ _ _ _ hp => execSparePortMove_moves hp, ?_⟩
  · exact fun _ _ _ _ _ hp counts up kept crc cycle =>
      ⟨execInboundCycleFrame_taken hp counts up kept crc cycle, execInboundCycleFrame_extra hp counts up kept crc cycle⟩
  · exact fun _ commands pair ⟨_, hp, refused⟩ => execAuthorityLost_deposes commands pair hp refused

end Sys2Proof.Machine
end

section
/-!
SUPPORT. What every step keeps of the Ledger's memory and of the fuses, and what a read of the Ledger gives after a write
(15 R431, R432).
-/
namespace Sys2Proof.Machine

/-! ### What every command keeps -/

/-- No command takes the Ledger's memory out of its canonical form or takes back a fuse. -/
theorem exec_keeps (i : Instr) (s : State) : KeepsOut s (exec i s) := by
  cases i with
  | currentPeriodEvent => exact execCurrentPeriodEvent_keeps (.refl s)
  | controlCycleEvent => exact execControlCycleEvent_keeps (.refl s)
  | separationCycleEvent => exact execSeparationCycleEvent_keeps (.refl s)
  | planPeriodEvent => exact execPlanPeriodEvent_keeps (.refl s)
  | cellCycleClose => exact execCellCycleClose_keeps (.refl s)
  | feedbackCutoff => exact execFeedbackCutoff_keeps (.refl s)
  | outboundLaunch => exact execOutboundLaunch_keeps (.refl s)
  | latch => exact execLatch_keeps (.refl s)
  | copyDeadline => exact execCopyDeadline_keeps (.refl s)
  | ssmPublish => exact execSsmPublish_keeps (.refl s)
  | solveDeadline => exact execSolveDeadline_keeps (.refl s)
  | solveComplete _ _ _ order lanes => exact execSolveComplete_keeps (p4 := order) (p5 := lanes) (.refl s)
  | tileError => exact execTileError_keeps (.refl s)
  | laneSpareTakeover => exact execLaneSpareTakeover_keeps (.refl s)
  | shutdownEnd => exact execShutdownEnd_keeps (.refl s)
  | relabel => exact execRelabel_keeps (.refl s)
  | timeOfDayShift => exact execTimeOfDayShift_keeps (.refl s)
  | holdoverEntry => exact execHoldoverEntry_keeps (.refl s)
  | holdExceeded => exact execHoldExceeded_keeps (.refl s)
  | ppsInEdge => exact execPpsInEdge_keeps (.refl s)
  | ppsOutRise => exact execPpsOutRise_keeps (.refl s)
  | ppsOutFall => exact execPpsOutFall_keeps (.refl s)
  | roverParallelEnd => exact execRoverParallelEnd_keeps (.refl s)
  | interpolatorCalDone => exact execInterpolatorCalDone_keeps (.refl s)
  | inboundCycleFrame => exact execInboundCycleFrame_keeps (.refl s)
  | discoveryFrame => exact execDiscoveryFrame_keeps (.refl s)
  | dlSymbolLock => exact execDlSymbolLock_keeps (.refl s)
  | dlSymbolLockLost => exact execDlSymbolLockLost_keeps (.refl s)
  | portReady => exact execPortReady_keeps (.refl s)
  | portRecovered => exact execPortRecovered_keeps (.refl s)
  | linkFault => exact execLinkFault_keeps (.refl s)
  | authorityLost => exact execAuthorityLost_keeps (.refl s)
  | stageNoResponse => exact execStageNoResponse_keeps (.refl s)
  | sparePortMove => exact execSparePortMove_keeps (.refl s)
  | stepEdge => exact execStepEdge_keeps (.refl s)
  | stepFinalSegment => exact execStepFinalSegment_keeps (.refl s)
  | gpioEdge => exact execGpioEdge_keeps (.refl s)
  | stallImminent => exact execStallImminent_keeps (.refl s)
  | holdDelayExpiry => exact execHoldDelayExpiry_keeps (.refl s)
  | coilFault => exact execCoilFault_keeps (.refl s)
  | phaseSum => exact execPhaseSum_keeps (.refl s)
  | busUndervolt => exact execBusUndervolt_keeps (.refl s)
  | sampleLost => exact execSampleLost_keeps (.refl s)
  | followingError => exact execFollowingError_keeps (.refl s)
  | laneOverrunRepeat => exact execLaneOverrunRepeat_keeps (.refl s)
  | hardStopDetected => exact execHardStopDetected_keeps (.refl s)
  | injectionRunEnd => exact execInjectionRunEnd_keeps (.refl s)
  | frfAnalysisDone => exact execFrfAnalysisDone_keeps (.refl s)
  | captureEnd => exact execCaptureEnd_keeps (.refl s)
  | traceOverflow => exact execTraceOverflow_keeps (.refl s)
  | captureAreaFree => exact execCaptureAreaFree_keeps (.refl s)
  | listStale => exact execListStale_keeps (.refl s)
  | ssmXchk => exact execSsmXchk_keeps (.refl s)
  | verdictFallClear => exact execVerdictFallClear_keeps (.refl s)
  | stopRequestRelease => exact execStopRequestRelease_keeps (.refl s)
  | standstill => exact execStandstill_keeps (.refl s)
  | safetyWatchdog => exact execSafetyWatchdog_keeps (.refl s)
  | torqueBuildEnd => exact execTorqueBuildEnd_keeps (.refl s)
  | bkSettleCheck => exact execBkSettleCheck_keeps (.refl s)
  | brakeSwitch => exact execBrakeSwitch_keeps (.refl s)
  | bkReleaseEnd => exact execBkReleaseEnd_keeps (.refl s)
  | bkEngageEnd => exact execBkEngageEnd_keeps (.refl s)
  | brakeTestStepEnd => exact execBrakeTestStepEnd_keeps (.refl s)
  | brakeTestDue => exact execBrakeTestDue_keeps (.refl s)
  | brakeTestOverdue => exact execBrakeTestOverdue_keeps (.refl s)
  | brakeTimerSave => exact execBrakeTimerSave_keeps (.refl s)
  | testPulse => exact execTestPulse_keeps (.refl s)
  | safeInputEdge => exact execSafeInputEdge_keeps (.refl s)
  | siDemand => exact execSiDemand_keeps (.refl s)
  | discrepancy => exact execDiscrepancy_keeps (.refl s)
  | siFaultClear => exact execSiFaultClear_keeps (.refl s)
  | stoConfirmCheck => exact execStoConfirmCheck_keeps (.refl s)
  | checkValueRecompute => exact execCheckValueRecompute_keeps (.refl s)
  | lockoutEnd => exact execLockoutEnd_keeps (.refl s)
  | serviceExpired => exact execServiceExpired_keeps (.refl s)
  | cbFrameReceived => exact execCbFrameReceived_keeps (.refl s)
  | slotWindowClose => exact execSlotWindowClose_keeps (.refl s)
  | valueLatch => exact execValueLatch_keeps (.refl s)
  | ttcFrameTransmit => exact execTtcFrameTransmit_keeps (.refl s)
  | coldstartEntry => exact execColdstartEntry_keeps (.refl s)
  | coldstartWaitEnd => exact execColdstartWaitEnd_keeps (.refl s)
  | coldstartWatchEnd => exact execColdstartWatchEnd_keeps (.refl s)
  | coldstartFrame => exact execColdstartFrame_keeps (.refl s)
  | modeChangeRequest => exact execModeChangeRequest_keeps (.refl s)
  | channelDisabled => exact execChannelDisabled_keeps (.refl s)
  | linkDown => exact execLinkDown_keeps (.refl s)
  | linkUp => exact execLinkUp_keeps (.refl s)
  | conventionalReset => exact execConventionalReset_keeps (.refl s)
  | bar2Read => exact execBar2Read_keeps (.refl s)
  | bar2ReadAbort => exact execBar2ReadAbort_keeps (.refl s)
  | bar2Write => exact execBar2Write_keeps (.refl s)
  | powerStateWrite => exact execPowerStateWrite_keeps (.refl s)
  | doorbell => exact execDoorbell_keeps (.refl s)
  | rspAck => exact execRspAck_keeps (.refl s)
  | mailboxRamWrite => exact execMailboxRamWrite_keeps (.refl s)
  | requestTaken => exact execRequestTaken_keeps (.refl s)
  | evstatClear => exact execEvstatClear_keeps (.refl s)
  | evmaskWrite => exact execEvmaskWrite_keeps (.refl s)
  | msixUnmask => exact execMsixUnmask_keeps (.refl s)
  | tbNowFracRead => exact execTbNowFracRead_keeps (.refl s)
  | readClearAccess => exact execReadClearAccess_keeps (.refl s)
  | registerWrite => exact execRegisterWrite_keeps (.refl s)
  | leaseExpiry => exact execLeaseExpiry_keeps (.refl s)
  | openSession => exact execOpenSession_keeps (.refl s)
  | closeSession => exact execCloseSession_keeps (.refl s)
  | keepalive => exact execKeepalive_keeps (.refl s)
  | ticketStatus => exact execTicketStatus_keeps (.refl s)
  | cancelTicket => exact execCancelTicket_keeps (.refl s)
  | setLease => exact execSetLease_keeps (.refl s)
  | getIdentity => exact execGetIdentity_keeps (.refl s)
  | getHealth => exact execGetHealth_keeps (.refl s)
  | readBlock => exact execReadBlock_keeps (.refl s)
  | clearBlock => exact execClearBlock_keeps (.refl s)
  | getFault => exact execGetFault_keeps (.refl s)
  | openSet => exact execOpenSet_keeps (.refl s)
  | writeSeg => exact execWriteSeg_keeps (.refl s)
  | closeSet => exact execCloseSet_keeps (.refl s)
  | confirm => exact execConfirm_keeps (.refl s)
  | commit => exact execCommit_keeps (.refl s)
  | flashWriteDone => exact execFlashWriteDone_keeps (.refl s)
  | abortSet => exact execAbortSet_keeps (.refl s)
  | readParam => exact execReadParam_keeps (.refl s)
  | getSetInfo => exact execGetSetInfo_keeps (.refl s)
  | readSet => exact execReadSet_keeps (.refl s)
  | writeParam => exact execWriteParam_keeps (.refl s)
  | move => exact execMove_keeps (.refl s)
  | jog => exact execJog_keeps (.refl s)
  | stop => exact execStop_keeps (.refl s)
  | setLimits => exact execSetLimits_keeps (.refl s)
  | gear => exact execGear_keeps (.refl s)
  | stepFollow => exact execStepFollow_keeps (.refl s)
  | home => exact execHome_keeps (.refl s)
  | getAxis => exact execGetAxis_keeps (.refl s)
  | getMovePlan => exact execGetMovePlan_keeps (.refl s)
  | clearAxisFlags => exact execClearAxisFlags_keeps (.refl s)
  | stageRead => exact execStageRead_keeps (.refl s)
  | dlReset => exact execDlReset_keeps (.refl s)
  | enable => exact execEnable_keeps (.refl s)
  | disable => exact execDisable_keeps (.refl s)
  | faultAck => exact execFaultAck_keeps (.refl s)
  | enterPlanned => exact execEnterPlanned_keeps (.refl s)
  | leavePlanned => exact execLeavePlanned_keeps (.refl s)
  | setPath => exact execSetPath_keeps (.refl s)
  | handover => exact execHandover_keeps (.refl s)
  | acceptHandover => exact execAcceptHandover_keeps (.refl s)
  | reclaim => exact execReclaim_keeps (.refl s)
  | getArm => exact execGetArm_keeps (.refl s)
  | getResult => exact execGetResult_keeps (.refl s)
  | getPlan => exact execGetPlan_keeps (.refl s)
  | getSizing => exact execGetSizing_keeps (.refl s)
  | getVerdict => exact execGetVerdict_keeps (.refl s)
  | getSsmStat => exact execGetSsmStat_keeps (.refl s)
  | resume => exact execResume_keeps (.refl s)
  | stopTest => exact execStopTest_keeps (.refl s)
  | getStopTest => exact execGetStopTest_keeps (.refl s)
  | getObjects => exact execGetObjects_keeps (.refl s)
  | clearSsmFlags => exact execClearSsmFlags_keeps (.refl s)
  | brakeTest => exact execBrakeTest_keeps (.refl s)
  | enterService => exact execEnterService_keeps (.refl s)
  | leaveService => exact execLeaveService_keeps (.refl s)
  | getSafety => exact execGetSafety_keeps (.refl s)
  | clearSafetyFlags => exact execClearSafetyFlags_keeps (.refl s)
  | setEngineer => exact execSetEngineer_keeps (.refl s)
  | removeEngineer => exact execRemoveEngineer_keeps (.refl s)
  | readAudit => exact execReadAudit_keeps (.refl s)
  | setTimeOfDay => exact execSetTimeOfDay_keeps (.refl s)
  | modeChange => exact execModeChange_keeps (.refl s)
  | channelEnable => exact execChannelEnable_keeps (.refl s)
  | channelDisable => exact execChannelDisable_keeps (.refl s)
  | applyCalibration => exact execApplyCalibration_keeps (.refl s)
  | writeValue => exact execWriteValue_keeps (.refl s)
  | readValue => exact execReadValue_keeps (.refl s)
  | getTtc => exact execGetTtc_keeps (.refl s)
  | clearTtc => exact execClearTtc_keeps (.refl s)
  | getCalibration => exact execGetCalibration_keeps (.refl s)
  | getPair => exact execGetPair_keeps (.refl s)
  | castle => exact execCastle_keeps (.refl s)
  | pairBegin => exact execPairBegin_keeps (.refl s)
  | pairConfirm => exact execPairConfirm_keeps (.refl s)
  | unpair => exact execUnpair_keeps (.refl s)
  | startCapture => exact execStartCapture_keeps (.refl s)
  | stopCapture => exact execStopCapture_keeps (.refl s)
  | startInjection => exact execStartInjection_keeps (.refl s)
  | stopInjection => exact execStopInjection_keeps (.refl s)
  | getFrf => exact execGetFrf_keeps (.refl s)
  | getLifecycle => exact execGetLifecycle_keeps (.refl s)
  | retire => exact execRetire_keeps (.refl s)
  | selfTest => exact execSelfTest_keeps (.refl s)
  | heartbeatReceived => exact execHeartbeatReceived_keeps (.refl s)
  | heartbeatWindowClose => exact execHeartbeatWindowClose_keeps (.refl s)
  | takeoverDecision => exact execTakeoverDecision_keeps (.refl s)
  | epochAckCheck => exact execEpochAckCheck_keeps (.refl s)
  | mirrorAck => exact execMirrorAck_keeps (.refl s)
  | mirrorAckTimeout => exact execMirrorAckTimeout_keeps (.refl s)
  | systemRecord => exact execSystemRecord_keeps (.refl s)
  | mirrorCopyComplete => exact execMirrorCopyComplete_keeps (.refl s)
  | stageRecord => exact execStageRecord_keeps (.refl s)
  | planRecord => exact execPlanRecord_keeps (.refl s)
  | delta => exact execDelta_keeps (.refl s)
  | paramRecord => exact execParamRecord_keeps (.refl s)
  | hello => exact execHello_keeps (.refl s)
  | takeoverRecord => exact execTakeoverRecord_keeps (.refl s)
  | castlePrep => exact execCastlePrep_keeps (.refl s)
  | castleAck => exact execCastleAck_keeps (.refl s)
  | pairSecret => exact execPairSecret_keeps (.refl s)
  | warmReq => exact execWarmReq_keeps (.refl s)
  | mirrorLaneInService => exact execMirrorLaneInService_keeps (.refl s)
  | pairWaitEnd => exact execPairWaitEnd_keeps (.refl s)
  | singleAuthority => exact execSingleAuthority_keeps (.refl s)
  | shadowJoining => exact execShadowJoining_keeps (.refl s)
  | shadowReady => exact execShadowReady_keeps (.refl s)
  | castleBoundary => exact execCastleBoundary_keeps (.refl s)
  | castleEpochCheck => exact execCastleEpochCheck_keeps (.refl s)
  | castleDue => exact execCastleDue_keeps (.refl s)
  | castleAutoRetry => exact execCastleAutoRetry_keeps (.refl s)
  | castleOverdue => exact execCastleOverdue_keeps (.refl s)
  | pairTExpiry => exact execPairTExpiry_keeps (.refl s)
  | pairCommitEffect => exact execPairCommitEffect_keeps (.refl s)
  | mirPeerEngChange => exact execMirPeerEngChange_keeps (.refl s)
  | ledgerRequest => exact execLedgerRequest_keeps (.refl s)
  | ledgerBackoffExpiry => exact execLedgerBackoffExpiry_keeps (.refl s)
  | holdCut => exact execHoldCut_keeps (.refl s)
  | sidebandMask => exact execSidebandMask_keeps (.refl s)
  | plyTableWrite => exact execPlyTableWrite_keeps (.refl s)
  | plyTableAdopt => exact execPlyTableAdopt_keeps (.refl s)
  | lockAcquire => exact execLockAcquire_keeps (.refl s)
  | lockRelease => exact execLockRelease_keeps (.refl s)
  | lockLeaseExpiry => exact execLockLeaseExpiry_keeps (.refl s)
  | correctedWriteback => exact execCorrectedWriteback_keeps (.refl s)
  | scrub => exact execScrub_keeps (.refl s)
  | bankFillComplete => exact execBankFillComplete_keeps (.refl s)
  | journalAppend => exact execJournalAppend_keeps (.refl s)
  | journalCompaction => exact execJournalCompaction_keeps (.refl s)
  | tamperN => exact execTamperN_keeps (.refl s)
  | tempoMonitor => exact execTempoMonitor_keeps (.refl s)
  | voltageLoop => exact execVoltageLoop_keeps (.refl s)
  | tempoWarning => exact execTempoWarning_keeps (.refl s)
  | pmbusAlert => exact execPmbusAlert_keeps (.refl s)
  | pmbusVoutTimeout => exact execPmbusVoutTimeout_keeps (.refl s)
  | pmbusRetry => exact execPmbusRetry_keeps (.refl s)
  | unitError => exact execUnitError_keeps (.refl s)
  | targetedSelfTestDone => exact execTargetedSelfTestDone_keeps (.refl s)
  | backgroundSelfTest => exact execBackgroundSelfTest_keeps (.refl s)
  | manufactureFinalTest => exact execManufactureFinalTest_keeps (.refl s)
  | supplyRise => exact execSupplyRise_keeps (.refl s)
  | supplyRangeFault => exact execSupplyRangeFault_keeps (.refl s)
  | trip => exact execTrip_keeps (.refl s)
  | temperatureRecovery => exact execTemperatureRecovery_keeps (.refl s)
  | resetN => exact execResetN_keeps (.refl s)
  | testPin => exact execTestPin_keeps (.refl s)
  | presentNRemoval => exact execPresentNRemoval_keeps (.refl s)
  | presentNInsertion => exact execPresentNInsertion_keeps (.refl s)
  | internalResetRelease => exact execInternalResetRelease_keeps (.refl s)
  | fuseLoadEnd => exact execFuseLoadEnd_keeps (.refl s)
  | coreSelfTestEnd => exact execCoreSelfTestEnd_keeps (.refl s)
  | romSelfTestEnd => exact execRomSelfTestEnd_keeps (.refl s)
  | fwReady => exact execFwReady_keeps (.refl s)
  | ppsinSeenExpiry => exact execPpsinSeenExpiry_keeps (.refl s)
  | aerError => exact execAerError_keeps (.refl s)
  | linkWidthRateChange => exact execLinkWidthRateChange_keeps (.refl s)
  | perstNRelease => exact execPerstNRelease_keeps (.refl s)
  | mirrorLaneUp => exact execMirrorLaneUp_keeps (.refl s)
  | journalEraseEnd => exact execJournalEraseEnd_keeps (.refl s)
  | uartCtsN => exact execUartCtsN_keeps (.refl s)
  | jtagInstruction => exact execJtagInstruction_keeps (.refl s)

/-- A step keeps what the command at the front of the queue keeps. -/
theorem step_keeps {s t : State} (h : step s = .next t) :
    (memWf s.ldg.mem = true → memWf t.ldg.mem = true) ∧ Burns s.hlt.fuses t.hlt.fuses := by
  unfold step at h
  split at h
  case h_1 =>
    cases h
    exact ⟨id, Burns.refl _⟩
  case h_2 c rest _ => exact (exec_keeps c { s with pending := rest } t h).2

/-- Settles O4: no command takes the memory out of its form. -/
theorem ledgerFormKept : Obligations.LedgerFormKept := fun _ _ form h => (step_keeps h).1 form

/-- Settles O6: no command takes back a fuse. -/
theorem fusesNeverUnburn : Obligations.FusesNeverUnburn := fun _ _ h => (step_keeps h).2

/-! ### A read after a write -/

/-- Cells that all lie elsewhere hold nothing for an address. -/
theorem find?_elsewhere {l : List Host.Cell} {x : Nat} (h : ∀ c ∈ l, c.1 ≠ x) : l.find? (fun c => c.1 == x) = none :=
  List.find?_eq_none.2 fun c hc e => h c hc (by simpa using e)

/-- Cells that all lie elsewhere leave 0 at an address. -/
theorem memByte_elsewhere {l : List Host.Cell} {x : Nat} (h : ∀ c ∈ l, c.1 ≠ x) : memByte l x = 0 := by
  unfold memByte
  rw [find?_elsewhere h]

/-- The cells of a string of bytes read as the string. -/
theorem memByte_cellsOf (b : Bytes) {a x : Nat} (h : a ≤ x) : memByte (cellsOf a b) x = b.getD (x - a) 0 := by
  induction b generalizing a with
  | nil => rfl
  | cons y ys ih =>
    rcases Nat.eq_or_lt_of_le h with rfl | later
    · have rest : memByte (cellsOf (a + 1) ys) a = 0 := memByte_elsewhere fun c hc => by
        have above : a + 1 ≤ c.1 := (cellsOf_wf (a + 1) ys).1.2 c hc
        omega
      unfold cellsOf
      split
      case isTrue zero => rw [rest, zero]; simp
      case isFalse => simp [memByte]
    · have next : memByte (cellsOf (a + 1) ys) x = (y :: ys).getD (x - a) 0 := by
        rw [ih later, show x - a = x - (a + 1) + 1 by omega]
        rfl
      unfold cellsOf
      split
      case isTrue => exact next
      case isFalse =>
        have off : ((a, y).1 == x) = false := beq_false_of_ne (Nat.ne_of_lt later)
        rw [← next]
        simp only [memByte, List.find?_cons, off]

/-- A byte that a write covers reads as written. -/
theorem memByte_write_on {m : List Host.Cell} {a x : Nat} {b : Bytes} (h : a ≤ x) (e : x < a + b.length) :
    memByte (memWrite m a b) x = b.getD (x - a) 0 := by
  have below : (m.filter fun c => decide (c.1 < a)).find? (fun c => c.1 == x) = none := find?_elsewhere fun c hc => by
    have := of_decide_eq_true (List.mem_filter.1 hc).2
    omega
  have beyond : (m.filter fun c => decide (a + b.length ≤ c.1)).find? (fun c => c.1 == x) = none :=
    find?_elsewhere fun c hc => by
      have := of_decide_eq_true (List.mem_filter.1 hc).2
      omega
  rw [← memByte_cellsOf b h]
  unfold memByte memWrite
  rw [List.find?_append, List.find?_append, below, beyond, Option.none_or, Option.or_none]

/-- What a write leaves at every address. -/
theorem memByte_memWrite (m : List Host.Cell) (a x : Nat) (b : Bytes) :
    memByte (memWrite m a b) x = if a ≤ x ∧ x < a + b.length then b.getD (x - a) 0 else memByte m x := by
  split
  case isTrue inside => exact memByte_write_on inside.1 inside.2
  case isFalse outside => exact memByte_write_off (by omega)

/-- Settles O5: a write is read byte by byte inside its bounds, and leaves what lies outside them. -/
theorem ledgerReadsBack : Obligations.LedgerReadsBack := fun m a x b _ => memByte_memWrite m a x b

end Sys2Proof.Machine
end

section
/-!
SUPPORT. The session class (12 R368 to R371, 13 R381) and the ownership of scopes (12 R372, 13 R389).
-/
namespace Sys2Proof.Machine

/-! ### Opening a session -/

/-- Among 18 values in a row there is one that is not 0 and none of 16 tokens (12 R369). -/
theorem newToken_spec (c : ChanSt) (v : Nat) (h : c.tokens.length ≤ 16) : newToken c v ≠ 0 ∧ newToken c v ∉ c.tokens := by
  have distinct : ((List.range 18).map fun i => (v + i) % 2 ^ 32).Nodup := by
    refine List.pairwise_map.2 (List.Pairwise.imp_of_mem (fun {i j} hi hj lt e => ?_) List.pairwise_lt_range)
    have := List.mem_range.1 hi
    have := List.mem_range.1 hj
    omega
  have some_free : (((List.range 18).map fun i => (v + i) % 2 ^ 32).find? fun x => x != 0 && !c.tokens.contains x).isSome := by
    refine Classical.byContradiction fun none_free => ?_
    have taken : ((List.range 18).map fun i => (v + i) % 2 ^ 32) ⊆ 0 :: c.tokens := fun x hx => by
      by_cases zero : x = 0
      · exact List.mem_cons.2 (.inl zero)
      · have := List.find?_eq_none.1 (Option.not_isSome_iff_eq_none.1 none_free) x hx
        exact List.mem_cons_of_mem _ (by simpa [zero] using this)
    have few := distinct.length_le_of_subset taken
    rw [List.length_map, List.length_range, List.length_cons] at few
    omega
  obtain ⟨x, found⟩ := Option.isSome_iff_exists.1 some_free
  have free := List.find?_some found
  rw [newToken, found, Option.getD_some]
  simpa using free

section
variable {ch nonce lease : Nat} {s : State}

/-- Changes of a channel that agree on what it holds are one change. -/
theorem mdChan_congr {f g : ChanSt → ChanSt} (h : f (s.chan ch) = g (s.chan ch)) : s.mdChan ch f = s.mdChan ch g := by
  unfold State.mdChan vmd
  rw [show f (vrd s.hif.ch ch) = g (vrd s.hif.ch ch) from h]

theorem sessionEnd_closed (closed : (s.chan ch).open_ = false) (status : Nat) : sessionEnd ch status s = s := by
  unfold sessionEnd
  rw [closed]
  rfl

theorem lapse_closed (closed : (s.chan ch).open_ = false) (t : Time) : lapse ch t s = s := by
  unfold lapse
  rw [closed]
  rfl

/-- On a closed channel an allowed lease opens a session, whether forced or not (12 R369). -/
theorem openCore_closed (closed : (s.chan ch).open_ = false) (ok : leaseOk lease = true) (force : Bool) (t : Time) :
    openCore ch nonce lease force t s
      = ((sessionOpen ch nonce lease t s).1, false, (sessionOpen ch nonce lease t s).2) := by
  unfold openCore
  dsimp only
  rw [lapse_closed closed, closed, ok, sessionEnd_closed closed]
  rfl

/-- On a channel that serves, a request that is not the repeated opening is turned away without FORCE (12 R369). -/
theorem openCore_busy (h : Serves ch s) (ok : leaseOk lease = true)
    (other : (s.chan ch).used = true ∨ (s.chan ch).nonce ≠ nonce) :
    openCore ch nonce lease false s.cyc.now s
      = ({ status := Sts.SESSION_BUSY, body := leBytes 2 ((s.chan ch).remain s.cyc.now) }, false, s) := by
  obtain ⟨-, -, open_, -, may⟩ := id h
  have here : ((s.chan ch).open_ && (s.chan ch).mirrored && !s.commands) = false := by
    rcases may with e | e <;> simp [e]
  have repeated : ((s.chan ch).open_ && !(s.chan ch).used && (s.chan ch).nonce == nonce) = false := by
    rcases other with e | e <;> simp [e]
  unfold openCore
  dsimp only
  rw [h.lapse_eq, ok, here, repeated, open_]
  rfl

/-- The channel of a session that has opened. -/
theorem sessionOpen_chan (h : ch < 4) (t : Time) : (sessionOpen ch nonce lease t s).2.chan ch = { s.chan ch with
    open_ := true, token := newToken (s.chan ch) (Config.free32 s.fresh).toNat
    tokens := (newToken (s.chan ch) (Config.free32 s.fresh).toNat :: (s.chan ch).tokens).take 16, nonce := nonce, used := false
    leaseMs := leaseGrant lease, renewAt := t, expect_ := 1, stored := [], wait := [], mirrored := false
    opened := some (sessionOpen ch nonce lease t s).1, trans := none, rsp := (sessionOpen ch nonce lease t s).1 } :=
  (raiseEv_chan ..).trans (mdChan_chan h)

theorem sessionOpen_rsp (t : Time) : (sessionOpen ch nonce lease t s).1
    = okRsp (leBytes 4 (newToken (s.chan ch) (Config.free32 s.fresh).toNat) ++ leBytes 2 (leaseGrant lease) ++ leBytes 1 ch
      ++ leBytes 1 0) := rfl

theorem sessionOpen_chan_off {d : Nat} (h : d ≠ ch) (t : Time) : (sessionOpen ch nonce lease t s).2.chan d = s.chan d :=
  (raiseEv_chan ..).trans (mdChan_chan_off h)

/-- OPEN_SESSION where the firmware runs: what it answers and leaves. -/
theorem execOpenSession_ready (h : ch < 4) (ready : s.hif.fwReady = true) (force : Bool) :
    execOpenSession ch nonce lease force s = .next ((openCore ch nonce lease force s.cyc.now s).2.2.mdChan ch fun x =>
      { x with rsp := (openCore ch nonce lease force s.cyc.now s).1 }) := by
  unfold execOpenSession
  rw [onUnit_in h, ready]
  rfl

end

/-- Settles O9: the closed channel opens with a token that is free; the open one answers and stays. -/
theorem openSession : Obligations.OpenSession := by
  refine ⟨?_, ?_⟩
  · intro ch nonce lease force s hch ready closed ok few
    obtain ⟨nonzero, unused⟩ := newToken_spec (s.chan ch) (Config.free32 s.fresh).toNat few
    refine ⟨_, execOpenSession_ready hch ready force, ?_⟩
    rw [openCore_closed closed ok, mdChan_chan hch, sessionOpen_chan hch]
    refine ⟨rfl, rfl, rfl, rfl, nonzero, unused, sessionOpen_rsp (nonce := nonce) s.cyc.now, fun d other => ?_, rfl, rfl⟩
    rw [mdChan_chan_off other, sessionOpen_chan_off other]
  · intro ch nonce lease s h ok other
    refine (execOpenSession_ready h.1 h.2.1 false).trans ?_
    rw [openCore_busy h ok other]
    exact congrArg Host.Outcome.next (mdChan_congr rfl)

/-! ### Commands of an open session -/

section
variable {ch num lease : Nat} {s : State} {k : TicketSt} (h : Serves ch s)
include h

theorem execTicketStatus_reports (known : ticketOf num s = some k) :
    execTicketStatus ch num s = .next (reports ch 0x0104 (fun _ => okRsp (leBytes 1 k.state ++ leBytes 1 k.progress
      ++ leBytes 2 k.final ++ leBytes 2 k.opcode ++ leBytes 1 k.ch ++ leBytes 1 0)) s) := by
  have known' : ticketOf num (begun ch s) = some k := known
  refine hostRow_reports h ?_
  unfold fwTicketStatus fwRead
  rw [fwRun_free rfl (openLetters_admits _) (by rw [known']; rfl)]
  dsimp only
  rw [known']

/-- A running ticket of the session with a cancel point is marked; an ended one answers its state (13 R381). -/
theorem execCancelTicket_does (known : ticketOf num s = some k) (own : k.ch = ch) (same : k.token = (s.chan ch).token)
    (point : k.state = 0 → hasCancelPoint k.opcode = true) :
    execCancelTicket ch num s = .next (does ch 0x0105 (fun _ => okRsp (leBytes 1 k.state ++ leBytes 3 0))
      (fun b => { b with hif := { b.hif with tickets := b.hif.tickets.map fun x =>
        if x.num == num && x.state == 0 then { x with cancel := true } else x } }) s) := by
  have known' : ticketOf num (begun ch s) = some k := known
  have stops : (k.state == 0 && !hasCancelPoint k.opcode) = false := by
    by_cases running : k.state = 0 <;> simp [running, point]
  refine hostRow_does h ?_ rfl rfl
  unfold fwCancelTicket
  rw [known', Option.getD_some, fwRun_free rfl (openLetters_admits _)]
  rw [begun_chan_token h, own, same, stops]
  simp [firstFail]

theorem execSetLease_does (ok : leaseOk lease = true) :
    execSetLease ch lease s = .next (does ch 0x0106 (fun _ => okRsp (leBytes 2 (leaseGrant lease) ++ leBytes 2 0))
      (fun b => b.mdChan ch fun x => { x with leaseMs := leaseGrant lease }) s) :=
  hostRow_does h (fwRun_free rfl (openLetters_admits _) (by rw [ok]; rfl)) (by rw [mdChan_chan h.1]) (by rw [mdChan_chan h.1])

end

/-- Settles O11: KEEPALIVE reads, and the other three find what they name. -/
theorem sessionCommands : Obligations.SessionCommands :=
  ⟨fun _ _ h => hostRow_reads h, fun _ _ _ h ok => execSetLease_does h ok,
    fun _ _ _ _ h known => execTicketStatus_reports h known,
    fun _ _ _ _ h known own same point => execCancelTicket_does h known own same point⟩

/-! ### Ownership -/

/-- Another's scope fails the check of ownership, whose place is behind those that the state admits (13 R377). -/
theorem gates_notOwner {who k : Nat} {l : Letters} {s : State} (h : Admits l.f l.a l.c l.life s) (named : l.o = some k)
    (channel : who < 4) (other : notOwner who k s = true) : firstFail (gates who false l s) = some Sts.NOT_OWNER := by
  obtain ⟨f3, field, authority, -⟩ := h
  have e1 : (s.ssv.f3 && !l.f) = false := by cases e : s.ssv.f3 <;> simp_all
  have e2 : (!l.life && decide (s.hlt.fuses.state ≠ 1)) = false := by rcases field with e | e <;> simp [e]
  have e3 : (l.a && !s.commands) = false := by cases e : l.a <;> simp_all
  unfold gates
  rw [if_neg (by omega)]
  simp only [firstFail, e1, e2, e3, named, other, Bool.false_eq_true, if_false, if_true]

/-- The first check that fails stands before all that follow. -/
theorem firstFail_append_refused {l m : List (Bool × Nat)} {st : Nat} (h : firstFail l = some st) :
    firstFail (l ++ m) = some st := by
  induction l with
  | nil => cases h
  | cons x l ih =>
    obtain ⟨b, st'⟩ := x
    cases b
    · exact ih h
    · exact h

/-- A scope with an owner is bound to another sender for every channel but that owner. -/
theorem notOwner_other {ch d k : Nat} {s : State} (channel : ch < 4) (owner : (s.sc k).owner = some d) (other : d ≠ ch) :
    notOwner ch k s = true := by
  unfold notOwner
  rw [owner]
  split
  · next => simp; omega
  · next e => cases e; simpa using other
  · next e => cases e

/-- A channel commands the scope that it owns and that is not bound to the cell bus. -/
theorem owns_of_owner {ch k : Nat} {s : State} (owner : (s.sc k).owner = some ch) (free : (s.sc k).bound = none) :
    Owns ch k s := by
  unfold Owns notOwner
  rw [owner, free]
  exact bne_self_eq_false ch

/-- What an offer does: it is noted, and the channel that it names is told (13 R389). -/
def offerTo (target k : Nat) (s : State) : State :=
  raiseChan target Sts.OK 0 0x0507 0 7 (s.mdSc k fun c => { c with offer := some target })

/-- What a binding to the cell bus does: values received before it are no commands (13 R389). -/
def bindTo (value k : Nat) (s : State) : State :=
  let s := s.mdSc k fun c => { c with owner := none, offer := none, bound := some value }
  { s with ttc := { s.ttc with rx := s.ttc.rx.map fun v => if v.num = value then { v with new := false } else v } }

/-- What the acceptance of an offer does: the channel that made it is told (12 R372). -/
def acceptBy (ch k : Nat) (s : State) : State :=
  raiseChan (((s.sc k).owner).getD ch) Sts.OK 0 0x0508 0 8 (s.mdSc k fun c => { c with owner := some ch, offer := none })

/-- A command that changes one scope leaves that scope changed and the others as they were. -/
theorem does_sc {ch op k : Nat} {r : State → Rsp} {g : State → State} {s : State} (f : ScopeSt → ScopeSt) (hk : k < 72)
    (changed : (g (begun ch s)).ssv = ((begun ch s).mdSc k f).ssv) :
    (does ch op r g s).sc k = f (s.sc k) ∧ ∀ j, j ≠ k → (does ch op r g s).sc j = s.sc j := by
  unfold State.sc does
  rw [replies_ssv, changed]
  exact ⟨(begun ch s).mdSc_sc f hk, fun j other => (begun ch s).mdSc_sc_off f (Ne.symm other)⟩

section
variable {ch scope k target value : Nat} {s : State} (h : Serves ch s) (ha : Admits false true false false s)
  (hs : scopeField s.ps scope = some k)
include h ha hs

/-- HANDOVER to a channel notes the offer (13 R389). -/
theorem execHandover_offers (owner : (s.sc k).owner = some ch) (free : (s.sc k).bound = none) (ht : target < 4)
    (hv : value ≤ 511) : execHandover ch scope target value s = .next (does ch 0x0507 (fun _ => okRsp) (offerTo target k) s) := by
  refine hostRow_replies_of_chan h ?_ (raiseEv_chan ..)
  unfold fwHandover
  dsimp only
  refine fwRun_begun hs ha (owns_of_owner owner free) ?_ ?_
  · simp [firstFail, scopeBad_some hs, scopeOf_some hs, owner, Nat.not_lt.2 hv, Nat.not_lt.2 (Nat.le_of_lt ht)]
  · rw [if_neg (by omega), begun_scopeOf, scopeOf_some hs]
    rfl

/-- HANDOVER to the cell bus binds at once, and values received before are no commands (13 R389). -/
theorem execHandover_binds (owner : (s.sc k).owner = some ch) (free : (s.sc k).bound = none) (hv : value ≤ 511) :
    execHandover ch scope 4 value s = .next (does ch 0x0507 (fun _ => okRsp) (bindTo value k) s) := by
  refine hostRow_replies_of_chan h ?_ rfl
  unfold fwHandover
  dsimp only
  refine fwRun_begun hs ha (owns_of_owner owner free) ?_ ?_
  · simp [firstFail, scopeBad_some hs, scopeOf_some hs, owner, Nat.not_lt.2 hv]
  · rw [if_pos rfl, begun_scopeOf, scopeOf_some hs]
    rfl

/-- ACCEPT_HANDOVER by the channel that the offer names (12 R372). -/
theorem execAcceptHandover_takes (offer : (s.sc k).offer = some ch) :
    execAcceptHandover ch scope s = .next (does ch 0x0508 (fun _ => okRsp) (acceptBy ch k) s) := by
  refine hostRow_replies_of_chan h ?_ (raiseEv_chan ..)
  unfold fwAcceptHandover
  dsimp only
  rw [fwRun_free rfl ha (by simp [firstFail, scopeBad_some hs, scopeOf_some hs, offer]), begun_scopeOf, scopeOf_some hs]
  rfl

/-- RECLAIM of a bound scope (13 Table 13-7). -/
theorem execReclaim_takes (bound : (s.sc k).bound.isSome = true) :
    execReclaim ch scope s = .next (does ch 0x0509 (fun _ => okRsp)
      (fun b => b.mdSc k fun c => { c with owner := some ch, bound := none, offer := none }) s) := by
  refine hostRow_does_of_hif h ?_ rfl
  have held : (s.sc k).bound.isNone = false := by rw [← Option.not_isSome, bound]; rfl
  unfold fwReclaim
  dsimp only
  rw [fwRun_free rfl ha (by simp [firstFail, scopeBad_some hs, scopeOf_some hs, held]), begun_scopeOf, scopeOf_some hs]

/-- DISABLE of a scope with another owner is refused (12 R372). -/
theorem execDisable_notOwner {d : Nat} (owner : (s.sc k).owner = some d) (other : d ≠ ch) :
    execDisable ch scope s = .next (reports ch 0x0502 (fun _ => rspOf Sts.NOT_OWNER) s) := by
  refine hostRow_reports h (fwRun_refused ?_)
  have refused : firstFail (gates ch false { a := true, o := scopeField (begun ch s).ps scope } (begun ch s))
      = some Sts.NOT_OWNER := gates_notOwner ha hs h.1 (notOwner_other (s := begun ch s) h.1 owner other)
  exact firstFail_append_refused refused

end

/-- Settles O23: each command passes its checks; an offer leaves the owner, the other three change it. -/
theorem ownershipMoves : Obligations.OwnershipMoves := by
  refine ⟨?_, ?_, ?_, fun _ _ _ _ h ha hs => execReclaim_takes h ha hs, fun _ _ _ _ _ h ha hs => execDisable_notOwner h ha hs⟩
  · intro ch scope k target value s h ha hs owner free ht hv hk
    obtain ⟨here, others⟩ := does_sc (op := 0x0507) (r := fun _ => okRsp) (g := offerTo target k) (s := s) (ch := ch) _ hk rfl
    refine ⟨_, execHandover_offers h ha hs owner free ht hv, replies_rsp _ _ _ _ _ h.1, ?_, ?_, others, replies_axes ..⟩
    · exact (congrArg ScopeSt.owner here).trans owner
    · exact congrArg ScopeSt.offer here
  · intro ch scope k value s h ha hs owner free hv hk
    obtain ⟨here, others⟩ := does_sc (op := 0x0507) (r := fun _ => okRsp) (g := bindTo value k) (s := s) (ch := ch) _ hk rfl
    refine ⟨_, execHandover_binds h ha hs owner free hv, replies_rsp _ _ _ _ _ h.1, ?_, ?_, ?_, others, replies_axes ..⟩
    · exact congrArg ScopeSt.owner here
    · exact congrArg ScopeSt.bound here
    · exact congrArg ScopeSt.offer here
  · intro ch scope k s h ha hs hk offer
    obtain ⟨here, others⟩ := does_sc (op := 0x0508) (r := fun _ => okRsp) (g := acceptBy ch k) (s := s) (ch := ch) _ hk rfl
    refine ⟨_, execAcceptHandover_takes h ha hs offer, replies_rsp _ _ _ _ _ h.1, ?_, ?_, others, replies_axes ..⟩
    · exact congrArg ScopeSt.owner here
    · exact congrArg ScopeSt.offer here

end Sys2Proof.Machine
end

section
/-!
SUPPORT. What faults, errors of units and answers leave standing: the confirmation record, the engineers and the mode, the
pairing secret, the journal, the fuses, and the sessions. A wipe takes the first of these away (15 R447, R448).
-/
namespace Sys2Proof.Machine

/-- What a reaction of the controller leaves standing. -/
structure Standing where
  conf : Option ConfirmRec
  eng : List Engineer
  mode : OpMode
  secret : Option Bytes
  journal : Option SecureImg
  erasing : Bool
  wipeCause : Nat
  fuses : FuseSt
  sessions : Fin 4 → Bool × Nat

/-- What stands in a state. -/
def State.standing (s : State) : Standing where
  conf := s.ssv.conf
  eng := s.ssv.eng
  mode := s.ssv.mode
  secret := s.mlc.secret
  journal := s.ldg.journal
  erasing := s.ldg.erasing
  wipeCause := s.ldg.wipeCause
  fuses := s.hlt.fuses
  sessions c := ((s.chan c).open_, (s.chan c).token)

section
variable (s : State)

/-- A change of channels that opens none, closes none and gives no token. -/
theorem standing_channels (h : HifSt) (same : ∀ c < 4, (vrd h.ch c).open_ = (s.chan c).open_ ∧ (vrd h.ch c).token = (s.chan c).token) :
    ({ s with hif := h } : State).standing = s.standing := by
  have sessions : (fun c : Fin 4 => ((vrd h.ch c).open_, (vrd h.ch c).token)) = fun c : Fin 4 => ((s.chan c).open_, (s.chan c).token) :=
    funext fun c => Prod.ext (same c c.isLt).1 (same c c.isLt).2
  exact congrArg (Standing.mk s.ssv.conf s.ssv.eng s.ssv.mode s.mlc.secret s.ldg.journal s.ldg.erasing s.ldg.wipeCause s.hlt.fuses)
    sessions

omit s in
/-- A choice between two states of which the same stands. -/
theorem ite_standing {p : Prop} [Decidable p] {t u : State} {x : Standing} (ht : t.standing = x) (hu : u.standing = x) :
    (if p then t else u).standing = x := by
  split
  · exact ht
  · exact hu

theorem mdChan_standing (c : Nat) (f : ChanSt → ChanSt) (same : ∀ x, (f x).open_ = x.open_ ∧ (f x).token = x.token) :
    (s.mdChan c f).standing = s.standing := by
  refine standing_channels s _ fun d hd => ?_
  by_cases e : c = d
  · subst e
    exact ⟨(congrArg ChanSt.open_ (vrd_vmd_same hd)).trans (same _).1, (congrArg ChanSt.token (vrd_vmd_same hd)).trans (same _).2⟩
  · exact ⟨congrArg ChanSt.open_ (vrd_vmd_off e), congrArg ChanSt.token (vrd_vmd_off e)⟩

@[simp] theorem raiseEv_standing (ev st sub hi lo : Nat) : (raiseEv ev st sub hi lo s).standing = s.standing :=
  standing_channels _ _ fun c _ => by
    have := raiseEv_chan ev st sub hi lo c s
    exact ⟨congrArg ChanSt.open_ this, congrArg ChanSt.token this⟩

/-- What stands includes the sessions. -/
theorem session_of_standing {c : Nat} {s t : State} (h : c < 4) (same : t.standing = s.standing) :
    (t.chan c).open_ = (s.chan c).open_ ∧ (t.chan c).token = (s.chan c).token :=
  Prod.ext_iff.1 (congrFun (congrArg Standing.sessions same) ⟨c, h⟩)

@[simp] theorem raiseChan_standing (c st ticket op progress kind : Nat) :
    (raiseChan c st ticket op progress kind s).standing = s.standing := raiseEv_standing ..

/-! ### Answers and tickets -/

@[simp] theorem mirSend_standing (typ cycle addr len : Nat) (due : Option Time) :
    (mirSend typ cycle addr len due s).standing = s.standing := rfl

@[simp] theorem mirDelta_standing (addr len : Nat) : (mirDelta addr len s).standing = s.standing := by
  unfold mirDelta
  split
  · rfl
  · exact List.foldlRecOn (motive := fun t : State => t.standing = s.standing) _ _ rfl fun _ h _ _ => h

theorem newTicket_standing (c op : Nat) : (newTicket c op s).2.standing = s.standing := by
  unfold newTicket
  rw [mirDelta_standing]
  rfl

@[simp] theorem endTicket_standing (num state final : Nat) : (endTicket num state final s).standing = s.standing := by
  unfold endTicket
  split
  · rfl
  · rw [raiseChan_standing, mirDelta_standing]
    rfl

@[simp] theorem finishTicket_standing (num status : Nat) : (finishTicket num status s).standing = s.standing :=
  endTicket_standing ..

@[simp] theorem storeRsp_standing (c seq crc op : Nat) (r : Rsp) : (storeRsp c seq crc op r s).standing = s.standing := by
  unfold storeRsp
  rw [mirDelta_standing, mirDelta_standing]
  exact mdChan_standing _ _ _ fun _ => ⟨rfl, rfl⟩

@[simp] theorem writeRsp_standing (c n op token seq : Nat) (dup : Bool) (ext : Option (Nat × Nat)) (r : Rsp) :
    (writeRsp c n op token seq dup ext r s).standing = s.standing := by
  unfold writeRsp
  extract_lets st d s1
  have put : s1.standing = s.standing := by
    unfold s1
    cases d <;> rfl
  refine (mdChan_standing (ramPut _ _ s1) c _ fun _ => ?_).trans put
  exact ⟨rfl, rfl⟩

@[simp] theorem answer_standing (c seq : Nat) (r : Rsp) : (answer c seq r s).standing = s.standing := by
  unfold answer
  split
  · rfl
  · dsimp only
    split
    · rw [writeRsp_standing, storeRsp_standing]
      exact mdChan_standing _ _ _ fun _ => ⟨rfl, rfl⟩
    · rw [storeRsp_standing]
      exact mdChan_standing _ _ _ fun _ => ⟨rfl, rfl⟩

/-! ### Faults -/

@[simp] theorem failHoming_standing (k status : Nat) : (failHoming k status s).standing = s.standing := by
  refine List.foldlRecOn (motive := fun t : State => t.standing = s.standing) _ _ rfl fun t h n _ => ?_
  split
  · exact h
  · rw [finishTicket_standing]
    exact h

@[simp] theorem abortBrakeTest_standing (k : Nat) : (abortBrakeTest k s).standing = s.standing := by
  unfold abortBrakeTest
  split
  · rfl
  split
  · rfl
  · rw [raiseEv_standing, endTicket_standing]
    rfl

@[simp] theorem withdraw_standing (k : Nat) : (withdraw k s).standing = s.standing := by
  unfold withdraw
  dsimp only
  split <;> rfl

@[simp] theorem tileShut_standing (k : Nat) : (tileShut k s).standing = s.standing := by
  unfold tileShut
  split
  · rfl
  · exact withdraw_standing s k

@[simp] theorem faultSides_standing (k status : Nat) : (faultSides k status s).standing = s.standing := by
  unfold faultSides
  rw [tileShut_standing, abortBrakeTest_standing, failHoming_standing]
  rfl

@[simp] theorem beginMeas_standing (k : Nat) (t : Time) (ticket : Option Nat) : (beginMeas k t ticket s).standing = s.standing := by
  unfold beginMeas
  split <;> rfl

@[simp] theorem putSto_standing (o : Nat) (on : Bool) : (putSto o on s).standing = s.standing := by
  unfold putSto
  split <;> rfl

@[simp] theorem openPair_standing (k : Nat) : (openPair k s).standing = s.standing := by
  unfold openPair
  split <;> rfl

/-- The torque and the brakes of a scope under F2 (09 R265). -/
@[simp] theorem f2One_standing (k status rank : Nat) : (f2One k status rank s).standing = s.standing := by
  unfold f2One
  extract_lets c cut s1 s2 s3 s4 s5
  have off (t : State) : (cut t).standing = t.standing := by
    unfold cut
    extract_lets t1 t2
    have sto : t2.standing = t.standing := by
      unfold t2
      split
      · exact putSto_standing ..
      · rfl
    split
    · exact (openPair_standing ..).trans sto
    · exact sto
  refine ite_standing (ite_standing (off s) (off s)) ?_
  have measured : s2.standing = s.standing := by
    unfold s2
    rw [beginMeas_standing, faultSides_standing, off]
  have stripped : s3.standing = s.standing := ite_standing measured measured
  exact (raiseEv_standing ..).trans stripped

@[simp] theorem faultF2_standing (k status rank : Nat) : (faultF2 k status rank s).standing = s.standing := by
  unfold faultF2
  split
  · rfl
  · exact List.foldlRecOn (motive := fun t : State => t.standing = s.standing) _ _ rfl fun t h c _ => (f2One_standing t ..).trans h

@[simp] theorem faultF2s_standing (ks : List Nat) (status rank : Nat) : (faultF2s ks status rank s).standing = s.standing :=
  List.foldlRecOn (motive := fun t : State => t.standing = s.standing) _ _ rfl fun t h _ _ => (faultF2_standing t ..).trans h

@[simp] theorem ttcTo_standing (st : TtcState) : (ttcTo st s).standing = s.standing := by
  unfold ttcTo
  split
  · rfl
  · exact raiseEv_standing ..

@[simp] theorem ttcDrop_standing : (ttcDrop s).standing = s.standing := by
  unfold ttcDrop
  dsimp only
  split
  · exact ttcTo_standing ..
  split
  · exact ttcTo_standing ..
  · rfl

@[simp] theorem dropAuthority_standing : (dropAuthority s).standing = s.standing := by
  unfold dropAuthority
  rw [ttcDrop_standing]
  refine standing_channels _ _ fun c hc => ?_
  dsimp only
  rw [vrd_vmapI hc]
  exact ⟨rfl, rfl⟩

@[simp] theorem castleFail_standing (status port : Nat) : (castleFail status port s).standing = s.standing := by
  unfold castleFail
  split
  · rfl
  · dsimp only
    split
    · exact raiseEv_standing ..
    · rw [finishTicket_standing]
      exact raiseEv_standing ..

@[simp] theorem shadowTo_standing (st : ShState) (cause : Nat) : (shadowTo st cause s).standing = s.standing := by
  unfold shadowTo
  extract_lets m s1 s2
  have castling : s2.standing = s.standing := ite_standing (castleFail_standing ..) rfl
  exact ite_standing castling ((raiseEv_standing ..).trans castling)

@[simp] theorem depose_standing : (depose s).standing = s.standing := shadowTo_standing ..

@[simp] theorem ownApply_standing (k : Nat) : (ownApply k s).standing = s.standing := by
  unfold ownApply
  exact ite_standing rfl (ite_standing rfl (raiseEv_standing ..))

@[simp] theorem faultF3_standing (inside : Bool) (status : Nat) : (faultF3 inside status s).standing = s.standing := by
  unfold faultF3
  extract_lets first ssv s1 hand s2 s3 s4 s5
  have told : s2.standing = s.standing := ite_standing (raiseEv_standing ..) rfl
  have castling : s3.standing = s.standing := ite_standing ((castleFail_standing ..).trans told) told
  have stopped : s5.standing = s.standing := (faultF2s_standing ..).trans castling
  refine ite_standing ?_ (ite_standing ?_ stopped)
  · rw [raiseEv_standing, depose_standing, mirSend_standing, dropAuthority_standing, castling]
  · exact List.foldlRecOn (motive := fun t : State => t.standing = s.standing) _ _ stopped
      fun t h k _ => (ownApply_standing t k).trans h

/-! ### Units -/

@[simp] theorem poolEvents_standing (cls idx : Nat) : (poolEvents cls idx s).standing = s.standing := by
  unfold poolEvents
  dsimp only
  split
  · exact raiseEv_standing ..
  split
  · exact raiseEv_standing ..
  · rfl

@[simp] theorem tileLost_standing (tile : Nat) (next : Option Nat) : (tileLost tile next s).standing = s.standing := by
  unfold tileLost
  split
  · rfl
  · dsimp only
    split <;> rfl

@[simp] theorem laneOut_standing (i : Nat) : (laneOut i s).standing = s.standing := by
  unfold laneOut
  dsimp only
  split
  · exact raiseEv_standing ..
  · rfl

@[simp] theorem takeover_standing (cls idx spare : Nat) : (takeover cls idx spare s).standing = s.standing := by
  unfold takeover
  split
  · exact tileLost_standing ..
  · split <;> rfl
  · exact laneOut_standing ..
  all_goals rfl

@[simp] theorem poolEmpty_standing (cls idx status : Nat) : (poolEmpty cls idx status s).standing = s.standing := by
  unfold poolEmpty
  split
  · split
    · exact faultF2_standing ..
    · rfl
  · exact tileLost_standing ..
  · exact faultF3_standing ..
  · exact laneOut_standing ..
  · rfl
  · rfl
  · exact faultF3_standing ..
  · rfl

theorem suspectUnit_standing (cls idx status : Nat) (cmd : Option Nat) :
    (suspectUnit cls idx status cmd s).standing = s.standing := by
  unfold suspectUnit
  dsimp only
  split
  · rfl
  · rfl
  · rw [poolEvents_standing, raiseEv_standing]
    rfl
  · rw [raiseEv_standing]
    split
    · rw [poolEvents_standing, takeover_standing]
      split <;> rfl
    · split
      · exact poolEmpty_standing ..
      · exact poolEvents_standing ..

theorem suspect_standing (cls idx status : Nat) (cmd : Option Nat) : (suspect cls idx status cmd s).standing = s.standing := by
  unfold suspect
  split
  · split
    · exact suspectUnit_standing ..
    · exact suspectUnit_standing ..
  · exact suspectUnit_standing ..

end

/-! ### The wipe -/

/-- What stands after the mode changes. -/
theorem setMode_standing (m : OpMode) (s : State) : (setMode m s).standing = { s.standing with mode := m } := by
  unfold setMode
  dsimp only
  split
  · rfl
  · exact raiseEv_standing ..

/-- What a wipe leaves of what stood, but for the mode: neither record nor engineers, neither secret nor journal, and one more
fuse burned (15 R448). -/
def Standing.wiped (cause : Nat) (x : Standing) : Standing := { x with
  conf := none, eng := [], secret := none, journal := none, erasing := true, wipeCause := cause
  fuses := { x.fuses with wipes := min 64 (x.fuses.wipes + 1) } }

/-- The commands that wait for the set are answered and the flash writes end first; the region goes, and the scopes stop. -/
theorem wipe_standing (cause : Nat) (s : State) :
    (wipe cause s).standing = { s.standing.wiped cause with mode := .uncommissioned } := by
  unfold wipe
  extract_lets paired fw answered sets ended n ex ssv hif mlc ldg hlt fuses gone told shadow logged sealed left
  have waiting : answered.standing = s.standing := by
    refine List.foldlRecOn (motive := fun t : State => t.standing = s.standing) _ _ rfl fun t h x _ => ?_
    split
    · exact (answer_standing ..).trans h
    · exact h
  have writes : ended.standing = s.standing :=
    List.foldlRecOn (motive := fun t : State => t.standing = s.standing) _ _ waiting fun t h _ _ => (finishTicket_standing t ..).trans h
  have region : gone.standing = s.standing.wiped cause := by
    rw [← writes]
    exact (standing_channels { ended with ssv := gone.ssv, mlc := gone.mlc, ldg := gone.ldg, hlt := gone.hlt } _ fun c hc => by
      rw [show vrd gone.hif.ch c = _ from vrd_vmapI hc]
      exact ⟨rfl, rfl⟩)
  have event : told.standing = s.standing.wiped cause := ite_standing ((raiseEv_standing ..).trans region) region
  have absent : shadow.standing = s.standing.wiped cause := ite_standing ((shadowTo_standing ..).trans event) event
  have log : logged.standing = s.standing.wiped cause := (raiseEv_standing ..).trans absent
  have last : sealed.standing = s.standing.wiped cause := ite_standing ((raiseEv_standing ..).trans log) log
  rw [faultF2s_standing, setMode_standing, last]

/-- Settles O53: what stands after a wipe. -/
theorem wipeForgets : Obligations.WipeForgets := by
  intro cause s t
  have stands : t.standing = { s.standing.wiped cause with mode := .uncommissioned } := wipe_standing cause s
  clear_value t
  exact ⟨congrArg Standing.conf stands, congrArg Standing.eng stands, congrArg Standing.secret stands,
    congrArg Standing.mode stands, congrArg Standing.journal stands, congrArg Standing.erasing stands,
    congrArg Standing.wipeCause stands, congrArg (fun x => x.fuses.wipes) stands⟩

/-! ### Life cycle and self-tests -/

section
variable {ch : Nat} {s : State} (h : Serves ch s)
include h

omit h in
theorem storeRsp_leaves (seq crc op : Nat) (r : Rsp) (s : State) :
    ∃ x m, storeRsp ch seq crc op r s = { s with hif := x, mlc := m } := by
  unfold storeRsp
  rw [(mirDelta_eq ..).choose_spec]
  obtain ⟨m, e⟩ := mirDelta_eq (ledStored ch seq) (68 + r.body.length + r.bulk.length) (s.mdChan ch fun x => { x with
    rsp := r, stored := keepRsp { seq := seq, crc := crc, opcode := op, payload := leBytes 2 r.status ++ leBytes 2 0 ++ r.body,
                                  bulk := r.bulk } x.stored })
  rw [e]
  exact ⟨_, _, rfl⟩

omit h in
/-- A command given on a channel changes the host interface and the mirror link beside its own effect. -/
theorem execReq_leaves (crc op : Nat) (f : State → FwRes) (s : State) :
    ∃ x m, execReq ch crc op none none f s = { (f s).2 with hif := x, mlc := m } := by
  unfold execReq
  dsimp only
  split
  · split
    · obtain ⟨x, m, e⟩ := storeRsp_leaves (ch := ch) (s.chan ch).expect_ crc op _ _
      exact ⟨x, m, e⟩
    · exact ⟨_, _, rfl⟩
  · exact ⟨_, _, rfl⟩

omit h in
/-- The fuses of a part that is RETIRED (16 Table 16-7). -/
theorem retireEffect_standing (u : State) : (retireEffect u).standing = { ({ u.standing with
    fuses := { u.hlt.fuses with retiredGrp := 255, wipes := 64 } } : Standing).wiped 4 with mode := .uncommissioned } := by
  unfold retireEffect
  extract_lets hlt fuses retired wiped
  have gone : wiped.standing = _ := wipe_standing 4 _
  rw [raiseEv_standing] at gone
  clear_value wiped
  rw [ttcDrop_standing]
  exact gone

omit h in
theorem retireEffect_authority (u : State) : (retireEffect u).dl.authority = false := by
  unfold retireEffect
  extract_lets hlt fuses retired wiped
  rw [ttcDrop_dl]

/-- RETIRE with its key and a passcode that opens, nothing ENABLED, makes the part RETIRED (16 R463). -/
theorem execRetire_retires {eng : Nat} {pass : Bytes} {u : State} (ha : Admits false false false false s)
    (idle : s.anyBusy = false) (test : passTest eng pass (begun ch s) = (Sts.OK, u)) :
    ∃ x m, execRetire ch eng 0x6408 pass s = .next { retireEffect u with hif := x, mlc := m } := by
  have effect : (fwRetire ch false eng 0x6408 pass (begun ch s)).2 = retireEffect u := by
    unfold fwRetire
    rw [fwRun_free rfl ha (by rw [begun_anyBusy, idle]; rfl)]
    dsimp only
    rw [test]
    exact if_pos rfl
  obtain ⟨x, m, e⟩ := execReq_leaves (ch := ch) (Config.free32 s.fresh).toNat 0x0C02 (fwRetire ch false eng 0x6408 pass) (begun ch s)
  exact ⟨x, m, by unfold execRetire; rw [hostRow_serves h, e, effect]⟩

/-- SELF_TEST of a unit that may leave service takes a ticket and makes it SUSPECT (16 R456). -/
theorem execSelfTest_accepts {cls idx : Nat} (ha : Admits false true false false s) (known : isUnit cls idx = true)
    (kept : (s.unit cls idx).st ≠ .retired) (idle : (s.unit cls idx).st ≠ .suspect)
    (spare : (s.unit cls idx).st = .inService → hasPool cls = true → (s.spareFor cls idx).isSome = true)
    (room : s.hif.running ch (s.chan ch).token < 8) :
    let k := newTicket ch 0x0C03 (begun ch s)
    execSelfTest ch cls idx s = .next (replies ch 0x0C03 (acceptedRsp k.1) s (suspect cls idx Sts.OK (some k.1) k.2)) := by
  have same (e) : (suspect cls idx Sts.OK e (newTicket ch 0x0C03 (begun ch s)).2).standing = (begun ch s).standing :=
    (suspect_standing ..).trans (newTicket_standing ..)
  have passes : ((!isUnit cls idx || decide ((s.unit cls idx).st = .retired)) = false)
      ∧ (decide ((s.unit cls idx).st = .suspect)
        || decide ((s.unit cls idx).st = .inService) && hasPool cls && (s.spareFor cls idx).isNone) = false := by
    refine ⟨by simp [known, kept], ?_⟩
    by_cases serving : (s.unit cls idx).st = .inService ∧ hasPool cls = true
    · have := spare serving.1 serving.2
      rw [← Option.not_isSome, this, decide_eq_false idle]
      simp
    · rcases Classical.not_and_iff_not_or_not.1 serving with e | e <;> simp [e, idle]
  refine hostRow_replies h ?_ ((session_of_standing h.1 (same _)).1.trans (begun_chan_open h))
    ((session_of_standing h.1 (same _)).2.trans (begun_chan_token h))
  unfold fwSelfTest
  dsimp only
  rw [fwRun_free rfl ha, ticketFor_channel h.1]
  rw [show (begun ch s).unit cls idx = s.unit cls idx from rfl, show (begun ch s).spareFor cls idx = s.spareFor cls idx from rfl,
    passes.1, passes.2, ticketsFull_begun h room]
  rfl

end

/-- Settles O32: a report, a part that is RETIRED and wiped, and a unit that leaves service for its test. -/
theorem lifeCycleCommands : Obligations.LifeCycleCommands := by
  refine ⟨fun _ _ h => hostRow_reads h, ?_, fun _ _ _ _ h ha known kept idle spare room =>
    execSelfTest_accepts h ha known kept idle spare room⟩
  intro ch eng pass s u h ha idle test
  obtain ⟨x, m, e⟩ := execRetire_retires h ha idle test
  have stands := retireEffect_standing u
  have authority := retireEffect_authority u
  generalize retireEffect u = v at e stands authority
  refine ⟨_, e, ?_, congrArg Standing.conf stands, congrArg Standing.eng stands, authority, congrArg Standing.wipeCause stands⟩
  exact (congrArg (fun x => x.fuses.state) stands).trans (if_pos (show 5 ≤ bitCount 255 by decide))

end Sys2Proof.Machine
end

section
/-!
SUPPORT. The Ledger: the ply of a request that is alone on its bank and what its access does (15 R431, R432, R435), holds, masks
and tables (15 R437, R438, R440), lock words (15 R443), scrubbing, the journal and tampering (15 R432 to R434, R447, R448).
-/
namespace Sys2Proof.Machine

/-! ### Banks and requesters -/

section
variable (b : BankSt) (now : Time) (n : Nat) (compute : Bool)

/-- Counting plies changes the counts of the present millisecond only (15 Table 15-5). -/
theorem BankSt.count_eq : ∃ claim plies used msAt, b.count now n compute
    = { b with claim := claim, plies := plies, used := used, msAt := msAt } := by
  unfold BankSt.count
  dsimp only
  split <;> exact ⟨_, _, _, _, rfl⟩

@[simp] theorem BankSt.count_fix : (b.count now n compute).fix = b.fix := by
  obtain ⟨_, _, _, _, e⟩ := b.count_eq now n compute
  rw [e]
@[simp] theorem BankSt.count_corr : (b.count now n compute).corr = b.corr := by
  obtain ⟨_, _, _, _, e⟩ := b.count_eq now n compute
  rw [e]
@[simp] theorem BankSt.count_fillTo : (b.count now n compute).fillTo = b.fillTo := by
  obtain ⟨_, _, _, _, e⟩ := b.count_eq now n compute
  rw [e]

end

theorem mdBank_bank {s : State} {b : Nat} (f : BankSt → BankSt) (h : b < 32) :
    vrd (s.mdBank b f).ldg.banks b = f (vrd s.ldg.banks b) := vrd_vmd_same h

theorem mdBank_bank_off {s : State} {b c : Nat} (f : BankSt → BankSt) (h : c ≠ b) :
    vrd (s.mdBank b f).ldg.banks c = vrd s.ldg.banks c := vrd_vmd_off (Ne.symm h)

/-- What a read delivers does not hang on the arbiter. -/
theorem mdBank_ldgByte (s : State) (b : Nat) (f : BankSt → BankSt) (a : Nat) : (s.mdBank b f).ldgByte a = s.ldgByte a := by
  have pieces : (s.mdBank b f).secPieces = s.secPieces := rfl
  unfold State.ldgByte
  rw [pieces, State.mdBank_hif]
  rfl

theorem bankOf_lt (a : Nat) : bankOf a < 32 := Nat.mod_lt _ (by decide)

/-! ### The ply of a request alone on its bank -/

/-- A request that nobody contests wins, whoever the ply is named for (15 R435). -/
theorem plyWinner_alone (rank : List Nat) {k : BankSt} (named : Nat) (r : LReq) (free : k.span = false) :
    plyWinner rank k named [r] = some r := by
  have first : (if named < 21 then [r].find? (fun x => x.req == named) else none) = some r
      ∨ (if named < 21 then [r].find? (fun x => x.req == named) else none) = none := by
    by_cases known : named < 21
    · by_cases mine : r.req = named <;> simp [known, mine]
    · simp [known]
  unfold plyWinner
  rw [free]
  rcases first with e | e
  · rw [e]
    rfl
  · rw [e]
    cases compute : isCompute r.req <;> simp [compute, bestRank]

/-- The bank after a ply that it grants to a request, the only one presented (15 R435). -/
def LReq.taken (r : LReq) (now : Time) (k : BankSt) : BankSt :=
  { k.count now r.plies (isCompute r.req) with waiting := [], owner := r.req, span := false, run := 0 }

/-- Alone on a bank that nobody holds, an access of at least one byte is performed in this ply (15 R431, R435). -/
theorem plyOf_alone {b len err : Nat} {r : LReq} {s : State} (free : (vrd s.ldg.banks b).span = false)
    (alone : (vrd s.ldg.banks b).waiting = []) (access : r.write = true ∨ 0 < len) :
    plyOf b r len err s = perform r len err (s.mdBank b (r.taken s.cyc.now)) := by
  have hold : (r.data.isEmpty && !r.write && decide (len = 0) && r.req == r.req) = false := by
    rcases access with w | l
    · simp [w]
    · simp [Nat.ne_of_gt l]
  unfold plyOf
  dsimp only
  rw [alone]
  simp only [List.find?_nil, List.filter_nil, plyWinner_alone _ _ _ free, hold, bne_self_eq_false, List.filter_cons, List.map_nil,
    Bool.false_eq_true, if_false, List.foldl_nil, List.append_nil, if_true]
  rfl

section
variable {r : LReq} {len : Nat} {s : State} (good : s.ldg.bad.contains (r.addr / 8 * 8) = false)
include good

/-- A read of a word without an error delivers its bytes (15 R431, R432). -/
theorem perform_read (read : r.write = false) : perform r len 0 s = { s with ldg := { s.ldg with
    readData := some ((List.range len).map fun i => s.ldgByte (r.addr + r.off + i)) } } := by
  unfold perform
  dsimp only
  rw [good, read]
  rfl

/-- A write of a word without an error changes its bytes; a whole word takes it off the list of the bad ones (15 R431). -/
theorem perform_write (write : r.write = true) : perform r len 0 s = { s with ldg := { s.ldg with
    mem := memWrite s.ldg.mem (r.addr + r.off) r.data
    bad := if r.data.length < 8 then s.ldg.bad else s.ldg.bad.filter (· != r.addr / 8 * 8) } } := by
  unfold perform
  dsimp only
  rw [good, write]
  rfl

end

/-! ### Requests -/

/-- The request that a command presents to the bank of its address (15 R431). -/
def wordReq (req addr : Nat) (write : Bool) (data : Bytes) : LReq :=
  { req := req, addr := addr / 8 * 8, off := addr % 8, write := write, data := if write then data.take (8 - addr % 8) else [] }

section
variable {req addr : Nat} (len : Nat) {write : Bool} (data : Bytes) (err : Nat) {s : State} (hr : req < 21) (ha : addr < 0x800000)
include hr ha

theorem execLedgerRequest_masked (masked : (vrd s.ldg.reqs req).masked = true) :
    execLedgerRequest req addr len write data err s = .next s := by
  unfold execLedgerRequest
  rw [onUnit_in hr, onUnit_in ha]
  exact congrArg Host.Outcome.next (if_pos masked)

variable (unmasked : (vrd s.ldg.reqs req).masked = false)
include unmasked

theorem execLedgerRequest_refused (refused : s.mayAccess req addr write = false) :
    execLedgerRequest req addr len write data err s = .next (protViol req write s) := by
  unfold execLedgerRequest
  dsimp only
  rw [onUnit_in hr, onUnit_in ha, unmasked, refused]
  rfl

/-- A request that the matrix admits, alone on a bank that nobody holds, to a word that is not bad, is performed. -/
theorem execLedgerRequest_performs (admitted : s.mayAccess req addr write = true)
    (free : (vrd s.ldg.banks (bankOf addr)).span = false) (alone : (vrd s.ldg.banks (bankOf addr)).waiting = [])
    (access : write = true ∨ 0 < len) :
    execLedgerRequest req addr len write data 0 s = .next (perform (wordReq req addr write data) (min len (8 - addr % 8)) 0
      (s.mdBank (bankOf addr) ((wordReq req addr write data).taken s.cyc.now))) := by
  have some_byte : (wordReq req addr write data).write = true ∨ 0 < min len (8 - addr % 8) :=
    access.imp id fun l => by omega
  rw [← plyOf_alone free alone some_byte]
  unfold execLedgerRequest
  dsimp only
  rw [onUnit_in hr, onUnit_in ha, unmasked, admitted]
  rfl

end

section
variable {req addr len : Nat} {data : Bytes} {s : State} (hr : req < 21) (ha : addr < 0x800000)
  (unmasked : (vrd s.ldg.reqs req).masked = false) (free : (vrd s.ldg.banks (bankOf addr)).span = false)
  (alone : (vrd s.ldg.banks (bankOf addr)).waiting = []) (good : s.ldg.bad.contains (addr / 8 * 8) = false)
include hr ha unmasked free alone good

omit hr ha unmasked free alone in
theorem wordReq_good (write : Bool) : s.ldg.bad.contains ((wordReq req addr write data).addr / 8 * 8) = false := by
  rw [show (wordReq req addr write data).addr / 8 * 8 = addr / 8 * 8 from by unfold wordReq; dsimp only; omega]
  exact good

/-- A read delivers the bytes from its address on, and leaves memory and the other banks. -/
theorem execLedgerRequest_reads (admitted : s.mayAccess req addr false = true) (some_byte : 0 < len) :
    ∃ t, execLedgerRequest req addr len false data 0 s = .next t ∧ t.ldg.mem = s.ldg.mem
      ∧ t.ldg.readData = some ((List.range (min len (8 - addr % 8))).map fun i => s.ldgByte (addr + i))
      ∧ t.axes = s.axes ∧ t.ssv = s.ssv ∧ ∀ c, c ≠ bankOf addr → vrd t.ldg.banks c = vrd s.ldg.banks c := by
  refine ⟨_, execLedgerRequest_performs len data hr ha unmasked admitted free alone (.inr some_byte), ?_⟩
  rw [perform_read (s := s.mdBank _ _) (wordReq_good good false) rfl]
  refine ⟨rfl, ?_, rfl, rfl, fun c other => mdBank_bank_off _ other⟩
  have place : addr / 8 * 8 + addr % 8 = addr := by omega
  simp only [wordReq, place, mdBank_ldgByte]

/-- A write changes the bytes that it writes and no other. -/
theorem execLedgerRequest_writes (admitted : s.mayAccess req addr true = true) :
    ∃ t, execLedgerRequest req addr len true data 0 s = .next t
      ∧ (∀ a, memByte t.ldg.mem a = if addr ≤ a ∧ a < addr + min data.length (8 - addr % 8) then data.getD (a - addr) 0
        else memByte s.ldg.mem a) ∧ t.ldg.readData = s.ldg.readData ∧ t.axes = s.axes ∧ t.ssv = s.ssv := by
  refine ⟨_, execLedgerRequest_performs len data hr ha unmasked admitted free alone (.inl rfl), ?_⟩
  rw [perform_write (s := s.mdBank _ _) (wordReq_good good true) rfl]
  refine ⟨fun a => ?_, rfl, rfl, rfl⟩
  have place : addr / 8 * 8 + addr % 8 = addr := by omega
  simp only [wordReq, place, if_true]
  rw [show ∀ k : BankSt → BankSt, (s.mdBank (bankOf addr) k).ldg.mem = s.ldg.mem from fun _ => rfl, memByte_memWrite,
    List.length_take, Nat.min_comm]
  by_cases inside : addr ≤ a ∧ a < addr + min data.length (8 - addr % 8)
  · rw [if_pos inside, if_pos inside, List.getD_eq_getElem?_getD, List.getD_eq_getElem?_getD, List.getElem?_take_of_lt (by omega)]
  · rw [if_neg inside, if_neg inside]

end

/-! ### Holds, masks and tables -/

section
variable {req bank : Nat} {s : State}

/-- A waiting request takes the bank's ply again, at its own ply or later (15 R437). -/
theorem execLedgerBackoffExpiry_presents {r : LReq} (hr : req < 21) (hb : bank < 32)
    (unmasked : (vrd s.ldg.reqs req).masked = false)
    (waits : (vrd s.ldg.banks bank).waiting.find? (fun r => r.req == req) = some r) :
    execLedgerBackoffExpiry req bank s
      = .next (plyOf bank r (8 - r.off) 0 (s.mdBank bank fun k => { k with plies := max k.plies r.again })) := by
  unfold execLedgerBackoffExpiry
  rw [onUnit_in hr, onUnit_in hb, waits, unmasked]
  rfl

/-- When a hold is cut: with GH_EN, the grant held by the requester (15 R438). -/
theorem holdCut_guard : ((vrd s.ldg.reqs req).ghEn = true ∧ (vrd s.ldg.banks bank).span = true
    ∧ (vrd s.ldg.banks bank).owner = req) ↔ ((vrd s.ldg.reqs req).ghEn && (vrd s.ldg.banks bank).span
      && (vrd s.ldg.banks bank).owner == req) = true := by
  simp [and_assoc]

theorem execHoldCut_revokes (hr : req < 21) (hb : bank < 32) (enabled : (vrd s.ldg.reqs req).ghEn = true)
    (held : (vrd s.ldg.banks bank).span = true) (own : (vrd s.ldg.banks bank).owner = req) :
    execHoldCut req bank s = .next (unitError req false ((s.mdBank bank fun k =>
      { k.count s.cyc.now ((vrd s.ldg.reqs req).ghLimit - k.run) (isCompute req) with span := false, run := 0 }).mdReq req
        fun q => { q with holdCuts := incSat 255 q.holdCuts })) :=
  (onUnit_in hr).trans ((onUnit_in hb).trans (congrArg Host.Outcome.next (if_pos (holdCut_guard.1 ⟨enabled, held, own⟩))))

theorem execHoldCut_stays (hr : req < 21) (hb : bank < 32) (off : (vrd s.ldg.reqs req).ghEn = false
    ∨ (vrd s.ldg.banks bank).span = false ∨ (vrd s.ldg.banks bank).owner ≠ req) : execHoldCut req bank s = .next s := by
  refine (onUnit_in hr).trans ((onUnit_in hb).trans (congrArg Host.Outcome.next (if_neg fun h => ?_)))
  obtain ⟨enabled, held, own⟩ := holdCut_guard.2 h
  rcases off with e | e | e
  · exact absurd (enabled.symm.trans e) (by decide)
  · exact absurd (held.symm.trans e) (by decide)
  · exact e own

/-- A bank without a requester: what it presents goes, and a grant that it holds (15 R438). -/
def BankSt.without (req : Nat) (k : BankSt) : BankSt :=
  { k with waiting := k.waiting.filter (fun r => r.req != req), span := k.span && k.owner != req
           run := if k.owner == req then 0 else k.run }

/-- A requester is masked: every bank is without it, and its locks are broken (15 R438, R443). -/
def maskRequester (req : Nat) (s : State) : State :=
  let s := s.mdReq req fun q => { q with masked := true }
  breakLocks req { s with ldg := { s.ldg with banks := vmapI s.ldg.banks fun _ k => k.without req } }

theorem execSidebandMask_masks (hr : req < 21) (enabled : (vrd s.ldg.reqs req).sbEn = true) :
    execSidebandMask req true s = .next (maskRequester req s) := by
  unfold execSidebandMask
  dsimp only
  rw [onUnit_in hr, enabled]
  rfl

theorem execSidebandMask_unmasks (hr : req < 21) (enabled : (vrd s.ldg.reqs req).sbEn = true) :
    execSidebandMask req false s = .next (s.mdReq req fun q => { q with masked := false }) := by
  unfold execSidebandMask
  dsimp only
  rw [onUnit_in hr, enabled]
  rfl

theorem maskRequester_req (hr : req < 21) : (vrd (maskRequester req s).ldg.reqs req).masked = true :=
  congrArg ReqSt.masked (vrd_vmd_same (by omega))

theorem maskRequester_bank (hb : bank < 32) :
    vrd (maskRequester req s).ldg.banks bank = (vrd s.ldg.banks bank).without req := vrd_vmapI hb

theorem maskRequester_lock {l : Nat} (hl : l < 64) : vrd (maskRequester req s).ldg.locks l
    = if (vrd s.ldg.locks l).state = 1 ∧ (vrd s.ldg.locks l).owner = req
      then { vrd s.ldg.locks l with state := 2, owner := 0 } else vrd s.ldg.locks l := vrd_vmapI hl

/-- What a masked requester loses in a bank. -/
theorem BankSt.without_spec (k : BankSt) (req : Nat) : (∀ r ∈ (k.without req).waiting, r.req ≠ req)
    ∧ (k.owner = req → (k.without req).span = false) ∧ (k.owner ≠ req → (k.without req).span = k.span) := by
  refine ⟨fun r hr => ?_, fun own => ?_, fun other => ?_⟩
  · simpa using (List.mem_filter.1 hr).2
  · simp [BankSt.without, own]
  · simp [BankSt.without, other]

/-- A table of 64 entries is staged for every bank (15 R440). -/
theorem execPlyTableWrite_stages {tbl : List Nat} (len : tbl.length = 64) :
    execPlyTableWrite 0 tbl s = .next { s with ldg := { s.ldg with
      staged := some tbl, banks := vmapI s.ldg.banks fun _ k => { k with due := true } } } :=
  congrArg Host.Outcome.next (if_pos len)

theorem execPlyTableWrite_ranks {rank : List Nat} (len : rank.length = 32) :
    execPlyTableWrite 1 rank s = .next { s with ldg := { s.ldg with rank := rank } } :=
  congrArg Host.Outcome.next (if_pos len)

/-- A bank that has adopted a table: at its next wrap (15 R440). -/
def BankSt.adopted (tbl : List Nat) (k : BankSt) : BankSt := { k with tbl := tbl, due := false, plies := (k.plies + 63) / 64 * 64 }

/-- A bank adopts the staged table; with the last one the table is in force (15 R440). -/
theorem execPlyTableAdopt_adopts {tbl : List Nat} (hb : bank < 32) (staged : s.ldg.staged = some tbl)
    (due : (vrd s.ldg.banks bank).due = true) : ∃ t, execPlyTableAdopt bank s = .next t
      ∧ vrd t.ldg.banks bank = (vrd s.ldg.banks bank).adopted tbl := by
  unfold execPlyTableAdopt
  rw [onUnit_in hb, staged]
  dsimp only
  rw [due]
  refine ⟨_, rfl, ?_⟩
  rw [if_neg (by decide)]
  split <;> exact mdBank_bank (BankSt.adopted tbl) hb

end

/-- Settles O51: a request alone on its bank by what it presents; the rest by the guard of each row. -/
theorem ledgerCommands : Obligations.LedgerCommands := by
  refine ⟨?_, fun _ _ _ _ hr hb unmasked waits => execLedgerBackoffExpiry_presents hr hb unmasked waits,
    fun _ _ _ hr hb => ⟨execHoldCut_revokes hr hb, execHoldCut_stays hr hb⟩, ?_, ?_,
    fun _ _ len => execPlyTableWrite_ranks len, ?_⟩
  · intro s req addr len write data err hr ha
    exact ⟨execLedgerRequest_masked len data err hr ha, execLedgerRequest_refused len data err hr ha,
      fun unmasked admitted free alone some_byte good => execLedgerRequest_reads hr ha unmasked free alone good admitted some_byte,
      fun unmasked admitted free alone _ good => execLedgerRequest_writes hr ha unmasked free alone good admitted⟩
  · intro s req hr enabled
    refine ⟨⟨_, execSidebandMask_masks hr enabled, maskRequester_req hr, fun b hb => ?_, fun l hl => maskRequester_lock hl, rfl⟩,
      execSidebandMask_unmasks hr enabled⟩
    rw [maskRequester_bank hb]
    exact (vrd s.ldg.banks b).without_spec req
  · intro s tbl len
    refine ⟨_, execPlyTableWrite_stages len, rfl, rfl, fun b hb => ?_⟩
    rw [vrd_vmapI hb]
    exact ⟨rfl, rfl⟩
  · intro s bank tbl hb staged due
    obtain ⟨t, run, adopted⟩ := execPlyTableAdopt_adopts hb staged due
    refine ⟨t, run, ?_⟩
    rw [adopted]
    exact ⟨rfl, rfl, rfl, rfl, Nat.dvd_mul_left ..⟩

end Sys2Proof.Machine
end

section
/-!
SUPPORT. What the Ledger does beside its requests: lock words (15 R443), write-back, scrubbing and fill (15 R432 to R434), the
journal (15 R447) and TAMPER_N (15 R448).
-/
namespace Sys2Proof.Machine

/-! ### Lock words -/

section
variable {l : LockSt} {req t : Nat}

/-- A lock that is not held, has no lease, or is within its lease is as it was. -/
theorem LockSt.lapse_live (live : l.state ≠ 1 ∨ l.lease = 0 ∨ t < l.at_ + l.lease * us) : l.lapse t = l := by
  refine if_neg fun h => ?_
  simp only [Bool.and_eq_true, decide_eq_true_eq, bne_iff_ne] at h
  obtain ⟨⟨held, leased⟩, past_end⟩ := h
  exact live.elim (· held) (Or.rec leased (Nat.not_lt.2 past_end))

/-- A held lock whose lease has run out is broken. -/
theorem LockSt.lapse_past_end (held : l.state = 1) (past_end : ¬(l.lease = 0 ∨ t < l.at_ + l.lease * us)) :
    l.lapse t = { l with state := 2, owner := 0 } := by
  obtain ⟨leased, past⟩ := not_or.1 past_end
  refine if_pos ?_
  simp only [Bool.and_eq_true, decide_eq_true_eq, bne_iff_ne]
  exact ⟨⟨held, leased⟩, Nat.not_lt.1 past⟩

theorem LockSt.acquire_free (free : l.state = 0) : l.acquire req t = (0, { l with state := 1, owner := req, at_ := t }) := by
  unfold LockSt.acquire
  rw [l.lapse_live (.inl (by omega))]
  simp only [free]

/-- A lock held by another requester stays with it (15 Table 15-7). -/
theorem LockSt.acquire_held (held : l.state = 1) (live : l.lease = 0 ∨ t < l.at_ + l.lease * us) (other : l.owner ≠ req) :
    l.acquire req t = (1, l) := by
  unfold LockSt.acquire
  rw [l.lapse_live (.inr live)]
  simp only [held, if_neg other]

theorem LockSt.acquire_own (held : l.state = 1) (live : l.lease = 0 ∨ t < l.at_ + l.lease * us) (own : l.owner = req) :
    l.acquire req t = (3, l) := by
  unfold LockSt.acquire
  rw [l.lapse_live (.inr live)]
  simp only [held, if_pos own]

/-- A broken lock, or one whose lease has run out, is taken with the code for it (15 Table 15-7). -/
theorem LockSt.acquire_broken (broken : l.state = 2 ∨ (l.state = 1 ∧ ¬(l.lease = 0 ∨ t < l.at_ + l.lease * us))) :
    l.acquire req t = (2, { l with state := 1, owner := req, at_ := t }) := by
  unfold LockSt.acquire
  rcases broken with broken | ⟨held, past_end⟩
  · rw [l.lapse_live (.inl (by omega))]
    simp only [broken]
  · rw [l.lapse_past_end held past_end]
    rfl

theorem LockSt.release_own (held : l.state = 1) (live : l.lease = 0 ∨ t < l.at_ + l.lease * us) (own : l.owner = req) :
    l.release req t = { l with state := 0, owner := 0 } := by
  unfold LockSt.release
  rw [l.lapse_live (.inr live)]
  exact if_pos ⟨held, own⟩

/-- Only the owner frees a lock; another's release is counted (15 R443). -/
theorem LockSt.release_other (live : l.lease = 0 ∨ t < l.at_ + l.lease * us) (other : l.owner ≠ req) :
    l.release req t = { l with relBad := incSat 3 l.relBad } := by
  unfold LockSt.release
  rw [l.lapse_live (.inr live)]
  exact if_neg fun h => other h.2

end

section
variable {req lock t : Nat} {s : State}

theorem putLock_lock {l : LockSt} (h : lock < 64) : vrd (s.putLock lock l).ldg.locks lock = l := vrd_vwr_same h

theorem putLock_lock_off {l : LockSt} {j : Nat} (h : j ≠ lock) : vrd (s.putLock lock l).ldg.locks j = vrd s.ldg.locks j :=
  vrd_vwr_off (Ne.symm h)

theorem execLockAcquire_puts (hr : req < 21) (hl : lock < 64) (unmasked : (vrd s.ldg.reqs req).masked = false) :
    ∃ u, execLockAcquire req lock t s = .next u ∧ u.ldg.acq = ((vrd s.ldg.locks lock).acquire req t).1
      ∧ vrd u.ldg.locks lock = ((vrd s.ldg.locks lock).acquire req t).2
      ∧ ∀ j, j ≠ lock → vrd u.ldg.locks j = vrd s.ldg.locks j := by
  unfold execLockAcquire
  rw [onUnit_in hr, onUnit_in hl, unmasked]
  exact ⟨_, rfl, rfl, vrd_vwr_same hl, fun j other => vrd_vwr_off (Ne.symm other)⟩

theorem execLockRelease_puts (hr : req < 21) (hl : lock < 64) (unmasked : (vrd s.ldg.reqs req).masked = false) :
    execLockRelease req lock t s = .next ((s.upTo t).putLock lock ((vrd s.ldg.locks lock).release req t)) := by
  unfold execLockRelease
  rw [onUnit_in hr, onUnit_in hl, unmasked]
  rfl

/-- At the end of its lease a held lock is broken (15 R443). -/
theorem execLockLeaseExpiry_breaks (hl : lock < 64) (held : (vrd s.ldg.locks lock).state = 1)
    (leased : 0 < (vrd s.ldg.locks lock).lease) :
    execLockLeaseExpiry lock s = .next ((s.upTo (vrd s.ldg.locks lock).leaseEnd).putLock lock
      { vrd s.ldg.locks lock with state := 2, owner := 0 }) := by
  refine (onUnit_in hl).trans (congrArg Host.Outcome.next ((if_pos ⟨held, by omega⟩).trans ?_))
  rw [LockSt.lapse_past_end held (by unfold LockSt.leaseEnd; omega)]

theorem execLockLeaseExpiry_stays (hl : lock < 64) (off : (vrd s.ldg.locks lock).state ≠ 1 ∨ (vrd s.ldg.locks lock).lease = 0) :
    execLockLeaseExpiry lock s = .next s :=
  (onUnit_in hl).trans (congrArg Host.Outcome.next (if_neg fun h => off.elim (· h.1) h.2))

end

/-! ### Check bits, scrubbing and fill -/

section
variable {bank : Nat} {s : State}

/-- A corrected word is written back and leaves the list (15 R432). -/
theorem execCorrectedWriteback_fix (hb : bank < 32) : ∃ t, execCorrectedWriteback bank s = .next t
    ∧ (vrd t.ldg.banks bank).fix = (vrd s.ldg.banks bank).fix.tail ∧ t.ldg.mem = s.ldg.mem ∧ t.axes = s.axes := by
  refine ⟨_, onUnit_in hb, ?_, rfl, rfl⟩
  rw [mdBank_bank _ hb]
  split
  · next empty => rw [empty]; rfl
  · next fixed => rw [fixed]; rfl

/-- The bank after a word that the scrubber corrects (15 R433). -/
def BankSt.scrubbed (w : Nat) (now : Time) (k : BankSt) : BankSt :=
  { k.count now 1 true with corr := incSat 65535 k.corr, fix := k.fix ++ [w] }

theorem execScrub_good : ∃ t, execScrub 0 s = .next t ∧ t.ldg.scrubAt = (s.ldg.scrubAt + 8) % 0x800000 ∧ t.ldg.mem = s.ldg.mem
    ∧ t.hlt = s.hlt ∧ t.ssv = s.ssv := ⟨_, rfl, rfl, rfl, rfl, rfl⟩

/-- The first correction of a word within 24 h is counted and waits for its write-back (15 R433). -/
theorem execScrub_corrects (first : ∀ x ∈ s.ldg.scrubHist, x.1 = s.ldg.scrubAt → x.2 + day ≤ s.cyc.now) :
    ∃ t, execScrub 1 s = .next t ∧ t.ldg.scrubAt = (s.ldg.scrubAt + 8) % 0x800000
      ∧ vrd t.ldg.banks (bankOf s.ldg.scrubAt) = (vrd s.ldg.banks (bankOf s.ldg.scrubAt)).scrubbed s.ldg.scrubAt s.cyc.now
      ∧ t.ldg.mem = s.ldg.mem ∧ t.hlt = s.hlt := by
  have again : (s.ldg.scrubHist.any fun x => x.1 == s.ldg.scrubAt && decide (s.cyc.now < x.2 + day)) = false := by
    simp only [List.any_eq_false, Bool.and_eq_true, beq_iff_eq, decide_eq_true_eq, not_and, Nat.not_lt]
    exact first
  unfold execScrub
  extract_lets w b ldg moved counted known corrected noted hist bad
  refine ⟨_, congrArg Host.Outcome.next ((if_pos rfl).trans (if_neg (Bool.not_eq_true _ ▸ again))), rfl, ?_, rfl, rfl⟩
  have ply : vrd counted.ldg.banks b = (vrd s.ldg.banks b).count s.cyc.now 1 true := mdBank_bank _ (bankOf_lt w)
  have fixed : vrd hist.ldg.banks b = { vrd counted.ldg.banks b with
      corr := incSat 65535 (vrd counted.ldg.banks b).corr, fix := (vrd counted.ldg.banks b).fix ++ [w] } :=
    mdBank_bank (s := counted) _ (bankOf_lt w)
  refine fixed.trans ?_
  rw [ply, BankSt.count_corr, BankSt.count_fix]
  rfl

theorem execBankFillComplete_switches (hb : bank < 32) (filling : (vrd s.ldg.banks bank).filling = true) :
    ∃ t, execBankFillComplete bank s = .next t ∧ (vrd t.ldg.banks bank).filling = false
      ∧ (vrd t.ldg.banks bank).phys = (vrd s.ldg.banks bank).fillTo ∧ t.ldg.mem = s.ldg.mem := by
  refine ⟨_, onUnit_in hb, ?_⟩
  rw [mdBank_bank _ hb, filling]
  exact ⟨rfl, rfl, rfl⟩

end

/-! ### Journal and tamper -/

section
variable {s : State}

theorem execJournalAppend_appends (whole : s.ldg.erasing = false) (sealable : s.hlt.sealEx = false) (due : s.ldg.journalDue = true) :
    execJournalAppend s = .next { s with ldg := { s.ldg with
      journal := some s.secImage, journalRecs := s.ldg.journalRecs + 1, journalKey := s.hlt.fuses.wipes, journalDue := false } } := by
  unfold execJournalAppend
  rw [whole, sealable, due]
  rfl

theorem execJournalCompaction_renews (whole : s.ldg.erasing = false) (sealable : s.hlt.sealEx = false) :
    execJournalCompaction s = .next { s with ldg := { s.ldg with
      journal := some s.secImage, journalRecs := 0, journalGen := s.ldg.journalGen + 1, journalKey := s.hlt.fuses.wipes
      journalDue := false } } := by
  unfold execJournalCompaction
  rw [whole, sealable]
  rfl

/-- While the old journal is being erased, or with the wipe count exhausted, no journal is written (15 R447). -/
theorem execJournal_stays (off : s.ldg.erasing = true ∨ s.hlt.sealEx = true) :
    execJournalAppend s = .next s ∧ execJournalCompaction s = .next s := by
  unfold execJournalAppend execJournalCompaction
  rcases off with e | e <;> simp [e]

end

/-- TAMPER_N by its length and the state of the controller (15 R448). -/
theorem execTamperN_spec (s : State) (held : Nat) : (held < 10 * us → execTamperN held s = .next s)
    ∧ (10 * us ≤ held → s.pwr.held = false → s.pwr.boot ≠ .fuseLoad → execTamperN held s = .next (wipe 1 s))
    ∧ (10 * us ≤ held → s.pwr.held = true ∨ s.pwr.boot = .fuseLoad →
      execTamperN held s = .next { s with pwr := { s.pwr with tamper := 1 } }) := by
  refine ⟨fun short => congrArg Host.Outcome.next (if_pos short), fun long runs up => ?_, fun long off => ?_⟩
  · exact congrArg Host.Outcome.next ((if_neg (Nat.not_lt.2 long)).trans (if_neg (by simp [runs, up])))
  · exact congrArg Host.Outcome.next ((if_neg (Nat.not_lt.2 long)).trans (if_pos (by simpa using off)))

/-- Settles O52: lock words by their state and lease, a corrected word by the list of its bank, the journal by what seals it. -/
theorem ledgerHousekeeping : Obligations.LedgerHousekeeping := by
  refine ⟨?_, ?_, ?_, fun _ _ hb => execCorrectedWriteback_fix hb, fun _ => execScrub_good, ?_,
    fun _ _ hb => execBankFillComplete_switches hb, fun _ whole sealable =>
      ⟨execJournalAppend_appends whole sealable, execJournalCompaction_renews whole sealable⟩, fun _ => execJournal_stays,
    execTamperN_spec⟩
  · intro s req lock at_ hr hl unmasked l live
    obtain ⟨t, run, acq, here, others⟩ := execLockAcquire_puts (t := at_) hr hl unmasked
    refine ⟨t, run, others, ?_⟩
    rw [acq, here]
    refine ⟨fun free => ?_, fun held live other => ?_, fun held live own => ?_, fun broken => ?_⟩
    · rw [LockSt.acquire_free free]
      exact ⟨rfl, rfl⟩
    · rw [LockSt.acquire_held held live other]
      exact ⟨rfl, rfl⟩
    · rw [LockSt.acquire_own held live own]
      exact ⟨rfl, rfl⟩
    · rw [LockSt.acquire_broken broken]
      exact ⟨rfl, rfl⟩
  · intro s req lock at_ hr hl unmasked l
    refine ⟨_, execLockRelease_puts hr hl unmasked, fun j other => putLock_lock_off other, fun held live own => ?_,
      fun other _ live => ?_⟩
    · rw [putLock_lock hl, LockSt.release_own held live own]
    · rw [putLock_lock hl, LockSt.release_other live other]
  · exact fun s lock hl => ⟨fun held leased => ⟨_, execLockLeaseExpiry_breaks hl held leased, rfl, putLock_lock hl⟩,
      execLockLeaseExpiry_stays hl⟩
  · intro s first
    obtain ⟨t, run, moved, bank, mem, hlt⟩ := execScrub_corrects first
    refine ⟨t, run, moved, ?_, ?_, mem, hlt⟩
    · rw [bank]
      rfl
    · rw [bank]
      rfl

end Sys2Proof.Machine
end

section
/-!
SUPPORT. Health: the margins of the tempo monitor and their minimum (16 R449), PMBus (R451), the warning (R452), and the units by
their state: errors, tests and the final test of manufacture (R453 to R459).
-/
namespace Sys2Proof.Machine

/-! ### Margins -/

theorem clampI_le_max {lo hi v : Int} (h : lo ≤ hi) : clampI lo hi v ≤ hi := Int.max_le.2 ⟨h, Int.min_le_left _ _⟩

/-- A margin is a word of 16 bits (16 R449). -/
theorem deadlineMargin_le (w rate tns : Nat) : deadlineMargin w rate tns ≤ 32767 := by
  unfold deadlineMargin
  split
  · decide
  split
  · decide
  · exact clampI_le_max (by decide)

theorem rateMargin_le (spec rate : Nat) : rateMargin spec rate ≤ 32767 := by
  unfold rateMargin
  split
  · decide
  · exact clampI_le_max (by decide)

theorem domainMargin_le (s : State) (d r : Nat) (tj : Int) : domainMargin s d r tj ≤ 32767 := by
  unfold domainMargin
  extract_lets R
  split
  · exact deadlineMargin_le ..
  split
  · split
    · decide
    · exact deadlineMargin_le ..
  split
  · exact deadlineMargin_le ..
  split
  · exact deadlineMargin_le ..
  split <;> exact rateMargin_le ..

/-- The smallest of some words, and its place. -/
theorem minWith_spec {l : List Int} (i : Nat) (some_entry : l ≠ []) (words : ∀ x ∈ l, x ≤ 32767) :
    (∀ x ∈ l, (minWith i l).1 ≤ x) ∧ ∃ j, (minWith i l).2 = i + j ∧ l[j]? = some (minWith i l).1 := by
  induction l generalizing i with
  | nil => exact absurd rfl some_entry
  | cons x xs ih =>
    obtain ⟨top, rest⟩ := List.forall_mem_cons.1 words
    unfold minWith
    dsimp only
    rcases xs.eq_nil_or_concat with rfl | ⟨_, _, _⟩
    · rw [show (minWith (i + 1) []).1 = 32767 from rfl, if_neg (Int.not_lt.2 top)]
      exact ⟨by simp, 0, rfl, rfl⟩
    · have nonempty : xs ≠ [] := by simp_all
      obtain ⟨least, j, place, entry⟩ := ih (i + 1) nonempty rest
      by_cases smaller : (minWith (i + 1) xs).1 < x
      · rw [if_pos smaller]
        refine ⟨List.forall_mem_cons.2 ⟨Int.le_of_lt smaller, least⟩, j + 1, by omega, entry⟩
      · rw [if_neg smaller]
        refine ⟨List.forall_mem_cons.2 ⟨Int.le_refl _, fun y hy => ?_⟩, 0, rfl, rfl⟩
        exact Int.le_trans (Int.not_lt.1 smaller) (least y hy)

/-! ### The tempo monitor -/

/-- The events of a margin change the event log only (16 Table 16-11). -/
theorem tempoEvents_leaves (d : Nat) (old new_ : Int) (s : State) :
    (tempoEvents d old new_ s).hlt = s.hlt ∧ (tempoEvents d old new_ s).axes = s.axes := by
  unfold tempoEvents
  extract_lets lo det s1
  have crossed : s1.hlt = s.hlt ∧ s1.axes = s.axes := by
    unfold s1
    split
    · exact ⟨rfl, rfl⟩
    split <;> exact ⟨rfl, rfl⟩
  split
  · exact crossed
  · exact crossed

/-- The health record after an iteration of the tempo monitor (16 R449). -/
def tempoHealth (rates : List Nat) (tj : Int) (s : State) : HltSt :=
  let all := (List.range 22).map fun d => domainMargin s d (lget rates d) tj
  { s.hlt with
    tj := tj, margins := all, marginMin := (minWith 0 all).1, marginDom := (minWith 0 all).2
    low := maskOf (belowLow s.ps) all, missProj := maskOf (fun m => decide (m < 0)) all
    therm := if 1200 ≤ tj then true else if tj < 1150 then false else s.hlt.therm }

theorem execTempoMonitor_stores (rates : List Nat) (tj : Int) (s : State) :
    ∃ t, execTempoMonitor rates tj s = .next t ∧ t.hlt = tempoHealth rates tj s ∧ t.axes = s.axes := by
  refine ⟨_, rfl, ?_⟩
  refine List.foldlRecOn (motive := fun t : State => t.hlt = tempoHealth rates tj s ∧ t.axes = s.axes) _ _ ⟨rfl, rfl⟩
    fun t ⟨hlt, axes⟩ d _ => ?_
  obtain ⟨sameHlt, sameAxes⟩ := tempoEvents_leaves d (lget s.hlt.margins d)
    (lget ((List.range 22).map fun d => domainMargin s d (lget rates d) tj) d) t
  exact ⟨sameHlt.trans hlt, sameAxes.trans axes⟩

/-- The 22 margins, the smallest of them and its domain. -/
theorem tempoHealth_margins (rates : List Nat) (tj : Int) (s : State) :
    (tempoHealth rates tj s).margins.length = 22
      ∧ (∀ d < 22, (tempoHealth rates tj s).margins[d]? = some (domainMargin s d (lget rates d) tj)
        ∧ (tempoHealth rates tj s).marginMin ≤ domainMargin s d (lget rates d) tj)
      ∧ (tempoHealth rates tj s).marginDom < 22
      ∧ (tempoHealth rates tj s).margins[(tempoHealth rates tj s).marginDom]? = some (tempoHealth rates tj s).marginMin := by
  have words : ∀ x ∈ (List.range 22).map fun d => domainMargin s d (lget rates d) tj, x ≤ 32767 := fun x hx => by
    obtain ⟨d, -, rfl⟩ := List.mem_map.1 hx
    exact domainMargin_le ..
  obtain ⟨least, j, place, entry⟩ := minWith_spec 0 (by simp) words
  rw [Nat.zero_add] at place
  have inside := (List.getElem?_eq_some_iff.1 entry).1
  rw [List.length_map, List.length_range] at inside
  refine ⟨by simp [tempoHealth], fun d hd => ⟨by simp [tempoHealth, hd], least _ ?_⟩, ?_, ?_⟩
  · exact List.mem_map_of_mem (List.mem_range.2 hd)
  · exact (place.symm ▸ inside : (minWith 0 _).2 < 22)
  · exact (congrArg _ place).trans entry

/-! ### PMBus and the warning -/

section
variable {s : State}

theorem execTempoWarning_sets (off : s.hlt.tempoWarn = false) (run : 1000 ≤ s.hlt.warnRun) :
    ∃ t, execTempoWarning s = .next t ∧ t.hlt.tempoWarn = true ∧ t.hif.evstat.testBit 112 = true := by
  refine ⟨_, congrArg Host.Outcome.next (if_pos ?_), rfl, raiseEv_own_bit ..⟩
  simp [off, run]

theorem execTempoWarning_clears (on : s.hlt.tempoWarn = true)
    (ok : 1000 ≤ s.hlt.okRun ∨ s.hlt.vdd < prmN s.ps Pid.VDD_MAX 0) :
    ∃ t, execTempoWarning s = .next t ∧ t.hlt.tempoWarn = false ∧ t.hif.evstat.testBit 112 = true := by
  refine ⟨_, congrArg Host.Outcome.next ((if_neg ?_).trans (if_pos ?_)), rfl, raiseEv_own_bit ..⟩
  · simp [on]
  · simpa [on] using ok

theorem execPmbusVoutTimeout_fails {a : Time} (waits : s.hlt.voutWait = some a) (good : s.hlt.pmbusFail = false) :
    ∃ t, execPmbusVoutTimeout s = .next t ∧ t.hlt.pmbusFail = true ∧ t.cyc.now = max s.cyc.now (a + 2 * ms)
      ∧ t.hlt.vdd = s.hlt.vdd ∧ t.hif.evstat.testBit 113 = true := by
  unfold execPmbusVoutTimeout
  rw [waits]
  refine ⟨_, congrArg Host.Outcome.next (if_neg (by simp [good])), rfl, rfl, rfl, raiseEv_own_bit ..⟩

/-- In PMBUS_FAIL the first complete exchange clears it, and a bad one changes nothing (16 R451). -/
theorem execPmbusRetry_failed (v : Nat) (failed : s.hlt.pmbusFail = true) :
    (∃ t, execPmbusRetry true v s = .next t ∧ t.hlt.pmbusFail = false ∧ t.hlt.pmbusBad = 0 ∧ t.hlt.vdd = s.hlt.vdd)
      ∧ execPmbusRetry false v s = .next s :=
  ⟨⟨_, congrArg Host.Outcome.next (if_pos failed), rfl, rfl, rfl⟩, congrArg Host.Outcome.next (if_pos failed)⟩

/-- Outside PMBUS_FAIL the third bad transaction in a row sets it (16 R451). -/
theorem execPmbusRetry_good (v : Nat) (good : s.hlt.pmbusFail = false) :
    execPmbusRetry true v s = .next { s with hlt := { s.hlt with pmbusBad := 0 } }
      ∧ (s.hlt.pmbusBad < 2 → execPmbusRetry false v s = .next { s with hlt := { s.hlt with pmbusBad := s.hlt.pmbusBad + 1 } })
      ∧ (s.hlt.pmbusBad = 2 → ∃ t, execPmbusRetry false v s = .next t ∧ t.hlt.pmbusFail = true ∧ t.hif.evstat.testBit 113 = true) := by
  have alive : ¬(s.hlt.pmbusFail = true) := by simp [good]
  refine ⟨congrArg Host.Outcome.next (if_neg alive), fun few => ?_, fun two => ?_⟩
  · exact congrArg Host.Outcome.next ((if_neg alive).trans ((if_neg Bool.false_ne_true).trans (if_neg (by omega))))
  · exact ⟨_, congrArg Host.Outcome.next ((if_neg alive).trans ((if_neg Bool.false_ne_true).trans (if_pos (by omega)))), rfl, raiseEv_own_bit ..⟩

end

/-! ### Units -/

section
variable {cls idx : Nat} (cause : Nat) {s : State}

theorem suspect_alive {cmd : Option Nat} (alive : (s.unit cls idx).st ≠ .retired) :
    suspect cls idx cause cmd s = suspectUnit cls idx cause cmd s := by
  refine if_neg fun h => alive ?_
  rw [h.1]
  exact h.2

theorem suspectUnit_stays {cmd : Option Nat} (out : (s.unit cls idx).st = .suspect ∨ (s.unit cls idx).st = .retired) :
    suspectUnit cls idx cause cmd s = s := by
  unfold suspectUnit
  rcases out with e | e <;> simp only [e]

theorem suspectUnit_spare (spare : (s.unit cls idx).st = .spare) : suspectUnit cls idx cause none s
    = poolEvents cls idx (raiseEv 114 Sts.OK cls idx (127 * 2 ^ 24 + cause)
      (s.mdUnit cls idx fun x => { x with st := .suspect, cmdTest := none })) := by
  unfold suspectUnit
  simp only [spare]
  rfl

/-- The unit that an error makes SUSPECT, by the spare that takes its work (16 R453). -/
def suspected (cls idx : Nat) (sp : Option Nat) (s : State) : State :=
  s.mdUnit cls idx fun x => { x with
    st := .suspect, serves := if sp.isSome && cls != 6 then 127 else x.serves, served := x.serves, stuck := sp.isNone, cmdTest := none }

/-- An error of a unit in service: its work moves to the spare, or its pool is empty (16 R453). -/
theorem suspectUnit_inService (serving : (s.unit cls idx).st = .inService) :
    let sp := if hasPool cls then s.spareFor cls idx else none
    suspectUnit cls idx cause none s
      = raiseEv 114 Sts.OK cls idx (sp.getD 127 * 2 ^ 24 + cause) (match sp with
        | some j => poolEvents cls idx (takeover cls idx j (if cls = 6 then suspected cls idx sp s
          else (suspected cls idx sp s).mdUnit cls j fun x => { x with st := .inService, serves := (s.unit cls idx).serves }))
        | none => if hasPool cls = true ∨ cls = 9 then poolEmpty cls idx cause (suspected cls idx sp s)
          else poolEvents cls idx (suspected cls idx sp s)) := by
  intro sp
  have pool : ((hasPool cls || cls == 9) = true) = (hasPool cls = true ∨ cls = 9) := by simp
  unfold suspectUnit
  simp only [serving]
  change raiseEv 114 Sts.OK cls idx (sp.getD 127 * 2 ^ 24 + cause) (match sp with
    | some j => poolEvents cls idx (takeover cls idx j (if (cls != 6) = true
      then (suspected cls idx sp s).mdUnit cls j fun x => { x with st := .inService, serves := (s.unit cls idx).serves }
      else suspected cls idx sp s))
    | none => if (hasPool cls || cls == 9) = true then poolEmpty cls idx cause (suspected cls idx sp s)
      else poolEvents cls idx (suspected cls idx sp s)) = _
  congr 1
  cases sp with
  | none => simp only [pool]
  | some j => by_cases six : cls = 6 <;> simp [six]

theorem execUnitError_in (hc : cls < 10) (hi : idx < unitCounts.getD cls 0) :
    execUnitError cls idx cause s = .next (suspect cls idx cause none s) := (onUnit_in hc).trans (onUnit_in hi)

/-- A unit that is RETIRED is not struck again; a driver slice strikes its transceiver (16 R453). -/
theorem suspect_retired (retired : (s.unit cls idx).st = .retired) : suspect cls idx cause none s
    = if cls ≠ 6 then s else if idx < 36 then suspectUnit 7 idx cause none s else suspectUnit 5 (idx - 36) cause none s := by
  unfold suspect
  by_cases six : cls = 6
  · subst six
    exact (if_pos ⟨rfl, retired⟩).trans (if_neg (not_not_intro rfl)).symm
  · rw [if_neg (fun h => six h.1), if_pos six, suspectUnit_stays _ (.inr retired)]

end

section
variable {cls idx : Nat} {s : State} (hc : cls < 10) (hi : idx < testedUnits cls)
include hc hi

theorem execTargetedSelfTestDone_other (pass : Bool) (other : (s.unit cls idx).st ≠ .suspect) :
    execTargetedSelfTestDone cls idx pass s = .next s := by
  unfold execTargetedSelfTestDone
  rw [onUnit_in hc, onUnit_in hi]
  exact congrArg Host.Outcome.next (if_pos other)

section
variable (struck : (s.unit cls idx).st = .suspect)
include struck

theorem execTargetedSelfTestDone_failed (own : (s.unit cls idx).cmdTest = none) :
    execTargetedSelfTestDone cls idx false s
      = .next (raiseEv 115 Sts.SELFTEST_FAILED cls idx 1 (retireUnit cls idx (takenBy cls idx s) 1 s)) := by
  unfold execTargetedSelfTestDone
  dsimp only
  rw [onUnit_in hc, onUnit_in hi, struck, own]
  rfl

/-- A pass is a Glint: below GLINT_LIMIT of them the unit comes back (16 R453, Table 16-2). -/
theorem execTargetedSelfTestDone_returns (own : (s.unit cls idx).cmdTest = none)
    (few : (glintsNow s.ps s.cyc.now (s.unit cls idx).glints).length < prmN s.ps Pid.GLINT_LIMIT 0) :
    execTargetedSelfTestDone cls idx true s
      = .next (raiseEv 115 Sts.OK cls idx 0 (passEffects cls idx (s.mdUnit cls idx fun x => { x with
          st := if (x.stuck && cls != 2) || !hasPool cls || cls = 6 then .inService else .spare
          glints := glintsNow s.ps s.cyc.now (s.unit cls idx).glints, stuck := false, tested := s.cyc.now }))) := by
  unfold execTargetedSelfTestDone
  dsimp only
  rw [onUnit_in hc, onUnit_in hi, struck, own]
  exact congrArg Host.Outcome.next ((if_neg (not_not_intro rfl)).trans (if_pos few))

theorem execTargetedSelfTestDone_worn (own : (s.unit cls idx).cmdTest = none)
    (many : prmN s.ps Pid.GLINT_LIMIT 0 ≤ (glintsNow s.ps s.cyc.now (s.unit cls idx).glints).length) :
    execTargetedSelfTestDone cls idx true s
      = .next (raiseEv 115 Sts.OK cls idx 2 (retireUnit cls idx (takenBy cls idx s) 2 s)) := by
  unfold execTargetedSelfTestDone
  dsimp only
  rw [onUnit_in hc, onUnit_in hi, struck, own]
  exact congrArg Host.Outcome.next ((if_neg (not_not_intro rfl)).trans (if_neg (Nat.not_lt.2 many)))

/-- A commanded test ends its ticket; a unit that passes is as before (16 R456). -/
theorem execTargetedSelfTestDone_commanded {ticket : Nat} {before : UState} (pass : Bool)
    (commanded : (s.unit cls idx).cmdTest = some (ticket, before)) :
    let v := s.mdUnit cls idx fun x => { x with st := before, cmdTest := none, stuck := false, tested := s.cyc.now }
    execTargetedSelfTestDone cls idx pass s = .next (
      if pass then finishTicket ticket Sts.OK (raiseEv 115 Sts.OK cls idx 3
        (passEffects cls idx (if before = .inService then workBack cls idx v else v)))
      else finishTicket ticket Sts.SELFTEST_FAILED (raiseEv 115 Sts.SELFTEST_FAILED cls idx 1
        (retireUnit cls idx (takenBy cls idx s) 3 s))) := by
  intro v
  unfold execTargetedSelfTestDone
  dsimp only
  rw [onUnit_in hc, onUnit_in hi, struck, commanded]
  cases pass <;> exact congrArg Host.Outcome.next (if_neg (not_not_intro rfl))

end

/-- A test in the background stamps a unit that passes and retires one that fails (16 R457). -/
theorem execBackgroundSelfTest_idle (idle : (s.unit cls idx).st = .spare ∨ (cls = 6 ∧ (s.unit cls idx).st = .inService)) :
    execBackgroundSelfTest cls idx true s
        = .next (raiseEv 115 Sts.OK cls idx 3 (s.mdUnit cls idx fun x => { x with tested := s.cyc.now }))
      ∧ execBackgroundSelfTest cls idx false s
        = .next (poolEvents cls idx (raiseEv 115 Sts.SELFTEST_FAILED cls idx 1 (retireUnit cls idx 127 1 s))) := by
  unfold execBackgroundSelfTest
  rw [onUnit_in hc, onUnit_in hi, onUnit_in hc, onUnit_in hi]
  exact ⟨congrArg Host.Outcome.next (if_pos idle), congrArg Host.Outcome.next (if_pos idle)⟩

end

/-- Settles O55: the margins by their minimum, PMBus by its state, each unit by its state. -/
theorem healthEvents : Obligations.HealthEvents := by
  refine ⟨?_, fun _ => execTempoWarning_sets, fun _ => execTempoWarning_clears,
    fun _ _ => ⟨_, rfl, raiseEv_own_bit .., rfl, rfl⟩, fun _ _ => execPmbusVoutTimeout_fails, fun _ v => execPmbusRetry_failed v,
    fun _ v => execPmbusRetry_good v, ?_, ?_, ?_, fun _ _ _ pass hc hi => execTargetedSelfTestDone_other hc hi pass,
    fun _ _ _ hc hi => execBackgroundSelfTest_idle hc hi, fun _ made => congrArg Host.Outcome.next (if_neg (not_not_intro made)),
    fun _ made => congrArg Host.Outcome.next (if_pos made)⟩
  · intro s rates tj
    obtain ⟨t, run, hlt, axes⟩ := execTempoMonitor_stores rates tj s
    obtain ⟨count, each, dom, least⟩ := tempoHealth_margins rates tj s
    refine ⟨t, run, ?_⟩
    rw [hlt]
    exact ⟨rfl, count, each, dom, least, fun hot => if_pos hot, fun cool => (if_neg (by omega)).trans (if_pos cool),
      fun warm below => (if_neg (by omega)).trans (if_neg (by omega)), rfl, axes⟩
  · intro s cls idx cause hc hi
    have struck := execUnitError_in cause hc hi (s := s)
    refine ⟨fun e => ?_, fun e => ?_, fun e => ?_, fun e => ?_⟩
    · exact struck.trans (congrArg _ ((suspect_alive cause (by simp [e])).trans (suspectUnit_stays cause (.inl e))))
    · exact struck.trans (congrArg _ (suspect_retired cause e))
    · exact struck.trans (congrArg _ ((suspect_alive cause (by simp [e])).trans (suspectUnit_spare cause e)))
    · exact struck.trans (congrArg _ ((suspect_alive cause (by simp [e])).trans (suspectUnit_inService cause e)))
  · exact fun s cls idx hc hi struck own => ⟨execTargetedSelfTestDone_failed hc hi struck own,
      execTargetedSelfTestDone_returns hc hi struck own, execTargetedSelfTestDone_worn hc hi struck own⟩
  · exact fun s cls idx pass t before hc hi struck commanded => execTargetedSelfTestDone_commanded hc hi struck pass commanded

end Sys2Proof.Machine
end

section
/-!
SUPPORT. What a report leaves: an event, a frame on the Mirror link, the end of a ticket; and the operations of the pair that
change the Mirror link's state and report it (14 R398, R420, Table 14-10).
-/
namespace Sys2Proof.Machine

/-- Only reports lie between two states: events, frames of the Mirror link, tickets that end. -/
structure Reported (s t : State) : Prop where
  axes : t.axes = s.axes
  ssv : t.ssv = s.ssv
  dl : t.dl = s.dl
  cyc : t.cyc = s.cyc
  mlc : t.mlc = { s.mlc with seqTx := t.mlc.seqTx, unacked := t.mlc.unacked }
  journal : s.ldg.journalDue = true → t.ldg.journalDue = true
  events : ∀ i, s.hif.evstat.testBit i = true → t.hif.evstat.testBit i = true

theorem Reported.refl (s : State) : Reported s s := ⟨rfl, rfl, rfl, rfl, rfl, id, fun _ => id⟩

theorem Reported.trans {s t u : State} (h : Reported s t) (k : Reported t u) : Reported s u where
  axes := k.axes.trans h.axes
  ssv := k.ssv.trans h.ssv
  dl := k.dl.trans h.dl
  cyc := k.cyc.trans h.cyc
  mlc := k.mlc.trans (by rw [h.mlc])
  journal := k.journal ∘ h.journal
  events i := k.events i ∘ h.events i

/-- Reports leave the Mirror link's state but for its frames. -/
theorem Reported.field {α : Type} {s t : State} (h : Reported s t) (f : MlcSt → α)
    (frameless : ∀ m q u, f { m with seqTx := q, unacked := u } = f m := by intros; rfl) : f t.mlc = f s.mlc := by
  rw [h.mlc, frameless]

/-- A choice between two reports. -/
theorem Reported.ite {p : Prop} [Decidable p] {s t u : State} (ht : Reported s t) (hu : Reported s u) :
    Reported s (if p then t else u) := by
  split
  · exact ht
  · exact hu

section
variable (s : State)

theorem raiseEv_reported (ev st sub hi lo : Nat) : Reported s (raiseEv ev st sub hi lo s) :=
  ⟨rfl, rfl, rfl, rfl, rfl, id, fun i h => by rw [raiseEv_evstat, Nat.testBit_or, h, Bool.true_or]⟩

theorem mirSend_reported (typ cycle addr len : Nat) (due : Option Time) : Reported s (mirSend typ cycle addr len due s) :=
  ⟨rfl, rfl, rfl, rfl, rfl, id, fun _ => id⟩

theorem mirDelta_reported (addr len : Nat) : Reported s (mirDelta addr len s) := by
  unfold mirDelta
  split
  · exact .refl s
  · exact List.foldlRecOn (motive := Reported s) _ _ (.refl s) fun t h _ _ => h.trans (mirSend_reported ..)

/-- The secure region is due for the journal, and crosses to a Shadow (15 R447). -/
theorem secTouch_reported : Reported { s with ldg := { s.ldg with journalDue := true } } (secTouch s) := mirDelta_reported ..

theorem endTicket_reported (num state final : Nat) : Reported s (endTicket num state final s) := by
  unfold endTicket
  split
  · exact .refl s
  · refine Reported.trans ?_ (raiseEv_reported ..)
    refine Reported.trans ?_ (mirDelta_reported ..)
    exact ⟨rfl, rfl, rfl, rfl, rfl, id, fun _ => id⟩

theorem finishTicket_reported (num status : Nat) : Reported s (finishTicket num status s) := endTicket_reported ..

/-- A Castling that fails is none any more, and is reported (14 R420). -/
theorem castleFail_reported (status port : Nat) :
    ∃ c, Reported { s with mlc := { s.mlc with castle := c } } (castleFail status port s) := by
  unfold castleFail
  split
  · exact ⟨_, .refl s⟩
  · refine ⟨none, .ite (raiseEv_reported ..) ?_⟩
    exact Reported.trans (raiseEv_reported ..) (finishTicket_reported ..)

/-- What the Mirror link's state says of a new Shadow state (14 R398). -/
def MlcSt.shadowIs (m : MlcSt) (st : ShState) (cause clean stale mismatch : Nat) (castle : Option CastleSt) : MlcSt :=
  { m with shadow := st, cause := cause, clean := clean, staleCount := stale, mismatchCount := mismatch, castle := castle }

/-- A Shadow state with its cause, and reports (14 R398). -/
theorem shadowTo_reported (st : ShState) (cause : Nat) :
    ∃ n a b c, Reported { s with mlc := s.mlc.shadowIs st cause n a b c } (shadowTo st cause s) := by
  unfold shadowTo
  extract_lets m s1 s2 serial
  have judged : ∃ n a b c, Reported { s with mlc := s.mlc.shadowIs st cause n a b c } s2 := by
    unfold s2
    generalize (decide (s1.mlc.role = .active) && !castleReady s1 && !(match m.castle with | some c => c.done | none => true)) = ends
    cases ends with
    | true =>
      obtain ⟨c, h⟩ := castleFail_reported s1 Sts.SHADOW_NOT_READY 0xFF
      exact ⟨_, _, _, c, h⟩
    | false => exact ⟨_, _, _, _, .refl s1⟩
  obtain ⟨n, a, b, c, h⟩ := judged
  exact ⟨n, a, b, c, .ite h (h.trans (raiseEv_reported ..))⟩

/-- A change of the Shadow state raises E105 (14 Table 14-10). -/
theorem shadowTo_event {st : ShState} (cause : Nat) (other : s.mlc.shadow ≠ st) :
    (shadowTo st cause s).hif.evstat.testBit 105 = true := by
  unfold shadowTo
  extract_lets m s1 s2 serial
  rw [if_neg other]
  exact raiseEv_own_bit ..

/-- A write of SRC changes the time base alone (02 Table 02-3). -/
theorem tbWriteSrc_reported (src : Nat) : ∃ tb, Reported { s with tb := tb } (tbWriteSrc src s) := by
  unfold tbWriteSrc
  extract_lets next was old s1
  have followed : ∃ tb, s1 = { s with tb := tb } := by
    obtain ⟨f, h, r, e⟩ := tbFollow_eq _
    exact ⟨_, e⟩
  clear_value s1
  obtain ⟨tb, rfl⟩ := followed
  exact ⟨tb, .ite (.refl _) (raiseEv_reported ..)⟩

theorem tbMirror_reported : ∃ tb, Reported { s with tb := tb } (tbMirror s) := by
  unfold tbMirror
  split
  · exact ⟨s.tb, .refl s⟩
  · exact tbWriteSrc_reported ..

/-- MIR_ENG is high afterwards (14 R410). -/
theorem engRaise_reported : Reported { s with mlc := { s.mlc with eng := true } } (engRaise s) := by
  unfold engRaise
  split
  · next h =>
    have same : { s with mlc := { s.mlc with eng := true } } = s := by rw [← h]
    rw [same]
    exact .refl s
  · exact raiseEv_reported ..

end

end Sys2Proof.Machine
end

section
/-!
SUPPORT. The rows of a pair's roles one by one: authority, takeover, Castling (14 R395 to R397, R412 to R421).
-/
namespace Sys2Proof.Machine

/-- No port has reported more than the largest epoch (10 R305). -/
theorem epochAck_le_maxAck (s : State) {p : Nat} (h : p < 36) : (s.port p).epochAck ≤ maxAck s := by
  have le := (foldl_max_le_iff (l := (vlist s.dl.ports).map (·.epochAck)) (a := 0)).1 (Nat.le_refl (maxAck s))
  have len : p < (vlist s.dl.ports).length := Nat.lt_of_lt_of_eq h s.dl.ports.size_toArray.symm
  have entry : s.port p = (vlist s.dl.ports)[p] := congrArg (Option.getD · default) (List.getElem?_eq_getElem len)
  exact le.2 _ (List.mem_map.2 ⟨s.port p, entry ▸ List.getElem_mem len, rfl⟩)

section
variable (epoch : Nat) (s : State)

theorem takeAuthority_authority : (takeAuthority epoch s).dl.authority = true := congrArg DlSt.authority (engRaise_reported _).dl
theorem takeAuthority_lost : (takeAuthority epoch s).dl.lost = false := congrArg DlSt.lost (engRaise_reported _).dl
theorem takeAuthority_epoch : (takeAuthority epoch s).dl.epoch = epoch := congrArg DlSt.epoch (engRaise_reported _).dl
theorem takeAuthority_eng : (takeAuthority epoch s).mlc.eng = true := (engRaise_reported _).field MlcSt.eng
theorem takeAuthority_role : (takeAuthority epoch s).mlc.role = s.mlc.role := (engRaise_reported _).field MlcSt.role
theorem takeAuthority_waitEnd : (takeAuthority epoch s).mlc.waitEnd = s.mlc.waitEnd :=
  (engRaise_reported _).field MlcSt.waitEnd
theorem takeAuthority_axes : (takeAuthority epoch s).axes = s.axes := (engRaise_reported _).axes
theorem takeAuthority_cyc : (takeAuthority epoch s).cyc = s.cyc := (engRaise_reported _).cyc

end

/-! ### Authority (14 R396, R397) -/

theorem singleAuthority_takes {s : State} (ready : s.hif.fwReady = true) (single : s.mlc.role = .single)
    (field : s.hlt.fuses.state = 1) (none_ : s.dl.authority = false) :
    exec .singleAuthority s = .next (takeAuthority (maxAck s + 1) s) := by
  refine congrArg Host.Outcome.next (if_neg ?_)
  simp [ready, single, field, none_]

theorem singleAuthority_rests {s : State} (h : s.mlc.role ≠ .single ∨ s.dl.authority = true) :
    exec .singleAuthority s = .next s := by
  refine congrArg Host.Outcome.next (if_pos ?_)
  rcases h with h | h <;> simp [h]

theorem helloLive_unseen {s : State} (h : s.mlc.helloSince = none) : helloLive s = false := by
  unfold helloLive
  rw [h]
  rfl

/-- The largest epoch reported is a matter of the drive links. -/
theorem maxAck_congr {s t : State} (h : t.dl = s.dl) : maxAck t = maxAck s := by
  unfold maxAck
  rw [h]

/-- So is the epoch after it. -/
theorem nextEpoch_congr {s t : State} (h : t.dl = s.dl) : max t.dl.epoch (maxAck t) + 1 = max s.dl.epoch (maxAck s) + 1 := by
  rw [maxAck_congr h, h]

/-- Nothing shows authority elsewhere: the unit takes it as active (14 R397). -/
theorem pairWaitEnd_takes {s : State} {a : Time} (wait : s.mlc.waitEnd = some a) (other : s.mlc.otherAuth = false)
    (peer : s.mlc.peerAuth = false) (unseen : s.mlc.helloSince = none) :
    ∃ t, exec .pairWaitEnd s = .next t ∧ t.dl.authority = true ∧ t.mlc.role = .active
      ∧ t.dl.epoch = max s.dl.epoch (maxAck s) + 1 ∧ t.cyc.now = max s.cyc.now a ∧ t.mlc.waitEnd = none
      ∧ t.hif.evstat.testBit 104 = true := by
  have meaning : exec .pairWaitEnd s = execPairWaitEnd s := rfl
  rw [meaning]
  unfold execPairWaitEnd
  rw [wait]
  dsimp only
  obtain ⟨tb, src⟩ := tbWriteSrc_reported { s.upTo a with mlc := { s.mlc with waitEnd := none, role := .active } } (prmN s.ps Pid.TB_SRC 0)
  refine ⟨_, congrArg Host.Outcome.next ((if_neg (Bool.eq_false_iff.1 other)).trans (if_neg ?_)),
    takeAuthority_authority .., (takeAuthority_role ..).trans (src.field MlcSt.role), (takeAuthority_epoch ..).trans ?_,
    congrArg CycSt.now ((takeAuthority_cyc ..).trans src.cyc), (takeAuthority_waitEnd ..).trans (src.field MlcSt.waitEnd),
    raiseEv_own_bit ..⟩
  · exact Bool.eq_false_iff.1 (Bool.or_eq_false_iff.2 ⟨peer, Bool.and_eq_false_iff.2 (.inl (helloLive_unseen unseen))⟩)
  · exact nextEpoch_congr src.dl

/-- Authority shown elsewhere is left there (14 R397). -/
theorem pairWaitEnd_yields {s : State} {a : Time} (wait : s.mlc.waitEnd = some a)
    (h : s.mlc.otherAuth = true ∨ s.mlc.peerAuth = true) :
    ∃ t, exec .pairWaitEnd s = .next t ∧ t.dl.authority = s.dl.authority ∧ t.mlc.role = s.mlc.role ∧ t.mlc.waitEnd = none := by
  have meaning : exec .pairWaitEnd s = execPairWaitEnd s := rfl
  rw [meaning]
  unfold execPairWaitEnd
  rw [wait]
  dsimp only
  by_cases other : s.mlc.otherAuth = true
  · exact ⟨_, congrArg Host.Outcome.next (if_pos other), rfl, rfl, rfl⟩
  · have peer : s.mlc.peerAuth = true := h.resolve_left other
    exact ⟨_, congrArg Host.Outcome.next ((if_neg other).trans (if_pos (Bool.or_eq_true_iff.2 (.inl peer)))), rfl, rfl, rfl⟩

/-! ### Takeover (14 R412, R413) -/

theorem takeoverRecord_ready {s : State} (at_ : Time) (role : s.mlc.role = .shadow) (ready : s.mlc.shadow = .ready) :
    exec (.takeoverRecord at_) s = .next { s.upTo at_ with mlc := { s.mlc with tkDue := some (s.mlc.tkDue.getD at_) } } :=
  congrArg Host.Outcome.next (if_pos ⟨role, ready⟩)

/-- The first launch at or after an instant is not before it (10 R285). -/
theorem le_launchFrom (s : State) (t : Time) : t ≤ launchFrom s t := by
  unfold launchFrom
  extract_lets l
  exact Nat.sub_le_iff_le_add'.1 ((cdivN_le_iff (by decide)).1 (Nat.le_refl _))

/-- The state in which a READY Shadow decides: it is active and drives from the launch on (14 R413). -/
def State.decided (s : State) (tk : Time) : State :=
  { s with mlc := { s.mlc with tkDue := none, role := .active, tk := some tk, ackDue := true, peerHb := none }
           ttc := { s.ttc with authFrom := tk + 31250 * ns } }

theorem takeoverDecision_takes {s : State} {d : Time} (due : s.mlc.tkDue = some d) (role : s.mlc.role = .shadow)
    (ready : s.mlc.shadow = .ready) :
    let u := takeAuthority (s.dl.epoch + 1) (s.decided (launchFrom s (d + 2 * us)))
    exec .takeoverDecision s
      = .next (takeTickets (shadowTo .absent 0 (raiseAuthority Sts.OK (tbTakeover (prmN u.ps Pid.TB_SRC 0) u)))) := by
  have meaning : exec .takeoverDecision s = execTakeoverDecision s := rfl
  intro u
  rw [meaning]
  unfold execTakeoverDecision
  rw [due]
  exact congrArg Host.Outcome.next (if_neg fun h => h.elim (· role) (· ready))

theorem takeoverDecision_rests {s : State} {d : Time} (due : s.mlc.tkDue = some d)
    (h : s.mlc.role ≠ .shadow ∨ s.mlc.shadow ≠ .ready) :
    exec .takeoverDecision s = .next { s with mlc := { s.mlc with tkDue := none } } := by
  have meaning : exec .takeoverDecision s = execTakeoverDecision s := rfl
  rw [meaning]
  unfold execTakeoverDecision
  rw [due]
  exact congrArg Host.Outcome.next (if_pos h)

/-- A port without the new epoch counts a bad frame (14 R413, 10 R310). -/
theorem epochAckCheck_counts {s : State} {a : Time} (due : s.mlc.ackDue = true) (tk : s.mlc.tk = some a) :
    ∃ t, exec .epochAckCheck s = .next t ∧ t.cyc.now = max s.cyc.now (a + 3 * tCur) ∧ t.mlc.ackDue = false
      ∧ ∀ p < 36, (t.port p).badRun = if (s.port p).state.counts = true ∧ (s.port p).epochAck ≠ s.dl.epoch
          then incSat 3 (s.port p).badRun else (s.port p).badRun := by
  have meaning : exec .epochAckCheck s = execEpochAckCheck s := rfl
  rw [meaning]
  unfold execEpochAckCheck
  rw [due, tk]
  refine ⟨_, rfl, rfl, rfl, fun p hp => (congrArg PortSt.badRun (vrd_vmapI hp)).trans ?_⟩
  by_cases bad : (s.port p).state.counts = true ∧ (s.port p).epochAck ≠ s.dl.epoch
  · exact (congrArg PortSt.badRun (if_pos (Bool.and_eq_true_iff.2 ⟨bad.1, bne_iff_ne.2 bad.2⟩))).trans (if_pos bad).symm
  · refine (congrArg PortSt.badRun (if_neg fun h => bad ?_)).trans (if_neg bad).symm
    obtain ⟨counts, other⟩ := Bool.and_eq_true_iff.1 h
    exact ⟨counts, bne_iff_ne.1 other⟩

/-! ### Castling (14 R419 to R421) -/

theorem castlePrep_notes {s : State} (b : Time) (role : s.mlc.role = .shadow) (ready : castleReady s = true) :
    ∃ t c, exec (.castlePrep b) s = .next t ∧ t.mlc.castle = some c ∧ c.b = b ∧ c.outgoing = false
      ∧ c.epoch = s.dl.epoch + 1 ∧ t.mlc.unacked.length = s.mlc.unacked.length + 1 := by
  refine ⟨_, { b := b, outgoing := false, epoch := s.dl.epoch + 1 }, congrArg Host.Outcome.next (if_neg ?_), rfl, rfl, rfl, rfl, ?_⟩
  · exact fun h => h.elim (· role) (by simp [ready])
  · exact List.length_append

theorem castleAck_notes {s : State} {c : CastleSt} (h : s.mlc.castle = some c) :
    exec (.castleAck c.b) s = .next { s with mlc := { s.mlc with castle := some { c with acked := true } } } := by
  have meaning : exec (.castleAck c.b) s = execCastleAck c.b s := rfl
  rw [meaning]
  unfold execCastleAck
  rw [h]
  exact congrArg (fun x => Host.Outcome.next { s with mlc := { s.mlc with castle := some x } }) (if_pos rfl)

/-- What the boundary B of a Castling does, before the conditions of either unit are read (14 R419, R420). -/
theorem castleBoundary_reads {s : State} {c : CastleSt} (h : s.mlc.castle = some c) (ahead : c.done = false) :
    let u := s.upTo c.b
    exec .castleBoundary s = .next (if c.outgoing then
        if s.mlc.role ≠ .active ∨ s.mlc.peerF3 ∨ s.ssv.f3 then castleFail Sts.DEVICE_F3 0xFF u
        else if !castleReady s || !c.acked then castleFail Sts.SHADOW_NOT_READY 0xFF u
        else castleOut u
      else if s.mlc.role ≠ .shadow ∨ s.ssv.f3 ∨ !castleReady s then { u with mlc := { u.mlc with castle := none } }
      else castleIn c u) := by
  have meaning : exec .castleBoundary s = execCastleBoundary s := rfl
  intro u
  rw [meaning]
  unfold execCastleBoundary
  rw [h]
  exact congrArg Host.Outcome.next (if_neg (by simp [ahead]))

/-- A Castling is done at B + 4 current periods where no port of an ENABLED axis lacks the epoch (14 R420, R421). -/
theorem castleEpochCheck_done {s : State} {c : CastleSt} (h : s.mlc.castle = some c) (done : c.done = true) (auto : c.ticket = 0)
    (all : ackMissing s c.epoch = none) :
    ∃ t, exec .castleEpochCheck s = .next t ∧ t.mlc.castle = none ∧ t.mlc.castleDue = false ∧ t.mlc.overdue = false
      ∧ t.mlc.castleAge = (0, t.cyc.now) ∧ t.cyc.now = max s.cyc.now (c.b + 4 * tCur) ∧ t.ldg.journalDue = true
      ∧ t.hif.evstat.testBit 108 = true := by
  have meaning : exec .castleEpochCheck s = execCastleEpochCheck s := rfl
  have all' : ackMissing (s.upTo (c.b + 4 * tCur)) c.epoch = none := all
  rw [meaning]
  unfold execCastleEpochCheck
  rw [h]
  dsimp only
  rw [all']
  refine ⟨_, congrArg Host.Outcome.next (if_neg (by simp [done])), ?_⟩
  unfold castleDone
  dsimp only
  rw [if_pos auto]
  have touched := secTouch_reported { s.upTo (c.b + 4 * tCur) with
    mlc := { s.mlc with castle := none, castleAge := (0, max s.cyc.now (c.b + 4 * tCur)), castleDue := false, overdue := false } }
  have now : (secTouch { s.upTo (c.b + 4 * tCur) with
    mlc := { s.mlc with castle := none, castleAge := (0, max s.cyc.now (c.b + 4 * tCur)), castleDue := false, overdue := false } }).cyc.now
      = max s.cyc.now (c.b + 4 * tCur) := congrArg CycSt.now touched.cyc
  exact ⟨touched.field MlcSt.castle, touched.field MlcSt.castleDue, touched.field MlcSt.overdue,
    (touched.field MlcSt.castleAge).trans (congrArg (Prod.mk 0) now.symm), now, touched.journal rfl, raiseEv_own_bit ..⟩

/-! ### The states of the Shadow and the age of the Castling -/

/-- A Shadow state entered from another one: it stands, with its cause and E105. -/
theorem shadowTo_enters {s : State} {st : ShState} (cause : Nat) (other : s.mlc.shadow ≠ st) :
    (shadowTo st cause s).mlc.shadow = st ∧ (shadowTo st cause s).mlc.cause = cause
      ∧ (shadowTo st cause s).hif.evstat.testBit 105 = true := by
  obtain ⟨n, a, b, c, h⟩ := shadowTo_reported s st cause
  exact ⟨h.field MlcSt.shadow, h.field MlcSt.cause, shadowTo_event s cause other⟩

/-- What a Shadow state leaves of the Mirror link. -/
theorem shadowTo_field {α : Type} (st : ShState) (cause : Nat) (s : State) (f : MlcSt → α)
    (frameless : ∀ m q u, f { m with seqTx := q, unacked := u } = f m := by intros; rfl)
    (free : ∀ m n a b c, f (MlcSt.shadowIs m st cause n a b c) = f m := by intros; rfl) : f (shadowTo st cause s).mlc = f s.mlc := by
  obtain ⟨n, a, b, c, h⟩ := shadowTo_reported s st cause
  exact (h.field f frameless).trans (free ..)

theorem shadowReady_enters {s : State} (role : s.mlc.role = .active) (tracking : s.mlc.shadow = .tracking)
    (enough : (if s.mlc.castled then 1 else prmN s.ps Pid.READY_MIN 0) ≤ s.mlc.clean) :
    ∃ t, exec .shadowReady s = .next t ∧ t.mlc.shadow = .ready ∧ t.mlc.castled = false ∧ t.hif.evstat.testBit 105 = true := by
  have other : s.mlc.shadow ≠ .ready := by simp [tracking]
  obtain ⟨in_, -, event⟩ := shadowTo_enters (s := { s with mlc := { s.mlc with castled := false } }) 0 other
  exact ⟨_, congrArg Host.Outcome.next (if_pos ⟨role, tracking, enough⟩), in_, shadowTo_field .ready 0 _ MlcSt.castled, event⟩

theorem shadowReady_waits {s : State} (few : s.mlc.clean < (if s.mlc.castled then 1 else prmN s.ps Pid.READY_MIN 0)) :
    exec .shadowReady s = .next s :=
  congrArg Host.Outcome.next (if_neg fun h => Nat.not_le.2 few h.2.2)

theorem castleDue_reports {s : State} (role : s.mlc.role ≠ .single) (undue : s.mlc.castleDue = false)
    (aged : wipeCastle s.ps ≤ s.castleMs) (manual : prmN s.ps Pid.CASTLE_AUTO 0 = 0) :
    ∃ t, exec .castleDue s = .next t ∧ t.mlc.castleDue = true ∧ t.mlc.retryAt = s.cyc.now + 60 * sec
      ∧ t.hif.evstat.testBit 108 = true ∧ t.axes = s.axes := by
  have stays (t : State) (h : prmN t.ps Pid.CASTLE_AUTO 0 = 0) : autoCastle t = t := by
    unfold autoCastle
    rw [h]
    rfl
  have now_ : ¬ (s.mlc.role = .single ∨ s.mlc.castleDue = true ∨ s.castleMs < wipeCastle s.ps) := by
    simp [role, undue, aged]
  exact ⟨_, congrArg Host.Outcome.next ((if_neg now_).trans (stays _ manual)), rfl, rfl, raiseEv_own_bit .., rfl⟩

theorem castleOverdue_withdraws {s : State} (role : s.mlc.role ≠ .single) (first : s.mlc.overdue = false)
    (aged : prmN s.ps Pid.CASTLE_INTERVAL 0 * 3600000 ≤ s.castleMs) :
    ∃ t, exec .castleOverdue s = .next t ∧ t.mlc.overdue = true
      ∧ (s.mlc.role = .active → s.mlc.shadow = .ready → t.mlc.shadow = .tracking ∧ t.mlc.cause = 6)
      ∧ (s.mlc.role ≠ .active ∨ s.mlc.shadow ≠ .ready → t = { s with mlc := { s.mlc with overdue := true } }) := by
  have now_ : ¬ (s.mlc.role = .single ∨ s.mlc.overdue = true ∨ s.castleMs < prmN s.ps Pid.CASTLE_INTERVAL 0 * 3600000) := by
    simp [role, first, aged]
  by_cases h : s.mlc.role = .active ∧ s.mlc.shadow = .ready
  · have other : s.mlc.shadow ≠ .tracking := by simp [h.2]
    obtain ⟨in_, cause, -⟩ := shadowTo_enters (s := { s with mlc := { s.mlc with overdue := true } }) 6 other
    refine ⟨_, congrArg Host.Outcome.next ((if_neg now_).trans (if_pos h)), shadowTo_field .tracking 6 _ MlcSt.overdue,
      fun _ _ => ⟨in_, cause⟩, fun n => ?_⟩
    exact absurd h (Classical.not_and_iff_not_or_not.2 n)
  · exact ⟨_, congrArg Host.Outcome.next ((if_neg now_).trans (if_neg h)), rfl, fun r sh => absurd ⟨r, sh⟩ h, fun _ => rfl⟩

/-- Settles O60: each row of the roles by its own lemma above. -/
theorem rolesAndCastling : Obligations.RolesAndCastling := by
  unfold Obligations.RolesAndCastling
  refine ⟨?_, fun s h => singleAuthority_rests h, fun s a wait other peer unseen => pairWaitEnd_takes wait other peer unseen,
    fun s a wait h => pairWaitEnd_yields wait h, fun s at_ role ready => takeoverRecord_ready at_ role ready, ?_,
    fun s d due h => takeoverDecision_rests due h, fun s a due tk => epochAckCheck_counts due tk,
    fun s b role ready => castlePrep_notes b role ready, fun s c h => castleAck_notes h, ?_,
    fun s c h done auto all => castleEpochCheck_done h done auto all,
    fun s role tracking => ⟨shadowReady_enters role tracking, shadowReady_waits⟩,
    fun s role undue aged manual => castleDue_reports role undue aged manual, ?_, ?_,
    fun s role first aged => castleOverdue_withdraws role first aged⟩
  · intro s ready single field none_
    refine ⟨_, singleAuthority_takes ready single field none_, takeAuthority_authority .., takeAuthority_lost ..,
      takeAuthority_epoch .., takeAuthority_eng .., fun p hp => ?_, takeAuthority_axes ..⟩
    rw [takeAuthority_epoch]
    exact Nat.lt_succ_of_le (epochAck_le_maxAck s hp)
  · exact fun s d due role ready => ⟨le_launchFrom .., takeoverDecision_takes due role ready⟩
  · intro s c h ahead u
    refine ⟨fun out role peer own ready acked => ?_, fun out fault => ?_, fun in_ role own ready => ?_, fun in_ fault => ?_⟩
    all_goals rw [castleBoundary_reads h ahead]
    · simp [out, role, peer, own, ready, acked, u]
    · rw [if_pos out, if_pos fault]
    · simp [in_, role, own, ready, u]
    · rw [if_neg (by simp [in_]), if_pos (fault.imp_right .inl)]
  · intro s due
    exact congrArg Host.Outcome.next (if_neg (by simp [due]))
  · intro s undue
    exact congrArg Host.Outcome.next (if_pos (by simp [undue]))

end Sys2Proof.Machine
end

section
/-!
SUPPORT. The rows of the Mirror link one by one: lanes, heartbeats, frames, HELLO and pairing (14 R397 to R402, R409, R422 to R424).
-/
namespace Sys2Proof.Machine

/-! ### Lanes (14 R400) -/

theorem mirrorLaneUp_locks {s : State} {l : Nat} (hl : l < 5) (nonce : s.mlc.nonce ≠ 0) :
    ∃ t, exec (.mirrorLaneUp l) s = .next t
      ∧ vrd t.mlc.lanes l = { vrd s.mlc.lanes l with lock := true, good := 0 }
      ∧ (∀ j, j ≠ l → vrd t.mlc.lanes j = vrd s.mlc.lanes j)
      ∧ t.mlc.unacked.length = (s.mlc.unacked.filter fun f => f.typ != 3).length + 1 ∧ t.axes = s.axes := by
  have meaning : exec (.mirrorLaneUp l) s = execMirrorLaneUp l s := rfl
  rw [meaning]
  unfold execMirrorLaneUp
  rw [onUnit_in hl, if_pos nonce]
  exact ⟨_, rfl, vrd_vmd_same hl, fun j hj => vrd_vmd_off (Ne.symm hj), List.length_append, rfl⟩

theorem mirrorLaneInService_comes {s : State} {l : Nat} (hl : l < 5) (lock : (vrd s.mlc.lanes l).lock = true)
    (out : (vrd s.mlc.lanes l).inService = false) (good : 64 ≤ (vrd s.mlc.lanes l).good) (sound : (s.unit 5 l).st ≠ .suspect)
    (kept : (s.unit 5 l).st ≠ .retired) :
    ∃ t, exec (.mirrorLaneInService l) s = .next t ∧ (vrd t.mlc.lanes l).inService = true ∧ t.hif.evstat.testBit 110 = true := by
  have meaning : exec (.mirrorLaneInService l) s = execMirrorLaneInService l s := rfl
  rw [meaning]
  unfold execMirrorLaneInService
  rw [onUnit_in hl]
  refine ⟨_, congrArg Host.Outcome.next (if_neg ?_), congrArg MLane.inService (vrd_vmd_same hl), raiseEv_own_bit ..⟩
  simp [lock, out, good, sound, kept]

theorem mirrorLaneInService_waits {s : State} {l : Nat} (hl : l < 5) (few : (vrd s.mlc.lanes l).good < 64) :
    exec (.mirrorLaneInService l) s = .next s :=
  (onUnit_in hl).trans (congrArg Host.Outcome.next (if_pos (by simp [few])))

/-! ### Heartbeats (14 R402) -/

/-- What the reading of a heartbeat leaves, once it is counted. -/
structure Counted (s t : State) : Prop where
  axes : t.axes = s.axes
  ssv : t.ssv = s.ssv
  got : t.mlc.hbGot = s.mlc.hbGot
  missRun : t.mlc.missRun = s.mlc.missRun
  lanes : t.mlc.lanes = s.mlc.lanes

theorem Counted.refl (s : State) : Counted s s := ⟨rfl, rfl, rfl, rfl, rfl⟩

theorem Counted.trans {s t u : State} (h : Counted s t) (k : Counted t u) : Counted s u :=
  ⟨k.axes.trans h.axes, k.ssv.trans h.ssv, k.got.trans h.got, k.missRun.trans h.missRun, k.lanes.trans h.lanes⟩

theorem Counted.after {s t u : State} (k : Counted t u) (h : Counted s t) : Counted s u := h.trans k

theorem Counted.ite {p : Prop} [Decidable p] {s t u : State} (ht : Counted s t) (hu : Counted s u) :
    Counted s (if p then t else u) := by
  split
  · exact ht
  · exact hu

theorem Reported.counted {s t : State} (h : Reported s t) : Counted s t :=
  ⟨h.axes, h.ssv, h.field MlcSt.hbGot, h.field MlcSt.missRun, h.field MlcSt.lanes⟩

section
variable (s : State)

theorem shadowTo_counted (st : ShState) (cause : Nat) : Counted s (shadowTo st cause s) := by
  obtain ⟨n, a, b, c, h⟩ := shadowTo_reported s st cause
  exact h.counted.after ⟨rfl, rfl, rfl, rfl, rfl⟩

theorem castleFail_counted (status port : Nat) : Counted s (castleFail status port s) := by
  obtain ⟨c, h⟩ := castleFail_reported s status port
  exact h.counted.after ⟨rfl, rfl, rfl, rfl, rfl⟩

theorem tbMirror_counted : Counted s (tbMirror s) := by
  obtain ⟨tb, h⟩ := tbMirror_reported s
  exact h.counted.after ⟨rfl, rfl, rfl, rfl, rfl⟩

/-- The active unit reads its Shadow's heartbeat (14 Table 14-1, R399). -/
theorem hbOfShadow_counted (h : Heartbeat) : Counted s (hbOfShadow h s) := by
  unfold hbOfShadow
  extract_lets m s1
  have read : Counted s s1 := ⟨rfl, rfl, rfl, rfl, rfl⟩
  exact .ite (.trans (.ite (read.trans (castleFail_counted ..)) read) (shadowTo_counted ..)) read

/-- A unit without authority reads the active unit's heartbeat (14 R398, R413). -/
theorem hbOfActive_counted (h : Heartbeat) : Counted s (hbOfActive h s) := by
  unfold hbOfActive
  extract_lets m s1 m1 s2
  have read : Counted s s1 := ⟨rfl, rfl, rfl, rfl, rfl⟩
  have returned : Counted s s2 := .ite ((tbMirror_counted _).after ⟨rfl, rfl, rfl, rfl, rfl⟩) read
  exact .ite (returned.trans (shadowTo_counted ..)) returned

end

/-- A heartbeat whose stamp lies in its window counts, once, for the lanes that carried it (14 R400, R402). -/
theorem heartbeatReceived_counts {s : State} (mask at_ : Nat) {bytes : Bytes} (role : s.mlc.role ≠ .single) (len : bytes.length = 24)
    (first : s.mlc.hbGot = false)
    (in_ : inWindow ((s.upTo at_).stampOf 40 at_).at_ (stampUnit ((s.upTo at_).stampOf 40 at_).coarse) (hbExpect s - hbWin s)
      (hbExpect s + hbWin s) = true) :
    ∃ t, exec (.heartbeatReceived mask at_ bytes) s = .next t ∧ t.mlc.hbGot = true ∧ t.mlc.missRun = 0
      ∧ (∀ l < 5, (vrd t.mlc.lanes l).good = if mask.testBit l && (vrd s.mlc.lanes l).lock
        then min 64 ((vrd s.mlc.lanes l).good + 1) else 0) ∧ t.axes = s.axes ∧ t.ssv = s.ssv := by
  have meaning : exec (.heartbeatReceived mask at_ bytes) s = execHeartbeatReceived mask at_ bytes s := rfl
  rw [meaning]
  unfold execHeartbeatReceived
  rw [if_neg (by simp [role, len])]
  extract_lets u st t h m valid stamps fwd back fresh u1 m1 u2
  have ok : valid = true := Bool.and_eq_true_iff.2 ⟨in_, by simp [m, u, first]⟩
  have kept : Counted u1 u2 := .ite ⟨rfl, rfl, rfl, rfl, rfl⟩ (.refl u1)
  suffices fields : ∀ v, Counted u1 v → v.mlc.hbGot = true ∧ v.mlc.missRun = 0
      ∧ (∀ l < 5, (vrd v.mlc.lanes l).good = if mask.testBit l && (vrd s.mlc.lanes l).lock
        then min 64 ((vrd s.mlc.lanes l).good + 1) else 0) ∧ v.axes = s.axes ∧ v.ssv = s.ssv from
    ⟨_, rfl, fields _ (.ite kept (.ite (.ite kept (kept.trans (hbOfShadow_counted ..)))
      (.ite (kept.trans (hbOfActive_counted ..)) kept)))⟩
  intro v counted
  refine ⟨counted.got.trans (Bool.or_eq_true_iff.2 (.inr ok)), counted.missRun.trans (if_pos ok), fun l hl => ?_, counted.axes,
    counted.ssv⟩
  have lane := congrArg (fun w => (vrd w l).good) counted.lanes
  refine lane.trans ((congrArg MLane.good (vrd_vmapI hl)).trans (congrArg MLane.good (if_neg ?_)))
  simp [ok]

/-- The window of an expected heartbeat that is the first to be missed (14 R402). -/
theorem heartbeatWindowClose_misses {s : State} (running : s.cyc.running = true) (closed : s.mlc.hbT0 ≤ s.cyc.t0)
    (empty : s.mlc.hbGot = false) (want : hbExpected s = true) (first : s.mlc.missRun = 0) :
    ∃ t, exec .heartbeatWindowClose s = .next t ∧ t.mlc.missRun = 1 ∧ t.hif.evstat.testBit 106 = true
      ∧ (∀ l < 5, (vrd t.mlc.lanes l).good = 0) ∧ t.mlc.hbT0 = s.mlc.hbT0 + tCtl := by
  have meaning : exec .heartbeatWindowClose s = execHeartbeatWindowClose s := rfl
  have want' (at_ : Time) : hbExpected (s.upTo at_) = true := want
  rw [meaning]
  unfold execHeartbeatWindowClose
  rw [if_neg (by simp [running, closed])]
  dsimp only
  rw [want']
  have one : incSat 255 s.mlc.missRun = 1 := by rw [first]; rfl
  refine ⟨_, congrArg Host.Outcome.next ((if_neg (Bool.eq_false_iff.1 empty)).trans ((if_neg (by decide)).trans (if_neg ?_))),
    one, raiseEv_own_bit .., fun l hl => congrArg MLane.good (vrd_vmapI hl), rfl⟩
  exact fun two => absurd (one.symm.trans two) (by decide)

/-! ### Frames (14 R401, R409) -/

theorem mirrorAck_good {s : State} {seq : Nat} {f : MFrame} (h : (s.mlc.unacked.find? fun f => f.seq == seq) = some f) :
    exec (.mirrorAck seq true) s = .next { s with mlc := { s.mlc with unacked := s.mlc.unacked.filter fun x => x.seq != seq } } := by
  have meaning : exec (.mirrorAck seq true) s = execMirrorAck seq true s := rfl
  rw [meaning]
  unfold execMirrorAck
  rw [h]
  rfl

theorem mirrorAck_bad {s : State} {seq : Nat} {f : MFrame} (h : (s.mlc.unacked.find? fun f => f.seq == seq) = some f) :
    exec (.mirrorAck seq false) s = .next (resend f s.cyc.now s) := by
  have meaning : exec (.mirrorAck seq false) s = execMirrorAck seq false s := rfl
  rw [meaning]
  unfold execMirrorAck
  rw [h]
  rfl

theorem mirrorAckTimeout_resends {s : State} {seq : Nat} {f : MFrame}
    (h : (s.mlc.unacked.find? fun f => f.seq == seq) = some f) :
    exec (.mirrorAckTimeout seq) s = .next (resend f (f.at_ + 2 * us) (s.upTo (f.at_ + 2 * us))) := by
  have meaning : exec (.mirrorAckTimeout seq) s = execMirrorAckTimeout seq s := rfl
  rw [meaning]
  unfold execMirrorAckTimeout
  rw [h]

/-- After two tries a frame is given up (14 R401). -/
theorem resend_gives_up (s : State) {f : MFrame} (at_ : Time) (h : 2 ≤ f.tries) :
    (resend f at_ s).mlc.unacked = s.mlc.unacked.filter fun x => x.seq != f.seq := by
  unfold resend
  extract_lets ok
  have no : ok = false := Bool.and_eq_false_iff.2 (.inl (decide_eq_false (Nat.not_lt.2 h)))
  rw [if_neg (by simp [no])]

/-! ### HELLO (14 R397, R398, R422) -/

/-- Without a transfer under way none is done. -/
theorem transferDone_none {s : State} (check : Nat) (h : s.mlc.transfer = none) : transferDone check s = s := by
  unfold transferDone
  rw [h]

/-- The Mirror link once a HELLO is read (14 Table 14-4). -/
def MlcSt.greeted (m : MlcSt) (at_ serial nonce role epoch check : Nat) (proof : Bytes) : MlcSt :=
  { m with
    peer := some (serial, nonce, roleOf role, epoch, check), helloAt := at_
    helloSince := if m.helloSince.isSome && decide (at_ ≤ m.helloAt + 2 * ms) then m.helloSince else some at_
    proof := (match m.secret with
      | some k => proof == pairProof k nonce m.nonce serial Config.serial.toNat
      | none => false) && serial == m.pairSerial
    peerAuth := m.peerAuth || (m.waitEnd.isSome && decide (roleOf role = .active)) }

/-- What a unit of a pair does with a HELLO once it is read. -/
theorem hello_reads {s : State} (at_ serial nonce role epoch check : Nat) (proof : Bytes) (paired : s.mlc.role ≠ .single) :
    let v := { s.upTo at_ with mlc := s.mlc.greeted at_ serial nonce role epoch check proof }
    let w := if s.mlc.role = .active then transferDone check v else v
    exec (.hello at_ serial nonce role epoch check proof) s = .next (if w.mlc.role ≠ .active ∨ w.mlc.shadow ≠ .joining then w
      else if w.mlc.proof && (match w.ssv.conf with | some c => c.check == check | none => false)
        then shadowTo .tracking 0 (raiseEv 109 Sts.OK 0 0 0 w) else { w with mlc := { w.mlc with cause := 1 } }) :=
  congrArg Host.Outcome.next (if_neg paired)

theorem hello_seen {s : State} (at_ serial nonce role epoch check : Nat) (proof : Bytes) (shadow : s.mlc.role = .shadow) :
    ∃ t, exec (.hello at_ serial nonce role epoch check proof) s = .next t
      ∧ t.mlc.peer = some (serial, nonce, roleOf role, epoch, check) ∧ t.mlc.helloAt = at_ ∧ t.mlc.helloSince.isSome = true
      ∧ t.axes = s.axes := by
  have paired : s.mlc.role ≠ .single := by simp [shadow]
  have passive : ¬ s.mlc.role = .active := by simp [shadow]
  have reads := hello_reads at_ serial nonce role epoch check proof paired
  dsimp only at reads
  rw [if_neg passive, if_pos (.inl passive)] at reads
  refine ⟨_, reads, rfl, rfl, ?_, rfl⟩
  unfold MlcSt.greeted
  dsimp only
  split
  · next seen => exact (Bool.and_eq_true_iff.1 seen).1
  · rfl

/-- A JOINING Shadow that proves the pairing and has the check value tracks (14 R398, R422). -/
theorem hello_proven {s : State} (at_ serial nonce role epoch check : Nat) {proof k : Bytes} {r : ConfirmRec}
    (active : s.mlc.role = .active) (joining : s.mlc.shadow = .joining) (idle : s.mlc.transfer = none)
    (secret : s.mlc.secret = some k) (proves : (proof == pairProof k nonce s.mlc.nonce serial Config.serial.toNat) = true)
    (known : s.mlc.pairSerial = serial) (conf : s.ssv.conf = some r) (same : r.check = check) :
    ∃ t, exec (.hello at_ serial nonce role epoch check proof) s = .next t
      ∧ t.mlc.shadow = .tracking ∧ t.hif.evstat.testBit 109 = true ∧ t.hif.evstat.testBit 105 = true := by
  have paired : s.mlc.role ≠ .single := by simp [active]
  have reads := hello_reads at_ serial nonce role epoch check proof paired
  have proven : (s.mlc.greeted at_ serial nonce role epoch check proof).proof = true := by
    unfold MlcSt.greeted
    rw [secret]
    exact Bool.and_eq_true_iff.2 ⟨proves, beq_iff_eq.2 known.symm⟩
  generalize hm : s.mlc.greeted at_ serial nonce role epoch check proof = m at reads proven
  have role' : m.role = .active := by rw [← hm]; exact active
  have shadow' : m.shadow = .joining := by rw [← hm]; exact joining
  have idle' : m.transfer = none := by rw [← hm]; exact idle
  dsimp only at reads
  have done := transferDone_none (s := { s.upTo at_ with mlc := m }) check idle'
  have mine : (match (s.upTo at_).ssv.conf with | some c => c.check == check | none => false) = true := by
    rw [show (s.upTo at_).ssv.conf = some r from conf]
    exact beq_iff_eq.2 same
  rw [if_pos active, done, if_neg (by simp [role', shadow'])] at reads
  have tracks := reads.trans (congrArg Host.Outcome.next (if_pos (Bool.and_eq_true_iff.2 ⟨proven, mine⟩)))
  have noted := raiseEv_own_bit 109 Sts.OK 0 0 0 { s.upTo at_ with mlc := m }
  generalize hu : raiseEv 109 Sts.OK 0 0 0 { s.upTo at_ with mlc := m } = u at tracks noted
  have other : u.mlc.shadow ≠ .tracking := by rw [← hu]; exact fun h => absurd (shadow'.symm.trans h) (by decide)
  obtain ⟨in_, -, event⟩ := shadowTo_enters 0 other
  obtain ⟨n, a, b, c, reported⟩ := shadowTo_reported u .tracking 0
  exact ⟨_, tracks, in_, reported.events 109 noted, event⟩

/-- Three lanes and HELLOs for DET_DEBOUNCE make an ABSENT Shadow join (14 Table 14-1, R422). -/
theorem shadowJoining_joins {s : State} {h : Time} (since : s.mlc.helloSince = some h) (active : s.mlc.role = .active)
    (absent : s.mlc.shadow = .absent) (sound : s.mlc.peerF3 = false)
    (lanes : 3 ≤ ((List.range 5).filter fun i => (vrd s.mlc.lanes i).inService).length)
    (long : h + prmN s.ps Pid.DET_DEBOUNCE 0 * ms ≤ max s.cyc.now s.mlc.helloAt) (fresh : s.cyc.now ≤ s.mlc.helloAt + 2 * ms) :
    ∃ t, exec .shadowJoining s = .next t ∧ t.mlc.shadow = .joining ∧ t.hif.evstat.testBit 105 = true ∧ t.axes = s.axes := by
  have meaning : exec .shadowJoining s = execShadowJoining s := rfl
  have other : s.mlc.shadow ≠ .joining := by simp [absent]
  obtain ⟨in_, -, event⟩ := shadowTo_enters (if s.mlc.proof then 0 else 1) other
  rw [meaning]
  unfold execShadowJoining
  dsimp only
  rw [since]
  exact ⟨_, congrArg Host.Outcome.next (if_pos ⟨active, absent, by simp [sound], lanes, long, fresh⟩), in_, event,
    (shadowTo_counted ..).axes⟩

/-! ### Pairing (14 R422 to R424) -/

theorem paramRecord_keeps {s : State} {off : Nat} {bytes : Bytes} (last : Bool) (shadow : s.mlc.role = .shadow)
    (joining : s.mlc.shadow = .joining) (fits : off + bytes.length ≤ 2 ^ 22) :
    ∃ t, exec (.paramRecord off bytes last) s = .next t ∧ t.mlc.paramRx = putBytes (if off = 0 then [] else s.mlc.paramRx) off bytes
      ∧ (last = true → t.mlc.pairBy = some (s.cyc.now + prmN s.ps Pid.PAIR_T 0 * 60 * sec)) ∧ t.ssv = s.ssv := by
  have taken : ¬ (s.mlc.role ≠ .shadow ∨ s.mlc.shadow ≠ .joining ∨ 2 ^ 22 < off + bytes.length) := by
    exact not_or.2 ⟨not_not_intro shadow, not_or.2 ⟨not_not_intro joining, Nat.not_lt.2 fits⟩⟩
  cases last with
  | false => exact ⟨_, congrArg Host.Outcome.next (if_neg taken), rfl, fun h => Bool.noConfusion h, rfl⟩
  | true => exact ⟨_, congrArg Host.Outcome.next (if_neg taken), rfl, fun _ => rfl, rfl⟩

theorem setMode_mlc (m : OpMode) (s : State) : (setMode m s).mlc = s.mlc := by
  unfold setMode
  dsimp only
  split <;> rfl

/-- An audit record leaves the Mirror link but for its frames (13 R391). -/
theorem addAudit_field {α : Type} (eng check op st target : Nat) (s : State) (f : MlcSt → α)
    (frameless : ∀ m q u, f { m with seqTx := q, unacked := u } = f m := by intros; rfl) :
    f (addAudit eng check op st target s).mlc = f s.mlc := (secTouch_reported _).field f frameless

/-- The Shadow stores the secret and what was transferred (14 R423). -/
theorem pairSecret_stores {s : State} {secret : Bytes} {x y : ParamSet} (shadow : s.mlc.role = .shadow)
    (joining : s.mlc.shadow = .joining) (len : secret.length = 32) (some_ : s.mlc.paramRx ≠ [])
    (first : parseSet (pairParts s.mlc.paramRx).1 = .good x) (second : parseSet (pairParts s.mlc.paramRx).2.1 = .good y) :
    ∃ t, exec (.pairSecret secret) s = .next t ∧ t.mlc.secret = some secret ∧ t.mlc.paramRx = [] ∧ t.mlc.pairBy = none
      ∧ t.ssv.conf = readConfirm (pairParts s.mlc.paramRx).2.2.2 := by
  have meaning : exec (.pairSecret secret) s = execPairSecret secret s := rfl
  rw [meaning]
  unfold execPairSecret
  rw [if_neg (by simp [shadow, joining, len, some_])]
  dsimp only
  rw [first, second]
  dsimp only
  have link (u : State) : (if u.confirmed then setMode .commissioned u else u).mlc = u.mlc := by
    split
    · exact setMode_mlc ..
    · rfl
  have record (u : State) : (if u.confirmed then setMode .commissioned u else u).ssv.conf = u.ssv.conf := by
    split
    · rw [setMode_ssv]
    · rfl
  exact ⟨_, rfl, (addAudit_field _ _ _ _ _ _ MlcSt.secret).trans (congrArg MlcSt.secret (link _)),
    (addAudit_field _ _ _ _ _ _ MlcSt.paramRx).trans (congrArg MlcSt.paramRx (link _)),
    (addAudit_field _ _ _ _ _ _ MlcSt.pairBy).trans (congrArg MlcSt.pairBy (link _)), (addAudit_conf ..).trans (record _)⟩

theorem pairTExpiry_discards {s : State} {a : Time} (h : s.mlc.pairBy = some a) :
    exec .pairTExpiry s = .next (let u := s.upTo a
      { u with mlc := { u.mlc with pairBy := none, peerCheck := 0, transfer := none, paramRx := [] } }) := by
  have meaning : exec .pairTExpiry s = execPairTExpiry s := rfl
  rw [meaning]
  unfold execPairTExpiry
  rw [h]

theorem pairCommitEffect_acked {s : State} {w : Time × Bool} (h : s.mlc.commitWait = some w) :
    exec (.pairCommitEffect true) s = .next { s with
      mlc := { s.mlc with commitWait := none }
      fw := { s.fw with setNext := s.fw.setNext.map fun x => { x with at_ := min x.at_ s.effectAt } } } := by
  have meaning : exec (.pairCommitEffect true) s = execPairCommitEffect true s := rfl
  rw [meaning]
  unfold execPairCommitEffect
  rw [h]
  rfl

/-- A Shadow that has not acknowledged the set in time is READY no more (14 R424). -/
theorem pairCommitEffect_late {s : State} {w : Time × Bool} (h : s.mlc.commitWait = some w) (ready : s.mlc.shadow = .ready) :
    ∃ t, exec (.pairCommitEffect false) s = .next t ∧ t.mlc.shadow = .tracking ∧ t.mlc.cause = 7
      ∧ t.cyc.now = max s.cyc.now w.1 ∧ t.mlc.commitWait = none := by
  have meaning : exec (.pairCommitEffect false) s = execPairCommitEffect false s := rfl
  obtain ⟨n, a, b, c, reported⟩ := shadowTo_reported { s.upTo w.1 with mlc := { s.mlc with commitWait := none } } .tracking 7
  rw [meaning]
  unfold execPairCommitEffect
  rw [h]
  exact ⟨_, congrArg Host.Outcome.next (if_pos ready), reported.field MlcSt.shadow, reported.field MlcSt.cause,
    congrArg CycSt.now reported.cyc, reported.field MlcSt.commitWait⟩

/-- Settles O58: each row of the Mirror link by its own lemma above. -/
theorem mirrorLinkEvents : Obligations.MirrorLinkEvents := by
  unfold Obligations.MirrorLinkEvents
  refine ⟨fun s l hl nonce => mirrorLaneUp_locks hl nonce,
    fun s l hl lock out good sound kept => mirrorLaneInService_comes hl lock out good sound kept,
    fun s l hl few => mirrorLaneInService_waits hl few,
    fun s mask at_ bytes role len first in_ => heartbeatReceived_counts mask at_ role len first in_,
    fun s running closed empty want first => heartbeatWindowClose_misses running closed empty want first,
    fun s seq f h => ⟨mirrorAck_good h, mirrorAck_bad h, mirrorAckTimeout_resends h⟩,
    fun s f at_ h => resend_gives_up s at_ h, ?_,
    fun s at_ serial nonce role epoch check proof shadow => hello_seen at_ serial nonce role epoch check proof shadow, ?_,
    fun s h since active absent sound lanes long fresh => shadowJoining_joins since active absent sound lanes long fresh,
    fun s off bytes last shadow joining fits => paramRecord_keeps last shadow joining fits,
    fun s secret x y shadow joining len some_ first second => pairSecret_stores shadow joining len some_ first second,
    fun s a h => pairTExpiry_discards h, ?_⟩
  · exact fun s high h => congrArg Host.Outcome.next (if_neg h)
  · intro s at_ serial nonce role epoch check k r active joining idle secret known conf same
    exact hello_proven at_ serial nonce role epoch check active joining idle secret (beq_self_eq_true _) known conf same
  · exact fun s a b h => ⟨pairCommitEffect_acked h, fun ready => pairCommitEffect_late h ready⟩

end Sys2Proof.Machine
end

section
/-!
SUPPORT. A step and the queue, and the host commands that earlier parts leave: motion commands and reads of an axis (13 Tables
13-5, 13-6), enable, disable and the acknowledgement of a fault (01 R29 to R33, 13 Table 13-7).
-/
namespace Sys2Proof.Machine

/-! ### A step and the queue -/

/-- Settles O1: the meaning of a step on a queue with a front, and on an empty one. -/
theorem stepRunsFront : Obligations.StepRunsFront := by
  refine ⟨fun _ _ _ => rfl, fun s h => ?_⟩
  unfold step
  rw [h]

/-- Settles O3: every command keeps the queue (Laws/Keeps.lean). -/
theorem stepTakesOne : Obligations.StepTakesOne := fun c s t h => (exec_keeps c s t h).1

/-! ### What the renewed session leaves of the axes -/

section
variable (ch : Nat) (s : State)

@[simp] theorem begun_masters (fuel n : Nat) : masters (begun ch s) fuel n = masters s fuel n := by
  induction fuel generalizing n with
  | zero => rfl
  | succ f ih =>
    have same : masterOf (begun ch s) n = masterOf s n := rfl
    unfold masters
    simp only [same, ih]

@[simp] theorem begun_chainLinks (n m : Nat) : chainLinks (begun ch s) n m = chainLinks s n m := by
  unfold chainLinks
  simp only [begun_masters]

@[simp] theorem begun_pairHeld (who n p : Nat) : pairHeld who n p (begun ch s) = pairHeld who n p s := rfl
@[simp] theorem begun_port (p : Nat) : (begun ch s).port p = s.port p := rfl
@[simp] theorem begun_enableChecks (k : Nat) : enableChecks k (begun ch s) = enableChecks k s := rfl
@[simp] theorem begun_causeStands (k : Nat) : causeStands (begun ch s) k = causeStands s k := rfl

end

/-! ### Motion commands of an axis -/

section
variable {ch n : Nat} {s : State}

/-- An axis that may move passes the common checks of its motion commands, so those that follow decide (13 R377, R380). -/
theorem motionChecks_then {c : Bool} {rest : List (Bool × Nat)} (h : MayMove ch n c s) {range : Bool} (hr : range = false) :
    firstFail ((decide (64 ≤ n) || range, Sts.OUT_OF_RANGE) :: motionChecks n s ++ rest) = firstFail rest := by
  obtain ⟨-, -, hn, -, free, planned⟩ := h
  rw [decide_eq_false (Nat.not_le.2 hn), hr, List.cons_append]
  exact (firstFail_pass _ _).trans (firstFail_append (motionChecks_pass free planned))

/-- A motion command of an axis that may move is staged once its own checks pass (13 R378). -/
theorem hostRow_motion {c range : Bool} {op : Nat} {rest : State → List (Bool × Nat)} {cmd : StagedCmd} (h : MayMove ch n c s)
    (hr : range = false) (hc : firstFail (rest (begun ch s)) = none) :
    hostRow ch op (fun s => fwRun ch false (motionLetters n c s)
      ((decide (64 ≤ n) || range, Sts.OUT_OF_RANGE) :: motionChecks n s ++ rest s)
      (fun s => stageWait ch (s.axSc n) n cmd s) s) s = .next (stages ch op (s.axSc n) n cmd s) := by
  obtain ⟨serves, admits, hn, owns, -⟩ := id h
  refine hostRow_stages serves (fwRun_begun (if_pos hn) admits owns ?_ rfl)
  rw [begun_motionChecks, motionChecks_then h hr, hc]

/-- MOVE, JOG and STOP are checked for their fields, then as every motion command, then for the mode (03 Table 03-4). -/
theorem motionCmd_eq (range : Bool) (s : State) (more : List (Bool × Nat)) : motionCmd n range s ++ more
    = (decide (64 ≤ n) || range, Sts.OUT_OF_RANGE) :: motionChecks n s
      ++ ((!takesMotion (s.ax n).mode, Sts.WRONG_MODE) :: more) := by
  simp only [motionCmd, List.cons_append, List.append_assoc, List.nil_append]

theorem execMove_stages {way : Nat} {target : Int} (h : MayMove ch n true s) (mode : takesMotion (s.ax n).mode = true)
    (hw : way ≤ 2) (inside : targetBad s.ps n (s.ax n) target = false) :
    execMove ch n way target s = .next (stages ch 0x0401 (s.axSc n) n (.move way target) s) := by
  unfold execMove fwMove
  simp only [motionCmd_eq]
  refine hostRow_motion (rest := fun s => [_, (targetBad s.ps n (s.ax n) target, _)]) h
    (decide_eq_false (Nat.not_lt.2 hw)) (firstFail_none ?_)
  simp [mode, inside]

theorem execJog_stages {dir : Nat} (h : MayMove ch n true s) (mode : takesMotion (s.ax n).mode = true) (hd : dir ≤ 1) :
    execJog ch n dir s = .next (stages ch 0x0402 (s.axSc n) n (.jog (if dir = 0 then 1 else -1)) s) :=
  hostRow_motion (rest := fun s => [(!takesMotion (s.ax n).mode, Sts.WRONG_MODE)]) h (decide_eq_false (Nat.not_lt.2 hd))
    (firstFail_none (by simp [mode]))

theorem execStop_stages (h : MayMove ch n false s) (mode : takesMotion (s.ax n).mode = true) :
    execStop ch n s = .next (stages ch 0x0403 (s.axSc n) n .stop s) :=
  hostRow_motion (rest := fun s => [(!takesMotion (s.ax n).mode, Sts.WRONG_MODE)]) h rfl (firstFail_none (by simp [mode]))

theorem execGear_stages {m source align den : Nat} {num pA mA : Int} (h : MayMove ch n true s) (mode : (s.ax n).mode = .ptp)
    (rest : (s.ax n).atRest = true) (hm : m ≤ 63) (hs : source ≤ 1) (ha : align ≤ 1) (pos : 0 < den) (fits : den < 2 ^ 32)
    (other : n ≠ m) (open_ : n ∉ masters s 64 m) (short : chainLinks s n m ≤ 4) :
    execGear ch n m source align num den pA mA s
      = .next (stages ch 0x0405 (s.axSc n) n (.gear m (source == 1) (align == 1) num den pA mA) s) := by
  refine hostRow_motion (rest := fun s => [(decide ((s.ax n).mode ≠ .ptp), Sts.WRONG_MODE),
    (!(s.ax n).atRest, Sts.AXIS_MOVING), (n == m || (masters s 64 m).contains n, Sts.GEAR_LOOP),
    (decide (4 < chainLinks s n m), Sts.OUT_OF_RANGE)]) h ?_ (firstFail_none ?_)
  · simp only [decide_eq_false (Nat.not_lt.2 hm), decide_eq_false (Nat.not_lt.2 hs), decide_eq_false (Nat.not_lt.2 ha),
      decide_eq_false (Nat.ne_of_gt pos), decide_eq_false (Nat.not_le.2 fits), Bool.or_false]
  · simp [mode, rest, other, open_, short]

theorem execStepFollow_stages {p invert : Nat} (h : MayMove ch n true s) (mode : (s.ax n).mode = .ptp)
    (rest : (s.ax n).atRest = true) (ty : axType s.ps n ≠ .virtual) (inc : (prm s.ps Pid.STEP_INC n 0).isSome = true)
    (hp : p ≤ 7) (hi : invert ≤ 1) (held : pairHeld ch n p s = false) :
    execStepFollow ch n p invert s = .next (stages ch 0x0406 (s.axSc n) n (.stepFollow p (invert == 1)) s) := by
  unfold execStepFollow fwStepFollow
  simp only [Bool.or_assoc]
  refine hostRow_motion (rest := fun s => [(decide (axType s.ps n = .virtual) || ((prm s.ps Pid.STEP_INC n 0).isNone
    || decide ((s.ax n).mode ≠ .ptp)), Sts.WRONG_MODE), (!(s.ax n).atRest, Sts.AXIS_MOVING), (pairHeld ch n p s, Sts.RESOURCE_BUSY)])
    h ?_ (firstFail_none ?_)
  · simp only [decide_eq_false (Nat.not_lt.2 hp), decide_eq_false (Nat.not_lt.2 hi), Bool.or_false]
  · simp [mode, rest, ty, inc, held]

end

/-- SET_LIMITS asks for authority and ownership only; each limit that MASK names lies in its range and within its hard
counterpart, and DMAX is no less than SS_DECEL (03 R77, R80). -/
theorem execSetLimits_stages {ch n mask v a d j : Nat} {s : State} (h : Serves ch s) (ha : Admits false true false false s)
    (hn : n < 64) (owns : Owns ch (s.axSc n) s) (named : mask ≤ 15)
    (hv : mask.testBit 0 = true → 65536 ≤ v ∧ v ≤ 262144000 ∧ v ≤ prmN s.ps Pid.V_HARD n)
    (hacc : mask.testBit 1 = true → 1 ≤ a ∧ a ≤ 2 ^ 30 ∧ a ≤ prmN s.ps Pid.A_HARD n)
    (hd : mask.testBit 2 = true → 1 ≤ d ∧ d ≤ 2 ^ 30 ∧ d ≤ prmN s.ps Pid.D_HARD n ∧ prmN s.ps Pid.SS_DECEL n ≤ d)
    (hj : mask.testBit 3 = true → 1 ≤ j ∧ j ≤ 16777215 * 256 ∧ j ≤ prmN s.ps Pid.J_HARD n) :
    execSetLimits ch n mask v a d j s = .next (stages ch 0x0404 (s.axSc n) n (.setLimits mask v a d j) s) := by
  refine hostRow_stages h (fwRun_begun (if_pos hn) ha owns (firstFail_none ?_) rfl)
  simp only [List.forall_mem_cons, Bool.or_eq_false_iff, Bool.and_eq_false_imp, decide_eq_false_iff_not, Nat.not_le, Nat.not_lt,
    begun_ps]
  exact ⟨⟨hn, named⟩,
    ⟨⟨⟨fun b => ⟨(hv b).1, (hv b).2.1⟩, fun b => ⟨(hacc b).1, (hacc b).2.1⟩⟩, fun b => ⟨(hd b).1, (hd b).2.1⟩⟩,
      fun b => ⟨(hj b).1, (hj b).2.1⟩⟩,
    ⟨⟨⟨fun b => decide_eq_false (Nat.not_lt.2 (hv b).2.2), fun b => decide_eq_false (Nat.not_lt.2 (hacc b).2.2)⟩,
      fun b => decide_eq_false (Nat.not_lt.2 (hd b).2.2.1)⟩, fun b => decide_eq_false (Nat.not_lt.2 (hj b).2.2)⟩,
    fun b => decide_eq_false (Nat.not_lt.2 (hd b).2.2.2), nofun⟩

/-- Settles O17: each motion command passes its checks on an axis that may move. -/
theorem motionCommandsStage : Obligations.MotionCommandsStage := by
  refine ⟨?_, ?_, ?_, ?_, ?_, ?_⟩
  · exact fun _ _ _ _ _ h mode hw inside => execMove_stages h mode hw inside
  · exact fun _ _ _ _ h mode hd => execJog_stages h mode hd
  · exact fun _ _ _ h mode => execStop_stages h mode
  · exact fun _ _ _ _ _ _ _ _ _ _ h mode rest hm hs ha pos fits other open_ short =>
      execGear_stages h mode rest hm hs ha pos fits other open_ short
  · exact fun _ _ _ _ _ h mode rest ty inc hp hi held => execStepFollow_stages h mode rest ty inc hp hi held
  · exact fun _ _ _ _ _ _ _ _ h ha hn owns named hv hacc hd hj => execSetLimits_stages h ha hn owns named hv hacc hd hj

/-! ### Reads and flags of an axis, and the drive links -/

section
variable {ch n : Nat} {s : State} (h : Serves ch s)
include h

/-- A read of one of the 64 axes reports in F3 too (13 Table 13-6). -/
theorem hostRow_axisRead {op : Nat} {r : State → Rsp} (ha : Admits true false false false s) (hn : n < 64) :
    hostRow ch op (fwRead ch false { f := true } [(decide (64 ≤ n), Sts.OUT_OF_RANGE)] r) s = .next (reports ch op r s) :=
  hostRow_read h ha (firstFail_none (by simpa using hn))

theorem execClearAxisFlags_does {mask : Nat} (ha : Admits false false false false s) (hn : n < 64) (hm : mask < 512) :
    execClearAxisFlags ch n mask s
      = .next (does ch 0x040A (fun _ => okRsp) (fun b => b.mdAx n (AxisSt.clearFlags mask)) s) := by
  refine hostRow_does_of_hif h ?_ (State.mdAx_hif ..)
  unfold fwClearAxisFlags
  rw [decide_eq_false (Nat.not_le.2 hm)]
  exact fwRun_free rfl ha (firstFail_none (by simpa using hn))

/-- One READ may be outstanding on a port (10 R314). -/
theorem execStageRead_awaits {p addr : Nat} (ha : Admits false true false false s) (hp : p < 36) (haddr : addr < 2 ^ 16)
    (idle : (s.port p).ctl = none) :
    execStageRead ch p addr s = .next (awaits ch 0x040B s ((begun ch s).mdPort p fun x => { x with
      ctl := some (ch, x.ctlTag, addr, 0), ctlTag := if x.ctlTag = 255 then 1 else x.ctlTag + 1
      ctlSeq := some (s.chan ch).expect_ })) := by
  refine hostRow_waits h ?_ rfl rfl
  unfold fwStageRead
  rw [fwRun_free rfl ha (firstFail_none ?_), if_pos h.1, begun_chan_expect h]
  simpa [idle] using ⟨hp, haddr⟩

theorem execDlReset_does {ports : Nat} (ha : Admits false true false false s) (hp : ports < 2 ^ 36)
    (off : ∀ p ∈ portsOf ports, ∀ e ∈ portAxes s.ps p, (s.ax e.2.2).fn = .disabled) :
    execDlReset ch ports s = .next (does ch 0x040C (fun b => effectRsp b.effectAt)
      (fun b => { b with fw := { b.fw with
        dlReset := some (b.effectAt, ports ||| (match b.fw.dlReset with | some x => x.2 | none => 0)) } }) s) := by
  refine hostRow_does_of_hif h (fwRun_free rfl ha (firstFail_none ?_)) rfl
  have none_ : ((portsOf ports).any fun p => (portAxes s.ps p).any fun e => decide ((s.ax e.2.2).fn ≠ .disabled)) = false := by
    simpa using fun p hp a b m he => off p hp (a, b, m) he
  exact List.forall_mem_cons.2 ⟨decide_eq_false (Nat.not_le.2 hp), List.forall_mem_cons.2 ⟨none_, nofun⟩⟩

end

/-- Settles O18: two reads, the flags of an axis, and the two commands of the drive links. -/
theorem axisReadsAndLinks : Obligations.AxisReadsAndLinks := by
  refine ⟨?_, ?_, ?_, ?_, ?_⟩
  · exact fun _ _ _ h ha hn => hostRow_axisRead h ha hn
  · exact fun _ _ _ h ha hn => hostRow_axisRead h ha hn
  · exact fun _ _ _ _ h ha hn hm => execClearAxisFlags_does h ha hn hm
  · exact fun _ _ _ _ h ha hp haddr idle => execStageRead_awaits h ha hp haddr idle
  · exact fun _ _ _ h ha hp off => execDlReset_does h ha hp off

/-! ### Enable, disable and the acknowledgement of a fault -/

section
variable {ch k scope : Nat} {s : State} (h : Serves ch s)
include h

/-- What ENABLE answers to a scope that is SHUTTING_DOWN (01 R29). -/
theorem execEnable_shutting (ha : Admits false true true false s) (hs : scopeField s.ps scope = some k) (owns : Owns ch k s)
    (shut : (s.sc k).fn = .shuttingDown) :
    execEnable ch scope s = .next (reports ch 0x0501 (fun _ => rspOf Sts.BUSY_SHUTDOWN) s) := by
  have mine : notOwner ch k (begun ch s) = false := owns
  refine hostRow_reports h ?_
  unfold fwEnable
  dsimp only
  rw [begun_scopeBad, begun_scopeOf, scopeBad_some hs, scopeOf_some hs, begun_sc, shut, mine]
  refine fwRun_free_refused rfl ha ?_
  simp [firstFail, enableChecks, State.shutting, shut]

theorem execChannelEnable_shutting {cb : Nat} (ha : Admits false true false false s) (hb : prmN s.ps Pid.CB_EN 0 = 1)
    (hc : cb ≤ 1) (shut : (vrd s.ttc.ch cb).fn = .shuttingDown) :
    execChannelEnable ch cb s = .next (reports ch 0x0903 (fun _ => rspOf Sts.BUSY_SHUTDOWN) s) := by
  refine hostRow_reports h ?_
  unfold fwChannelEnable
  exact fwRun_free_refused rfl ha (by rw [firstFail_bound hc, noCellBus_begun _ _ hb, begun_ttc, shut]; rfl)

theorem execPairBegin_shutting (ha : Admits false true false false s)
    (shut : s.fw.unpairAt.isSome = true ∨ s.mlc.unpairing.isSome = true) :
    execPairBegin ch s = .next (reports ch 0x0A03 (fun _ => rspOf Sts.BUSY_SHUTDOWN) s) := by
  have busy : ((begun ch s).fw.unpairAt.isSome || (begun ch s).mlc.unpairing.isSome) = true := Bool.or_eq_true_iff.2 shut
  refine hostRow_reports h ?_
  unfold fwPairBegin
  exact fwRun_free_refused rfl ha (by rw [busy]; rfl)

omit h in
/-- FAULT_ACK is judged on the scope that its field names (01 R33). -/
theorem fwFaultAck_eq (ha : Admits false true false false s) (hs : scopeField s.ps scope = some k) :
    fwFaultAck ch false scope (begun ch s) =
      if (s.sc k).ackDue = true ∧ ((s.sc k).fn ≠ .disabled ∨ causeStands s k = true) then
        (some (rspOf Sts.FAULT_PRESENT), begun ch s)
      else (some okRsp, if (s.sc k).ackDue then (begun ch s).mdSc k fun c =>
        { c with ackDue := false, level := 0, status := Sts.OK, rank := 0 } else begun ch s) := by
  unfold fwFaultAck
  dsimp only
  rw [begun_scopeBad, begun_scopeOf, scopeBad_some hs, scopeOf_some hs, begun_sc, begun_causeStands]
  by_cases c : (s.sc k).ackDue = true ∧ ((s.sc k).fn ≠ .disabled ∨ causeStands s k = true)
  · rw [if_pos c]
    refine fwRun_free_refused rfl ha ?_
    simpa [firstFail, imp_iff_not_or] using c
  · rw [if_neg c]
    refine fwRun_free rfl ha ?_
    simpa [firstFail] using c

end

/-- Settles O19: the three enable commands of a function that is SHUTTING_DOWN. -/
theorem enableWhileShuttingDown : Obligations.EnableWhileShuttingDown := by
  refine ⟨?_, ?_, ?_⟩
  · exact fun _ _ _ _ h ha hs owns shut => execEnable_shutting h ha hs owns shut
  · exact fun _ _ _ h ha hb hc shut => execChannelEnable_shutting h ha hb hc shut
  · exact fun _ _ h ha shut => execPairBegin_shutting h ha shut

/-- Settles O22: the command on a fault whose cause is gone, without a fault, and while the cause stands. -/
theorem faultAcknowledged : Obligations.FaultAcknowledged := by
  intro ch scope k s h ha hs
  refine ⟨fun due off gone => ?_, fun none_ => ?_, fun due stands => ?_⟩
  · exact hostRow_does_of_hif h (by rw [fwFaultAck_eq ha hs]; simp [due, off, gone]) rfl
  · exact hostRow_reports h (by rw [fwFaultAck_eq ha hs]; simp [none_])
  · exact hostRow_reports h (by rw [fwFaultAck_eq ha hs]; simp [due, stands])

/-! ### An enable while the tile shuts down -/

/-- `ready` while the solver tile of arm 7 shuts down and the arm itself is DISABLED (01 Table 01-6). -/
def tileShutting : State := ready.mdPlr 7 fun r => { r with tileFn := .shuttingDown }

/-- Commands staged in the state an outcome leads to. -/
def stagedAfter (o : Out) : Nat := match o with | .next t => t.fw.staged.length | _ => 0

/-- Refutes O20: an arm that is DISABLED, meets every condition of `MayEnable` and whose solver tile still shuts down is answered
BUSY_SHUTDOWN (01 R29), so nothing is staged. -/
theorem not_enableAndDisable : ¬ Obligations.EnableAndDisable := by
  intro all
  have serves : Serves 0 tileShutting := by unfold Serves; decide +kernel
  have admits : Admits false true true false tileShutting := by unfold Admits; decide +kernel
  have may : MayEnable 7 tileShutting := by unfold MayEnable; decide +kernel
  have staged := all.1 0 7 7 tileShutting serves admits (by decide +kernel) may
  have none_ : stagedAfter (exec (.enable 0 7) tileShutting) = 0 := by decide +kernel
  have one : stagedAfter (.next (stages 0 0x0501 7 64 .enable tileShutting)) = 1 := by decide +kernel
  rw [staged, one] at none_
  cases none_

end Sys2Proof.Machine
end

section
/-!
SUPPORT. What an F2 reaction does to the scopes and their axes (01 Table 01-7, 09 R265), and the link fault of a port that leads
to it (10 R310).
-/
namespace Sys2Proof.Machine

/-! ### Operations that touch neither scopes nor links -/

/-- `t` has the scopes, the drive links and the sets of `s`, and every axis its function state. -/
structure SameFunctions (s t : State) : Prop where
  scopes : t.ssv.scopes = s.ssv.scopes
  dl : t.dl = s.dl
  sets : t.sets = s.sets
  fn : ∀ n < 64, (t.ax n).fn = (s.ax n).fn

section
variable {s t u : State}

theorem SameFunctions.refl (s : State) : SameFunctions s s := ⟨rfl, rfl, rfl, fun _ _ => rfl⟩

theorem SameFunctions.trans (a : SameFunctions s t) (b : SameFunctions t u) : SameFunctions s u :=
  ⟨b.scopes.trans a.scopes, b.dl.trans a.dl, b.sets.trans a.sets, fun n h => (b.fn n h).trans (a.fn n h)⟩

theorem SameFunctions.ite {p : Prop} [Decidable p] (a : SameFunctions s t) (b : SameFunctions s u) :
    SameFunctions s (if p then t else u) := by
  split
  · exact a
  · exact b

/-- A change of other blocks. -/
theorem SameFunctions.of_eq (hs : t.ssv.scopes = s.ssv.scopes) (hd : t.dl = s.dl) (hp : t.sets = s.sets) (ha : t.axes = s.axes) :
    SameFunctions s t := ⟨hs, hd, hp, fun n _ => congrArg AxisSt.fn (congrArg (vrd · n) ha)⟩

theorem SameFunctions.sc (h : SameFunctions s t) (k : Nat) : t.sc k = s.sc k := congrArg (vrd · k) h.scopes

theorem SameFunctions.axSc (h : SameFunctions s t) (n : Nat) : t.axSc n = s.axSc n := by
  unfold State.axSc State.ps
  rw [h.sets]

/-- A change of axes that keeps their function states. -/
theorem vmapI_sameFunctions {f : Nat → AxisSt → AxisSt} (same : ∀ n a, (f n a).fn = a.fn) :
    SameFunctions s { s with axes := vmapI s.axes f } :=
  ⟨rfl, rfl, rfl, fun _ h => (congrArg AxisSt.fn (vrd_vmapI h)).trans (same _ _)⟩

theorem mdAxes_sameFunctions {l : List Nat} {f : AxisSt → AxisSt} (same : ∀ a, (f a).fn = a.fn) : SameFunctions s (s.mdAxes l f) :=
  vmapI_sameFunctions fun n a => by
    split
    · exact same a
    · rfl

theorem mdAx_sameFunctions {n : Nat} {f : AxisSt → AxisSt} (same : ∀ a, (f a).fn = a.fn) : SameFunctions s (s.mdAx n f) := by
  refine ⟨rfl, rfl, rfl, fun m hm => ?_⟩
  by_cases e : n = m
  · subst e
    rw [State.mdAx_ax _ _ hm]
    exact same _
  · rw [State.mdAx_ax_off _ _ e]

theorem raiseEv_sameFunctions (ev st sub hi lo : Nat) (s : State) : SameFunctions s (raiseEv ev st sub hi lo s) :=
  .of_eq rfl rfl rfl rfl

theorem endTicket_sameFunctions (num state final : Nat) (s : State) : SameFunctions s (endTicket num state final s) := by
  have told := endTicket_reported s num state final
  refine .of_eq (congrArg SsvSt.scopes told.ssv) told.dl ?_ told.axes
  unfold endTicket
  split
  · rfl
  · exact mirDelta_sets ..

theorem failHoming_sameFunctions (k status : Nat) (s : State) : SameFunctions s (failHoming k status s) := by
  refine List.foldlRecOn (motive := SameFunctions s) _ _ (.refl s) fun t h n _ => ?_
  split
  · exact h
  · refine SameFunctions.trans ?_ (endTicket_sameFunctions ..)
    exact h.trans (mdAx_sameFunctions fun _ => rfl)

theorem abortBrakeTest_sameFunctions (k : Nat) (s : State) : SameFunctions s (abortBrakeTest k s) := by
  unfold abortBrakeTest
  split
  · exact .refl s
  split
  · exact .refl s
  · refine SameFunctions.trans ?_ (raiseEv_sameFunctions ..)
    refine SameFunctions.trans ?_ (endTicket_sameFunctions ..)
    exact .of_eq rfl rfl rfl rfl

theorem tileShut_sameFunctions (k : Nat) (s : State) : SameFunctions s (tileShut k s) := by
  have withdrawn : SameFunctions s (withdraw k s) := by
    unfold withdraw
    dsimp only
    split
    · exact .refl s
    · exact .of_eq rfl rfl rfl rfl
  exact .ite (.refl s) (withdrawn.trans (.of_eq rfl rfl rfl rfl))

theorem faultSides_sameFunctions (k status : Nat) (s : State) : SameFunctions s (faultSides k status s) := by
  refine SameFunctions.trans ?_ (tileShut_sameFunctions ..)
  refine SameFunctions.trans ?_ (abortBrakeTest_sameFunctions ..)
  refine SameFunctions.trans ?_ (failHoming_sameFunctions ..)
  exact .of_eq rfl rfl rfl rfl

theorem beginMeas_sameFunctions (k : Nat) (t : Time) (ticket : Option Nat) (s : State) :
    SameFunctions s (beginMeas k t ticket s) := .ite (.refl s) (.of_eq rfl rfl rfl rfl)

theorem putSto_sameFunctions (o : Nat) (on : Bool) (s : State) : SameFunctions s (putSto o on s) :=
  .ite (.of_eq rfl rfl rfl rfl) (.refl s)

theorem openPair_sameFunctions (k : Nat) (s : State) : SameFunctions s (openPair k s) :=
  .ite (.of_eq rfl rfl rfl rfl) (.refl s)

theorem setStoBits_sameFunctions (k : Nat) (on : Bool) (s : State) : SameFunctions s (setStoBits k on s) :=
  mdAxes_sameFunctions fun _ => rfl

end

/-! ### One scope under F2 -/

/-- Only axes of a scope are listed as its axes (01 R33). -/
theorem axScope_of_mem {ps : ParamSet} {k n : Nat} (h : n ∈ scopeAxes ps k) : axScope ps n = k := by
  unfold scopeAxes at h
  unfold axScope
  split at h
  · obtain ⟨j, -, hj⟩ := List.mem_flatMap.1 h
    have arm := (List.mem_filter.1 (List.mem_filter.1 hj).1).2
    rw [beq_iff_eq.1 arm]
  · next big =>
    split at h
    · next own =>
      obtain rfl := List.mem_singleton.1 h
      rw [Option.isNone_iff_eq_none.1 (Bool.and_eq_true_iff.1 own).2]
      dsimp only
      omega
    · cases h

/-- What the F2 reaction of scope `k` leaves: a scope below level 2 is SHUTTING_DOWN at level 2, any other keeps both; every other
scope and its axes stay. -/
structure F2Reaction (k : Nat) (s t : State) : Prop where
  dl : t.dl = s.dl
  sets : t.sets = s.sets
  off : ∀ j, k ≠ j → t.sc j = s.sc j
  fn : ∀ n < 64, s.axSc n ≠ k → (t.ax n).fn = (s.ax n).fn
  low : (s.sc k).level < 2 → (t.sc k).fn = .shuttingDown ∧ (t.sc k).level = 2
  high : 2 ≤ (s.sc k).level → (t.sc k).fn = (s.sc k).fn ∧ (t.sc k).level = (s.sc k).level

section
variable {s t u : State} {k : Nat}

theorem SameFunctions.f2Reaction (h : SameFunctions s t) (high : 2 ≤ (s.sc k).level) : F2Reaction k s t where
  dl := h.dl
  sets := h.sets
  off j _ := h.sc j
  fn n hn _ := h.fn n hn
  low l := absurd l (Nat.not_lt.2 high)
  high _ := by rw [h.sc k]; exact ⟨rfl, rfl⟩

/-- A change of scope `k` that keeps its function state and level. -/
theorem mdSc_f2Reaction (hk : k < 72) {f : ScopeSt → ScopeSt} (h : SameFunctions s t) (high : 2 ≤ (s.sc k).level)
    (same : ∀ c, (f c).fn = c.fn ∧ (f c).level = c.level) : F2Reaction k s (t.mdSc k f) where
  dl := h.dl
  sets := h.sets
  off j hj := (State.mdSc_sc_off _ _ hj).trans (h.sc j)
  fn n hn _ := h.fn n hn
  low l := absurd l (Nat.not_lt.2 high)
  high _ := by
    rw [State.mdSc_sc _ _ hk, h.sc k]
    exact same _

theorem f2One_reaction (hk : k < 72) (status rank : Nat) (s : State) : F2Reaction k s (f2One k status rank s) := by
  unfold f2One
  extract_lets c cut s1 s2 s3 s4 s5
  have off (t : State) : SameFunctions t (cut t) := by
    unfold cut
    extract_lets t1 t2
    have sto : SameFunctions t t2 := by
      refine (setStoBits_sameFunctions k true t).trans ?_
      unfold t2
      split
      · exact putSto_sameFunctions ..
      · exact .refl _
    split
    · exact sto.trans (openPair_sameFunctions ..)
    · exact sto
  split
  · next high =>
    split
    · exact mdSc_f2Reaction hk (off s) high fun _ => ⟨rfl, rfl⟩
    · exact (off s).f2Reaction high
  · next low =>
    have measured : SameFunctions s s2 :=
      ((off s).trans (faultSides_sameFunctions ..)).trans (beginMeas_sameFunctions ..)
    have stripped : SameFunctions s s3 := measured.trans (.ite (.of_eq rfl rfl rfl rfl) (.refl _))
    have here (x : ScopeSt → ScopeSt) : (s3.mdSc k x).sc k = x (s.sc k) := by
      rw [State.mdSc_sc _ _ hk, stripped.sc k]
    refine ⟨stripped.dl, stripped.sets, fun j hj => (State.mdSc_sc_off _ _ hj).trans (stripped.sc j), fun n hn other => ?_,
      fun _ => ⟨congrArg ScopeSt.fn (here _), congrArg ScopeSt.level (here _)⟩, fun high => absurd high low⟩
    have notOurs : (s4.scAxes k).contains n = false := by
      rw [Bool.eq_false_iff]
      intro listed
      exact other ((stripped.axSc n).symm.trans (axScope_of_mem (List.contains_iff_mem.1 listed)))
    refine Eq.trans ?_ (stripped.fn n hn)
    refine (congrArg AxisSt.fn (vrd_vmapI hn)).trans ?_
    rw [notOurs]
    rfl

end

/-! ### An axis and its scope while faults spread -/

/-- Scope `k` has left ENABLED at fault level 2 or above. -/
def Faulted (k : Nat) (s : State) : Prop := (s.sc k).fn ≠ .enabled ∧ 2 ≤ (s.sc k).level

/-- Axis `n` and its scope `k` agree: both run below level 2, or the scope is faulted. -/
def RunsOrFaulted (n k : Nat) (s : State) : Prop :=
  s.axSc n = k ∧ ((s.ax n).fn = .enabled ∧ (s.sc k).fn = .enabled ∧ (s.sc k).level < 2 ∨ Faulted k s)

section
variable {n k c : Nat} {s t : State} (hn : n < 64) (agree : RunsOrFaulted n k s)

theorem axSc_lt {n : Nat} (s : State) (h : n < 64) : s.axSc n < 72 := by
  unfold State.axSc axScope axArm
  dsimp only
  split
  · next a =>
    split at a
    · cases a
      omega
    · cases a
  · omega

include hn agree

theorem SameFunctions.keepsAgreement (h : SameFunctions s t) : RunsOrFaulted n k t := by
  unfold RunsOrFaulted Faulted at *
  rw [h.axSc, h.fn n hn, h.sc k]
  exact agree

/-- An F2 reaction leaves the axis and its scope in agreement, and faults the scope that it is for. -/
theorem F2Reaction.keepsAgreement (h : F2Reaction c s t) : RunsOrFaulted n k t ∧ (c = k → Faulted k t) := by
  obtain ⟨scope, state⟩ := agree
  have scope' : t.axSc n = k := by
    rw [← scope]
    unfold State.axSc State.ps
    rw [h.sets]
  by_cases e : c = k
  · subst e
    have now : Faulted c t := by
      rcases state with ⟨-, -, below⟩ | ⟨off, above⟩
      · obtain ⟨fn, level⟩ := h.low below
        exact ⟨by rw [fn]; decide, level.ge⟩
      · obtain ⟨fn, level⟩ := h.high above
        exact ⟨by rw [fn]; exact off, by rw [level]; exact above⟩
    exact ⟨⟨scope', .inr now⟩, fun _ => now⟩
  · refine ⟨⟨scope', ?_⟩, fun eq => absurd eq e⟩
    unfold Faulted
    rw [h.off k e, h.fn n hn (by rw [scope]; exact Ne.symm e)]
    exact state

omit agree in
/-- So do the reactions of a list of scopes. -/
theorem f2Ones_agree (status rank : Nat) {l : List Nat} (inside : ∀ c ∈ l, c < 72) (agree : RunsOrFaulted n k s) :
    RunsOrFaulted n k (l.foldl (fun s c => f2One c status rank s) s)
      ∧ (k ∈ l ∨ Faulted k s → Faulted k (l.foldl (fun s c => f2One c status rank s) s)) := by
  induction l generalizing s with
  | nil => exact ⟨agree, fun h => h.resolve_left List.not_mem_nil⟩
  | cons c l ih =>
    obtain ⟨hc, hl⟩ := List.forall_mem_cons.1 inside
    have reaction := f2One_reaction hc status rank s
    obtain ⟨next, own⟩ := reaction.keepsAgreement hn agree
    obtain ⟨rest, faulted⟩ := ih hl next
    refine ⟨rest, fun h => faulted ?_⟩
    by_cases e : c = k
    · exact .inr (own e)
    · refine h.imp (fun m => (List.mem_cons.1 m).resolve_left (Ne.symm e)) fun f => ?_
      unfold Faulted
      rw [reaction.off k e]
      exact f

omit hn agree in
/-- The spread holds what it began with, and scopes that exist. -/
theorem f2Spread_spec (s : State) (fuel : Nat) {l : List Nat} (inside : ∀ c ∈ l, c < 72) :
    (∀ c ∈ f2Spread s fuel l, c < 72) ∧ ∀ c ∈ l, c ∈ f2Spread s fuel l := by
  induction fuel generalizing l with
  | zero => exact ⟨inside, fun _ => id⟩
  | succ fuel ih =>
    unfold f2Spread
    extract_lets more
    split
    · exact ⟨inside, fun _ => id⟩
    · have wider : ∀ c ∈ l ++ more, c < 72 := fun c h =>
        (List.mem_append.1 h).elim (inside c) fun m => List.mem_range.1 (List.mem_filter.1 m).1
      obtain ⟨low, kept⟩ := ih wider
      exact ⟨low, fun c h => kept c (List.mem_append_left _ h)⟩

/-- F2 of a scope leaves every axis and its scope in agreement, and its own scope faulted (09 R265). -/
theorem faultF2_agree (status rank : Nat) (hc : c < 72) :
    RunsOrFaulted n k (faultF2 c status rank s) ∧ (c = k ∨ Faulted k s → Faulted k (faultF2 c status rank s)) := by
  unfold faultF2
  split
  · next off =>
    have noted : ∀ j < 72, ((s.mdSc c fun x => { x with faultAt := some (s.cyc.now, status) }).sc j).fn = (s.sc j).fn
        ∧ ((s.mdSc c fun x => { x with faultAt := some (s.cyc.now, status) }).sc j).level = (s.sc j).level := by
      intro j hj
      by_cases e : c = j
      · subst e
        rw [State.mdSc_sc _ _ hj]
        exact ⟨rfl, rfl⟩
      · rw [State.mdSc_sc_off _ _ e]
        exact ⟨rfl, rfl⟩
    obtain ⟨scope, state⟩ := agree
    have hk : k < 72 := by rw [← scope]; exact axSc_lt s hn
    obtain ⟨fn, level⟩ := noted k hk
    unfold RunsOrFaulted Faulted at *
    rw [fn, level]
    refine ⟨⟨scope, state⟩, fun h => ?_⟩
    rcases state with ⟨-, on, -⟩ | f
    · rcases h with rfl | f
      · rw [off] at on
        cases on
      · exact f
    · exact f
  · obtain ⟨inside, mine⟩ := f2Spread_spec s 72 (l := [c]) (by simpa using hc)
    obtain ⟨next, faulted⟩ := f2Ones_agree hn status rank inside agree
    refine ⟨next, fun h => faulted (h.imp_left ?_)⟩
    rintro rfl
    exact mine c List.mem_cons_self

end

/-! ### The link fault of a port -/

/-- What LINK_FAULT does for the axis of a slot of its port (10 R310). -/
def linkFaultAxis (n : Nat) (s : State) : State :=
  if (s.ax n).fn = .enabled then faultF2 (s.axSc n) Sts.LINK_FAULT 7 (raiseAxis n Sts.LINK_FAULT s) else s

/-- A slot that names no axis has none that is ENABLED. -/
theorem linkFaultAxis_none {m : Nat} (s : State) (h : 64 ≤ m) : linkFaultAxis m s = s := by
  have none_ : s.ax m = default := by
    unfold State.ax vrd
    simp [List.getD, h]
  unfold linkFaultAxis
  rw [none_]
  exact if_neg (by decide)

section
variable {n k : Nat} {s : State} (hn : n < 64)
include hn

theorem linkFaultAxis_agree (m : Nat) (agree : RunsOrFaulted n k s) :
    RunsOrFaulted n k (linkFaultAxis m s) ∧ (m = n ∨ Faulted k s → Faulted k (linkFaultAxis m s)) := by
  by_cases hm : m < 64
  case neg =>
    rw [linkFaultAxis_none s (Nat.not_lt.1 hm)]
    exact ⟨agree, fun h => h.resolve_left fun e => hm (e ▸ hn)⟩
  unfold linkFaultAxis
  split
  · have told : SameFunctions s (raiseAxis m Sts.LINK_FAULT s) := raiseEv_sameFunctions ..
    obtain ⟨next, faulted⟩ := faultF2_agree hn (told.keepsAgreement hn agree) Sts.LINK_FAULT 7 (axSc_lt s hm)
    refine ⟨next, fun h => faulted ?_⟩
    rcases h with rfl | f
    · exact .inl agree.1
    · right
      unfold Faulted
      rw [told.sc k]
      exact f
  · next off =>
    refine ⟨agree, fun h => ?_⟩
    rcases h with rfl | f
    · exact agree.2.resolve_left fun run => off run.1
    · exact f

/-- After the axes of a list that holds it the scope of an axis is faulted. -/
theorem linkFaultAxes_faulted {l : List Nat} (agree : RunsOrFaulted n k s) (h : n ∈ l ∨ Faulted k s) :
    Faulted k (l.foldl (fun s m => linkFaultAxis m s) s) := by
  induction l generalizing s with
  | nil => exact h.resolve_left List.not_mem_nil
  | cons m l ih =>
    obtain ⟨next, faulted⟩ := linkFaultAxis_agree hn m agree
    refine ih next ?_
    rcases h with h | f
    · exact (List.mem_cons.1 h).symm.imp id fun e => faulted (.inl e.symm)
    · exact .inr (faulted (.inr f))

end

/-! ### What stays of the drive links -/

theorem faultF2_dl {c : Nat} (hc : c < 72) (status rank : Nat) (s : State) : (faultF2 c status rank s).dl = s.dl := by
  unfold faultF2
  split
  · rfl
  · have inside := (f2Spread_spec s 72 (l := [c]) (by simpa using hc)).1
    exact List.foldlRecOn (motive := fun t : State => t.dl = s.dl) _ _ rfl fun t h c m =>
      ((f2One_reaction (inside c m) status rank t).dl).trans h

theorem linkFaultAxis_dl (m : Nat) (s : State) : (linkFaultAxis m s).dl = s.dl := by
  by_cases hm : m < 64
  · unfold linkFaultAxis
    split
    · exact faultF2_dl (axSc_lt s hm) ..
    · rfl
  · rw [linkFaultAxis_none s (Nat.not_lt.1 hm)]

/-- The axes of a port lose or gain AVAILABLE alone (10 Table 10-6). -/
theorem portAvail_sameFunctions (p : Nat) (on : Bool) (s : State) : SameFunctions s (portAvail p on s) :=
  List.foldlRecOn (motive := SameFunctions s) _ _ (.refl s) fun _ h _ _ => h.trans (mdAx_sameFunctions fun _ => rfl)

/-- A port in a new state keeps its LINK_FAULT, and the state of every other block but the events (10 R318). -/
theorem setPort_spec {p : Nat} (hp : p < 36) (st : PortState) (s : State) :
    ((setPort p st s).port p).state = st ∧ ((setPort p st s).port p).linkFault = (s.port p).linkFault
      ∧ (setPort p st s).ssv = s.ssv ∧ (setPort p st s).axes = s.axes ∧ (setPort p st s).sets = s.sets := by
  unfold setPort
  split
  · next e => exact ⟨e, rfl, rfl, rfl, rfl⟩
  · exact ⟨congrArg PortSt.state (vrd_vmd_same hp), (congrArg PortSt.linkFault (vrd_vmd_same hp)).trans rfl, rfl, rfl, rfl⟩

/-- The port as LINK_FAULT leaves it before the faults of its axes (10 R310). -/
def linkFaulted (p : Nat) (s : State) : State :=
  setPort p .faulted (portAvail p false (raisePort p Sts.LINK_FAULT (if (s.port p).cause = 0 then 6 else (s.port p).cause)
    (s.mdPort p fun x => { x with linkFault := true })))

/-- LINK_FAULT acts on a READY port with three bad frames in a row: the port first, then its axes. -/
theorem execLinkFault_acts {s : State} {p : Nat} (hp : p < 36) (ready : (s.port p).state = .ready) (run : 3 ≤ (s.port p).badRun) :
    execLinkFault p s = .next (((portAxes (linkFaulted p s).ps p).map fun e => e.2.2).foldl (fun s m => linkFaultAxis m s)
      (linkFaulted p s)) := by
  rw [List.foldl_map]
  exact onUnit_acts hp ⟨ready, run⟩

theorem linkFaulted_spec {s : State} {p : Nat} (hp : p < 36) :
    ((linkFaulted p s).port p).state = .faulted ∧ ((linkFaulted p s).port p).linkFault = true
      ∧ (linkFaulted p s).ssv.scopes = s.ssv.scopes ∧ (linkFaulted p s).sets = s.sets
      ∧ ∀ n < 64, ((linkFaulted p s).ax n).fn = (s.ax n).fn := by
  unfold linkFaulted
  generalize hu : raisePort p Sts.LINK_FAULT _ _ = u
  have avail := portAvail_sameFunctions p false u
  obtain ⟨state, kept, ssv, axes, sets⟩ := setPort_spec hp .faulted (portAvail p false u)
  have port : (portAvail p false u).port p = { s.port p with linkFault := true } := by
    refine (congrArg (fun d : DlSt => vrd d.ports p) avail.dl).trans ?_
    rw [← hu]
    exact vrd_vmd_same hp
  refine ⟨state, kept.trans (congrArg PortSt.linkFault port), ?_, ?_, fun n hn => ?_⟩
  · rw [ssv, avail.scopes, ← hu]
    rfl
  · rw [sets, avail.sets, ← hu]
    rfl
  · refine (congrArg (fun v => (vrd v n).fn) axes).trans ((avail.fn n hn).trans ?_)
    rw [← hu]
    rfl

/-- Settles O46: the port is out before its axes are faulted, and an axis that was ENABLED takes its scope with it. -/
theorem portFaultsItsScopes : Obligations.PortFaultsItsScopes := by
  intro s p hp ready run all
  obtain ⟨state, link, scopes, sets, fn⟩ := linkFaulted_spec (s := s) hp
  have dl (l : List Nat) : (l.foldl (fun s m => linkFaultAxis m s) (linkFaulted p s)).dl = (linkFaulted p s).dl :=
    List.foldlRecOn (motive := fun t : State => t.dl = (linkFaulted p s).dl) _ _ rfl fun t h m _ => (linkFaultAxis_dl m t).trans h
  have port (l : List Nat) := congrArg (fun d : DlSt => vrd d.ports p) (dl l)
  refine ⟨_, execLinkFault_acts hp ready run, (congrArg PortSt.state (port _)).trans state,
    (congrArg PortSt.linkFault (port _)).trans link, fun e he hn on => ?_⟩
  have ps : (linkFaulted p s).ps = s.ps := congrArg SetsSt.com sets
  obtain ⟨scope, level⟩ := all _ hn on
  have sc : (linkFaulted p s).sc (s.axSc e.2.2) = s.sc (s.axSc e.2.2) := congrArg (vrd · _) scopes
  have agree : RunsOrFaulted e.2.2 (s.axSc e.2.2) (linkFaulted p s) := by
    refine ⟨by unfold State.axSc; rw [ps], .inl ?_⟩
    rw [fn _ hn, sc]
    exact ⟨on, scope, level⟩
  rw [ps]
  exact linkFaultAxes_faulted hn agree (.inl (List.mem_map_of_mem he))

end Sys2Proof.Machine
end

section
/-!
SUPPORT. What an event, an answer or a ticket changes of the state: nothing that moves. And the staged commands of an axis at their
control-cycle start (01 R20, 03 R71 to R77).
-/
namespace Sys2Proof.Machine

/-! ### What only tells -/

/-- `t` differs from `s` in the blocks that tell of what happens alone: the host interface, the Ledger, the Mirror link, the pins and
the count of free values. -/
def Told (s t : State) : Prop :=
  t = { s with fresh := t.fresh, hif := t.hif, ldg := t.ldg, mlc := t.mlc, pwr := t.pwr }

section
variable {s t u : State}

theorem Told.refl (s : State) : Told s s := rfl

theorem Told.trans (a : Told s t) (b : Told t u) : Told s u := by
  unfold Told at *
  rw [b, a]

theorem Told.ite {p : Prop} [Decidable p] (a : Told s t) (b : Told s u) : Told s (if p then t else u) := by
  split
  · exact a
  · exact b

theorem Told.foldl {α : Type} {f : State → α → State} {l : List α} (h : Told s t) (hf : ∀ x a, Told x (f x a)) :
    Told s (l.foldl f t) :=
  List.foldlRecOn (motive := Told s) _ _ h fun x hx a _ => hx.trans (hf x a)

theorem Told.axes (h : Told s t) : t.axes = s.axes := by rw [h]
theorem Told.ssv (h : Told s t) : t.ssv = s.ssv := by rw [h]
theorem Told.sets (h : Told s t) : t.sets = s.sets := by rw [h]
theorem Told.tb (h : Told s t) : t.tb = s.tb := by rw [h]
theorem Told.fw (h : Told s t) : t.fw = s.fw := by rw [h]
theorem Told.cyc (h : Told s t) : t.cyc = s.cyc := by rw [h]
theorem Told.dl (h : Told s t) : t.dl = s.dl := by rw [h]
theorem Told.ssm (h : Told s t) : t.ssm = s.ssm := by rw [h]
theorem Told.planners (h : Told s t) : t.planners = s.planners := by rw [h]
theorem Told.ps (h : Told s t) : t.ps = s.ps := congrArg SetsSt.com h.sets
theorem Told.ax (h : Told s t) (n : Nat) : t.ax n = s.ax n := congrArg (vrd · n) h.axes

theorem raiseEv_told (ev st sub hi lo : Nat) (s : State) : Told s (raiseEv ev st sub hi lo s) := rfl
theorem mirSend_told (typ cycle addr len : Nat) (due : Option Time) (s : State) : Told s (mirSend typ cycle addr len due s) := rfl
theorem mdChan_told (c : Nat) (f : ChanSt → ChanSt) (s : State) : Told s (s.mdChan c f) := rfl

theorem mirDelta_told (addr len : Nat) (s : State) : Told s (mirDelta addr len s) := by
  obtain ⟨m, e⟩ := mirDelta_eq addr len s
  rw [e]
  rfl

theorem endTicket_told (num state final : Nat) (s : State) : Told s (endTicket num state final s) := by
  unfold endTicket
  split
  · exact .refl s
  · refine Told.trans ?_ (raiseEv_told ..)
    refine Told.trans ?_ (mirDelta_told ..)
    exact rfl

theorem finishTicket_told (num status : Nat) (s : State) : Told s (finishTicket num status s) := endTicket_told ..

theorem storeRsp_told (c seq crc op : Nat) (r : Rsp) (s : State) : Told s (storeRsp c seq crc op r s) := by
  refine Told.trans ?_ (mirDelta_told ..)
  refine Told.trans ?_ (mirDelta_told ..)
  exact mdChan_told ..

theorem writeRsp_told (c n op token seq : Nat) (dup : Bool) (ext : Option (Nat × Nat)) (r : Rsp) (s : State) :
    Told s (writeRsp c n op token seq dup ext r s) := by
  unfold writeRsp
  extract_lets st d s1
  have put : Told s s1 := by
    unfold s1
    cases d <;> rfl
  exact put.trans rfl

theorem answer_told (c seq : Nat) (r : Rsp) (s : State) : Told s (answer c seq r s) := by
  unfold answer
  split
  · exact .refl s
  · dsimp only
    split
    · refine Told.trans ?_ (writeRsp_told ..)
      refine Told.trans ?_ (storeRsp_told ..)
      exact mdChan_told ..
    · refine Told.trans ?_ (storeRsp_told ..)
      exact mdChan_told ..

theorem stagedAnswer_told (g : Staged) (r : Rsp) (s : State) : Told s (g.answer r s) := by
  unfold Staged.answer
  split
  · exact answer_told ..
  · exact .refl s

end

/-! ### When a staged command takes effect -/

/-- The start after the window that a stamp one unit later lies in. -/
theorem windowEnd_spec (t u : Nat) {p : Nat} (pos : 0 < p) :
    ((t + u) / p + 1) * p % p = 0 ∧ t + u < ((t + u) / p + 1) * p ∧ ((t + u) / p + 1) * p ≤ t + u + p := by
  have split := Nat.div_add_mod (t + u) p
  have rest := Nat.mod_lt (t + u) pos
  rw [Nat.add_mul, Nat.one_mul, Nat.mul_comm]
  exact ⟨by rw [Nat.add_mod_right, Nat.mul_mod_right], by omega, by omega⟩

/-- A command takes effect at the start after the window that its stamp is assigned to (01 R20, R24). -/
theorem effectAt_spec (s : State) : s.effectAt % tCtl = 0 ∧ s.cyc.now < s.effectAt ∧ s.effectAt ≤ s.cyc.now + ns + tCtl := by
  obtain ⟨whole, above, below⟩ := windowEnd_spec s.cyc.now ns (show 0 < tCtl by decide)
  exact ⟨whole, Nat.lt_of_le_of_lt (Nat.le_add_right ..) above, below⟩

/-! ### A command that acts on one axis -/

/-- `t` has every axis of `s` but axis `n`, its scopes, its sets and its time base. -/
structure OnAxis (n : Nat) (s t : State) : Prop where
  off : ∀ m, m ≠ n → t.ax m = s.ax m
  ssv : t.ssv = s.ssv
  sets : t.sets = s.sets
  tb : t.tb = s.tb

section
variable {n : Nat} {s t u : State}

theorem OnAxis.trans (a : OnAxis n s t) (b : OnAxis n t u) : OnAxis n s u :=
  ⟨fun m h => (b.off m h).trans (a.off m h), b.ssv.trans a.ssv, b.sets.trans a.sets, b.tb.trans a.tb⟩

theorem OnAxis.ite {p : Prop} [Decidable p] (a : OnAxis n s t) (b : OnAxis n s u) : OnAxis n s (if p then t else u) := by
  split
  · exact a
  · exact b

theorem Told.onAxis (h : Told s t) : OnAxis n s t := ⟨fun m _ => h.ax m, h.ssv, h.sets, h.tb⟩

theorem mdAx_onAxis (f : AxisSt → AxisSt) : OnAxis n s (s.mdAx n f) :=
  ⟨fun _ h => State.mdAx_ax_off _ _ (Ne.symm h), rfl, rfl, rfl⟩

/-- A change of the firmware's work in progress. -/
theorem fw_onAxis (w : FwSt) : OnAxis n s { s with fw := w } := ⟨fun _ _ => rfl, rfl, rfl, rfl⟩

/-- The way is cleared on the axis alone: an injection run is the firmware's, a search the axis's (05 R151, 03 R73). -/
theorem clearWay_onAxis (n : Nat) (s : State) : OnAxis n s (clearWay n s) := by
  unfold clearWay
  extract_lets k s1
  have run : OnAxis n s s1 := by
    unfold s1
    exact .ite (fw_onAxis _) (Told.refl s).onAxis
  split
  · refine run.trans (OnAxis.trans ?_ (mdAx_onAxis _))
    exact (endTicket_told ..).onAxis
  · exact run

/-- So does each motion effect (03 R71, R77, R86, R89, R97). -/
theorem motionEffect_onAxis (t0 : Time) (c : AxisSt → MotionCmd) : OnAxis n s (motionEffect n t0 c s) :=
  (clearWay_onAxis n s).trans (mdAx_onAxis _)

theorem homeEffect_onAxis (method : Nat) (dir : Int) (gpio : Nat) (setPos homePos : Option Int) (ticket : Nat) (t0 : Time) :
    OnAxis n s (homeEffect n method dir gpio setPos homePos ticket t0 s) := by
  unfold homeEffect
  extract_lets st ps
  split
  · exact (finishTicket_told ..).onAxis
  · exact (clearWay_onAxis n s).trans (mdAx_onAxis _)

theorem stepEffect_onAxis (p : Nat) (invert : Bool) (t0 : Time) : OnAxis n s (stepEffect n p invert t0 s) :=
  ((clearWay_onAxis n s).trans (mdAx_onAxis _)).trans (fw_onAxis _)

theorem stagedAnswer_onAxis (g : Staged) (r : Rsp) : OnAxis n s (g.answer r s) := (stagedAnswer_told g r s).onAxis

end

/-- A command that an axis takes: MOVE, JOG, STOP, SET_LIMITS, GEAR, STEP_FOLLOW or HOME (13 Table 13-5). -/
def StagedCmd.ofAxis : StagedCmd → Prop
  | .move _ _ | .jog _ | .stop | .setLimits .. | .gear .. | .stepFollow .. | .home .. => True
  | _ => False

/-- The effect of an axis's command stays on its axis (03 R72). -/
theorem stagedEffect_onAxis (t0 : Time) (g : Staged) (s : State) (h : g.cmd.ofAxis) : OnAxis g.axis s (stagedEffect t0 g s) := by
  unfold stagedEffect
  extract_lets ok n k motion
  have answered {t : State} (h : OnAxis n s t) : OnAxis n s (ok t) := h.trans (stagedAnswer_onAxis _ _)
  have guarded (stand : Bool) {f : State → State} (h : OnAxis n s (f s)) : OnAxis n s (motion stand f) := by
    unfold motion
    dsimp only
    split
    · exact h
    · exact stagedAnswer_onAxis _ _
  clear_value ok motion
  cases e : g.cmd with
  | move way target =>
    refine guarded _ ?_
    exact (motionEffect_onAxis ..).trans (stagedAnswer_onAxis _ _)
  | jog dir | stop =>
    refine guarded _ (answered ?_)
    exact motionEffect_onAxis ..
  | setLimits mask v a d j =>
    refine answered ?_
    exact mdAx_onAxis _
  | gear m fb align num den pA mA =>
    refine guarded _ (answered ?_)
    exact (clearWay_onAxis ..).trans (mdAx_onAxis _)
  | stepFollow p invert =>
    refine guarded _ (answered ?_)
    exact stepEffect_onAxis ..
  | home method dir gpio setPos homePos ticket => exact homeEffect_onAxis ..
  | _ =>
    rw [e] at h
    cases h

/-! ### What the effect leaves on its axis -/

section
variable {t0 : Time} {g : Staged} {s : State}

/-- An axis of a scope that runs motion commands, in a mode that takes them, takes a command that asks for no standstill (03 R71). -/
theorem effectStatus_ok {n : Nat} (free : canMove s (s.axSc n) = true) (mode : takesMotion (s.ax n).mode = true) :
    effectStatus s n t0 false = Sts.OK := by
  unfold effectStatus
  simp [free, mode]

/-- A point-to-point command leaves its axis in PTP mode (03 R71, R72). -/
theorem motionEffect_ptp {n : Nat} (hn : n < 64) (c : AxisSt → MotionCmd) : ((motionEffect n t0 c s).ax n).mode = .ptp :=
  congrArg AxisSt.mode (vrd_vmd_same hn)

/-- MOVE, JOG and STOP (13 Table 13-5). -/
def StagedCmd.ptp : StagedCmd → Prop
  | .move _ _ | .jog _ | .stop => True
  | _ => False

theorem stagedEffect_ptp (hn : g.axis < 64) (free : canMove s (s.axSc g.axis) = true) (mode : takesMotion (s.ax g.axis).mode = true) (h : g.cmd.ptp) :
    ((stagedEffect t0 g s).ax g.axis).mode = .ptp := by
  have ok := effectStatus_ok (t0 := t0) free mode
  unfold stagedEffect
  cases e : g.cmd with
  | move way target | jog dir | stop =>
    dsimp only
    rw [if_pos ok, (stagedAnswer_told ..).ax]
    exact motionEffect_ptp hn _
  | _ =>
    rw [e] at h
    cases h

/-- New limits leave those that the mask does not name (03 R77). -/
theorem stagedEffect_limits {mask v a d j : Nat} (hn : g.axis < 64) (h : g.cmd = .setLimits mask v a d j) :
    ((stagedEffect t0 g s).ax g.axis).lim = {
      v := if mask.testBit 0 then v else (s.ax g.axis).lim.v, a := if mask.testBit 1 then a else (s.ax g.axis).lim.a
      d := if mask.testBit 2 then d else (s.ax g.axis).lim.d, j := if mask.testBit 3 then j else (s.ax g.axis).lim.j } := by
  unfold stagedEffect
  rw [h]
  dsimp only
  rw [(stagedAnswer_told ..).ax]
  refine (congrArg AxisSt.lim (vrd_vmd_same hn)).trans ?_
  exact (apply_ite AxisSt.lim _ _ _).trans (ite_self _)

end

/-- Settles O36: the instant of the effect, what it leaves beside its axis, and what it leaves there. -/
theorem stagedCommandsTakeEffect : Obligations.StagedCommandsTakeEffect := by
  refine ⟨fun s _ => effectAt_spec s, fun t0 g s _ _ h => ?_, fun t0 g s hn free mode h => ?_,
    fun t0 g mask v a d j s hn h => stagedEffect_limits hn h⟩
  · have one := stagedEffect_onAxis t0 g s h
    exact ⟨one.off, one.ssv, congrArg SetsSt.com one.sets, one.tb⟩
  · exact stagedEffect_ptp hn free mode h

end Sys2Proof.Machine
end

section
/-!
SUPPORT. The cyclic events while they run: the current period, its cut-off and launch, the control cycle and its latch (01 Table
01-2).
-/
namespace Sys2Proof.Machine

section
variable {s : State} (running : s.cyc.running = true)
include running

/-- While the cycle events run, an event that is not yet made in its cycle acts (01 R26). -/
theorem notStopped_notDone {done : Bool} (open_ : done = false) : ¬(!s.cyc.running || done) = true := by
  rw [running, open_]
  decide

theorem notStopped : ¬(!s.cyc.running) = true := by
  rw [running]
  decide

end

/-- Settles O35: each event is its meaning with the guards that let it run. -/
theorem cyclicEvents : Obligations.CyclicEvents := by
  refine ⟨?_, ?_, ?_, ?_, ?_, ?_, ?_, ?_, ?_⟩
  · intro s running
    change execCurrentPeriodEvent s = _
    unfold execCurrentPeriodEvent
    rw [if_neg (notStopped running)]
    rfl
  · intro s running open_ u lacking v r w
    change execFeedbackCutoff s = _
    unfold execFeedbackCutoff
    rw [if_neg (notStopped_notDone running open_)]
    dsimp only
    have cut : cutFeedback s = w := rfl
    rw [cut]
    exact congrArg Host.Outcome.next (if_congr (by simp) rfl rfl)
  · intro s missed running open_ u all v w x
    change execOutboundLaunch missed s = _
    unfold execOutboundLaunch
    rw [if_neg (notStopped_notDone running open_)]
  · intro s n hn
    exact onUnit_in hn
  · intro s late running t0 u v w x
    change execControlCycleEvent late s = _
    unfold execControlCycleEvent
    rw [if_neg (notStopped running)]
  · intro s overrun running open_ t0 u late out v w x y z z
    change execLatch overrun s = _
    unfold execLatch
    rw [if_neg (notStopped_notDone running open_)]
  · intro s done
    exact congrArg Host.Outcome.next (if_pos (by rw [done, Bool.or_true]))
  · intro s missed done
    exact congrArg Host.Outcome.next (if_pos (by rw [done, Bool.or_true]))
  · intro s overrun done
    exact congrArg Host.Outcome.next (if_pos (by rw [done, Bool.or_true]))

end Sys2Proof.Machine
end

section
/-!
SUPPORT. O40: the plan period of an arm, its solve, the ways a solve ends, and an error of a tile.
-/
namespace Sys2Proof.Machine

/-! ### The plan period -/

theorem planPeriodEvent_moves {s : State} {k : Nat} (hk : k < 8) (running : s.cyc.running = true) (joints : armAxes s.ps k ≠ []) :
    exec (.planPeriodEvent k) s
      = .next ((moveTile k (s.upTo (nextAt (prmN s.ps Pid.PLAN_PERIOD k * us) (max (s.plr k).nextP0 s.cyc.t0)))).mdPlr k fun r =>
          { r with nextP0 := nextAt (prmN s.ps Pid.PLAN_PERIOD k * us) (max (s.plr k).nextP0 s.cyc.t0) + 1
                   begun := some (nextAt (prmN s.ps Pid.PLAN_PERIOD k * us) (max (s.plr k).nextP0 s.cyc.t0)) }) := by
  have some_ : (!s.cyc.running || (armAxes s.ps k).isEmpty) = false := by simp [running, joints]
  change execPlanPeriodEvent k s = _
  unfold execPlanPeriodEvent
  rw [onUnit_in hk]
  rw [if_neg (by rw [some_]; decide)]

theorem planWork_begun {s : State} {k : Nat} {p0 : Time} (begun : (s.plr k).begun = some p0) :
    planWork k s =
      if (s.plr k).planned = true ∧ (s.plr k).tileFn ≠ .disabled then
        (s.mdPlr k fun r => { r with begun := none }).mdPlr k fun r => { r with solve := some {
          p0 := p0, tile := r.tile.getD 15, admmK := prmN s.ps Pid.ADMM_K k
          posTol := prmI s.ps Pid.POS_TOL k, mute := decide (r.tileFn = .shuttingDown) } }
      else if (s.sc k).fn = .enabled ∧ (s.plr k).planned = false then publishStatic k p0 (s.mdPlr k fun r => { r with begun := none })
      else s.mdPlr k fun r => { r with begun := none } := by
  unfold planWork
  extract_lets r
  rw [show r.begun = some p0 from begun]
  exact if_congr (by simp [r]) rfl (if_congr (and_congr Iff.rfl (by simp [r])) rfl rfl)

/-! ### The ends of a solve -/

theorem solveOutcome_eq (k : Nat) (t : Time) (v : SolveSt) (r : QpOut) (knots : List (List (Int × Int))) (s : State) :
    solveOutcome k t v r knots s =
      if v.tileErr then 7 else if atOrAfter t ns (solveDue s.ps k v.p0) then 4 else if v.range then 3
      else if r.outcome ≠ 0 then r.outcome
      else if boxFails v knots = true ∨ (∃ d ∈ shortfalls v knots, v.inp.resTol.w < d) then 5 else 0 := by
  unfold solveOutcome
  refine if_congr Iff.rfl rfl (if_congr Iff.rfl rfl (if_congr Iff.rfl rfl (if_congr Iff.rfl rfl (if_congr ?_ rfl rfl))))
  simp

/-- A solve that runs when its completion is due ends with the outcome of its phases. -/
theorem completeSolve_running {s : State} {k iter : Nat} {t : Time} {v : SolveSt} (solve : (s.plr k).solve = some v)
    (runs : v.done = false) :
    completeSolve k iter t s =
      let r := qpSolve v.inp v.admmK (perCycles s.ps k) (s.plr k).warm
      let knots := simulate v r.fin
      let o := solveOutcome k t v r knots s
      endSolve k o r.stage r.sat (resMaxOf (shortfalls v knots)) iter t
        (if o ≠ 0 then s
         else
          let w := s.mdPlr k fun x => { x with warm := some r.fin, warmPrev := x.warm }
          if v.mute then w
          else
            let shown := knots.take 1 ++ (knots.drop 1).map (publishedKnot (v.inp.cls 1))
            publish k { ts := v.p0 + prmN s.ps Pid.PLAN_PERIOD k * us, knotM := v.inp.knotM, n := v.inp.nk, joints := v.inp.n
                        knots := shown, tile := v.tile
                        caps := shown.map fun row => capsAtKnot s.ps k (row.map (·.1) ++ [v.carrier]) } w) := by
  unfold completeSolve
  rw [solve]
  refine (if_neg (by rw [runs]; decide)).trans ?_
  extract_lets r knots o kept shown published w
  refine congrArg (endSolve k o r.stage r.sat (resMaxOf (shortfalls v knots)) iter t) ?_
  by_cases ended : o = 0
  · have warm : kept = w := if_neg (not_not_intro ended)
    rw [if_neg (not_not_intro ended), ← warm]
    refine (if_congr (by simp [ended]) rfl ?_)
    rw [warm]
    rfl
  · rw [if_pos ended]
    exact (if_pos (Or.inl ended)).trans (if_pos ended)

theorem solveComplete_completes {s : State} {k iter order lanes : Nat} {t : Time} {v : SolveSt} (hk : k < 8)
    (solve : (s.plr k).solve = some v) (runs : v.done = false) (tile : v.tile ≠ 15) (started : v.p0 + tLatch ≤ t) (read : v.x0 ≠ []) :
    exec (.solveComplete k t iter order lanes) s = .next (completeSolve k iter t (s.upTo t)) := by
  have admits : (v.done || decide (v.tile = 15) || decide (t < v.p0 + tLatch) || v.x0.isEmpty) = false := by
    simp [runs, tile, read, Nat.not_lt.mpr started]
  change execSolveComplete k t iter order lanes s = _
  unfold execSolveComplete
  rw [onUnit_in hk, solve]
  exact congrArg Host.Outcome.next (if_neg (by rw [admits]; decide))

theorem solveComplete_done {s : State} {k iter order lanes : Nat} {t : Time} {v : SolveSt} (hk : k < 8)
    (solve : (s.plr k).solve = some v) (done : v.done = true) : exec (.solveComplete k t iter order lanes) s = .next s := by
  change execSolveComplete k t iter order lanes s = _
  unfold execSolveComplete
  rw [onUnit_in hk, solve]
  exact congrArg Host.Outcome.next (if_pos (by rw [done]; rfl))

theorem solveDeadline_cuts {s : State} {k : Nat} {v : SolveSt} (hk : k < 8) (solve : (s.plr k).solve = some v) (runs : v.done = false) :
    exec (.solveDeadline k) s
      = .next (cutSolve k (if v.tile = 15 then 8 else if v.tileErr then 7 else 4) (solveDue s.ps k v.p0)
          (s.upTo (solveDue s.ps k v.p0))) := by
  change execSolveDeadline k s = _
  unfold execSolveDeadline
  rw [onUnit_in hk, solve]
  exact congrArg Host.Outcome.next (if_neg (by rw [runs]; decide))

theorem solveDeadline_done {s : State} {k : Nat} {v : SolveSt} (hk : k < 8) (solve : (s.plr k).solve = some v) (done : v.done = true) :
    exec (.solveDeadline k) s = .next s := by
  change execSolveDeadline k s = _
  unfold execSolveDeadline
  rw [onUnit_in hk, solve]
  exact congrArg Host.Outcome.next (if_pos done)

/-! ### An error of a tile -/

theorem tileError_ends {s : State} {q k : Nat} {t : Time} {v : SolveSt} (hq : q < 9) (serves : (vrd s.tiles q).arm = some k)
    (solve : ((suspect 2 q Sts.OK none (s.upTo t)).plr k).solve = some v) (own : v.tile = q) (runs : v.done = false) :
    exec (.tileError q t) s = .next (cutSolve k 7 t (suspect 2 q Sts.OK none (s.upTo t))) := by
  have serves' : (vrd (s.upTo t).tiles q).arm = some k := serves
  change execTileError q t s = _
  unfold execTileError
  rw [onUnit_in hq]
  extract_lets u arm w
  have arm_eq : arm = some k := serves'
  rw [arm_eq]
  change Host.Outcome.next (match (w.plr k).solve with | some v => if v.tile = q ∧ !v.done then cutSolve k 7 t w else w | none => w) = _
  rw [show (w.plr k).solve = some v from solve]
  exact congrArg Host.Outcome.next (if_pos ⟨own, by rw [runs]; rfl⟩)

theorem tileError_unassigned {s : State} {q : Nat} {t : Time} (hq : q < 9) (serves : (vrd s.tiles q).arm = none) :
    exec (.tileError q t) s = .next (suspect 2 q Sts.OK none (s.upTo t)) := by
  have serves' : (vrd (s.upTo t).tiles q).arm = none := serves
  change execTileError q t s = _
  unfold execTileError
  rw [onUnit_in hq]
  extract_lets u arm w
  have arm_eq : arm = none := serves'
  rw [arm_eq]

/-- Settles O40: a plan period moves the tile and begins a solve; a solve ends at its stamp, at its deadline or with its tile,
and never twice. -/
theorem solverEvents : Obligations.SolverEvents := by
  refine ⟨fun s k hk running joints => planPeriodEvent_moves hk running joints, fun s k p0 _ begun => planWork_begun begun, ?_,
    fun s k v hk solve runs => solveDeadline_cuts hk solve runs, ?_, ?_⟩
  · intro s k t iter order lanes v hk solve runs tile started read
    have ends := solveComplete_completes (iter := iter) (order := order) (lanes := lanes) hk solve runs tile started read
    have solve' : ((s.upTo t).plr k).solve = some v := solve
    rw [completeSolve_running solve' runs] at ends
    simp only [solveOutcome_eq] at ends
    exact ends
  · exact fun s q t hq => ⟨fun k v serves solve own runs => tileError_ends hq serves solve own runs,
      fun serves => tileError_unassigned hq serves⟩
  · exact fun s k t iter order lanes v hk solve done => ⟨solveComplete_done hk solve done, solveDeadline_done hk solve done⟩

end Sys2Proof.Machine
end

section
/-!
SUPPORT. O43: step edges, switches, homing marks, spare lanes, injection runs and captures.
-/
namespace Sys2Proof.Machine

/-! ### Step edges -/

/-- The pins of a step pair after a rising edge of its step input: what `execStepEdge` writes before it looks at the axis. -/
def stepPins (pair t : Nat) (dir : Bool) (s : State) : State :=
  let u := gpioSet (2 * pair) t true (s.upTo t)
  { u with fw := { u.fw with gpio := vmd u.fw.gpio (2 * pair + 1) fun g => { g with level := dir } } }

theorem stepPins_ax (pair t : Nat) (dir : Bool) (s : State) (n : Nat) : (stepPins pair t dir s).ax n = s.ax n := rfl

/-- The reference of a STEPPED axis and its flags once a step has counted. -/
def countStep (ps : ParamSet) (n t : Nat) (dir : Bool) (a : AxisSt) : AxisSt :=
  let sg : Int := if dir != a.step.invert then 1 else -1
  let r := a.step.onStep t sg (prmI ps Pid.STEP_INC n) (prmN ps Pid.STEP_DTMIN n) (prmN ps Pid.STEP_DT0 n) (prmN ps Pid.STEP_IDLE n)
  let rate : Int := (((r.1.segP1 : Rat) - r.1.segP0) * ((tCtl * 2 ^ 24 : Nat) : Rat) / ((max 1 r.1.dt : Nat) : Rat)).floor
  { a with
    step := { r.1 with top := max r.1.top (rate.natAbs : Int) }
    flags := { a.flags with stepOver := a.flags.stepOver || r.2
                            overCount := if r.2 then incSat 65535 a.flags.overCount else a.flags.overCount } }

section
variable {s : State} {p at_ low high n : Nat} {stable dir : Bool} (hp : p < 8) (holds : (vrd s.fw.pairs p).axis = some n)
  (stepped : (s.ax n).mode = .stepped)
include hp holds stepped

theorem stepEdge_glitch (short : low < stepLevel ∨ high < stepLevel ∨ stable = false) :
    exec (.stepEdge p at_ low high stable dir) s
      = .next ((stepPins p at_ dir s).mdAx n fun a => { a with flags := { a.flags with stepGlitch := true } }) := by
  have meaning : exec (.stepEdge p at_ low high stable dir) s = execStepEdge p at_ low high stable dir s := rfl
  rw [meaning]
  unfold execStepEdge
  rw [onUnit_in hp]
  extract_lets u pins w
  have pair : (vrd w.fw.pairs p).axis = some n := holds
  rw [pair]
  refine congrArg Host.Outcome.next ((if_neg (not_not_intro (show (w.ax n).mode = .stepped from stepped))).trans ?_)
  exact if_pos (by simpa using short)

theorem stepEdge_counts (lowHeld : stepLevel ≤ low) (highHeld : stepLevel ≤ high) (steady : stable = true) :
    exec (.stepEdge p at_ low high stable dir) s
      = .next ((stepPins p at_ dir s).mdAx n (countStep s.ps n at_ dir)) := by
  have meaning : exec (.stepEdge p at_ low high stable dir) s = execStepEdge p at_ low high stable dir s := rfl
  rw [meaning]
  unfold execStepEdge
  rw [onUnit_in hp]
  extract_lets u pins w
  have pair : (vrd w.fw.pairs p).axis = some n := holds
  rw [pair]
  refine congrArg Host.Outcome.next ((if_neg (not_not_intro (show (w.ax n).mode = .stepped from stepped))).trans ?_)
  exact if_neg (by simp [Nat.not_lt.mpr lowHeld, Nat.not_lt.mpr highHeld, steady])

end

theorem stepFinalSegment_final {s : State} {n : Nat} {p : Time × Int} (hn : n < 64) (stepped : (s.ax n).mode = .stepped)
    (open_ : (s.ax n).step.finalDone = false) (prev : (s.ax n).step.prev = some p) :
    exec (.stepFinalSegment n) s = .next ((s.upTo (p.1 + 2 * (s.ax n).step.dt)).mdAx n fun a =>
      { a with step := a.step.final (prmI s.ps Pid.STEP_INC n) }) := by
  have meaning : exec (.stepFinalSegment n) s = execStepFinalSegment n s := rfl
  rw [meaning]
  unfold execStepFinalSegment
  rw [onUnit_in hn]
  extract_lets a
  rw [show a.step.prev = some p from prev]
  exact congrArg Host.Outcome.next (if_neg (by simp [a, stepped, open_]))

/-! ### Switches and marks -/

/-- A search that waits for a pin's switch goes on. -/
def switchSeen (pin : Nat) (a : AxisSt) : AxisSt :=
  { a with home := a.home.map fun h => if h.method = 2 ∧ h.phase = 0 ∧ h.gpio = pin then { h with phase := 1 } else h }

theorem gpioEdge_eq {s : State} {pin at_ : Nat} {level : Bool} (hp : pin < 16) :
    exec (.gpioEdge pin at_ level) s = .next
      (if (vrd s.fw.gpio pin).level = level then gpioSet pin at_ level (s.upTo at_)
       else { gpioSet pin at_ level (s.upTo at_) with axes := vmapI s.axes fun _ a => switchSeen pin a }) := by
  have meaning : exec (.gpioEdge pin at_ level) s = execGpioEdge pin at_ level s := rfl
  rw [meaning]
  unfold execGpioEdge
  rw [onUnit_in hp]
  exact congrArg Host.Outcome.next (if_congr (by simp [State.upTo]) rfl rfl)

theorem gpioEdge_spec {s : State} {pin at_ : Nat} {level : Bool} (hp : pin < 16) :
    ∃ t, exec (.gpioEdge pin at_ level) s = .next t ∧ (vrd t.fw.gpio pin).level = level
      ∧ t.cyc.now = max s.cyc.now at_ ∧ t.ssv = s.ssv
      ∧ ∀ n < 64, ∀ h, (s.ax n).home = some h → h.method = 2 → h.phase = 0 → h.gpio = pin → (vrd s.fw.gpio pin).level ≠ level →
        (t.ax n).home = some { h with phase := 1 } := by
  have level_set : (vrd (gpioSet pin at_ level (s.upTo at_)).fw.gpio pin).level = level := by
    simp [gpioSet, hp]
  rw [gpioEdge_eq hp]
  by_cases same : (vrd s.fw.gpio pin).level = level
  · rw [if_pos same]
    exact ⟨_, rfl, level_set, rfl, rfl, fun _ _ _ _ _ _ _ differs => absurd same differs⟩
  · rw [if_neg same]
    refine ⟨_, rfl, level_set, rfl, rfl, fun n hn h search method phase own _ => ?_⟩
    have seen := vrd_vmapI (v := s.axes) (f := fun _ a => switchSeen pin a) hn
    refine (congrArg AxisSt.home seen).trans ?_
    change Option.map _ (s.ax n).home = _
    rw [search]
    exact congrArg some (if_pos ⟨method, phase, own⟩)

theorem hardStopDetected_marks {s : State} {n : Nat} {h : HomeSt} (hn : n < 64) (search : (s.ax n).home = some h)
    (method : h.method = 3) (phase : h.phase = 0) (stood : homeStall ≤ h.stall) :
    exec (.hardStopDetected n) s = .next (s.mdAx n fun a => a.markFound s.ps n s.cyc.nextT0 h
      (if hasEnc s.ps n = true then (s.ax n).fb.pos0 else (s.ax n).refP)) := by
  have meaning : exec (.hardStopDetected n) s = execHardStopDetected n s := rfl
  rw [meaning]
  unfold execHardStopDetected
  rw [onUnit_in hn]
  extract_lets a
  rw [show a.home = some h from search]
  exact congrArg Host.Outcome.next (if_pos ⟨method, phase, stood⟩)

/-! ### Spare lanes -/

theorem laneSpareTakeover_due {s : State} {n i j : Nat} (hn : n < 64)
    (lane : ((List.range 68).find? fun i => (vrd s.lanes i).axis == some n) = some i)
    (spare : ((List.range 68).find? fun i =>
      (vrd s.lanes i).axis.isNone && (vrd s.lanes i).next.isNone && decide ((s.unit 0 i).st = .inService)
        && (s.unit 0 i).serves == n) = some j)
    (withdrawn : (s.unit 0 i).st ≠ .inService) :
    exec (.laneSpareTakeover n) s = .next { s with lanes := vmd s.lanes j fun l => { l with next := some n } } := by
  have meaning : exec (.laneSpareTakeover n) s = execLaneSpareTakeover n s := rfl
  rw [meaning]
  unfold execLaneSpareTakeover
  rw [onUnit_in hn, lane, spare]
  exact congrArg Host.Outcome.next (if_neg withdrawn)

theorem takeLanes_spec (s : State) {j : Nat} (hj : j < 68) :
    (vrd (takeLanes s).lanes j).next = none
      ∧ ∀ n, (vrd s.lanes j).next = some n → (vrd (takeLanes s).lanes j).axis = some n := by
  unfold takeLanes
  rw [vrd_vmapI hj]
  cases due : (vrd s.lanes j).next with
  | some m => exact ⟨rfl, fun n e => e⟩
  | none =>
    refine ⟨?_, fun n e => absurd e (by simp)⟩
    dsimp only
    split
    · rfl
    · exact due

/-! ### Injection runs -/

theorem injectionRunEnd_reports {s : State} {k : Nat} {r : InjSt} (hk : k < 72) (run : vrd s.fw.inj k = some r)
    (fresh : r.analyse = false) (ended : r.running = false ∨ r.total ≤ r.i) :
    let u := { s with fw := { s.fw with inj := vwr s.fw.inj k (some { r with running := false, analyse := true }) } }
    exec (.injectionRunEnd k) s = .next (if k < 8 then raiseArm k r.cause r.cause u else raiseAxis (k - 8) r.cause u) := by
  have acts : ¬(r.analyse || (r.running && decide (r.i < r.total))) = true := by
    rcases ended with stopped | reached
    · simp [fresh, stopped]
    · simp [fresh, Nat.not_lt.mpr reached]
  have meaning : exec (.injectionRunEnd k) s = execInjectionRunEnd k s := rfl
  rw [meaning]
  unfold execInjectionRunEnd
  rw [onUnit_in hk, run]
  exact congrArg Host.Outcome.next (if_neg acts)

theorem putFrf_told (cap : Nat) (r : FrfRes) (s : State) : Told s (putFrf cap r s) := by
  unfold putFrf
  split
  · split
    · rfl
    · exact .refl s
  · exact .refl s

theorem frfAnalysisDone_spec {s : State} {k : Nat} {r : InjSt} (hk : k < 72) (run : vrd s.fw.inj k = some r)
    (due : r.analyse = true) (hr : r.axis < 64) :
    ∃ t, exec (.frfAnalysisDone k) s = .next t ∧ vrd t.fw.inj k = none ∧ t.axes = s.axes
      ∧ vrd t.fw.frf r.axis = (if (frfResult r s.fresh).isSome then frfResult r s.fresh else vrd s.fw.frf r.axis) := by
  have meaning : exec (.frfAnalysisDone k) s = execFrfAnalysisDone k s := rfl
  have acts : ¬(!r.analyse) = true := by simp [due]
  rw [meaning]
  unfold execFrfAnalysisDone
  rw [onUnit_in hk, run]
  conv => enter [1, t, 1, 1, 1]; change (if (!r.analyse) = true then s else _); rw [if_neg acts]
  extract_lets res fw u w
  have put : Told u w := by
    change Told u (match frfResult r s.fresh with | some x => putFrf r.cap x u | none => u)
    cases frfResult r s.fresh with
    | none => exact .refl u
    | some x => exact putFrf_told ..
  clear_value w
  have told := put.trans (finishTicket_told r.ticket
    (if r.cause ≠ Sts.OK then Sts.INJ_INTERRUPTED else if res.isNone then Sts.NO_VALID_RECORD else Sts.OK) w)
  refine ⟨_, rfl, ?_, told.axes, ?_⟩
  · rw [told.fw]
    exact vrd_vwr_same hk
  · rw [told.fw]
    refine (apply_ite (fun f => vrd f r.axis) _ _ _).trans ?_
    rw [vrd_vwr_same hr]

/-! ### Captures -/

theorem captureEnd_full {s : State} {i : Nat} {c : CapSt} (hi : i < 16) (cap : vrd s.fw.caps i = some c) (full : c.full = true) :
    exec (.captureEnd i) s = .next (stopCap i Sts.OK s) := by
  have meaning : exec (.captureEnd i) s = execCaptureEnd i s := rfl
  rw [meaning]
  unfold execCaptureEnd
  rw [onUnit_in hi, cap]
  exact congrArg Host.Outcome.next (if_pos full)

theorem captureAreaFree_spec {s : State} {i : Nat} {c : CapSt} (hi : i < 16) (cap : vrd s.fw.caps i = some c)
    (stopped : c.stopped = true) :
    ∃ t, exec (.captureAreaFree i) s = .next t ∧ vrd t.fw.caps i = some { c with free := true } ∧ t.axes = s.axes
      ∧ t.cyc.now = (if c.read then s.cyc.now else max s.cyc.now (c.stopAt + 60 * sec)) := by
  have meaning : exec (.captureAreaFree i) s = execCaptureAreaFree i s := rfl
  rw [meaning]
  unfold execCaptureAreaFree
  rw [onUnit_in hi, cap]
  dsimp only
  rw [if_neg (by simp [stopped])]
  refine ⟨_, rfl, vrd_vwr_same hi, (apply_ite State.axes _ _ _).trans (ite_self _), ?_⟩
  exact apply_ite (fun x : State => x.cyc.now) _ _ _

/-- Settles O43: each event of an axis's edges, marks, lanes, runs and captures is its meaning where its guards let it act. -/
theorem axisEvents : Obligations.AxisEvents := by
  refine ⟨?_, fun s n p hn stepped open_ prev => stepFinalSegment_final hn stepped open_ prev,
    fun s pin at_ level hp => gpioEdge_spec hp,
    fun s n h hn search method phase stood => hardStopDetected_marks hn search method phase stood,
    fun s n i j hn lane spare withdrawn => laneSpareTakeover_due hn lane spare withdrawn,
    fun s j hj => takeLanes_spec s hj,
    fun s k r hk run fresh ended => injectionRunEnd_reports hk run fresh ended,
    fun s k r hk run due hr => frfAnalysisDone_spec hk run due hr,
    fun s i c hi cap full => captureEnd_full hi cap full,
    fun s i hi => onUnit_in hi,
    fun s i c hi cap stopped => captureAreaFree_spec hi cap stopped⟩
  intro s p at_ low high stable dir n hp holds hn stepped
  constructor
  · intro short
    exact ⟨_, stepEdge_glitch hp holds stepped short, State.mdAx_ax _ _ hn, fun m other => State.mdAx_ax_off _ _ (Ne.symm other)⟩
  · intro lowHeld highHeld steady
    have counted := State.mdAx_ax (stepPins p at_ dir s) (countStep s.ps n at_ dir) hn
    rw [stepPins_ax] at counted
    refine ⟨_, stepEdge_counts hp holds stepped lowHeld highHeld steady, ?_, ?_, ⟨?_, ?_, ?_⟩, fun m other =>
      State.mdAx_ax_off _ _ (Ne.symm other)⟩
    · rw [counted]
      rfl
    · rw [counted]
      rfl
    · rw [counted]
      rfl
    · rw [counted]
      exact le_max_left _ _
    · rw [counted]
      rfl

end Sys2Proof.Machine
end

section
/-!
SUPPORT. O48: the test outputs, safe inputs, the set's copies, lockouts, the end of SERVICE and the ends of shutdowns.
-/
namespace Sys2Proof.Machine

/-! ### Test outputs (09 R260) -/

theorem nextAfter_bounds {p t : Nat} (hp : 0 < p) : ∃ n : Nat, nextAfter p t = n ∧ t < n ∧ n ≤ t + p := by
  refine ⟨(t / p + 1) * p, rfl, ?_, ?_⟩
  · rw [Nat.mul_comm]
    exact Nat.lt_mul_div_succ _ hp
  · rw [Nat.succ_mul]
    exact Nat.add_le_add_right (Nat.div_mul_le_self _ _) _

/-- The next fall of a test output after its last one at `last` (09 R260). -/
def nextFall (per off last : Nat) : Nat := if last < off then off else nextAfter per (last - off) + off

/-- The next pulse of a test output lies a whole number of periods behind its first place, and within a period of the last. -/
theorem nextFall_spec {per off last : Nat} (hper : 0 < per) :
    (∃ m, nextFall per off last = m * per + off)
      ∧ (off ≤ last → last < nextFall per off last ∧ nextFall per off last ≤ last + per) := by
  unfold nextFall
  constructor
  · split
    · exact ⟨0, by omega⟩
    · exact ⟨(last - off) / per + 1, rfl⟩
  · intro le
    rw [if_neg (Nat.not_lt.mpr le)]
    obtain ⟨n, e, beyond, within⟩ := nextAfter_bounds (t := last - off) hper
    rw [e]
    omega

section
variable {s : State} {k : Nat} (hk : k < 8) (running : s.cyc.running = true)
include hk running

theorem testPulse_rises (low : vrd s.ssv.tp k = false) :
    ∃ t, exec (.testPulse k) s = .next t ∧ vrd t.ssv.tp k = true ∧ t.ssv.tpAt = s.ssv.tpAt
      ∧ t.cyc.now = max s.cyc.now (vrd s.ssv.tpAt k + prmN s.ps Pid.TP_WIDTH 0 * us) ∧ t.axes = s.axes := by
  have meaning : exec (.testPulse k) s = execTestPulse k s := rfl
  rw [meaning]
  unfold execTestPulse
  rw [onUnit_in hk, if_neg (notStopped running), if_neg (by rw [low]; decide)]
  exact ⟨_, rfl, vrd_vwr_same hk, rfl, rfl, rfl⟩

/-- Where no input is tested by pulses, the fall of a test output judges none. -/
theorem testPulse_falls (high : vrd s.ssv.tp k = true) (untested : ∀ i < 16, prmN s.ps Pid.SI_MODE i = 2) :
    let per := prmN s.ps Pid.TP_PERIOD 0 * ms
    let at_ := nextFall per (k * per / 8) (vrd s.ssv.tpAt k)
    ∃ t, exec (.testPulse k) s = .next t ∧ vrd t.ssv.tp k = false ∧ vrd t.ssv.tpAt k = at_ ∧ t.cyc.now = max s.cyc.now at_ := by
  have meaning : exec (.testPulse k) s = execTestPulse k s := rfl
  rw [meaning]
  unfold execTestPulse
  rw [onUnit_in hk, if_neg (notStopped running), if_pos high]
  extract_lets per at_ off last t u judged
  have judged_none : judged = u := by
    refine List.foldlRecOn (motive := fun x : State => x = u) _ _ rfl ?_
    rintro _ rfl i mem
    have mode : prmN u.ps Pid.SI_MODE i = 2 := untested i (List.mem_range.mp mem)
    exact if_neg (by simp [mode])
  clear_value judged
  rw [judged_none]
  exact ⟨_, rfl, vrd_vwr_same hk, vrd_vwr_same hk, rfl⟩

end

/-! ### Safe inputs (09 R261 to R263) -/

theorem pairSettle_si (p : Nat) (s : State) : (pairSettle p s).ssv.si = s.ssv.si := by
  unfold pairSettle
  split
  · rfl
  · exact (apply_ite (fun x : State => x.ssv.si) _ _ _).trans (ite_self _)

theorem pairSettle_cyc (p : Nat) (s : State) : (pairSettle p s).cyc = s.cyc := by
  unfold pairSettle
  split
  · rfl
  · exact (apply_ite State.cyc _ _ _).trans (ite_self _)

theorem pairSettle_axes (p : Nat) (s : State) : (pairSettle p s).axes = s.axes := by
  unfold pairSettle
  split
  · rfl
  · exact (apply_ite State.axes _ _ _).trans (ite_self _)

section
variable {s : State} {i : Nat} (hi : i < 16)
include hi

theorem mdSin_sin (f : SafeIn → SafeIn) : (s.mdSin i f).sin i = f (s.sin i) := vrd_vmd_same hi

theorem setDemand_changes {on : Bool} (other : (s.sin i).demand ≠ on) :
    (setDemand i on s).sin i = { s.sin i with demand := on, demandAt := some s.cyc.now }
      ∧ (setDemand i on s).hif.evstat.testBit 81 = true := by
  unfold setDemand
  rw [if_neg other]
  refine ⟨?_, raiseEv_own_bit ..⟩
  refine (congrArg (vrd · i) (pairSettle_si (i / 2) _)).trans ?_
  exact mdSin_sin hi _

/-- The level and its stamp stay; the demand is the one told. -/
theorem setDemand_sin (on : Bool) :
    ((setDemand i on s).sin i).demand = on ∧ ((setDemand i on s).sin i).level = (s.sin i).level
      ∧ ((setDemand i on s).sin i).edgeAt = (s.sin i).edgeAt := by
  by_cases same : (s.sin i).demand = on
  · have stays : setDemand i on s = s := if_pos same
    rw [stays]
    exact ⟨same, rfl, rfl⟩
  · rw [(setDemand_changes hi same).1]
    exact ⟨rfl, rfl, rfl⟩

theorem siHeld_demand (t : Time) : ((siHeld i t s).sin i).demand = (s.sin i).demand := by
  unfold siHeld
  extract_lets x w
  split
  · rw [mdSin_sin hi]
  · split
    · rw [mdSin_sin hi]
    · rfl

theorem safeInputEdge_same {at_ : Nat} {level : Bool} (same : (s.sin i).level = level) :
    exec (.safeInputEdge i at_ level) s = .next (s.upTo at_) := onUnit_acts hi same

theorem safeInputEdge_changes {at_ : Nat} {level : Bool} (other : (s.sin i).level ≠ level) :
    ∃ t, exec (.safeInputEdge i at_ level) s = .next t ∧ (t.sin i).level = level
      ∧ (t.sin i).edgeAt = coarse at_ ∧ (level = true → (t.sin i).demand = false)
      ∧ (level = false → (t.sin i).demand = (s.sin i).demand) := by
  have meaning : exec (.safeInputEdge i at_ level) s = execSafeInputEdge i at_ level s := rfl
  rw [meaning]
  unfold execSafeInputEdge
  rw [onUnit_in hi]
  extract_lets u held w edges taken
  have acts : ¬(u.sin i).level = level := other
  rw [if_neg acts]
  have demand : (held.sin i).demand = (s.sin i).demand := by
    unfold held
    split
    · rfl
    · exact siHeld_demand hi _
  have input : taken.sin i = { held.sin i with
      level := level, edgeAt := coarse at_, edgeBound := edges.any fun c => boundaryAt (coarse at_) ns c } := mdSin_sin hi _
  clear_value taken held
  cases level with
  | true =>
    obtain ⟨off, level_eq, edge_eq⟩ := setDemand_sin (s := taken) hi false
    exact ⟨_, rfl, level_eq.trans (by rw [input]), edge_eq.trans (by rw [input]), fun _ => off, nofun⟩
  | false => exact ⟨taken, rfl, by rw [input], by rw [input], nofun, fun _ => by rw [input, demand]⟩

theorem siDemand_begins (low : (s.sin i).level = false) (none_ : (s.sin i).demand = false) :
    ∃ t, exec (.siDemand i) s = .next t ∧ (t.sin i).demand = true
      ∧ t.cyc.now = max s.cyc.now ((s.sin i).edgeAt + prmN s.ps Pid.SI_FILTER 0 * us) ∧ t.hif.evstat.testBit 81 = true
      ∧ t.axes = s.axes := by
  have acts : ¬((s.sin i).level || (s.sin i).demand) = true := by simp [low, none_]
  have row : exec (.siDemand i) s
      = .next (setDemand i true (s.upTo ((s.sin i).edgeAt + prmN s.ps Pid.SI_FILTER 0 * us))) := onUnit_rests hi acts
  have other : ((s.upTo ((s.sin i).edgeAt + prmN s.ps Pid.SI_FILTER 0 * us)).sin i).demand ≠ true :=
    fun on => absurd (none_.symm.trans on) (by decide)
  refine ⟨_, row, (setDemand_sin hi true).1, ?_, (setDemand_changes hi other).2, ?_⟩
  · unfold setDemand
    rw [if_neg other]
    exact congrArg CycSt.now (pairSettle_cyc (i / 2) _)
  · unfold setDemand
    rw [if_neg other]
    exact pairSettle_axes (i / 2) _

theorem siFaultClear_clears (fault : (s.sin i).fault = true) (passed : (s.sin i).passAt + sec ≤ s.cyc.now) :
    ∃ t, exec (.siFaultClear i) s = .next t ∧ (t.sin i).fault = false
      ∧ (t.sin i).demand = (s.sin i).demand ∧ t.hif.evstat.testBit 81 = true := by
  have acts : ¬(!(s.sin i).fault || decide (s.cyc.now < (s.sin i).passAt + sec)) = true := by
    simp [fault, Nat.not_lt.mpr passed]
  have row : exec (.siFaultClear i) s
      = .next (raiseSi i Sts.OK (s.mdSin i fun x => { x with fault := false, faultAt := some s.cyc.now })) := onUnit_rests hi acts
  have input := mdSin_sin (s := s) hi fun x => { x with fault := false, faultAt := some s.cyc.now }
  exact ⟨_, row, congrArg SafeIn.fault input, (congrArg SafeIn.demand input :), raiseEv_own_bit ..⟩

theorem siFaultClear_waits (early : s.cyc.now < (s.sin i).passAt + sec) : exec (.siFaultClear i) s = .next s :=
  onUnit_acts hi (by simp [early])

end

theorem discrepancy_latches {s : State} {p : Nat} {d : Time} (hp : p < 8) (differs : (vrd s.ssv.pairs p).diffAt = some d)
    (open_ : (vrd s.ssv.pairs p).disc = false) (dual : dualPair s.ps p = true) :
    ∃ t, exec (.discrepancy p) s = .next t ∧ (vrd t.ssv.pairs p).disc = true
      ∧ t.cyc.now = max s.cyc.now (d + prmN s.ps Pid.SI_DISC 0 * ms) ∧ t.hif.evstat.testBit 81 = true ∧ t.ssv.si = s.ssv.si := by
  have meaning : exec (.discrepancy p) s = execDiscrepancy p s := rfl
  rw [meaning]
  unfold execDiscrepancy
  rw [onUnit_in hp]
  extract_lets x
  have timed : x.diffAt = some d := differs
  rw [timed]
  have acts : ¬(x.disc || !dualPair s.ps p) = true := by simp [x, open_, dual]
  refine ⟨_, congrArg Host.Outcome.next (if_neg acts), ?_, rfl, raiseEv_own_bit .., rfl⟩
  exact congrArg PairIn.disc (vrd_vwr_same hp)

/-! ### The secure region (09 R275, R277) -/

theorem lockoutEnd_ends {s : State} {id : Nat} {e : Engineer} {t0 : Time} (found : s.ssv.eng.find? (fun e => e.id == id) = some e)
    (locked : e.lockedTo = some t0) :
    ∃ t, exec (.lockoutEnd id) s = .next t ∧ t.cyc.now = max s.cyc.now t0 ∧ t.ldg.journalDue = true
      ∧ t.ssv.eng.length = s.ssv.eng.length ∧ ∀ (i : Nat) (x : Engineer), s.ssv.eng[i]? = some x → t.ssv.eng[i]?
        = some (if x.id = id then { x with lockedTo := none, fails := 0 } else x) := by
  let eng := s.ssv.eng.map fun x => if x.id == id then { x with lockedTo := none, fails := 0 } else x
  have row : exec (.lockoutEnd id) s = .next (secTouch { s.upTo t0 with ssv := { s.ssv with eng := eng } }) := by
    change execLockoutEnd id s = _
    unfold execLockoutEnd
    rw [found]
    dsimp only
    rw [locked]
    rfl
  have told := secTouch_reported { s.upTo t0 with ssv := { s.ssv with eng := eng } }
  refine ⟨_, row, congrArg CycSt.now told.cyc, told.journal rfl, ?_, fun i x at_i => ?_⟩
  · rw [told.ssv]
    exact List.length_map _
  · rw [told.ssv]
    change (s.ssv.eng.map _)[i]? = _
    rw [List.getElem?_map, at_i]
    simp

/-! ### The ends of shutdowns (01 R31) -/

theorem shutdownEnd_scope {s : State} {k : Nat} (hk : k < 72) :
    (shutDone s k = true → exec (.shutdownEnd 0 k) s = .next (scopeDisabled k s))
      ∧ (shutDone s k = false → exec (.shutdownEnd 0 k) s = .next s) :=
  ⟨fun done => onUnit_acts hk done, fun runs => onUnit_rests hk (by rw [runs]; decide)⟩

theorem channelOff_past {s : State} {ch : Nat} (shutting : (vrd s.ttc.ch ch).fn = .shuttingDown)
    (past : (vrd s.ttc.ch ch).offAt < s.ttc.t0) :
    channelOff ch s = raiseEv 94 Sts.OK s.node 0 (ch * 2 ^ 30) (s.mdCb ch fun c => { c with fn := .disabled }) := by
  have ends : channelOff ch s = raiseCb ch 0 (s.mdCb ch fun c => { c with fn := .disabled }) := if_pos ⟨shutting, past⟩
  rw [ends, raiseCb, Nat.add_zero]
  rfl

theorem shutdownEnd_channel {s : State} {ch : Nat} (hch : ch < 2) (shutting : (vrd s.ttc.ch ch).fn = .shuttingDown)
    (past : (vrd s.ttc.ch ch).offAt < s.ttc.t0) :
    exec (.shutdownEnd 2 ch) s = .next (raiseEv 94 Sts.OK s.node 0 (ch * 2 ^ 30) (s.mdCb ch fun c => { c with fn := .disabled })) :=
  (onUnit_in hch).trans (congrArg Host.Outcome.next (channelOff_past shutting past))

theorem tileDisabled_idle {s : State} {k : Nat} (shutting : (s.plr k).tileFn = .shuttingDown)
    (idle : ∀ v, (s.plr k).solve = some v → v.done = true) :
    tileDisabled k s = raiseArm k (s.sc k).status 0 (s.mdPlr k fun r => { r with tileFn := .disabled, solve := none }) := by
  unfold tileDisabled
  extract_lets r rests
  have done : rests = true := by
    unfold rests
    cases solve : r.solve with
    | none => rfl
    | some v => exact idle v solve
  exact if_pos (by simp [r, shutting, done])

theorem tileDisabled_runs {s : State} {k : Nat} {v : SolveSt} (solve : (s.plr k).solve = some v) (runs : v.done = false) :
    tileDisabled k s = s := by
  unfold tileDisabled
  extract_lets r rests
  have busy : rests = false := by
    unfold rests
    rw [show r.solve = some v from solve]
    exact runs
  exact if_neg (by simp [busy])

section
variable {s : State} {i : Nat} (active : s.mlc.role = .active) (leaving : s.mlc.unpairing.isSome = true)
include active leaving

theorem shutdownEnd_pairing_ends (idle : s.mlc.unacked = []) :
    ∃ t, exec (.shutdownEnd 3 i) s = .next t ∧ t.mlc.shadow = .absent
      ∧ t.mlc.secret = none ∧ t.mlc.pairSerial = 0 ∧ t.mlc.unpairing = none ∧ t.hif.evstat.testBit 109 = true := by
  let absent := shadowTo .absent 1 s
  let forgot := { absent with mlc := { absent.mlc with secret := none, pairSerial := 0, unpairing := none } }
  have row : exec (.shutdownEnd 3 i) s = .next (raiseEv 109 Sts.OK 0 0 3 (secTouch forgot)) := by
    change Host.Outcome.next (unpaired s) = _
    unfold unpaired
    extract_lets erase none_
    have empty : none_ = true := by simp [none_, idle]
    rw [if_pos (by simp [active, leaving]), if_pos empty]
  obtain ⟨n, a, b, c, shadow⟩ := shadowTo_reported s .absent 1
  have told := secTouch_reported forgot
  exact ⟨_, row, (told.field MlcSt.shadow).trans (shadow.field MlcSt.shadow), told.field MlcSt.secret, told.field MlcSt.pairSerial,
    told.field MlcSt.unpairing, raiseEv_own_bit ..⟩

theorem shutdownEnd_pairing_waits (frames : s.mlc.unacked ≠ []) : exec (.shutdownEnd 3 i) s = .next s := by
  change Host.Outcome.next (unpaired s) = _
  unfold unpaired
  extract_lets erase none_
  have some_ : ¬none_ = true := by simp [none_, frames]
  rw [if_pos (by simp [active, leaving]), if_neg some_]

end

/-- Settles O48: test outputs, safe inputs, copies of the set, lockouts, SERVICE and the ends of shutdowns. -/
theorem safeInputsAndModes : Obligations.SafeInputsAndModes := by
  refine ⟨fun s k hk running => ⟨fun low => testPulse_rises hk running low, fun high hper untested => ?_⟩,
    fun s i at_ level hi => ⟨fun same => safeInputEdge_same hi same, fun other => safeInputEdge_changes hi other⟩,
    fun s i hi low none_ => siDemand_begins hi low none_,
    fun s p d hp differs open_ dual => discrepancy_latches hp differs open_ dual,
    fun s i hi fault => ⟨fun passed => siFaultClear_clears hi fault passed, fun early => siFaultClear_waits hi early⟩,
    fun s => rfl, fun s => congrArg Host.Outcome.next (if_neg Bool.false_ne_true), fun s id e t0 found locked => lockoutEnd_ends found locked,
    fun s service => congrArg Host.Outcome.next (if_neg (not_not_intro service)),
    fun s other => congrArg Host.Outcome.next (if_pos other), fun s k hk => shutdownEnd_scope hk,
    fun s k hk shutting idle => (onUnit_in hk).trans (congrArg Host.Outcome.next (tileDisabled_idle shutting idle)),
    fun s ch hch shutting past => shutdownEnd_channel hch shutting past,
    fun s k v hk solve runs => (onUnit_in hk).trans (congrArg Host.Outcome.next (tileDisabled_runs solve runs)),
    fun s i active leaving => ⟨fun idle => shutdownEnd_pairing_ends active leaving idle,
      fun frames => shutdownEnd_pairing_waits active leaving frames⟩⟩
  obtain ⟨t, row, fell, at_, now⟩ := testPulse_falls hk running high untested
  obtain ⟨⟨m, place⟩, next⟩ := nextFall_spec (off := k * (prmN s.ps Pid.TP_PERIOD 0 * ms) / 8) (last := vrd s.ssv.tpAt k)
    (Nat.mul_pos hper (by decide : 0 < ms))
  exact ⟨t, m, row, fell, at_.trans place, by rw [at_, now], at_ ▸ next⟩

end Sys2Proof.Machine
end

section
/-!
SUPPORT. O50: the host link, its resets, the requests taken in turn and the leases.
-/
namespace Sys2Proof.Machine

/-- An event leaves the fields of the host interface but the log's count, the event status and the vectors. -/
theorem raiseEv_field {α : Type} (f : HifSt → α) (ev st sub hi lo : Nat) (s : State)
    (free : ∀ h n e q p v, f { h with logNext := n, evstat := e, sent := q, pba := p, vpend := v } = f h := by intros; rfl) :
    f (raiseEv ev st sub hi lo s).hif = f s.hif := by
  rw [raiseEv_hif ev st sub hi lo s]
  exact free s.hif _ _ _ _ _

/-! ### The link and its resets (12 R356) -/

theorem hifReset_chan (s : State) {c : Nat} (hc : c < 4) :
    (hifReset s).chan c = { s.chan c with
      reqProd := 0, reqCons := 0, rspProd := 0, rspAck := 0, posts := [], wait := (s.chan c).wait.map fun w => { w with idx := none } } :=
  vrd_vmapI hc

/-- The HIF of a unit whose link has gone down, before its reset. -/
def linkFallen (s : State) : State :=
  { s with hif := { s.hif with linkUp := false, width := 0, speed := 0, linkDowns := incSat 255 s.hif.linkDowns } }

theorem linkDown_eq {s : State} (up : s.hif.linkUp = true) :
    exec .linkDown s
      = .next (raiseEv 125 Sts.OK 0 (linkDetail (hifReset (linkFallen s)).hif) 0 (hifReset (linkFallen s))) := by
  have meaning : exec .linkDown s = execLinkDown s := rfl
  have was_up : ¬(!s.hif.linkUp) = true := by simp [up]
  rw [meaning]
  unfold execLinkDown
  rw [if_neg was_up]
  rfl

theorem linkDown_resets {s : State} (up : s.hif.linkUp = true) :
    ∃ t, exec .linkDown s = .next t ∧ t.hif.linkUp = false ∧ t.hif.linkDowns = incSat 255 s.hif.linkDowns
      ∧ t.hif.evstat.testBit 125 = true ∧ t.hif.ram = [] ∧ t.axes = s.axes ∧ t.ssv = s.ssv
      ∧ ∀ c < 4, (t.chan c).open_ = (s.chan c).open_ ∧ (t.chan c).reqProd = 0 ∧ (t.chan c).rspProd = 0 := by
  refine ⟨_, linkDown_eq up, raiseEv_field HifSt.linkUp .., raiseEv_field HifSt.linkDowns .., raiseEv_own_bit ..,
    raiseEv_hif_ram .., rfl, rfl, fun c hc => ?_⟩
  have chan := hifReset_chan (linkFallen s) hc
  rw [raiseEv_chan, chan]
  exact ⟨rfl, rfl, rfl⟩

theorem hifReset_keeps_sessions (s : State) {c : Nat} (hc : c < 4) :
    ((hifReset s).chan c).open_ = (s.chan c).open_ ∧ ((hifReset s).chan c).token = (s.chan c).token
      ∧ ((hifReset s).chan c).stored = (s.chan c).stored ∧ ((hifReset s).chan c).renewAt = (s.chan c).renewAt
      ∧ ((hifReset s).chan c).reqProd = 0 ∧ ((hifReset s).chan c).reqCons = 0 := by
  rw [hifReset_chan s hc]
  exact ⟨rfl, rfl, rfl, rfl, rfl, rfl⟩

theorem linkUp_up {s : State} {w r : Nat} (w1 : 1 ≤ w) (w2 : w ≤ 2) (r1 : 1 ≤ r) (r2 : r ≤ 3) (released : s.pwr.held = false) :
    ∃ t, exec (.linkUp w r) s = .next t
      ∧ t.hif.linkUp = true ∧ t.hif.width = w ∧ t.hif.speed = r ∧ t.hif.trainBy = none ∧ t.hif.evstat.testBit 125 = true := by
  have trains : ¬(w < 1 ∨ 2 < w ∨ r < 1 ∨ 3 < r ∨ s.pwr.held = true) := by
    simp only [released, Bool.false_eq_true, or_false]
    omega
  exact ⟨_, congrArg Host.Outcome.next (if_neg trains), raiseEv_field HifSt.linkUp .., raiseEv_field HifSt.width ..,
    raiseEv_field HifSt.speed .., raiseEv_field HifSt.trainBy .., raiseEv_own_bit ..⟩

theorem conventionalReset_running {s : State} (f3 : s.ssv.f3 = false) :
    exec (.conventionalReset 1) s = .next (hifReset s)
      ∧ exec (.conventionalReset 0) s = .next (hifReset { s with pwr := { s.pwr with perstN := false } }) :=
  have runs : ¬s.ssv.f3 = true := by rw [f3]; decide
  ⟨congrArg Host.Outcome.next (if_neg runs), congrArg Host.Outcome.next (if_neg runs)⟩

theorem conventionalReset_f3 {s : State} (f3 : s.ssv.f3 = true) :
    exec (.conventionalReset 1) s = .next (holdReset s)
      ∧ exec (.conventionalReset 0) s = .next (holdReset { s with pwr := { s.pwr with perstN := false } }) :=
  ⟨congrArg Host.Outcome.next (if_pos f3), congrArg Host.Outcome.next (if_pos f3)⟩

theorem linkWidthRateChange_up {s : State} {w r : Nat} (up : s.hif.linkUp = true) :
    exec (.linkWidthRateChange w r) s
      = .next (raiseEv 125 Sts.OK 0 (w * 2 ^ 28 + r * 2 ^ 24) 2 { s with hif := { s.hif with width := w, speed := r } }) :=
  congrArg Host.Outcome.next (if_neg (by rw [up]; decide))

/-! ### Requests taken in turn (12 R364) -/

theorem requestTaken_takes {s : State} {ch : Nat} {post : Nat × Time} (hc : ch < 4) (idle : s.fwIdle = true)
    (turn : s.nextChan = some ch)
    (posted : ((s.chan ch).posts.find? fun p =>
      decide (0 < ringDiff p.1 (s.chan ch).reqCons) && decide (ringDiff p.1 (s.chan ch).reqCons ≤ 16)) = some post) :
    let n := (s.chan ch).reqCons
    let u := s.mdChan ch fun x => { x with
      reqCons := (n + 1) % 2 ^ 16, posts := x.posts.filter fun p => decide (0 < ringDiff p.1 (n + 1)) && decide (ringDiff p.1 (n + 1) ≤ 16) }
    exec (.requestTaken ch) s = .next (judgeReq ch n (reqMsg (memRead s.hif.ram (reqSlot ch n) 256)) post.2
      { u with hif := { u.hif with turn := (ch + 1) % 4 } }) := by
  intro n u
  have serves : ¬(!s.fwIdle || s.nextChan != some ch) = true := by simp [idle, turn]
  have meaning : exec (.requestTaken ch) s = execRequestTaken ch s := rfl
  rw [meaning]
  unfold execRequestTaken
  rw [onUnit_in hc, if_neg serves]
  dsimp only
  rw [posted]

theorem requestTaken_waits {s : State} {ch : Nat} (hc : ch < 4) (other : s.nextChan ≠ some ch ∨ s.fwIdle = false) :
    exec (.requestTaken ch) s = .next s := by
  refine onUnit_acts hc ?_
  rcases other with other | busy
  · simp [other]
  · simp [busy]

/-! ### Leases (12 R371) -/

theorem reportedEnd_chan (c d status ticket opcode progress kind addr len : Nat) (s : State) :
    (raiseChan c status ticket opcode progress kind (mirDelta addr len s)).chan d = s.chan d := by
  rw [raiseChan, raiseEv_chan, State.chan, mirDelta_hif, State.chan]

theorem sessionEnd_ends {s : State} {ch : Nat} (hc : ch < 4) (open_ : (s.chan ch).open_ = true) (status : Nat) :
    ((sessionEnd ch status s).chan ch).open_ = false ∧ ((sessionEnd ch status s).chan ch).token = 0
      ∧ ((sessionEnd ch status s).chan ch).stored = [] ∧ (sessionEnd ch status s).hif.evstat.testBit (120 + ch) = true := by
  unfold sessionEnd
  rw [if_neg (by rw [open_]; decide)]
  extract_lets token answered cancelled noOffer ssv withdrawn disabled closed
  clear_value disabled
  rw [reportedEnd_chan]
  unfold closed
  rw [mdChan_chan hc]
  exact ⟨rfl, rfl, rfl, raiseEv_own_bit ..⟩

theorem leaseExpiry_ends {s : State} {ch : Nat} (hc : ch < 4) (open_ : (s.chan ch).open_ = true)
    (own : (s.chan ch).mirrored = false)
    (judged : ((s.chan ch).posts.any fun p => !atOrAfter p.2 ns (s.chan ch).leaseEnd) = false) :
    exec (.leaseExpiry ch) s = .next (sessionEnd ch Sts.LEASE_EXPIRED (s.upTo (s.chan ch).leaseEnd)) := by
  have meaning : exec (.leaseExpiry ch) s = execLeaseExpiry ch s := rfl
  rw [meaning]
  unfold execLeaseExpiry
  rw [onUnit_in hc]
  dsimp only
  rw [if_neg (by simp [open_, own]), if_neg (by rw [judged]; decide)]

/-- Settles O50: the host link's events, the requests in their turn and the leases that run out. -/
theorem hostLinkAndRequests : Obligations.HostLinkAndRequests := by
  refine ⟨fun s up => linkDown_resets up, fun s down => congrArg Host.Outcome.next (if_pos (by rw [down]; rfl)),
    fun s w r w1 w2 r1 r2 released => linkUp_up w1 w2 r1 r2 released, fun s f3 => conventionalReset_running f3,
    fun s => ⟨rfl, rfl, rfl, rfl, rfl, rfl, rfl, fun c hc => hifReset_keeps_sessions s hc⟩, fun s f3 => conventionalReset_f3 f3,
    fun s d => rfl, fun s status => ⟨_, rfl, raiseEv_own_bit .., raiseEv_field HifSt.aerCor .., raiseEv_field HifSt.aerUnc .., rfl⟩,
    fun s w r up => ⟨_, linkWidthRateChange_up up, raiseEv_field HifSt.width .., raiseEv_field HifSt.speed .., raiseEv_own_bit .., raiseEv_hif_ch .., rfl⟩, fun s => rfl,
    fun s ch post hc idle turn posted => requestTaken_takes hc idle turn posted,
    fun s ch hc other => requestTaken_waits hc other, fun s ch hc open_ own judged => ?_⟩
  have ends := leaseExpiry_ends hc open_ own judged
  have opened : ((s.upTo (s.chan ch).leaseEnd).chan ch).open_ = true := open_
  exact ⟨ends, _, ends, sessionEnd_ends hc opened _⟩

end Sys2Proof.Machine
end

section
/-!
SUPPORT. What a reaction leaves: faults, protective stops, speed limits and withdrawn units change neither the parameter sets, nor
the separation monitor but its arms, nor the verdicts, nor the Mirror's comparison, and keep every event that is raised.
-/
namespace Sys2Proof.Machine

/-- What a reaction leaves; of the verdicts those of the arms in `P`. -/
structure Reacts (P : Nat → Prop) (s t : State) : Prop where
  sets : t.sets = s.sets
  ssm : t.ssm = { s.ssm with arms := t.ssm.arms }
  verdict : ∀ k < 8, P k → (t.ssmArm k).v = (s.ssmArm k).v
  compared : t.mlc.mismatch = s.mlc.mismatch ∧ t.mlc.mismatchCount = s.mlc.mismatchCount
  events : ∀ i, s.hif.evstat.testBit i = true → t.hif.evstat.testBit i = true

section
variable {P : Nat → Prop} {s t u : State}

theorem Reacts.refl (s : State) : Reacts P s s := ⟨rfl, rfl, fun _ _ _ => rfl, ⟨rfl, rfl⟩, fun _ => id⟩

theorem Reacts.trans (a : Reacts P s t) (b : Reacts P t u) : Reacts P s u where
  sets := b.sets.trans a.sets
  ssm := b.ssm.trans (by rw [a.ssm])
  verdict k hk p := (b.verdict k hk p).trans (a.verdict k hk p)
  compared := ⟨b.compared.1.trans a.compared.1, b.compared.2.trans a.compared.2⟩
  events i := b.events i ∘ a.events i

/-- A reaction to the outcome of another change, with the last change named first. -/
theorem Reacts.after (b : Reacts P t u) (a : Reacts P s t) : Reacts P s u := a.trans b

theorem Reacts.ite {p : Prop} [Decidable p] (a : Reacts P s t) (b : Reacts P s u) : Reacts P s (if p then t else u) := by
  split
  · exact a
  · exact b

theorem Reacts.foldl {α : Type} {f : State → α → State} {l : List α} (h : Reacts P s t) (hf : ∀ x a, Reacts P x (f x a)) :
    Reacts P s (l.foldl f t) :=
  List.foldlRecOn (motive := Reacts P s) _ _ h fun x hx a _ => hx.trans (hf x a)

theorem Reacts.ps (h : Reacts P s t) : t.ps = s.ps := congrArg SetsSt.com h.sets

theorem Reacts.weaken {Q : Nat → Prop} (h : Reacts P s t) (fewer : ∀ k, Q k → P k) : Reacts Q s t :=
  ⟨h.sets, h.ssm, fun k hk q => h.verdict k hk (fewer k q), h.compared, h.events⟩

/-- The monitor but its arms is as it was. -/
theorem Reacts.field {α : Type} (h : Reacts P s t) (f : SsmSt → α) (armless : ∀ m a, f { m with arms := a } = f m := by intros; rfl) :
    f t.ssm = f s.ssm := by
  rw [h.ssm, armless]

/-- A change of other blocks of the state. -/
theorem Reacts.of_eq (hs : t.sets = s.sets := by rfl) (hm : t.ssm = s.ssm := by rfl) (hl : t.mlc = s.mlc := by rfl)
    (he : t.hif = s.hif := by rfl) : Reacts P s t :=
  ⟨hs, by rw [hm], fun k _ _ => by rw [State.ssmArm, State.ssmArm, hm], ⟨by rw [hl], by rw [hl]⟩, fun i => by rw [he]; exact id⟩

/-- What only tells of events and frames. -/
theorem Reacts.of_told (h : Told s t) (r : Reported s t) : Reacts P s t :=
  ⟨h.sets, by rw [h.ssm], fun k _ _ => by rw [State.ssmArm, State.ssmArm, h.ssm],
    ⟨r.field MlcSt.mismatch, r.field MlcSt.mismatchCount⟩, r.events⟩

/-- A change of an arm of the monitor that leaves its verdict, or of an arm that is not looked at. -/
theorem mdSsmArm_reacts (k : Nat) (f : SsmArm → SsmArm) (s : State) (hf : P k → ∀ m, (f m).v = m.v := by exact fun _ _ => rfl) :
    Reacts P s (s.mdSsmArm k f) := by
  refine ⟨rfl, rfl, fun j hj p => ?_, ⟨rfl, rfl⟩, fun _ => id⟩
  by_cases e : k = j
  · subst e
    rw [State.mdSsmArm_ssmArm s f hj, hf p]
  · rw [State.mdSsmArm_ssmArm_off s f e]

theorem raiseEv_reacts (ev st sub hi lo : Nat) (s : State) : Reacts P s (raiseEv ev st sub hi lo s) :=
  .of_told (raiseEv_told ..) (raiseEv_reported ..)

theorem endTicket_reacts (num state final : Nat) (s : State) : Reacts P s (endTicket num state final s) :=
  .of_told (endTicket_told ..) (endTicket_reported ..)

theorem finishTicket_reacts (num status : Nat) (s : State) : Reacts P s (finishTicket num status s) := endTicket_reacts ..

/-! ### Faults -/

theorem failHoming_reacts (k status : Nat) (s : State) : Reacts P s (failHoming k status s) := by
  refine Reacts.foldl (.refl s) fun x n => ?_
  split
  · exact .refl x
  · exact (finishTicket_reacts ..).after .of_eq

theorem abortBrakeTest_reacts (k : Nat) (s : State) : Reacts P s (abortBrakeTest k s) := by
  unfold abortBrakeTest
  split
  · exact .refl s
  · split
    · exact .refl s
    · exact (raiseEv_reacts ..).after ((endTicket_reacts ..).after .of_eq)

theorem withdraw_reacts (k : Nat) (s : State) : Reacts P s (withdraw k s) := by
  unfold withdraw
  extract_lets r
  split
  · exact .refl s
  · exact .of_eq

theorem tileShut_reacts (k : Nat) (s : State) : Reacts P s (tileShut k s) :=
  .ite (.refl s) ((withdraw_reacts k s).trans .of_eq)

theorem beginMeas_reacts (k : Nat) (t : Time) (ticket : Option Nat) (s : State) : Reacts P s (beginMeas k t ticket s) :=
  .ite (.refl s) (mdSsmArm_reacts ..)

theorem faultSides_reacts (k status : Nat) (s : State) : Reacts P s (faultSides k status s) := by
  refine (tileShut_reacts ..).after ((abortBrakeTest_reacts ..).after ((failHoming_reacts ..).after ?_))
  exact .of_eq

theorem putSto_reacts (o : Nat) (on : Bool) (s : State) : Reacts P s (putSto o on s) := .ite .of_eq (.refl s)

theorem openPair_reacts (k : Nat) (s : State) : Reacts P s (openPair k s) := .ite .of_eq (.refl s)

theorem f2One_reacts (k status rank : Nat) (s : State) : Reacts P s (f2One k status rank s) := by
  unfold f2One
  extract_lets c cut s1 s2 s3 s4 s5
  have off (t : State) : Reacts P t (cut t) := by
    unfold cut
    extract_lets t1 t2
    have bits : Reacts P t t1 := .of_eq
    have sto : Reacts P t t2 := by
      unfold t2
      split
      · exact bits.trans (putSto_reacts ..)
      · exact bits
    split
    · exact sto.trans (openPair_reacts ..)
    · exact sto
  have torque : Reacts P s s1 := off s
  have measured : Reacts P s s2 := ((off s).trans (faultSides_reacts ..)).trans (beginMeas_reacts ..)
  clear_value s1 s2
  refine .ite (.ite (torque.trans .of_eq) torque) ?_
  have stripped : Reacts P s s3 := .ite (measured.trans .of_eq) measured
  clear_value s3
  have scope : Reacts P s3 s5 := .of_eq
  clear_value s5
  exact (stripped.trans scope).trans (raiseEv_reacts ..)

theorem faultF2_reacts (k status rank : Nat) (s : State) : Reacts P s (faultF2 k status rank s) :=
  .ite .of_eq (.foldl (.refl s) fun x c => f2One_reacts c status rank x)

theorem faultF2s_reacts (ks : List Nat) (status rank : Nat) (s : State) : Reacts P s (faultF2s ks status rank s) :=
  .foldl (.refl s) fun x k => faultF2_reacts k status rank x

theorem ownApply_reacts (k : Nat) (s : State) : Reacts P s (ownApply k s) := by
  unfold ownApply
  extract_lets cut
  have low : Reacts P s cut := .of_eq
  have mark : Reacts P cut { cut with mlc := { cut.mlc with ownApply := cut.mlc.ownApply ||| 2 ^ k } } :=
    ⟨rfl, rfl, fun _ _ _ => rfl, ⟨rfl, rfl⟩, fun _ => id⟩
  exact .ite (.refl s) (.ite low ((low.trans mark).trans (raiseEv_reacts ..)))

/-! ### Units that become SUSPECT -/

theorem poolEvents_reacts (cls idx : Nat) (s : State) : Reacts P s (poolEvents cls idx s) :=
  .ite ((raiseEv_reacts ..).after .of_eq) (.ite ((raiseEv_reacts ..).after .of_eq) (.refl s))

theorem tileLost_reacts (tile : Nat) (next : Option Nat) (s : State) : Reacts P s (tileLost tile next s) := by
  unfold tileLost
  split
  · exact .refl s
  · exact .ite .of_eq .of_eq

section
variable {cls : Nat} (work : cls = 0 ∨ cls = 2)
include work

/-- A lane's work moves by itself, a tile's at the next plan period. -/
theorem takeover_reacts (idx spare : Nat) (s : State) : Reacts P s (takeover cls idx spare s) := by
  obtain rfl | rfl := work
  · exact .refl s
  · exact tileLost_reacts ..

/-- Without a spare the scope of a lane is faulted, and an arm has no tile. -/
theorem poolEmpty_reacts (idx status : Nat) (s : State) : Reacts P s (poolEmpty cls idx status s) := by
  obtain rfl | rfl := work
  · simp only [poolEmpty]
    split
    · exact (faultF2_reacts ..).trans .of_eq
    · exact .refl s
  · exact tileLost_reacts ..

theorem suspectUnit_reacts (idx status : Nat) (cmd : Option Nat) (s : State) :
    Reacts P s (suspectUnit cls idx status cmd s) := by
  unfold suspectUnit
  extract_lets u s1 sp s2 s3
  split
  · exact .refl s
  · exact .refl s
  · exact (poolEvents_reacts ..).after ((raiseEv_reacts ..).after .of_eq)
  · have out : Reacts P s s2 := .of_eq
    clear_value s2 sp
    refine Reacts.trans (t := s3) ?_ (raiseEv_reacts ..)
    unfold s3
    split
    · exact (poolEvents_reacts ..).after ((takeover_reacts work ..).after (.ite (out.trans .of_eq) out))
    · exact .ite (out.trans (poolEmpty_reacts work ..)) (out.trans (poolEvents_reacts ..))

theorem suspect_reacts (idx status : Nat) (cmd : Option Nat) (s : State) : Reacts P s (suspect cls idx status cmd s) := by
  have other : ¬(cls = 6 ∧ (s.unit 6 idx).st = .retired) := by omega
  unfold suspect
  rw [if_neg other]
  exact suspectUnit_reacts work idx status cmd s

end

end

end Sys2Proof.Machine
end

section
/-!
SUPPORT. O59: the records of the Mirror's copy as a unit without authority takes them (14 R403 to R406).
-/
namespace Sys2Proof.Machine

/-! ### The SYSTEM record -/

/-- `t` has the drive links of `s`, and of the Mirror link its latest record with what is counted of the copy. -/
structure Adopts (s t : State) : Prop where
  dl : t.dl = s.dl
  sys : t.mlc.sys = s.mlc.sys
  got : t.mlc.got = s.mlc.got
  miss : t.mlc.sysMiss = s.mlc.sysMiss

theorem Adopts.refl (s : State) : Adopts s s := ⟨rfl, rfl, rfl, rfl⟩

theorem Adopts.trans {s t u : State} (a : Adopts s t) (b : Adopts t u) : Adopts s u :=
  ⟨b.dl.trans a.dl, b.sys.trans a.sys, b.got.trans a.got, b.miss.trans a.miss⟩

/-- What a tracking Shadow takes of one arm of the record. -/
def adopt (k : Nat) (m : SysArm) (s : State) : State := adoptPlan k m (adoptArm k m s)

theorem adoptPlan_eq (k : Nat) (m : SysArm) (s : State) :
    ∃ l : MlcSt, adoptPlan k m s = { (s.mdSc k fun c => { c with owner := m.owner }).mdPlr k fun r =>
        { r with res := { r.res with outcome := m.plan.1, fallbackN := m.plan.2 } } with mlc := l }
      ∧ l.sys = s.mlc.sys ∧ l.got = s.mlc.got ∧ l.sysMiss = s.mlc.sysMiss := by
  unfold adoptPlan
  extract_lets differs u v
  split
  · exact ⟨_, rfl, rfl, rfl, rfl⟩
  · exact ⟨s.mlc, rfl, rfl, rfl, rfl⟩

theorem adopt_adopts (k : Nat) (m : SysArm) (s : State) : Adopts s (adopt k m s) := by
  obtain ⟨l, e, sys, got, miss⟩ := adoptPlan_eq k m (adoptArm k m s)
  unfold adopt
  rw [e]
  exact ⟨rfl, sys, got, miss⟩

/-- The arm has the level, the owner, the outcome and FALLBACK_N of the record. -/
def Adopted (k : Nat) (m : SysArm) (s : State) : Prop :=
  (s.sc k).level = m.level ∧ (s.sc k).owner = m.owner ∧ (s.plr k).res.fallbackN = m.plan.2 ∧ (s.plr k).res.outcome = m.plan.1

theorem adopt_own {k : Nat} (hk : k < 8) (m : SysArm) (s : State) : Adopted k m (adopt k m s) := by
  obtain ⟨l, e, -⟩ := adoptPlan_eq k m (adoptArm k m s)
  have scope : (adopt k m s).sc k = { (adoptArm k m s).sc k with owner := m.owner } := by
    unfold adopt
    rw [e]
    exact State.mdSc_sc _ _ (by omega)
  have level : ((adoptArm k m s).sc k).level = m.level := congrArg ScopeSt.level (State.mdSc_sc s _ (by omega))
  have plan : (adopt k m s).plr k = { (adoptArm k m s).plr k with
      res := { ((adoptArm k m s).plr k).res with outcome := m.plan.1, fallbackN := m.plan.2 } } := by
    unfold adopt
    rw [e]
    exact State.mdPlr_plr _ _ hk
  unfold Adopted
  rw [scope, plan]
  exact ⟨level, rfl, rfl, rfl⟩

theorem adopt_other {j k : Nat} (other : j ≠ k) (m : SysArm) (s : State) :
    (adopt j m s).sc k = s.sc k ∧ (adopt j m s).plr k = s.plr k := by
  obtain ⟨l, e, -⟩ := adoptPlan_eq j m (adoptArm j m s)
  unfold adopt
  rw [e]
  exact ⟨(State.mdSc_sc_off (adoptArm j m s) _ other).trans (State.mdSc_sc_off s _ other),
    State.mdPlr_plr_off (adoptArm j m s) _ other⟩

/-- The arms of a list are adopted one after the other. -/
theorem adopts_foldl (arms : Nat → SysArm) (l : List Nat) (s : State) :
    Adopts s (l.foldl (fun s k => adopt k (arms k) s) s) :=
  List.foldlRecOn (motive := Adopts s) _ _ (.refl s) fun x h k _ => h.trans (adopt_adopts k (arms k) x)

theorem adopted_foldl (arms : Nat → SysArm) {k : Nat} (hk : k < 8) (l : List Nat) (s : State) (h : k ∈ l ∨ Adopted k (arms k) s) :
    Adopted k (arms k) (l.foldl (fun s k => adopt k (arms k) s) s) := by
  induction l generalizing s with
  | nil => exact h.resolve_left List.not_mem_nil
  | cons j l ih =>
    refine ih _ ?_
    by_cases e : j = k
    · subst e
      exact .inr (adopt_own hk ..)
    · obtain ⟨scope, plan⟩ := adopt_other e (arms j) s
      refine h.imp (fun m => (List.mem_cons.1 m).resolve_left (Ne.symm e)) fun adopted => ?_
      unfold Adopted
      rw [scope, plan]
      exact adopted

/-- Outputs that the record asks to be high change the brake circuits alone. -/
theorem sysRelease_eq (s : State) : ∃ b, sysRelease s = { s with ssv := { s.ssv with brakes := b } } := by
  unfold sysRelease
  split
  · exact ⟨s.ssv.brakes, rfl⟩
  · refine List.foldlRecOn (motive := fun t : State => ∃ b, t = { s with ssv := { s.ssv with brakes := b } }) _ _ ⟨s.ssv.brakes, rfl⟩ ?_
    rintro t ⟨b, rfl⟩ k -
    split
    · exact ⟨_, rfl⟩
    · exact ⟨_, rfl⟩

theorem tracks_iff (s : State) :
    s.tracks = true ↔ s.mlc.role = .shadow ∧ (s.mlc.shadow = .tracking ∨ s.mlc.shadow = .ready) := by
  simp [State.tracks]

/-- The arms of a SYSTEM record (14 Table 14-4). -/
def recordArms (sto dis : Nat) (levels : List Nat) (stops : List (Nat × Nat)) (plans : List (Nat × Nat × Nat)) (k : Nat) : SysArm :=
  { stoOut := sto.testBit k, level := lget levels k, disabled := dis.testBit k
    stop := ([.none, .f1, .f2, .prot1, .prot2, .estop0, .estop1, .sos] : List StopKind).getD (lget stops k).1 .none
    trig := (lget stops k).2
    owner := if 4 < (plans.getD k (5, 0, 0)).1 then none else some (plans.getD k (5, 0, 0)).1
    plan := (plans.getD k (5, 0, 0)).2 }

section
variable {s : State} {cycle at_ epoch sto dis : Nat} {levels : List Nat} {stops : List (Nat × Nat)} {plans : List (Nat × Nat × Nat)}

theorem systemRecord_takes (follows : s.drives = false) (inTime : copyInTime cycle at_ (s.upTo at_) = true) :
    ∃ t r, exec (.systemRecord ⟨cycle, at_⟩ epoch sto dis levels stops plans) s = .next t ∧ t.mlc.sys = some r
      ∧ r.cycle = cycle ∧ r.epoch = epoch ∧ t.dl.epoch = max s.dl.epoch epoch ∧ t.mlc.sysMiss = 0 ∧ t.mlc.got.1 = true
      ∧ (s.tracks = false → t.axes = s.axes)
      ∧ (s.tracks = true → ∀ k < 8, Adopted k (recordArms sto dis levels stops plans k) t) := by
  have meaning : exec (.systemRecord ⟨cycle, at_⟩ epoch sto dis levels stops plans) s
      = execSystemRecord ⟨cycle, at_⟩ epoch sto dis levels stops plans s := rfl
  rw [meaning]
  unfold execSystemRecord
  extract_lets u kinds arms own bad dl mlc w v
  have takes : ¬(u.drives || !copyInTime cycle at_ u) = true := by
    have follows' : u.drives = false := follows
    rw [follows', show copyInTime cycle at_ u = true from inTime]
    decide
  rw [if_neg takes]
  have arm (k : Nat) (hk : k < 8) : arms.getD k {} = recordArms sto dis levels stops plans k := by
    simp [arms, hk]
    rfl
  have tracked (tracks : s.tracks = true) : v = (List.range 8).foldl (fun s k => adopt k (arms.getD k {}) s) w :=
    if_pos ((tracks_iff s).1 tracks)
  have untracked (tracks : s.tracks = false) : v = w :=
    if_neg fun h => absurd ((tracks_iff s).2 h) (by rw [tracks]; decide)
  have adopts : Adopts w v := by
    cases tracks : s.tracks with
    | true =>
      rw [tracked tracks]
      exact adopts_foldl ..
    | false =>
      rw [untracked tracks]
      exact .refl w
  have arms_adopted (tracks : s.tracks = true) (k : Nat) (hk : k < 8) : Adopted k (recordArms sto dis levels stops plans k) v := by
    rw [tracked tracks, ← arm k hk]
    exact adopted_foldl (fun k => arms.getD k {}) hk _ _ (.inl (List.mem_range.2 hk))
  clear_value v
  obtain ⟨b, released⟩ := sysRelease_eq v
  refine ⟨sysRelease v, { cycle := cycle, epoch := epoch, arms := arms }, rfl, ?_, rfl, rfl, ?_, ?_, ?_, fun tracks => ?_, fun tracks k hk => ?_⟩
  · rw [released]
    exact adopts.sys
  · rw [released]
    exact congrArg DlSt.epoch adopts.dl
  · rw [released]
    exact adopts.miss
  · rw [released]
    exact congrArg Prod.fst adopts.got
  · rw [released, untracked tracks]
    rfl
  · rw [released]
    exact arms_adopted tracks k hk

theorem systemRecord_late (other : s.drives = true ∨ copyInTime cycle at_ (s.upTo at_) = false) :
    exec (.systemRecord ⟨cycle, at_⟩ epoch sto dis levels stops plans) s = .next (s.upTo at_) := by
  have rests : ((s.upTo at_).drives || !copyInTime cycle at_ (s.upTo at_)) = true := by
    rcases other with drives | late
    · rw [show (s.upTo at_).drives = true from drives]
      rfl
    · rw [late]
      exact Bool.or_true _
  exact congrArg Host.Outcome.next (if_pos rests)

end

/-! ### The AXIS record and its comparison -/

section
variable {s : State} {cycle at_ : Nat} {axes : List (Int × Int)} {skip : List Nat} (follows : s.drives = false)
  (inTime : copyInTime cycle at_ (s.upTo at_) = true)

/-- The state once the AXIS record is there. -/
def copyTaken (at_ : Nat) (axes : List (Int × Int)) (s : State) : State :=
  let u := s.upTo at_
  { u with mlc := { u.mlc with got := (u.mlc.got.1, true), axis := axes } }

/-- The axes whose mirrored reference or feedback differs, but those that are not compared (14 R406). -/
def copyDiffers (axes : List (Int × Int)) (skip : List Nat) (s : State) : List Nat :=
  (List.range (min 64 axes.length)).filter fun n =>
    !skip.contains n && !(s.axSc n < 8 && (s.mlc.planLack ||| s.mlc.warmLack).testBit (s.axSc n))
      && decide ((s.ax n).snap ≠ lget axes n)

/-- A tile whose arm differs is reported and suspected (14 R407). -/
def suspectTile (cycle : Nat) (s : State) (k : Nat) : State :=
  let s := raiseEv 107 Sts.OK (0x40 + k) (cycle % 2 ^ 32) 4 s
  match (s.plr k).tile with | some q => suspect 2 q Sts.OK none s | none => s

/-- A lane whose axis differs is reported and suspected (14 R407). -/
def suspectLane (cycle : Nat) (s : State) (n : Nat) : State :=
  let s := raiseEv 107 Sts.OK n (cycle % 2 ^ 32) 5 s
  match s.laneOf n with | some l => suspect 0 l Sts.OK none s | none => s

/-- The comparison of a Shadow: what it counts, and the units it suspects (14 R407). -/
def compareCopy (cycle : Nat) (bad : List Nat) (s : State) : State :=
  let s := { s with mlc := { s.mlc with
    mismatch := !bad.isEmpty || s.mlc.armBad != 0
    mismatchCount := if bad.isEmpty && s.mlc.armBad == 0 then s.mlc.mismatchCount else incSat 255 s.mlc.mismatchCount } }
  bad.foldl (suspectLane cycle) (((List.range 8).filter fun k => s.mlc.armBad.testBit k).foldl (suspectTile cycle) s)

include follows inTime in
theorem mirrorCopyComplete_eq :
    exec (.mirrorCopyComplete ⟨cycle, at_⟩ axes skip) s
      = .next (if s.tracks then compareCopy cycle (copyDiffers axes skip s) (copyTaken at_ axes s) else copyTaken at_ axes s) := by
  have meaning : exec (.mirrorCopyComplete ⟨cycle, at_⟩ axes skip) s = execMirrorCopyComplete ⟨cycle, at_⟩ axes skip s := rfl
  have takes : ¬(!receives (s.upTo at_) || !copyInTime cycle at_ (s.upTo at_)) = true := by
    have receives_ : receives (s.upTo at_) = true := by
      unfold receives
      rw [show (s.upTo at_).drives = false from follows]
      rfl
    rw [receives_, inTime]
    decide
  rw [meaning]
  unfold execMirrorCopyComplete
  extract_lets u mlc w bad compared x y
  rw [if_neg takes]
  cases tracks : s.tracks with
  | true => exact congrArg Host.Outcome.next (if_neg (by rw [show w.tracks = true from tracks]; decide))
  | false => exact congrArg Host.Outcome.next (if_pos (by rw [show w.tracks = false from tracks]; rfl))

/-- Without a difference nothing is suspected. -/
theorem compareCopy_agrees (cycle : Nat) {s : State} (sound : s.mlc.armBad = 0) :
    compareCopy cycle [] s = { s with mlc := { s.mlc with mismatch := false } } := by
  unfold compareCopy
  extract_lets mlc u
  have empty : ((List.range 8).filter fun k => u.mlc.armBad.testBit k) = [] := by
    rw [show u.mlc.armBad = 0 from sound]
    simp
  rw [List.foldl_nil, empty, List.foldl_nil]
  unfold u
  rw [sound]
  rfl

section
variable {P : Nat → Prop} (cycle n : Nat) (s : State)

theorem suspectTile_reacts : Reacts P s (suspectTile cycle s n) := by
  unfold suspectTile
  extract_lets u
  have raised : Reacts P s u := raiseEv_reacts ..
  split
  · exact raised.trans (suspect_reacts (.inr rfl) ..)
  · exact raised

theorem suspectLane_reacts : Reacts P s (suspectLane cycle s n) := by
  unfold suspectLane
  extract_lets u
  have raised : Reacts P s u := raiseEv_reacts ..
  split
  · exact raised.trans (suspect_reacts (.inl rfl) ..)
  · exact raised

/-- The lane of a difference is reported before it is suspected. -/
theorem suspectLane_event : (suspectLane cycle s n).hif.evstat.testBit 107 = true := by
  unfold suspectLane
  extract_lets u
  have raised : u.hif.evstat.testBit 107 = true := raiseEv_own_bit ..
  split
  · exact (suspect_reacts (P := fun _ => True) (.inl rfl) ..).events 107 raised
  · exact raised

end

/-- What a comparison sets and counts stays while the units are suspected. -/
theorem compareCopy_differs (cycle : Nat) {bad : List Nat} (some_ : bad ≠ []) (s : State) :
    (compareCopy cycle bad s).mlc.mismatch = true
      ∧ (compareCopy cycle bad s).mlc.mismatchCount = incSat 255 s.mlc.mismatchCount
      ∧ (compareCopy cycle bad s).hif.evstat.testBit 107 = true := by
  obtain ⟨n, bad, rfl⟩ := List.exists_cons_of_ne_nil some_
  unfold compareCopy
  extract_lets mlc u
  have tiles : Reacts (fun _ => True) u (((List.range 8).filter fun k => u.mlc.armBad.testBit k).foldl (suspectTile cycle) u) :=
    .foldl (.refl u) fun x k => suspectTile_reacts cycle k x
  rw [List.foldl_cons]
  have rest : Reacts (fun _ => True) _ (bad.foldl (suspectLane cycle) _) :=
    .foldl (.refl (suspectLane cycle (((List.range 8).filter fun k => u.mlc.armBad.testBit k).foldl (suspectTile cycle) u) n))
      fun x k => suspectLane_reacts cycle k x
  have all := (tiles.trans (suspectLane_reacts cycle n _)).trans rest
  exact ⟨all.compared.1, all.compared.2, rest.events 107 (suspectLane_event ..)⟩

/-- While no record lacks, every difference of an axis that is not skipped counts. -/
theorem mem_copyDiffers {n : Nat} (hn : n < min 64 axes.length) (counted : n ∉ skip) (differs : (s.ax n).snap ≠ lget axes n)
    (plans : s.mlc.planLack = 0) (warm : s.mlc.warmLack = 0) : n ∈ copyDiffers axes skip s := by
  refine List.mem_filter.2 ⟨List.mem_range.2 hn, ?_⟩
  simp [counted, differs, plans, warm]

theorem copyDiffers_nil (same : ∀ n < min 64 axes.length, n ∉ skip → (s.ax n).snap = lget axes n) : copyDiffers axes skip s = [] := by
  refine List.filter_eq_nil_iff.2 fun n mem => ?_
  have hn := List.mem_range.1 mem
  by_cases counted : n ∈ skip
  · simp [counted]
  · simp [same n hn counted]

end

/-! ### The copy deadline -/

theorem copyDeadline_stale {s : State} (running : s.cyc.running = true) (open_ : s.cyc.copyDone = false) (follows : s.drives = false)
    (tracks : s.tracks = true) (missing : s.mlc.got.1 = false) (eng : s.mlc.eng = true) :
    ∃ t, exec .copyDeadline s = .next t ∧ t.cyc.copyDone = true ∧ t.mlc.stale = true ∧ t.mlc.staleRun = incSat 255 s.mlc.staleRun
      ∧ t.mlc.sysMiss = incSat 255 s.mlc.sysMiss ∧ t.mlc.got = (false, false) ∧ t.axes = s.axes ∧ t.hif.evstat.testBit 105 = true := by
  have meaning : exec .copyDeadline s = execCopyDeadline s := rfl
  rw [meaning]
  unfold execCopyDeadline
  rw [if_neg (notStopped_notDone running open_)]
  extract_lets at_ u cyc w mlc lack stale m judged v raised engaged final
  have receives_ : receives w = true := by
    unfold receives
    rw [show w.drives = false from follows]
    rfl
  have incomplete : stale = true := by
    unfold stale
    rw [show w.mlc.got.1 = false from missing]
    rfl
  have reported : Reported v raised := .ite (raiseEv_reported ..) (.refl v)
  have event : raised.hif.evstat.testBit 105 = true := by
    unfold raised
    rw [if_pos incomplete]
    exact raiseEv_own_bit ..
  have no_engagement : engaged = raised := if_neg (by simp [show judged.eng = true from eng])
  have acts : ¬(!receives w) = true := by rw [receives_]; decide
  have compares : ¬(!w.tracks) = true := by rw [show w.tracks = true from tracks]; decide
  rw [if_neg acts, if_neg compares]
  clear_value engaged
  subst no_engagement
  refine ⟨_, rfl, congrArg CycSt.copyDone reported.cyc, (reported.field MlcSt.stale).trans incomplete, ?_, ?_,
    reported.field MlcSt.got, reported.axes, event⟩
  · exact (reported.field MlcSt.staleRun).trans (if_pos incomplete)
  · exact (reported.field MlcSt.sysMiss).trans (if_neg (by rw [show mlc.got.1 = false from missing]; decide))

/-! ### STAGE and PLAN records -/

/-- A list kept up to a place and changed entry by entry from there on. -/
theorem take_append_map {α : Type} (f : α → α) (n : Nat) (l : List α) :
    (l.take n ++ (l.drop n).map f).take n = l.take n ∧ (l.take n ++ (l.drop n).map f).drop n = (l.drop n).map f := by
  rcases Nat.le_total n l.length with inside | beyond
  · have len : (l.take n).length = n := List.length_take_of_le inside
    exact ⟨List.take_left' len, List.drop_left' len⟩
  · rw [List.drop_eq_nil_of_le beyond, List.map_nil, List.append_nil]
    exact ⟨by rw [List.take_take, Nat.min_self], by rw [List.drop_take, Nat.sub_self, List.take_zero]⟩

theorem stageRecord_stages {s : State} (at_ op : Nat) (payload bulk : Bytes) (follows : s.drives = false) :
    let u := (runReq 5 op payload (if bulk.isEmpty then none else some bulk) 0 s).2
    ∃ t, exec (.stageRecord at_ op payload bulk) s = .next t
      ∧ t = { u with fw := { u.fw with staged := t.fw.staged, setNext := t.fw.setNext } }
      ∧ t.fw.staged.take s.fw.staged.length = u.fw.staged.take s.fw.staged.length
      ∧ (∀ g ∈ t.fw.staged.drop s.fw.staged.length, g.at_ = at_)
      ∧ ∀ g ∈ t.fw.setNext.drop s.fw.setNext.length, g.at_ = at_ := by
  intro u
  have receives_ : ¬(!receives s) = true := by
    unfold receives
    rw [follows]
    decide
  have meaning : exec (.stageRecord at_ op payload bulk) s = execStageRecord at_ op payload bulk s := rfl
  rw [meaning]
  unfold execStageRecord
  rw [if_neg receives_]
  obtain ⟨kept, staged⟩ := take_append_map (fun g : Staged => { g with at_ := at_, ref := none }) s.fw.staged.length u.fw.staged
  have sets := (take_append_map (fun g : StagedSet => { g with at_ := at_, ref := none }) s.fw.setNext.length u.fw.setNext).2
  refine ⟨_, rfl, rfl, kept, fun g mem => ?_, fun g mem => ?_⟩
  · obtain ⟨x, -, rfl⟩ := List.mem_map.1 (staged ▸ mem)
    rfl
  · obtain ⟨x, -, rfl⟩ := List.mem_map.1 (sets ▸ mem)
    rfl

theorem planRecord_takes {s : State} {k : Nat} {bytes : Bytes} (hk : k < 8) (follows : s.drives = false) (long : 32 ≤ bytes.length)
    (fits : bytes.length ≤ 32768) :
    ∃ t, exec (.planRecord k bytes) s = .next t ∧ (t.plr k).shown = some (readPlan bytes)
      ∧ ((t.plr k).gens.1 = (readPlan bytes).gen ∨ (t.plr k).gens.2 = (readPlan bytes).gen)
      ∧ t.mlc.planGen.getD k 0 = (readPlan bytes).gen ∧ t.axes = s.axes ∧ t.ssv = s.ssv := by
  have takes : ¬(!receives s || decide (bytes.length < 32) || decide (32768 < bytes.length)) = true := by
    simp [receives, follows, long, fits]
  have meaning : exec (.planRecord k bytes) s = execPlanRecord k bytes s := rfl
  rw [meaning]
  unfold execPlanRecord
  rw [onUnit_in hk, if_neg takes]
  extract_lets p r late slot u v
  have plan := State.mdPlr_plr u (fun r => { r with
    gens := if slot = 0 then (p.gen, r.gens.2) else (r.gens.1, p.gen)
    shownPrev := if r.shown.map (·.gen) = some p.gen then r.shownPrev else r.shown
    shown := some p
    next := if p.static || late then r.next else if r.cur.map (·.gen) = some p.gen then r.next else some p
    cur := if late || decide (r.cur.map (·.gen) = some p.gen) then some p else r.cur }) hk
  refine ⟨_, rfl, congrArg PlannerSt.shown plan, ?_, ?_, rfl, rfl⟩
  · have gens : (v.plr k).gens = if slot = 0 then (p.gen, (u.plr k).gens.2) else ((u.plr k).gens.1, p.gen) :=
      congrArg PlannerSt.gens plan
    change (v.plr k).gens.1 = p.gen ∨ (v.plr k).gens.2 = p.gen
    rw [gens]
    split
    · exact .inl rfl
    · exact .inr rfl
  · change (List.set _ k p.gen).getD k 0 = p.gen
    simp [hk]

/-! ### DELTA records and the warm start -/

/-- `t` has the bytes of the Ledger and the axes of `s`. -/
def SameMemory (s t : State) : Prop := t.ldg.mem = s.ldg.mem ∧ t.axes = s.axes

section
variable {s t u : State}

theorem SameMemory.refl (s : State) : SameMemory s s := ⟨rfl, rfl⟩

theorem SameMemory.trans (a : SameMemory s t) (b : SameMemory t u) : SameMemory s u := ⟨b.1.trans a.1, b.2.trans a.2⟩

theorem SameMemory.ite {p : Prop} [Decidable p] (a : SameMemory s t) (b : SameMemory s u) : SameMemory s (if p then t else u) := by
  split
  · exact a
  · exact b

/-- Each line of a table that is touched. -/
theorem SameMemory.lines {f : Nat → State → State} {p : Nat → Bool} (l : List Nat) (s : State) (hf : ∀ i x, SameMemory x (f i x)) :
    SameMemory s (l.foldl (fun s i => if p i then f i s else s) s) :=
  List.foldlRecOn (motive := SameMemory s) _ _ (.refl s) fun x h i _ => h.trans (.ite (hf i x) (.refl x))

theorem secTouch_sameMemory (s : State) : SameMemory s (secTouch s) := by
  obtain ⟨m, e⟩ := secTouch_eq s
  rw [e]
  exact ⟨rfl, rfl⟩

theorem takeSession_sameMemory (c : Nat) (s : State) : SameMemory s (takeSession c s) := ⟨rfl, rfl⟩
theorem takeStored_sameMemory (c j : Nat) (s : State) : SameMemory s (takeStored c j s) := .ite (.refl s) ⟨rfl, rfl⟩
theorem takeTicket_sameMemory (i : Nat) (s : State) : SameMemory s (takeTicket i s) := .ite (.refl s) ⟨rfl, rfl⟩
theorem takeWarm_sameMemory (k : Nat) (s : State) : SameMemory s (takeWarm k s) := ⟨rfl, rfl⟩
theorem takeTxVal_sameMemory (v : Nat) (s : State) : SameMemory s (takeTxVal v s) := .ite (.refl s) ⟨rfl, rfl⟩
theorem takeDelays_sameMemory (s : State) : SameMemory s (takeDelays s) := ⟨rfl, rfl⟩

theorem takeCommitted_sameMemory (s : State) : SameMemory s (takeCommitted s) := by
  unfold takeCommitted
  dsimp only
  split
  · exact ⟨rfl, rfl⟩
  · exact .refl s

theorem takeSecure_sameMemory (a len : Nat) (s : State) : SameMemory s (takeSecure a len s) := by
  unfold takeSecure
  extract_lets ssv u ssv' v
  have conf : SameMemory s u := .ite (.trans ⟨rfl, rfl⟩ (secTouch_sameMemory _)) (.refl s)
  have timers : SameMemory u v := .ite (.trans ⟨rfl, rfl⟩ (secTouch_sameMemory _)) (.refl u)
  exact (conf.trans timers).trans (.ite (.trans ⟨rfl, rfl⟩ (secTouch_sameMemory _)) (.refl v))

/-- What the lines of a DELTA stand for lies outside the Ledger's bytes and the axes. -/
theorem takeDelta_sameMemory (a len : Nat) (s : State) : SameMemory s (takeDelta a len s) := by
  unfold takeDelta
  extract_lets s1 s2 s3 s4 s5 s6 s7
  have sessions : SameMemory s s1 := .lines _ s takeSession_sameMemory
  have tickets : SameMemory s1 s2 := .lines _ s1 takeTicket_sameMemory
  have stored : SameMemory s2 s3 := .lines _ s2 fun i x => takeStored_sameMemory (i / 16) (i % 16) x
  have committed : SameMemory s3 s4 := .ite (takeCommitted_sameMemory s3) (.refl s3)
  have warm : SameMemory s4 s5 := .lines _ s4 takeWarm_sameMemory
  have values : SameMemory s5 s6 := .lines _ s5 takeTxVal_sameMemory
  have delays : SameMemory s6 s7 := .ite (takeDelays_sameMemory s6) (.refl s6)
  have secure := SameMemory.ite (p := touches a len regSecure 0xC00 = true) (takeSecure_sameMemory a len s7) (.refl s7)
  exact ((((((sessions.trans tickets).trans stored).trans committed).trans warm).trans values).trans delays).trans secure

end

theorem delta_takes {s : State} {addr : Nat} {bytes : Bytes} (follows : s.drives = false) (fits : addr + bytes.length ≤ 0x00800000) :
    ∃ t, exec (.delta addr bytes) s = .next t
      ∧ t = takeDelta addr bytes.length (s.ldgWrite addr bytes) ∧ t.ldg.mem = memWrite s.ldg.mem addr bytes ∧ t.axes = s.axes := by
  have takes : ¬(!receives s || decide (0x00800000 < addr + bytes.length)) = true := by
    simp [receives, follows, fits]
  obtain ⟨mem, axes⟩ := takeDelta_sameMemory addr bytes.length (s.ldgWrite addr bytes)
  exact ⟨_, congrArg Host.Outcome.next (if_neg takes), rfl, mem, axes⟩

/-- Settles O59: the records of the copy as the unit without authority takes them, and the warm start the active unit sends. -/
theorem mirrorCopyEvents : Obligations.MirrorCopyEvents := by
  refine ⟨?_, fun s cycle at_ epoch sto dis levels stops plans other => systemRecord_late other, ?_,
    fun s running open_ follows tracks missing eng => copyDeadline_stale running open_ follows tracks missing eng, ?_,
    fun s at_ op payload bulk follows => stageRecord_stages at_ op payload bulk follows,
    fun s k bytes hk follows long fits => planRecord_takes hk follows long fits,
    fun s addr bytes follows fits => delta_takes follows fits, ?_, ?_, ?_⟩
  · intro s cycle at_ epoch sto dis levels stops plans follows inTime
    exact systemRecord_takes follows inTime
  · intro s cycle at_ axes skip follows inTime u
    have row := mirrorCopyComplete_eq (axes := axes) (skip := skip) follows inTime
    refine ⟨fun untracked => ?_, fun tracks sound same => ?_, fun n tracks hn counted differs plans warm => ?_⟩
    · rw [row, if_neg (by rw [untracked]; decide)]
      rfl
    · rw [row, if_pos tracks, copyDiffers_nil same, compareCopy_agrees cycle (s := copyTaken at_ axes s) sound]
      rfl
    · rw [row, if_pos tracks]
      exact ⟨_, rfl, compareCopy_differs cycle (List.ne_nil_of_mem (mem_copyDiffers hn counted differs plans warm)) _⟩
  · intro s running open_ drives u
    have idle : (!receives { u with cyc := { u.cyc with copyDone := true } }) = true := by
      unfold receives
      rw [show State.drives { u with cyc := { u.cyc with copyDone := true } } = true from drives]
      rfl
    have meaning : exec .copyDeadline s = execCopyDeadline s := rfl
    rw [meaning]
    unfold execCopyDeadline
    rw [if_neg (notStopped_notDone running open_)]
    exact congrArg Host.Outcome.next (if_pos idle)
  · intro s addr bytes drives
    exact congrArg Host.Outcome.next (if_pos (by simp [receives, drives]))
  · exact fun s k hk active => onUnit_rests hk (not_not_intro active)
  · exact fun s k hk other => onUnit_acts hk other

end Sys2Proof.Machine
end

section
/-!
SUPPORT. What the requests and judgements of a publication leave (08 R231 to R235, 09 R267 to R269), and the verdicts they force.
-/
namespace Sys2Proof.Machine

section
variable {P : Nat → Prop}

/-! ### Requests -/

theorem beginProt_reacts (k cat status : Nat) (t : Time) (ticket : Option Nat) (s : State) :
    Reacts P s (beginProt k cat status t ticket s) := by
  have sides : Reacts P s (failHoming k status (endInjection k status (beginMeas k t ticket s))) :=
    (failHoming_reacts ..).after ((beginMeas_reacts ..).trans .of_eq)
  unfold beginProt
  dsimp only
  split
  · exact .refl s
  split
  · exact .ite (.refl s) ((beginMeas_reacts ..).trans .of_eq)
  split
  · exact (sides.trans (tileShut_reacts ..)).trans .of_eq
  · exact .ite (.refl s) (sides.trans .of_eq)

theorem protStop_reacts (k src cat : Nat) (t : Time) (ticket : Option Nat) (s : State) :
    Reacts P s (protStop k src cat t ticket s) :=
  .ite (.refl s) ((beginProt_reacts ..).after .of_eq)

theorem slsOrder_reacts (k src : Nat) (ratio : Option Nat) (t : Time) (s : State) : Reacts P s (slsOrder k src ratio t s) := by
  unfold slsOrder
  extract_lets old new_ u
  have run : Reacts P s u := .ite .of_eq (.refl s)
  clear_value u
  exact .ite (.refl s) (run.trans .of_eq)

theorem requests_reacts (k : Nat) (t : Time) (s : State) : Reacts P s (requests k t s) := by
  unfold requests
  extract_lets m u pen v
  have stop : Reacts P s u := .ite ((protStop_reacts ..).after (mdSsmArm_reacts ..)) (.refl s)
  have mark : Reacts P u v := .ite (mdSsmArm_reacts ..) (.ite (mdSsmArm_reacts ..) (.refl u))
  exact .ite (stop.trans mark) ((stop.trans mark).trans (slsOrder_reacts ..))

/-! ### Verdicts of one arm -/

section
variable {k : Nat} (aside : ¬P k)
include aside

theorem setVerdict_reacts (v : Nat) (s : State) : Reacts P s (setVerdict k v s) := by
  unfold setVerdict
  extract_lets old u
  have set_ : Reacts P s u := mdSsmArm_reacts k _ s fun p => absurd p aside
  exact .ite (.refl s) (set_.trans (raiseEv_reacts ..))

theorem forceUmbra_reacts (miss : Bool) (t : Time) (s : State) : Reacts P s (forceUmbra k miss t s) := by
  unfold forceUmbra
  extract_lets u
  have forced : Reacts P s u := mdSsmArm_reacts k _ s fun p => absurd p aside
  clear_value u
  exact (forced.trans (setVerdict_reacts aside 2 u)).trans (requests_reacts ..)

theorem notMonitored_reacts (t : Time) (s : State) : Reacts P s (notMonitored k t s) := by
  unfold notMonitored
  extract_lets u
  have forgotten : Reacts P (setVerdict k 3 s) u := mdSsmArm_reacts k _ _ fun p => absurd p aside
  clear_value u
  have released : Reacts P u (protRelease k 0 u) := .of_eq
  exact (((setVerdict_reacts aside 3 s).trans forgotten).trans released).trans (slsOrder_reacts ..)

theorem record_reacts (s0 : Time) (objs : List Target) (e : Eval) (s : State) : Reacts P s (record k s0 objs e s) := by
  unfold record
  extract_lets ps axes worst raw dec still u
  have evaluated : Reacts P s u := mdSsmArm_reacts k _ s fun p => absurd p aside
  clear_value u
  exact evaluated.trans .of_eq

end

theorem forceUmbra_pub {k : Nat} (hk : k < 8) (miss : Bool) (t : Time) (s : State) :
    ((forceUmbra k miss t s).ssmArm k).v.pub = 2 := by
  unfold forceUmbra
  rw [requests_pub hk, setVerdict_pub hk]

/-- Each arm of a list is put in the umbra; the arms before it stay there. -/
theorem umbra_foldl {f : State → Nat → State} (own : ∀ s k, k < 8 → ((f s k).ssmArm k).v.pub = 2)
    (others : ∀ s k, Reacts (· ≠ k) s (f s k)) {k : Nat} (hk : k < 8) (l : List Nat) (s : State)
    (h : k ∈ l ∨ (s.ssmArm k).v.pub = 2) : ((l.foldl f s).ssmArm k).v.pub = 2 := by
  induction l generalizing s with
  | nil => exact h.resolve_left List.not_mem_nil
  | cons j l ih =>
    refine ih _ ?_
    by_cases e : k = j
    · subst e
      exact .inr (own s k hk)
    · refine h.imp (fun m => (List.mem_cons.1 m).resolve_left e) fun there => ?_
      rw [(others s j).verdict k hk e]
      exact there

/-! ### Judgements -/

theorem envFails_reacts (k joint kind status : Nat) (s : State) : Reacts P s (envFails k joint kind status s) := by
  unfold envFails
  extract_lets u v
  have marked : Reacts P s u := .of_eq
  exact ((marked.trans (raiseEv_reacts ..)).trans (faultF2_reacts ..)).trans (ownApply_reacts ..)

theorem judgeArm_reacts (k : Nat) (s0 : Time) (s : State) : Reacts P s (judgeArm k s0 s) := by
  unfold judgeArm
  extract_lets ps axes m c u v
  refine .ite (.refl s) ?_
  have stop : Reacts P s u := by
    unfold u
    split
    · exact .refl s
    · refine .ite .of_eq ?_
      split
      · exact envFails_reacts ..
      · exact .refl s
  clear_value u
  have limit : Reacts P u v := by
    unfold v
    split
    · exact .refl u
    · refine .ite .of_eq ?_
      split
      · exact .ite (.refl u) (envFails_reacts ..)
      · exact .refl u
  clear_value v
  refine (stop.trans limit).trans ?_
  split
  · exact .refl v
  · split
    · exact envFails_reacts ..
    · exact .refl v

theorem judgeSlip_reacts (k : Nat) (s0 : Time) (s : State) : Reacts P s (judgeSlip k s0 s) := by
  unfold judgeSlip
  split
  · exact .refl s
  · dsimp only
    refine .ite (.refl s) ?_
    split
    · exact .refl s
    · exact .of_eq

theorem engage_reacts (k : Nat) (s : State) : Reacts P s (engage k s) := by
  unfold engage
  extract_lets c test u
  have brake : Reacts P s u := by
    unfold u
    split
    · exact .ite ((openPair_reacts ..).trans .of_eq) (openPair_reacts ..)
    · exact .refl s
  exact brake.trans .of_eq

theorem standstillOf_reacts (k : Nat) (s : State) : Reacts P s (standstillOf k s) := by
  unfold standstillOf
  extract_lets c
  split
  · exact engage_reacts k s
  · exact .ite .of_eq (.refl s)

theorem laneStill_reacts (k : Nat) (s : State) : Reacts P s (laneStill k s) := by
  unfold laneStill
  extract_lets rest u
  have counted : Reacts P s u := .of_eq
  exact .ite (.refl s) (.ite (counted.trans (standstillOf_reacts ..)) counted)

end

end Sys2Proof.Machine
end

section
/-!
SUPPORT. O39: a separation cycle begins, its lists and cross-checks are judged, and its verdicts are published (08 R219 to R238).
-/
namespace Sys2Proof.Machine

/-! ### The start of a separation cycle (08 R221, R222) -/

/-- `t` has the axes, the cycles, the sets and the publication of `s`; the lists of the sensors may differ. -/
structure Heard (s t : State) : Prop where
  axes : t.axes = s.axes
  cyc : t.cyc = s.cyc
  sets : t.sets = s.sets
  published : t.ssm.published = s.ssm.published

/-- A sensor whose list is stale no more, or that is not configured any more, is reported fresh. -/
def listFresh (s : State) (k : Nat) : State :=
  let x := vrd s.ssm.sensors k
  if x.stale && (!x.isStale s.ps || !sensorOn s.ps k) then
    raiseEv 73 Sts.OK k (min (x.age / 1000) (2 ^ 32 - 1)) 0
      { s with ssm := { s.ssm with sensors := vmd s.ssm.sensors k fun x => { x with stale := false } } }
  else s

/-- A list is stale from a cycle on if it was, and still is. -/
def staleKept (ps : ParamSet) (k : Nat) (x : SensorSt) : SensorSt := { x with stale := x.stale && sensorOn ps k && x.isStale ps }

theorem staleKept_staleKept (ps : ParamSet) (k : Nat) (x : SensorSt) : staleKept ps k (staleKept ps k x) = staleKept ps k x := by
  have age : (staleKept ps k x).isStale ps = x.isStale ps := rfl
  unfold staleKept at *
  rw [age]
  cases x.stale <;> cases sensorOn ps k <;> cases x.isStale ps <;> rfl

theorem listFresh_heard (s : State) (k : Nat) : Heard s (listFresh s k) := by
  unfold listFresh
  extract_lets x
  split
  · exact ⟨rfl, rfl, rfl, rfl⟩
  · exact ⟨rfl, rfl, rfl, rfl⟩

theorem listFresh_own (s : State) {k : Nat} (hk : k < 16) :
    vrd (listFresh s k).ssm.sensors k = staleKept s.ps k (vrd s.ssm.sensors k) := by
  unfold listFresh staleKept
  extract_lets x
  split
  · next fresh =>
    refine (vrd_vmd_same hk).trans ?_
    have kept : (x.stale && sensorOn s.ps k && x.isStale s.ps) = false := by
      revert fresh
      cases x.stale <;> cases sensorOn s.ps k <;> cases x.isStale s.ps <;> decide
    rw [kept]
  · next stays =>
    have kept : (x.stale && sensorOn s.ps k && x.isStale s.ps) = x.stale := by
      revert stays
      cases x.stale <;> cases sensorOn s.ps k <;> cases x.isStale s.ps <;> decide
    rw [kept]

theorem listFresh_other (s : State) {j k : Nat} (other : j ≠ k) : vrd (listFresh s j).ssm.sensors k = vrd s.ssm.sensors k := by
  unfold listFresh
  extract_lets x
  split
  · exact vrd_vmd_off other
  · rfl

theorem listFresh_foldl (l : List Nat) (s : State) {k : Nat} (hk : k < 16) :
    Heard s (l.foldl listFresh s)
      ∧ vrd (l.foldl listFresh s).ssm.sensors k
        = if k ∈ l then staleKept s.ps k (vrd s.ssm.sensors k) else vrd s.ssm.sensors k := by
  induction l generalizing s with
  | nil => exact ⟨⟨rfl, rfl, rfl, rfl⟩, rfl⟩
  | cons j l ih =>
    have step := listFresh_heard s j
    obtain ⟨rest, sensor⟩ := ih (listFresh s j)
    have ps : (listFresh s j).ps = s.ps := congrArg SetsSt.com step.sets
    refine ⟨⟨rest.axes.trans step.axes, rest.cyc.trans step.cyc, rest.sets.trans step.sets, rest.published.trans step.published⟩, ?_⟩
    rw [List.foldl_cons, sensor, ps]
    by_cases e : j = k
    · subst e
      rw [listFresh_own s hk, staleKept_staleKept, ite_self, if_pos List.mem_cons_self]
    · rw [listFresh_other s e]
      exact if_congr (by simp [Ne.symm e]) rfl rfl

/-- The state once the lists of a separation cycle are handed over. -/
def listsTaken (s : State) : State :=
  let u := s.upTo s.cyc.nextS0
  { u with
    cyc := { u.cyc with s0 := s.cyc.nextS0, nextS0 := s.cyc.nextS0 + tSep }
    ssm := { u.ssm with published := false, sensors := vmapI u.ssm.sensors fun _ x => x.handOver s.cyc.nextS0 } }

theorem separationCycleEvent_spec {s : State} (running : s.cyc.running = true) :
    ∃ t, exec .separationCycleEvent s = .next t ∧ t.cyc.s0 = s.cyc.nextS0
      ∧ t.cyc.nextS0 = s.cyc.nextS0 + tSep ∧ t.cyc.now = max s.cyc.now s.cyc.nextS0 ∧ t.ssm.published = false ∧ t.axes = s.axes
      ∧ ∀ k < 16, (vrd t.ssm.sensors k).age = ((vrd s.ssm.sensors k).handOver s.cyc.nextS0).age
        ∧ ((vrd t.ssm.sensors k).stale = true ↔ (vrd s.ssm.sensors k).stale = true ∧ sensorOn s.ps k = true
          ∧ ageReaches ((vrd s.ssm.sensors k).handOver s.cyc.nextS0).age (prmN s.ps Pid.AGE_LIMIT 0 * 1000) = true) := by
  have row : exec .separationCycleEvent s = .next ((List.range 16).foldl listFresh (listsTaken s)) :=
    congrArg Host.Outcome.next (if_neg (notStopped running))
  have heard := (listFresh_foldl (List.range 16) (listsTaken s) (k := 0) (by decide)).1
  refine ⟨_, row, congrArg CycSt.s0 heard.cyc, congrArg CycSt.nextS0 heard.cyc, congrArg CycSt.now heard.cyc, heard.published,
    heard.axes, fun k hk => ?_⟩
  have sensor := (listFresh_foldl (List.range 16) (listsTaken s) hk).2
  have taken : vrd (listsTaken s).ssm.sensors k = (vrd s.ssm.sensors k).handOver s.cyc.nextS0 := vrd_vmapI hk
  rw [if_pos (List.mem_range.2 hk), taken] at sensor
  rw [sensor]
  refine ⟨rfl, ?_⟩
  have stale : ((vrd s.ssm.sensors k).handOver s.cyc.nextS0).stale = (vrd s.ssm.sensors k).stale := rfl
  unfold staleKept
  dsimp only
  rw [stale, Bool.and_eq_true, Bool.and_eq_true, and_assoc]
  rfl

/-! ### Stale lists, cross-checks and releases -/

theorem listStale_raises {s : State} {k : Nat} (hk : k < 16) (fresh : (vrd s.ssm.sensors k).stale = false)
    (configured : sensorOn s.ps k = true)
    (aged : ageReaches (vrd s.ssm.sensors k).age (prmN s.ps Pid.AGE_LIMIT 0 * 1000) = true) :
    exec (.listStale k) s = .next (raiseEv 73 Sts.OK k (min ((vrd s.ssm.sensors k).age / 1000) (2 ^ 32 - 1)) 1
      { s with ssm := { s.ssm with sensors := vmd s.ssm.sensors k fun x => { x with stale := true } } }) := by
  have stale : (vrd s.ssm.sensors k).isStale s.ps = true := aged
  exact onUnit_rests hk (by simp [fresh, configured, stale])

theorem ssmXchk_faults {s : State} {k j : Nat} (hk : k < 8)
    (second : ((List.range (s.ssmArm k).xchk.length).find? fun j => decide (lget (s.ssmArm k).xchk j = 2)) = some j) :
    exec (.ssmXchk k) s = .next (faultF2 k Sts.SSM_XCHK 7 (raiseEv 78 Sts.SSM_XCHK k 0 (jointCode s.ps k j + 2 ^ 8)
      { s with ssm := { s.ssm with xchkFail := true } })) := by
  have meaning : exec (.ssmXchk k) s = execSsmXchk k s := rfl
  rw [meaning]
  unfold execSsmXchk
  rw [onUnit_in hk]
  dsimp only
  rw [second]
  rfl

theorem stopRequestRelease_releases {s : State} {k : Nat} (hk : k < 8) (request : (s.ssmArm k).stopReq = true)
    (category : prmN s.ps Pid.PROT_STOP k = 2) (auto : prmN s.ps Pid.RESTART k = 0) (may : mayRelease2 s k = true) :
    exec (.stopRequestRelease k) s = .next (releaseStop k s.cyc.now s) :=
  onUnit_acts hk (by simp [request, category, auto, may])

/-! ### The publication (08 R232, R238) -/

/-- The state at the publication of a separation cycle, as its evaluation is taken. -/
def publishing (s : State) : State :=
  let u := s.upTo (s.cyc.s0 + tPub)
  { u with
    ssm := { u.ssm with published := true }
    ldg := { u.ldg with spoiled := if u.ldg.spoiled.testBit 14 then u.ldg.spoiled - 2 ^ 14 else u.ldg.spoiled } }

/-- The arms without monitoring. -/
def unmonitored (t : Time) (s : State) : State :=
  (List.range 8).foldl (fun s k => if monitored s.ps k then s else notMonitored k t s) s

/-- An arm of a missed evaluation. -/
def missArm (t : Time) (s : State) (k : Nat) : State :=
  forceUmbra k true t (s.mdSsmArm k fun m => { m with heldSince := m.heldSince || m.held.any (0 < ·), stillRun := 0 })

/-- A missed evaluation (01 Table 01-4). -/
def missed (t : Time) (s : State) : State :=
  let run := incSat 255 s.ssm.missRun
  let u := raiseEv 75 Sts.SSM_DEADLINE 0xFF 0 run { s with ssm := { s.ssm with missRun := run } }
  let v := ((List.range 8).filter fun k => !(armAxes s.ps k).isEmpty).foldl (missArm t) u
  if 2 ≤ run then faultF2s allScopes Sts.SSM_DEADLINE 7 v else v

/-- The evaluation of an arm, or what stands for it while a position lacks. -/
def evaluateArm (s0 : Time) (objs : List Target) (s : State) (k : Nat) : State :=
  if (s.ssmArm k).qs.length == (ssmAxes s.ps k).length && (s.ssmArm k).qs.all (·.isSome) then record k s0 objs (evalArm s k objs) s
  else s.mdSsmArm k fun m => { m with
    endsPrev := none, speeds := [], stillRun := 0, cls := 8
    v := { m.v with dMin := none, sp := 0, obj := 255, cap := 255, cls := 8, raw := 2, stale := false, held := true, miss := false } }

/-- The evaluations of a separation cycle in time. -/
def evaluated (s0 : Time) (arms : List Nat) (s : State) : State :=
  let objs := targets s
  arms.foldl (evaluateArm s0 objs)
    { s with ssm := { s.ssm with missRun := 0, codedNow := false, objCount := min objs.length 127 } }

/-- The first arm whose words channel C gives otherwise. -/
def wrongArm (flip : List (Nat × Int)) (arms : List Nat) : Option Nat :=
  arms.find? fun k => flip.any fun e => e.1 / 4 == k && e.2 != 0

/-- A difference of channel C (08 R238). -/
def coded (divFail : Bool) (wrong : Option Nat) (t : Time) (arms : List Nat) (s : State) : State :=
  let u := raiseEv 74 Sts.SSM_CODED (if divFail then 0xFF else wrong.getD 0xFF) 0 0
    { s with ssm := { s.ssm with coded := true, codedNow := true } }
  faultF2s allScopes Sts.SSM_CODED 7 (arms.foldl (fun s k => forceUmbra k false t s) u)

/-- The judgements of the monitored arms. -/
def judged (s0 : Time) (arms : List Nat) (s : State) : State := arms.foldl (fun s k => judgeSlip k s0 (judgeArm k s0 s)) s

/-- The scopes that the monitor does not judge. -/
def lanesStill (s : State) : State := allScopes.foldl (fun s k => laneStill k s) s

section
variable {s : State} {late divFail : Bool} {flip : List (Nat × Int)} (running : s.cyc.running = true)
  (open_ : s.ssm.published = false)
include running open_

theorem ssmPublish_miss (miss : late = true ∨ s.ldg.spoiled.testBit 14 = true) :
    exec (.ssmPublish late divFail flip) s
      = .next (lanesStill (missed (s.cyc.s0 + tPub) (unmonitored (s.cyc.s0 + tPub) (publishing s)))) := by
  have meaning : exec (.ssmPublish late divFail flip) s = execSsmPublish late divFail flip s := rfl
  have missing : (late || s.ldg.spoiled.testBit 14) = true := by
    rcases miss with h | h
    · rw [h, Bool.true_or]
    · rw [h, Bool.or_true]
  rw [meaning]
  unfold execSsmPublish
  rw [if_neg (notStopped_notDone running open_)]
  extract_lets s0 t u late_ ssm ldg p arms v umbral run ssm' raised forced objs begun ready done wrong ssm'' said out final
  have taken : p = publishing s := rfl
  clear_value p
  have left : v = unmonitored (s.cyc.s0 + tPub) (publishing s) := by
    rw [← taken]
    rfl
  clear_value v
  have late_true : late_ = true := missing
  have outcome : out = missed t v := if_pos late_true
  have whole : final = out := if_pos late_true
  clear_value out final
  rw [whole, outcome, ← left]
  rfl

theorem ssmPublish_inTime (inTime : late = false) (sound : s.ldg.spoiled.testBit 14 = false) :
    exec (.ssmPublish late divFail flip) s
      = .next (lanesStill (judged s.cyc.s0 (ssmArms s)
          (let x := evaluated s.cyc.s0 (ssmArms s) (unmonitored (s.cyc.s0 + tPub) (publishing s))
           if divFail || (wrongArm flip (ssmArms s)).isSome then coded divFail (wrongArm flip (ssmArms s)) (s.cyc.s0 + tPub) (ssmArms s) x
           else (ssmArms s).foldl (fun a k => publishArm k (s.cyc.s0 + tPub) a) x))) := by
  have meaning : exec (.ssmPublish late divFail flip) s = execSsmPublish late divFail flip s := rfl
  have present : (late || s.ldg.spoiled.testBit 14) = false := by rw [inTime, sound]; rfl
  rw [meaning]
  unfold execSsmPublish
  rw [if_neg (notStopped_notDone running open_)]
  extract_lets s0 t u late_ ssm ldg p arms v umbral run ssm' raised forced objs begun ready done wrong ssm'' said out final
  have taken : p = publishing s := rfl
  have monitors : arms = ssmArms s := rfl
  clear_value p arms
  have left : v = unmonitored (s.cyc.s0 + tPub) (publishing s) := by
    rw [← taken]
    rfl
  clear_value v
  have evaluations : done = evaluated s0 arms v := rfl
  clear_value done
  have words : wrong = wrongArm flip arms := rfl
  clear_value wrong
  have late_false : ¬late_ = true := by
    rw [show late_ = false from present]
    decide
  have outcome : out = if divFail || wrong.isSome then coded divFail wrong t arms done
      else arms.foldl (fun s k => publishArm k t s) done := if_neg late_false
  have whole : final = judged s0 arms out := if_neg late_false
  clear_value out final
  rw [whole, outcome, words, evaluations, left, monitors]
  rfl

end

/-! ### What a publication forces -/

theorem unmonitored_reacts (t : Time) (s : State) : Reacts (fun _ => False) s (unmonitored t s) :=
  .foldl (.refl s) fun x _ => .ite (.refl x) (notMonitored_reacts id t x)

theorem lanesStill_reacts {P : Nat → Prop} (s : State) : Reacts P s (lanesStill s) := .foldl (.refl s) fun x k => laneStill_reacts k x

theorem judged_reacts {P : Nat → Prop} (s0 : Time) (arms : List Nat) (s : State) : Reacts P s (judged s0 arms s) :=
  .foldl (.refl s) fun x k => (judgeArm_reacts k s0 x).trans (judgeSlip_reacts k s0 _)

theorem missArm_reacts {P : Nat → Prop} (t : Time) (s : State) {k : Nat} (aside : ¬P k) : Reacts P s (missArm t s k) := by
  unfold missArm
  exact (mdSsmArm_reacts k _ s fun p => absurd p aside).trans (forceUmbra_reacts aside ..)

/-- A missed evaluation counts, and puts every arm that has joints in the umbra. -/
theorem missed_spec (t : Time) (s : State) :
    (missed t s).ssm.published = s.ssm.published ∧ (missed t s).ssm.missRun = incSat 255 s.ssm.missRun
      ∧ ∀ k < 8, armAxes s.ps k ≠ [] → ((missed t s).ssmArm k).v.pub = 2 := by
  unfold missed
  extract_lets run ssm u v
  have forced : Reacts (fun _ => False) u v := .foldl (.refl u) fun x _ => missArm_reacts t x id
  have faults : Reacts (fun _ => True) v (if 2 ≤ run then faultF2s allScopes Sts.SSM_DEADLINE 7 v else v) :=
    .ite (faultF2s_reacts ..) (.refl v)
  refine ⟨(faults.field SsmSt.published).trans (forced.field SsmSt.published),
    (faults.field SsmSt.missRun).trans (forced.field SsmSt.missRun), fun k hk joints => ?_⟩
  rw [faults.verdict k hk trivial]
  refine umbra_foldl (fun x j hj => forceUmbra_pub hj true t _) (fun x j => missArm_reacts t x (fun h => h rfl)) hk _ _ (.inl ?_)
  exact List.mem_filter.2 ⟨List.mem_range.2 hk, by simpa using joints⟩

theorem evaluated_reacts (s0 : Time) (arms : List Nat) (s : State) :
    (evaluated s0 arms s).ps = s.ps ∧ (evaluated s0 arms s).ssm.published = s.ssm.published := by
  unfold evaluated
  extract_lets objs ssm
  have records : Reacts (fun _ => False) _ (arms.foldl (evaluateArm s0 objs)
      { s with ssm := { s.ssm with missRun := 0, codedNow := false, objCount := min objs.length 127 } }) :=
    .foldl (.refl _) fun x k => .ite (record_reacts id ..) (mdSsmArm_reacts k _ x False.elim)
  exact ⟨records.ps, records.field SsmSt.published⟩

/-- A difference of channel C is kept, and puts every monitored arm in the umbra. -/
theorem coded_spec (divFail : Bool) (wrong : Option Nat) (t : Time) (arms : List Nat) (s : State) :
    (coded divFail wrong t arms s).ssm.published = s.ssm.published ∧ (coded divFail wrong t arms s).ssm.coded = true
      ∧ ∀ k < 8, k ∈ arms → ((coded divFail wrong t arms s).ssmArm k).v.pub = 2 := by
  unfold coded
  extract_lets ssm u
  have forced : Reacts (fun _ => False) u (arms.foldl (fun s k => forceUmbra k false t s) u) :=
    .foldl (.refl u) fun x k => forceUmbra_reacts id ..
  have faults : Reacts (fun _ => True) _ (faultF2s allScopes Sts.SSM_CODED 7 (arms.foldl (fun s k => forceUmbra k false t s) u)) :=
    faultF2s_reacts ..
  refine ⟨(faults.field SsmSt.published).trans (forced.field SsmSt.published),
    (faults.field SsmSt.coded).trans (forced.field SsmSt.coded), fun k hk mem => ?_⟩
  rw [faults.verdict k hk trivial]
  exact umbra_foldl (fun x j hj => forceUmbra_pub hj false t x) (fun x j => forceUmbra_reacts (fun h => h rfl) ..) hk _ _ (.inl mem)

theorem ssmPublish_late {s : State} {late divFail : Bool} {flip : List (Nat × Int)} (running : s.cyc.running = true)
    (open_ : s.ssm.published = false) (miss : late = true ∨ s.ldg.spoiled.testBit 14 = true) :
    ∃ u, exec (.ssmPublish late divFail flip) s = .next u ∧ u.ssm.published = true ∧ u.ssm.missRun = incSat 255 s.ssm.missRun
      ∧ (∀ k < 8, armAxes s.ps k ≠ [] → (u.ssmArm k).v.pub = 2) := by
  have left := unmonitored_reacts (s.cyc.s0 + tPub) (publishing s)
  obtain ⟨published, run, umbra⟩ := missed_spec (s.cyc.s0 + tPub) (unmonitored (s.cyc.s0 + tPub) (publishing s))
  have still := lanesStill_reacts (P := fun _ => True)
    (missed (s.cyc.s0 + tPub) (unmonitored (s.cyc.s0 + tPub) (publishing s)))
  refine ⟨_, ssmPublish_miss running open_ miss, ?_, ?_, fun k hk joints => ?_⟩
  · exact ((still.field SsmSt.published).trans published).trans (left.field SsmSt.published)
  · rw [still.field SsmSt.missRun, run, left.field SsmSt.missRun]
    rfl
  · rw [still.verdict k hk trivial]
    exact umbra k hk (by rw [left.ps]; exact joints)

theorem ssmPublish_coded {s : State} {divFail : Bool} {flip : List (Nat × Int)} (running : s.cyc.running = true)
    (open_ : s.ssm.published = false) (sound : s.ldg.spoiled.testBit 14 = false)
    (differs : divFail = true ∨ ∃ k < 8, monitored s.ps k = true ∧ ∃ e ∈ flip, e.1 / 4 = k ∧ e.2 ≠ 0) :
    ∃ u, exec (.ssmPublish false divFail flip) s = .next u ∧ u.ssm.published = true ∧ u.ssm.coded = true
      ∧ (∀ k < 8, monitored s.ps k = true → (u.ssmArm k).v.pub = 2) := by
  have arm {k : Nat} (hk : k < 8) (on : monitored s.ps k = true) : k ∈ ssmArms s := List.mem_filter.2 ⟨List.mem_range.2 hk, on⟩
  have wrong : (divFail || (wrongArm flip (ssmArms s)).isSome) = true := by
    rcases differs with div | ⟨k, hk, on, e, mem, place, change⟩
    · rw [div, Bool.true_or]
    · have found : (wrongArm flip (ssmArms s)).isSome = true :=
        List.find?_isSome.2 ⟨k, arm hk on, List.any_eq_true.2 ⟨e, mem, by simp [place, change]⟩⟩
      rw [found, Bool.or_true]
  have row := ssmPublish_inTime (divFail := divFail) (flip := flip) running open_ rfl sound
  dsimp only at row
  rw [if_pos wrong] at row
  have left := unmonitored_reacts (s.cyc.s0 + tPub) (publishing s)
  obtain ⟨-, evaluations⟩ := evaluated_reacts s.cyc.s0 (ssmArms s) (unmonitored (s.cyc.s0 + tPub) (publishing s))
  obtain ⟨published, kept, umbra⟩ := coded_spec divFail (wrongArm flip (ssmArms s)) (s.cyc.s0 + tPub) (ssmArms s)
    (evaluated s.cyc.s0 (ssmArms s) (unmonitored (s.cyc.s0 + tPub) (publishing s)))
  have still (z : State) : Reacts (fun _ => True) z (lanesStill (judged s.cyc.s0 (ssmArms s) z)) :=
    (judged_reacts ..).trans (lanesStill_reacts _)
  refine ⟨_, row, ?_, ((still _).field SsmSt.coded).trans kept, fun k hk on => ?_⟩
  · exact ((((still _).field SsmSt.published).trans published).trans evaluations).trans (left.field SsmSt.published)
  · rw [(still _).verdict k hk trivial]
    exact umbra k hk (arm hk on)

theorem publishing_sound {s : State} (sound : s.ldg.spoiled.testBit 14 = false) :
    publishing s = { s.upTo (s.cyc.s0 + tPub) with ssm := { s.ssm with published := true } } := by
  have same : (if s.ldg.spoiled.testBit 14 then s.ldg.spoiled - 2 ^ 14 else s.ldg.spoiled) = s.ldg.spoiled := by
    rw [sound]
    rfl
  unfold publishing
  extract_lets u ssm ldg
  have spoiled : (if u.ldg.spoiled.testBit 14 then u.ldg.spoiled - 2 ^ 14 else u.ldg.spoiled) = s.ldg.spoiled := same
  rw [spoiled]
  rfl

theorem ssmPublish_publishes {s : State} (running : s.cyc.running = true)
    (open_ : s.ssm.published = false) (sound : s.ldg.spoiled.testBit 14 = false) :
    let t := s.cyc.s0 + tPub
    let u := { s.upTo t with ssm := { s.ssm with published := true } }
    exec (.ssmPublish false false []) s = .next (lanesStill (judged s.cyc.s0 (ssmArms s)
      ((ssmArms s).foldl (fun s k => publishArm k t s) (evaluated s.cyc.s0 (ssmArms s) (unmonitored t u))))) := by
  intro t u
  have row := ssmPublish_inTime (divFail := false) (flip := []) running open_ rfl sound
  have agrees : (wrongArm [] (ssmArms s)) = none := List.find?_eq_none.2 fun _ _ => by simp
  rw [agrees, publishing_sound sound] at row
  exact row

/-- Settles O39: a separation cycle begins, its lists and cross-checks are judged, and it is published, in time, late or with a
difference of channel C. -/
theorem separationEvents : Obligations.SeparationEvents := by
  refine ⟨fun s running => separationCycleEvent_spec running,
    fun s k hk fresh configured aged => listStale_raises hk fresh configured aged,
    fun s k j hk second => ssmXchk_faults hk second,
    fun s k hk request category auto may => stopRequestRelease_releases hk request category auto may, ?_,
    fun s late divFail flip running open_ miss => ssmPublish_late running open_ miss,
    fun s divFail flip running open_ sound differs => ssmPublish_coded running open_ sound differs, ?_⟩
  · intro s running open_ sound t u v objs ready w x y
    have row := ssmPublish_publishes running open_ sound
    have left : v = unmonitored t u := rfl
    have evaluations : w = evaluated s.cyc.s0 (ssmArms s) v := rfl
    have published : x = (ssmArms s).foldl (fun s k => publishArm k t s) w := rfl
    have judgements : y = judged s.cyc.s0 (ssmArms s) x := rfl
    clear_value y x w v
    rw [judgements, published, evaluations, left]
    exact row
  · intro s late divFail flip published
    exact congrArg Host.Outcome.next (if_pos (by rw [published, Bool.or_true]))

end Sys2Proof.Machine
end
